-- ==== Sys2Proof/Word.lean ====
section
/-! DEFINITION. The word types of the VSX-6400 model: octets, 32-bit register words and 64-bit counts (R5, R14, R16). -/

namespace Sys2Proof

/-- An octet. -/
abbrev Byte := BitVec 8

/-- A register word (R14). -/
abbrev W32 := BitVec 32

/-- A 64-bit quantity held as a _LO and a _HI register (R16). -/
abbrev W64 := BitVec 64

end Sys2Proof
end

