-- ==== Sys2Proof/Syntax.lean ====
section
/-! DEFINITION. The commands of the block: one constructor for each row of spec/opcode_table.json. Operands carry what the
sender or the environment supplies; everything else is read from the state. -/

namespace Sys2Proof

/-- The two sides of a logical port (R24). -/
inductive Side where | host | line
deriving DecidableEq, Repr

/-- Egress runs from the host side to the line side, ingress the other way (R59). -/
inductive Dir where | egress | ingress
deriving DecidableEq, Repr

/-- What the ECC of a read found (R167). -/
inductive Ecc where | clean | corrected | uncorrectable
deriving DecidableEq, Repr

/-- How a PCIe read that the device issued fails (R228). -/
inductive HostErr where | ur | ca | poison | timeout
deriving DecidableEq, Repr

/-- A read request of the device on PCIe (R228): order entries of a function, a DMA channel's oldest request, or a dirty-log word. -/
inductive HostRead where
  | ring (f : Fin 512)
  | chan (c : Fin 16)
  | log (f : Fin 512) (word : Nat)
deriving DecidableEq, Repr

/-- The errors of MALFORMED_TLP (R228). -/
inductive TlpErr where | malformed | ecrc | overflow | dlProtocol
deriving DecidableEq, Repr

/-- What the memory system finds for an access beyond the checks of its address (R342, R409): nothing amiss, an SRAM error, a
failing tag, or an error that the target answers. -/
inductive MemRes where
  | ok
  /-- answered after a suspension of more than 100 µs (R499) -/
  | slow
  /-- corrected, with the bits corrected in the codeword (R475, R409) -/
  | corrected (bits : Fin 4)
  | uncorrectable
  | tagParity
  | error
deriving DecidableEq, Repr

/-- What comes with the issue of a Rhaby instruction: the hart, what the fetch of its word finds, and the guard field
[31:28] (R332). -/
structure Issue where
  h : Fin 8
  fetch : MemRes
  guard : Fin 16
deriving DecidableEq, Repr

/-- A debug command of R583; in BLANK the port also commands the transitions of R572. -/
inductive DbgCmd where
  | halt (h : Fin 8)
  | resume (h : Fin 8)
  | feed (h : Fin 8) (level : Fin 4)
  | vendor (a : BitVec 32) (octets : List Byte)
  | transition (target : Fin 8)
deriving DecidableEq, Repr

/-- A command of the device (spec/opcode_table.json). -/
inductive Instr where
  /-- REGISTER_WRITE (R18): A write to a register that has no row of its own is stored under its access code, or is refused under R15 or R18 with an event record. -/
  | registerWrite (h : Fin 8) (addr : Nat) (v : W32)
  /-- LO_READ_LATCH (R16): A read of a _LO register latches the matching _HI value for that requester. -/
  | loReadLatch (req : Fin 1024) (addr : Nat)
  /-- LANE_ERROR_COUNT_READ (R58): A read of LN_PATERR_n or LN_SYMERR_n returns the count and then clears it. -/
  | laneErrorCountRead (block : Fin 16) (lane : Fin 8) (sym : Bool)
  /-- MODE_WRITE (R43): A write of MODE in PB_CTL sets the port-block mode and loads the default thresholds into every slot. -/
  | modeWrite (block : Fin 16) (mode : Fin 8)
  /-- SLOT_ENABLE_WRITE (R27): A write of SLOT_EN enables or disables slots, and the two blocks of an 800G pair together. -/
  | slotEnableWrite (block : Fin 16) (mask : Fin 16)
  /-- PORT_CONFIG_WRITE (R35): A write to PB_PCFG_s applies interface, negotiation and flow-control settings, releasing old pauses when FC changes. -/
  | portConfigWrite (port : Fin 64) (v : W32)
  /-- LANE_SIGNAL_DETECT (R32): Signal is detected on the lanes of a side, which moves it out of WAIT_SIGNAL. -/
  | laneSignalDetect (port : Fin 64) (side : Side)
  /-- LANE_LOCK_LOSS (R33): A lane loses signal, CDR, FEC or alignment lock, so its side goes to WAIT_SIGNAL and its queued frames are discarded. -/
  | laneLockLoss (port : Fin 64) (side : Side) (lane : Fin 8) (signal : Bool)
  /-- AN_COMPLETE (R30): Clause 73 auto-negotiation completes on the line side, or stays in AN if the abilities do not match. -/
  | anComplete (port : Fin 64) (ability : Bool)
  /-- TRAINING_COMPLETE (R31): Link training completes on every lane of a side, which moves the side to ALIGNING. -/
  | trainingComplete (port : Fin 64) (side : Side) (txeq : List W32) (precode : Bool)
  /-- TRAINING_FAIL (R31): A training attempt fails and restarts, and the repeat count of one event record rises. -/
  | trainingFail (port : Fin 64) (side : Side) (lane : Fin 8)
  /-- ALIGNMENT_LOCK (R32): FEC codeword lock and PCS alignment lock are gained on all lanes, which starts the UP_HOLD time. -/
  | alignmentLock (port : Fin 64) (side : Side)
  /-- UP_HOLD_EXPIRY (R32): Alignment has held for UP_HOLD, so the side enters UP. -/
  | upHoldExpiry (port : Fin 64) (side : Side)
  /-- FAULT_RECEIVED (R32): Remote Fault or Local Fault ordered sets arrive from the partner, so the side enters FAULT. -/
  | faultReceived (port : Fin 64) (side : Side)
  /-- FAULT_CLEAR_EXPIRY (R32): Fault ordered sets have ceased for UP_HOLD, so the side leaves FAULT. -/
  | faultClearExpiry (port : Fin 64) (side : Side)
  /-- FEC_UNCORRECTABLE (R684): An uncorrectable codeword is counted in the current 1 ms window, and the frame that carries it is corrupted. -/
  | fecUncorrectable (port : Fin 64) (side : Side)
  /-- FEC_WINDOW_END (R684): A 1 ms FEC window ends, and a DEGRADED side whose count stayed below UNCORR returns to UP. -/
  | fecWindowEnd (block : Fin 16)
  /-- FRAME_ARRIVAL (R42): A frame starts arriving at a side, and headroom cells are reserved or the frame is refused. -/
  | frameArrival (port : Fin 64) (side : Side) (pcp : Option (Fin 8))
  /-- FRAME_HEAD_RESOLVE (R70): The 64th octet is presented, and the steering stage parses and resolves the frame's action, domain and SC. -/
  | frameHeadResolve (port : Fin 64) (side : Side) (octets : List Byte) (tableErr : Option Bool)
  /-- FRAME_END (R39): The last octet of an arriving frame is received, and the frame's FCS and length are checked. -/
  | frameEnd (port : Fin 64) (side : Side) (octets : List Byte) (fcsOk : Bool)
  /-- FRAME_TX_COMPLETE (R41): The last octet of a frame leaves a side, and its headroom cells are released. -/
  | frameTxComplete (port : Fin 64) (dir : Dir)
  /-- PAUSE_REFRESH_EXPIRY (R44): REFRESH quanta pass while occupancy stays above XON, so the pause frame is repeated. -/
  | pauseRefreshExpiry (port : Fin 64) (side : Side)
  /-- PAUSE_RECEIVED (R46): A PAUSE or PFC frame is received, which stops the corresponding transmitter if RXFC is set. -/
  | pauseReceived (port : Fin 64) (side : Side) (classes : Option (Fin 256)) (quanta : Fin 65536)
  /-- PAUSE_QUANTA_EXPIRY (R46): The quanta of a received pause run out, so the stopped transmitter resumes. -/
  | pauseQuantaExpiry (port : Fin 64) (side : Side)
  /-- MAC_CONTROL_FRAME (R40): A MAC control frame of another opcode is consumed and counted in MAC_CTL_OTHER. -/
  | macControlFrame (port : Fin 64) (side : Side)
  /-- SIDE_GATE_EXPIRY (R51): GATE_MS passes without signal on a side that is not up, so the side is powered down. -/
  | sideGateExpiry (block : Fin 16) (side : Side)
  /-- BLOCK_IDLE_EXPIRY (R51): IDLE_US passes without an admitted frame, so the block goes IDLE and its tillers are clock-gated. -/
  | blockIdleExpiry (block : Fin 16)
  /-- TILLER_WAKE_COMPLETE (R52): The tillers of a waking block are clocked and start taking queued descriptors. -/
  | tillerWakeComplete (block : Fin 16)
  /-- SIDE_POWER_UP_COMPLETE (R52): A gated side is powered and its CDR is locked after signal detection. -/
  | sidePowerUpComplete (block : Fin 16) (side : Side)
  /-- FETCH_GRANT (R74): The granary grants a frame's SA fetch, which is the frame's admission point. -/
  | fetchGrant (port : Fin 64) (dir : Dir) (ecc : Ecc)
  /-- SA_FETCH_RETURN (R76): The fetched SA entry is returned and checked, and the frame is handed to a tiller or marked. -/
  | saFetchReturn (port : Fin 64) (dir : Dir)
  /-- TXAN_SET (R75): A write to ST_TXAN_SET switches the transmit AN of one TX SC in all 16 arrays in one cycle. -/
  | txanSet (sc : Fin 8192) (an : Fin 4)
  /-- EM_READ (R65): ST_EM_CMD READ loads an exact-match entry into the data registers. -/
  | emRead (stage : Fin 16)
  /-- EM_WRITE (R65): ST_EM_CMD WRITE replaces an exact-match entry whole between two searches, or is refused. -/
  | emWrite (stage : Fin 16)
  /-- EM_HASH (R63): ST_EM_CMD HASH computes the four bucket indices of the key in the data registers. -/
  | emHash (stage : Fin 16)
  /-- RULE_READ (R68): ST_RU_CMD READ loads a ternary rule into the data registers. -/
  | ruleRead (stage : Fin 16)
  /-- RULE_WRITE (R68): ST_RU_CMD WRITE replaces a ternary rule whole, or is refused. -/
  | ruleWrite (stage : Fin 16)
  /-- PUNT_POP (R82): A write of ST_PUNT_POP releases the oldest punted frame. -/
  | puntPop (stage : Fin 16)
  /-- PUNT_AGE_EXPIRY (R82): A punted frame not popped within 10 ms is dropped and counted in PUNT_DROP. -/
  | puntAgeExpiry (stage : Fin 16)
  /-- PUNT_TOKEN_REFILL (R82): The slot's punt token bucket refills at PUNT_RATE. -/
  | puntTokenRefill (port : Fin 64)
  /-- INJECT_GO (R83): ST_INJ_CMD GO queues the staged frame on a slot's line side unprotected, or refuses it. -/
  | injectGo (stage : Fin 16) (slot : Fin 4) (len : Fin 2048)
  /-- TILLER_TAKE (R92): An active tiller that can accept a frame takes the oldest descriptor of its direction queue. -/
  | tillerTake (t : Fin 72)
  /-- TILLER_BLOCK_RELEASE (R100): A tiller releases an output block after the twin compare, with the tag lane on the last block. -/
  | tillerBlockRelease (t : Fin 72) (miss : Option Bool) (cnt : Ecc)
  /-- RESERVE_LINK_CHECK (R106): The crossbar link check of a reserve passes or fails, after which the reserve is made ACTIVE or quarantined. -/
  | reserveLinkCheck (pos : Fin 64) (passed : Bool)
  /-- QUARANTINE_EXPIRY (R109): 0.2 µs after entering QUARANTINED, a tiller enters TESTING. -/
  | quarantineExpiry (t : Fin 72)
  /-- KAT_COMPLETE (R114): A tiller's known-answer test ends, and the tiller goes to READY, ACTIVE or RETIRED. -/
  | katComplete (t : Fin 72) (failed : Option (Fin 32)) (mismatch : Bool)
  /-- PATROL_TICK (R113): Every 50 µs a READY tiller runs its next patrol vector. -/
  | patrolTick (t : Fin 72) (bad : Option Bool)
  /-- ROTATION_EXPIRY (R116): A ROT_MIN period ends, so a planned swap is made at ROT_PTR, or is skipped. -/
  | rotationExpiry
  /-- PLANNED_SWAP_BOUNDARY (R111): At the outgoing tiller's next frame boundary, it enters DRAINING and the reserve enters ACTIVE. -/
  | plannedSwapBoundary (pos : Fin 64)
  /-- TILLER_TEST (R118): TL_CMD TEST sends a tiller to TESTING, directly or by a planned swap. -/
  | tillerTest (t : Fin 72)
  /-- TILLER_RETIRE (R118): TL_CMD RETIRE retires a tiller, directly or by a planned swap. -/
  | tillerRetire (t : Fin 72)
  /-- TILLER_SWAP (R118): TL_SWAP orders a planned swap at a named position. -/
  | tillerSwap (pos : Fin 64) (t : Fin 128)
  /-- STEP_SET (R119): TL_STEP requests a derating step within the allowed range. -/
  | stepSet (k : Fin 16)
  /-- NEED_RISE (R119): A tiller's replica NEED rises above the step, so the array raises the step. -/
  | needRise (t : Fin 72) (need : Fin 16)
  /-- STEP_CHANGE_COMPLETE (R120): The idle PLL locks and every tiller switches hitlessly to the new step. -/
  | stepChangeComplete
  /-- VERDICT_HEAD (R145): A frame reaches the head of its direction, and the head decisions are taken on it. -/
  | verdictHead (port : Fin 64) (dir : Dir) (cnt : Ecc)
  /-- VERDICT_START_SEND (R146): The conditions for cut-through or store-and-forward are met, and the verdict stage starts sending the frame. -/
  | verdictStartSend (port : Fin 64) (dir : Dir)
  /-- SCI_READ (R160): VD_SCI_CMD READ loads an SCI table entry. -/
  | sciRead
  /-- SCI_WRITE (R134): VD_SCI_CMD WRITE stores an SCI table entry. -/
  | sciWrite
  /-- XFER_WORD_WRITE (R197): A write of a GR_XFER_n word adds that word to the transfer record. -/
  | xferWordWrite (n : Fin 24) (v : W32)
  /-- INSTALL (R175): GR_CMD INSTALL checks the transfer record and installs or rewrites the slot, or is refused. -/
  | install (slot : Fin 65536)
  /-- INSTALL_COMPLETE (R178): The remasked entry is written after the bank wait, and GR_RESULT is updated. -/
  | installComplete
  /-- ERASE_DRAIN (R179): GR_CMD ERASE_DRAIN zeroes a slot and places a drain fence. -/
  | eraseDrain (slot : Fin 65536)
  /-- ERASE_PURGE (R180): GR_CMD ERASE_PURGE sets PURGE_PENDING and broadcasts the slot number. -/
  | erasePurge (slot : Fin 65536)
  /-- PURGE_COMPLETE (R180): Zeros are read back, PURGE_PENDING is cleared and the slot becomes EMPTY. -/
  | purgeComplete (verifyOk : Bool)
  /-- GRANARY_READ (R170): GR_CMD READ returns ATTR, NEXT_PN, WINDOW and SSCI of a slot. -/
  | granaryRead (slot : Fin 65536)
  /-- ZEROISE (R188): GR_CMD ZEROISE aborts any command, sets ZEROED and starts writing zeros to all banks. -/
  | zeroise
  /-- ZEROISE_COMPLETE (R188): The zero write and read-back of all rows complete. -/
  | zeroiseComplete (verifyOk : Bool)
  /-- CLEAR_ZEROED (R188): GR_CMD CLEAR_ZEROED clears ZEROED when SEAL is clear. -/
  | clearZeroed
  /-- DRAIN_FENCE_PASS (R179): Every descriptor recorded by a drain fence has left its tiller. -/
  | drainFencePass
  /-- REMASK_SWEEP_START (R169): A remask sweep falls due, taking a fresh seed or pausing the walker. -/
  | remaskSweepStart
  /-- REMASK_SLOT_VISIT (R169): Every 16 cycles the walker remasks and scrubs the next slot. -/
  | remaskSlotVisit (ecc : Ecc)
  /-- REMASK_SEED_RECEIVE (R169): A remask seed arrives over the culm, and a paused walker resumes from slot 0. -/
  | remaskSeedReceive (seed : BitVec 256)
  /-- CULM_SESSION_START (R190): CU_CTL START begins session set-up with a nonce exchange. -/
  | culmSessionStart (nonce : BitVec 256)
  /-- CULM_SESSION_UP (R190): Both endpoints derive the session key, and the session is established. -/
  | culmSessionUp (nonce : BitVec 256)
  /-- CULM_FLIT_RECEIVE (R189): A culm flit is received, authenticated and accepted in sequence. -/
  | culmFlitReceive (down : Bool) (tagOk : Bool)
  /-- CULM_LANE_FAIL (R192): A culm lane loses lock or exceeds its error rate, so a spare or half rate is taken. -/
  | culmLaneFail (lane : Fin 34)
  /-- CULM_LANE_REPLACED (R192): After the 5 µs stop, the culm resumes carrying flits on its new lanes. -/
  | culmLaneReplaced
  /-- CULM_HEARTBEAT_EXPIRY (R194): Every 100 µs the control-die endpoint sends a heartbeat flit. -/
  | culmHeartbeatExpiry
  /-- DEADMAN_EXPIRY (R194): No authenticated flit for DEADMAN_MS, so the line die zeroises on its own. -/
  | deadmanExpiry
  /-- ENDPOINT_LINK_UP (R207): An endpoint's LTSSM reaches L0, and the steward learns the endpoint has arrived. -/
  | endpointLinkUp (e : Fin 2) (speed width : Fin 8)
  /-- ENDPOINT_LINK_DOWN (R207): The Data Link Layer goes down, which ends every function of the endpoint. -/
  | endpointLinkDown (e : Fin 2)
  /-- PERST_ASSERT (R207): PERST# is asserted, which ends every function of the endpoint. -/
  | perstAssert (e : Fin 2)
  /-- PERST_DEASSERT (R206): PERST# deasserts, and configuration requests are answered after 100 ms. -/
  | perstDeassert (e : Fin 2)
  /-- HOT_RESET (R207): A Hot Reset or Link Disable is received from the host, which ends the endpoint's functions. -/
  | hotReset (e : Fin 2) (disable : Bool)
  /-- LINK_EN_WRITE (R207): A write of HF_EP_CTL.LINK_EN holds the link in Disabled or releases it. -/
  | linkEnWrite (e : Fin 2) (v : Bool)
  /-- HOST_READY_WRITE (R206): A write of HOST_READY sets READY in every function of the endpoint. -/
  | hostReadyWrite (e : Fin 2) (v : Bool)
  /-- VF_ENABLE_WRITE (R205): A write of VF Enable in SR-IOV creates or removes VFs, or is ignored for an invalid NumVFs. -/
  | vfEnableWrite (e : Fin 2) (en vfMse ari : Bool) (numVfs : Fin 65536)
  /-- BUS_MASTER_CHANGE (R225): Bus Master Enable is cleared or set, which holds or releases the function's DMA and completions. -/
  | busMasterChange (f : Fin 512) (bme mse : Bool)
  /-- POWER_STATE_CHANGE (R225): The function enters D3hot or returns to D0, keeping its ring state. -/
  | powerStateChange (f : Fin 512) (d3 : Bool)
  /-- BAR_ACCESS_REFUSED (R211): A BAR access of wrong size, alignment or offset, or with Memory Space Enable clear, is refused. -/
  | barAccessRefused (f : Fin 512) (write unassigned : Bool)
  /-- POISONED_WRITE (R228): A poisoned write to a BAR is discarded and reported through AER. -/
  | poisonedWrite (f : Fin 512)
  /-- UNEXPECTED_COMPLETION (R228): An unexpected completion is discarded and reported through AER. -/
  | unexpectedCompletion (e : Fin 2)
  /-- RING_HELLO (R223): A write of HF_HELLO negotiates the ring ABI. -/
  | ringHello (f : Fin 512) (v : Fin 65536)
  /-- RING_ENABLE (R221): A write of EN 1 from DISABLED enables the ring pair with zeroed counters, or is refused. -/
  | ringEnable (f : Fin 512)
  /-- RING_QUIESCE (R221): A write of EN 0 moves the ring to QUIESCING, or to DISABLED at once. -/
  | ringQuiesce (f : Fin 512)
  /-- OR_TAIL_DOORBELL (R220): An OR_TAIL doorbell makes order entries available. -/
  | orTailDoorbell (f : Fin 512) (v : Fin 65536)
  /-- CR_HEAD_DOORBELL (R220): A CR_HEAD doorbell releases completion entries, or stops the ring if invalid. -/
  | crHeadDoorbell (f : Fin 512) (v : Fin 65536)
  /-- ORDER_FETCH (R218): The steward issues a DMA read of up to 8 entries once completion space and queue room allow. -/
  | orderFetch (f : Fin 512) (n : Fin 9)
  /-- ORDER_ENTRIES_ARRIVE (R218): Fetched order entries arrive, or the read fails, and OR_HEAD advances. -/
  | orderEntriesArrive (f : Fin 512) (entries : List (List Byte)) (err : Option HostErr)
  /-- PHASE_RECHECK (R222): An entry with the wrong PHASE is read again after 1 µs, and the ring stops if it is still wrong. -/
  | phaseRecheck (f : Fin 512) (octets : List Byte) (err : Option HostErr)
  /-- NOP_ENTRY (R216): A NOP entry with current GEN completes OK. -/
  | nopEntry (f : Fin 512)
  /-- CANCEL_ENTRY (R216): A CANCEL entry withdraws the oldest matching undispatched order, or completes NOT_NOW. -/
  | cancelEntry (f : Fin 512)
  /-- ORDER_ENTRY (R273): An ORDER entry is checked in the order of R273, then queued or completed with a status. -/
  | orderEntry (f : Fin 512) (img buf : List Byte) (imgErr bufErr : Option HostErr)
  /-- COMPLETION_WRITE (R219): A completion's result buffers and entry are written, and CR_TAIL advances. -/
  | completionWrite (f : Fin 512)
  /-- MSIX_INTERVAL_EXPIRY (R224): The moderation interval of a vector expires, so a pending message is sent. -/
  | msixIntervalExpiry (f : Fin 512) (v : Fin 64)
  /-- MSIX_UNMASK (R224): A masked vector is unmasked, and its pending message is sent. -/
  | msixUnmask (f : Fin 512) (v : Fin 64)
  /-- FUNCTION_LEVEL_RESET (R227): A function-level reset disables the rings, clears the agreements and increments the generation. -/
  | functionLevelReset (f : Fin 512)
  /-- GENERATION_END_COMPLETE (R245): The last DMA write of the old generation is issued, and the steward clears ENDING. -/
  | generationEndComplete (f : Fin 512)
  /-- LOG_LINE_FILL (R252): The read of a missed bitmap word completes, and the mark is set in the cache line. -/
  | logLineFill (f : Fin 512) (word : Nat) (v : W64) (err : Option HostErr)
  /-- LOG_FLUSH (R261): VF_LOGFLUSH writes back or drops a function's dirty-log lines. -/
  | logFlush (v : W32) (err : Bool)
  /-- HELLO (R270): A HELLO order negotiates the order-format, service-table and sheaf versions. -/
  | hello (f : Fin 512)
  /-- ORDER_DISPATCH (R286): A free sandbox hart takes the next order chosen by virtual time. -/
  | orderDispatch (h : Fin 8)
  /-- BUDGET_EXPIRY (R275): An order's budget runs out, so its script ends TIMEOUT. -/
  | budgetExpiry (i : Nat)
  /-- SERVICE_WAIT_RESUME (R277): A waiting service's condition is met, and the script resumes on a free sandbox hart. -/
  | serviceWaitResume (i : Nat) (h : Fin 8)
  /-- RX_SPACING_EXPIRY (R291): 100 µs since a receive slot's previous install pass, so a waiting install proceeds. -/
  | rxSpacingExpiry (slot : Fin 65536)
  /-- FRAME_RECV_TIMEOUT (R294): The wait of FRAME_RECV expires with no frame, and the service returns NOT_NOW. -/
  | frameRecvTimeout (i : Nat)
  /-- SVC_INFO (R288): Returns the agreed service-table version and the budget left. -/
  | svcInfo (h : Fin 8)
  /-- EXIT (R279): The script ends itself with a status and result words. -/
  | exit (h : Fin 8)
  /-- ARG_READ (R288): Copies part of the argument buffer into scratch. -/
  | argRead (h : Fin 8) (data : List Byte) (err : Option HostErr)
  /-- RESULT_WRITE (R288): Copies scratch into the order's result buffer. -/
  | resultWrite (h : Fin 8)
  /-- CLOCK (R288): Returns the current minute epoch and the microseconds into it. -/
  | clock (h : Fin 8)
  /-- SC_ALLOC (R311): Allocates a TX or RX SC to the domain and writes its SCI and parameters. -/
  | scAlloc (h : Fin 8)
  /-- SC_FREE (R288): Releases an SC that has no valid slot and no steering entry. -/
  | scFree (h : Fin 8)
  /-- SC_MODIFY (R289): Changes an SC's record, refusing an SCI change while a slot is valid. -/
  | scModify (h : Fin 8)
  /-- SA_INSTALL (R291): Splits a handle's key into shares and installs an SA in a slot. -/
  | saInstall (h : Fin 8)
  /-- SA_ERASE (R291): Erases a slot in drain or purge style. -/
  | saErase (h : Fin 8)
  /-- SA_SWITCH (R183): Switches a TX SC to a valid AN by writing ST_TXAN_SET. -/
  | saSwitch (h : Fin 8)
  /-- SA_READ (R288): Returns a slot's ATTR, NEXT_PN and WINDOW. -/
  | saRead (h : Fin 8)
  /-- SA_EXPORT (R171): Exports the wrapped copy of an SA key unless NOEXPORT is set. -/
  | saExport (h : Fin 8)
  /-- KEY_LOAD (R292): Creates a key handle from a key in scratch. -/
  | keyLoad (h : Fin 8)
  /-- KEY_GEN (R292): Creates a key handle holding a fresh random key. -/
  | keyGen (h : Fin 8)
  /-- KEY_UNWRAP (R292): Unwraps an RFC 3394 key under a KEK handle into a new handle. -/
  | keyUnwrap (h : Fin 8)
  /-- KEY_WRAP (R292): Wraps a key handle under a KEK handle. -/
  | keyWrap (h : Fin 8)
  /-- KEY_DERIVE (R293): Derives a key handle with the AES-CMAC KDF. -/
  | keyDerive (h : Fin 8)
  /-- CMAC (R293): Computes an AES-CMAC over scratch data under a handle. -/
  | cmac (h : Fin 8)
  /-- KEY_FREE (R292): Frees a key handle. -/
  | keyFree (h : Fin 8)
  /-- EM_ADD (R64): Adds an exact-match entry of the domain, relocating others where needed. -/
  | emAdd (h : Fin 8)
  /-- EM_DEL (R288): Deletes a valid exact-match entry. -/
  | emDel (h : Fin 8)
  /-- RULE_ADD (R81): Adds a ternary rule at an index 16–255. -/
  | ruleAdd (h : Fin 8)
  /-- RULE_DEL (R288): Deletes a ternary rule. -/
  | ruleDel (h : Fin 8)
  /-- STEER_QUERY (R288): Returns the index of the entry that matches a key. -/
  | steerQuery (h : Fin 8)
  /-- CNT_READ (R304): Returns a slot's counter record from the active bank. -/
  | cntRead (h : Fin 8)
  /-- DOM_CNT_READ (R304): Returns the domain record from the active bank. -/
  | domCntRead (h : Fin 8)
  /-- RANDOM (R288): Writes random octets from the DRBG into scratch. -/
  | random (h : Fin 8)
  /-- LI_RUN (R435): Submits a long-integer job and waits for its result. -/
  | liRun (h : Fin 8)
  /-- LI_SUBMIT (R435): Submits a long-integer job and returns its number. -/
  | liSubmit (h : Fin 8)
  /-- LI_WAIT (R449): Waits for a submitted job and frees its number. -/
  | liWait (h : Fin 8)
  /-- SHEAF_GET (R319): Returns part of a sealed minute's sheaf or stook package. -/
  | sheafGet (h : Fin 8)
  /-- MINUTE_TICK (R306): Places a minute boundary with a wall-clock stamp, if allowed. -/
  | minuteTick (h : Fin 8)
  /-- EV_READ (R295): Returns visible recorder records from a sequence number on. -/
  | evRead (h : Fin 8)
  /-- EV_STEER (R386): Routes an event source to a granted vector or to the recorder. -/
  | evSteer (h : Fin 8)
  /-- FRAME_SEND (R294): Stages a frame for injection on a granted slot. -/
  | frameSend (h : Fin 8)
  /-- FRAME_RECV (R294): Returns the oldest punted frame of the domain, or waits for one. -/
  | frameRecv (h : Fin 8)
  /-- PORT_STATUS (R288): Returns a port's PB_PSTAT_s and POWER. -/
  | portStatus (h : Fin 8)
  /-- PORT_CFG (R35): Configures a port block from an operator record. -/
  | portCfg (h : Fin 8)
  /-- TILLER_CMD (R288): Writes a tiller-array register on an operator order. -/
  | tillerCmd (h : Fin 8)
  /-- FN_GRANT (R237): Replaces a function's whole grant at its grant point. -/
  | fnGrant (h : Fin 8)
  /-- FN_QUERY (R237): Returns a function's grant. -/
  | fnQuery (h : Fin 8)
  /-- DOM_QUOTA (R239): Sets a domain's quotas device-wide. -/
  | domQuota (h : Fin 8)
  /-- FN_LOG_START (R251): Starts a VF's dirty-page log on bitmap 0. -/
  | fnLogStart (h : Fin 8)
  /-- FN_LOG_HARVEST (R253): Retires the active bitmap, writes back its lines and activates the other. -/
  | fnLogHarvest (h : Fin 8)
  /-- FN_LOG_STOP (R253): Retires the active bitmap and turns the log OFF. -/
  | fnLogStop (h : Fin 8)
  /-- STEER_GRANT (R288): Grants or revokes a slot, VID or SCI to a domain. -/
  | steerGrant (h : Fin 8)
  /-- ALARM_STATUS (R546): Writes the 64-octet alarm status. -/
  | alarmStatus (h : Fin 8)
  /-- ALARM_CLEAR (R545): Checks an owner-signed clearance and lowers the ladder level. -/
  | alarmClear (h : Fin 8)
  /-- FAIL_POLICY (R543): Sets a port's fail policy bit. -/
  | failPolicy (h : Fin 8)
  /-- MONITOR_CFG (R534): Sets a monitor's mode, count, window and level. -/
  | monitorCfg (h : Fin 8)
  /-- RNG_ENABLE (R468): Clears the failure history and writes ENABLE to a DISABLED source. -/
  | rngEnable (h : Fin 8)
  /-- RES_LOAD (R269): Stores an owner-signed resident script in its slot. -/
  | resLoad (h : Fin 8)
  /-- RES_DELETE (R288): Deletes a resident script. -/
  | resDelete (h : Fin 8)
  /-- UPDATE_CLEAR (R645): Releases and erases the steward slot not running. -/
  | updateClear (h : Fin 8)
  /-- UPDATE_WRITE (R645): Programs part of a new steward image through the write journal. -/
  | updateWrite (h : Fin 8)
  /-- UPDATE_VERIFY (R645): Checks and accepts the staged steward image. -/
  | updateVerify (h : Fin 8) (agree : Bool)
  /-- UPDATE_SWITCH (R646): Programs TRIAL and hands over to the new steward image. -/
  | updateSwitch (h : Fin 8) (agree : Bool)
  /-- UPDATE_COMMIT (R645): Programs COMMIT and disarms probation. -/
  | updateCommit (h : Fin 8)
  /-- LC_STATUS (R574): Returns the life-cycle status. -/
  | lcStatus (h : Fin 8)
  /-- LC_CHALLENGE (R574): Draws a fresh 16-octet nonce for signed requests. -/
  | lcChallenge (h : Fin 8)
  /-- LC_TRANSITION (R576): Checks a signed transition request and burns its INTENT. -/
  | lcTransition (h : Fin 8)
  /-- LC_EXERCISE (R574): Writes TM_CTL.EXERCISE in TEST. -/
  | lcExercise (h : Fin 8)
  /-- LC_KEYS (R574): Returns the metering public key signed by the device key. -/
  | lcKeys (h : Fin 8)
  /-- CS_STATUS (R627): Writes the custody slot status. -/
  | csStatus (h : Fin 8)
  /-- CS_MOUNT (R626): Mounts, and optionally formats, the custody volume. -/
  | csMount (h : Fin 8)
  /-- CS_UNMOUNT (R626): Releases the volume and removes card power. -/
  | csUnmount (h : Fin 8)
  /-- CS_ARCHIVE (R626): Wraps key handles and writes a KEY_ARCHIVE. -/
  | csArchive (h : Fin 8)
  /-- CS_RESTORE (R626): Reads an archive and creates its key handles. -/
  | csRestore (h : Fin 8)
  /-- CS_EXPORT_EVENTS (R626): Writes an EVENT_EXPORT object. -/
  | csExportEvents (h : Fin 8)
  /-- CS_STAGE_IMAGE (R626): Copies a STEWARD_IMAGE into the slot not running. -/
  | csStageImage (h : Fin 8)
  /-- SWAP (R302): MT_CMD SWAP exchanges the active and frozen counter banks at the minute boundary. -/
  | swap
  /-- HARVEST (R310): MT_CMD HARVEST starts delivering touched records into the landing ring. -/
  | harvest
  /-- HARVEST_COMPLETE (R303): The last touched record has been delivered, and the bank is HARVESTED. -/
  | harvestComplete
  /-- CLEAR (R303): MT_CMD CLEAR zeroes the touched records of the frozen bank. -/
  | clear
  /-- CLEAR_COMPLETE (R303): The frozen bank is CLEARED. -/
  | clearComplete
  /-- HV_HEAD_WRITE (R310): A write of MT_HV_HEAD releases landing-ring entries. -/
  | hvHeadWrite (v : Fin 65536)
  /-- MINUTE_FALLBACK_EXPIRY (R306): The fallback timer expires, so the steward places a timer boundary. -/
  | minuteFallbackExpiry
  /-- COUNTER_RECORD_READ (R326): MT_RD_CMD GO reads a counter record into MT_RD_DATA. -/
  | counterRecordRead
  /-- STOOK_SIGNED (R317): The signing job of a root record completes, and the minute is sealed. -/
  | stookSigned (status : Fin 8)
  /-- SIGN_RETRY_EXPIRY (R317): One second after a failed signing job, the job is retried. -/
  | signRetryExpiry
  /-- ADD (R336): ALU add. -/
  | add (i : Issue) (rd ra rb : Fin 32)
  /-- SUB (R336): ALU subtract. -/
  | sub (i : Issue) (rd ra rb : Fin 32)
  /-- AND (R336): ALU and. -/
  | and (i : Issue) (rd ra rb : Fin 32)
  /-- OR (R336): ALU or. -/
  | or (i : Issue) (rd ra rb : Fin 32)
  /-- XOR (R336): ALU xor. -/
  | xor (i : Issue) (rd ra rb : Fin 32)
  /-- ANDN (R336): ALU and-not. -/
  | andn (i : Issue) (rd ra rb : Fin 32)
  /-- SHL (R336): Shift left. -/
  | shl (i : Issue) (rd ra rb : Fin 32)
  /-- SHR (R336): Logical shift right. -/
  | shr (i : Issue) (rd ra rb : Fin 32)
  /-- SAR (R336): Arithmetic shift right. -/
  | sar (i : Issue) (rd ra rb : Fin 32)
  /-- ROT (R336): Rotate right. -/
  | rot (i : Issue) (rd ra rb : Fin 32)
  /-- MINS (R336): Signed minimum. -/
  | mins (i : Issue) (rd ra rb : Fin 32)
  /-- MAXS (R336): Signed maximum. -/
  | maxs (i : Issue) (rd ra rb : Fin 32)
  /-- MINZ (R336): Unsigned minimum. -/
  | minz (i : Issue) (rd ra rb : Fin 32)
  /-- MAXZ (R336): Unsigned maximum. -/
  | maxz (i : Issue) (rd ra rb : Fin 32)
  /-- MUL (R336): Low 32 bits of a product. -/
  | mul (i : Issue) (rd ra rb : Fin 32)
  /-- MULHS (R336): High 32 bits of a signed product. -/
  | mulhs (i : Issue) (rd ra rb : Fin 32)
  /-- MULHZ (R336): High 32 bits of an unsigned product. -/
  | mulhz (i : Issue) (rd ra rb : Fin 32)
  /-- DIVS (R336): Signed divide. -/
  | divs (i : Issue) (rd ra rb : Fin 32)
  /-- DIVZ (R336): Unsigned divide. -/
  | divz (i : Issue) (rd ra rb : Fin 32)
  /-- MODS (R336): Signed remainder. -/
  | mods (i : Issue) (rd ra rb : Fin 32)
  /-- MODZ (R336): Unsigned remainder. -/
  | modz (i : Issue) (rd ra rb : Fin 32)
  /-- CLZ (R336): Count leading zeros. -/
  | clz (i : Issue) (rd ra rb : Fin 32)
  /-- CTZ (R336): Count trailing zeros. -/
  | ctz (i : Issue) (rd ra rb : Fin 32)
  /-- POPC (R336): Population count. -/
  | popc (i : Issue) (rd ra rb : Fin 32)
  /-- BSWAP (R336): Reverse the octets of a word. -/
  | bswap (i : Issue) (rd ra rb : Fin 32)
  /-- ADDK (R337): Add a sign-extended immediate. -/
  | addk (i : Issue) (rd ra : Fin 32) (imm : BitVec 12)
  /-- ANDK (R337): And with an immediate. -/
  | andk (i : Issue) (rd ra : Fin 32) (imm : BitVec 12)
  /-- ORK (R337): Or with an immediate. -/
  | ork (i : Issue) (rd ra : Fin 32) (imm : BitVec 12)
  /-- XORK (R337): Xor with an immediate. -/
  | xork (i : Issue) (rd ra : Fin 32) (imm : BitVec 12)
  /-- SHLK (R337): Shift left by an immediate. -/
  | shlk (i : Issue) (rd ra k z : Fin 32)
  /-- SHRK (R337): Logical shift right by an immediate. -/
  | shrk (i : Issue) (rd ra k z : Fin 32)
  /-- SARK (R337): Arithmetic shift right by an immediate. -/
  | sark (i : Issue) (rd ra k z : Fin 32)
  /-- ROTK (R337): Rotate right by an immediate. -/
  | rotk (i : Issue) (rd ra k z : Fin 32)
  /-- KSET (R338): Load a sign-extended 17-bit constant. -/
  | kset (i : Issue) (rd : Fin 32) (imm : BitVec 17)
  /-- KHI (R338): Load a constant into the upper half. -/
  | khi (i : Issue) (rd : Fin 32) (imm : BitVec 17)
  /-- KLO (R338): Or a constant into the lower half. -/
  | klo (i : Issue) (rd : Fin 32) (imm : BitVec 17)
  /-- CMP (R339): Compare registers into a predicate. -/
  | cmp (i : Issue) (pd : Fin 8) (mode : Fin 4) (ra rb : Fin 32) (cond : Fin 16) (z : Fin 8)
  /-- CMPI (R339): Compare with an immediate into a predicate. -/
  | cmpi (i : Issue) (pd : Fin 8) (mode : Fin 4) (ra : Fin 32) (cond : Fin 16) (imm : BitVec 8)
  /-- PAND (R340): Predicate and. -/
  | pand (i : Issue) (pd pa pb : Fin 8) (z : Fin 1024)
  /-- POR (R340): Predicate or. -/
  | por (i : Issue) (pd pa pb : Fin 8) (z : Fin 1024)
  /-- PXOR (R340): Predicate xor. -/
  | pxor (i : Issue) (pd pa pb : Fin 8) (z : Fin 1024)
  /-- PANDN (R340): Predicate and-not. -/
  | pandn (i : Issue) (pd pa pb : Fin 8) (z : Fin 1024)
  /-- PNOT (R340): Predicate not. -/
  | pnot (i : Issue) (pd pa pb : Fin 8) (z : Fin 1024)
  /-- RD8S (R341): Load a sign-extended octet. -/
  | rd8s (i : Issue) (rd ra : Fin 32) (imm : BitVec 12) (res : MemRes)
  /-- RD8Z (R341): Load a zero-extended octet. -/
  | rd8z (i : Issue) (rd ra : Fin 32) (imm : BitVec 12) (res : MemRes)
  /-- RD16S (R341): Load a sign-extended halfword. -/
  | rd16s (i : Issue) (rd ra : Fin 32) (imm : BitVec 12) (res : MemRes)
  /-- RD16Z (R341): Load a zero-extended halfword. -/
  | rd16z (i : Issue) (rd ra : Fin 32) (imm : BitVec 12) (res : MemRes)
  /-- RD32 (R341): Load a word. -/
  | rd32 (i : Issue) (rd ra : Fin 32) (imm : BitVec 12) (res : MemRes)
  /-- WR8 (R341): Store an octet. -/
  | wr8 (i : Issue) (rs ra : Fin 32) (imm : BitVec 12) (tag : MemRes)
  /-- WR16 (R341): Store a halfword. -/
  | wr16 (i : Issue) (rs ra : Fin 32) (imm : BitVec 12) (tag : MemRes)
  /-- WR32 (R341): Store a word. -/
  | wr32 (i : Issue) (rs ra : Fin 32) (imm : BitVec 12) (tag : MemRes)
  /-- XCHG (R346): Atomic exchange of an SRAM word. -/
  | xchg (i : Issue) (rd ra rb : Fin 32) (res : MemRes)
  /-- CAS (R346): Atomic compare-and-swap of an SRAM word. -/
  | cas (i : Issue) (rd ra rb : Fin 32) (res : MemRes)
  /-- B (R347): Branch. -/
  | b (i : Issue) (off : BitVec 22)
  /-- CALL (R347): Call with link. -/
  | call (i : Issue) (off : BitVec 22)
  /-- JMPR (R347): Jump to a register. -/
  | jmpr (i : Issue) (rd ra rb : Fin 32)
  /-- CALLR (R347): Call through a register. -/
  | callr (i : Issue) (rd ra rb : Fin 32)
  /-- MFC (R348): Move from a control register. -/
  | mfc (i : Issue) (r : Fin 32) (z : Fin 8) (creg : Fin 4096)
  /-- MTC (R348): Move to a control register. -/
  | mtc (i : Issue) (r : Fin 32) (z : Fin 8) (creg : Fin 4096)
  /-- MSC (R348): Set bits of a control register. -/
  | msc (i : Issue) (r : Fin 32) (z : Fin 8) (creg : Fin 4096)
  /-- MCC (R348): Clear bits of a control register. -/
  | mcc (i : Issue) (r : Fin 32) (z : Fin 8) (creg : Fin 4096)
  /-- LOOP (R351): Set up a zero-overhead loop from a register count. -/
  | loop (i : Issue) (n : Fin 4) (ra : Fin 32) (len : Fin 32768)
  /-- LOOPI (R351): Set up a zero-overhead loop from an immediate count. -/
  | loopi (i : Issue) (n : Fin 4) (cnt len : Fin 1024)
  /-- BCOPY (R354): Block copy. -/
  | bcopy (i : Issue) (rd ra rb : Fin 32) (func : Fin 128) (n : Nat) (res : MemRes)
  /-- BFILL (R354): Block fill. -/
  | bfill (i : Issue) (rd ra rb : Fin 32) (func : Fin 128) (n : Nat) (res : MemRes)
  /-- BCOMP (R354): Block compare. -/
  | bcomp (i : Issue) (rd ra rb : Fin 32) (func : Fin 128) (n : Nat) (res : MemRes)
  /-- BXOR (R354): Block xor. -/
  | bxor (i : Issue) (rd ra rb : Fin 32) (func : Fin 128) (n : Nat) (res : MemRes)
  /-- BSCAN (R354): Block scan. -/
  | bscan (i : Issue) (rd ra rb : Fin 32) (func : Fin 128) (n : Nat) (res : MemRes)
  /-- SVC (R357): Call a service from level 0. -/
  | svc (i : Issue) (imm : BitVec 16)
  /-- BARRIER (R358): Wait for the store buffer and older loads. -/
  | barrier (i : Issue) (imm : BitVec 16)
  /-- ATOMIC (R359): Open an atomic window. -/
  | atomic (i : Issue) (imm : BitVec 16)
  /-- ENDATOMIC (R359): Close an atomic window. -/
  | endatomic (i : Issue) (imm : BitVec 16)
  /-- ERET (R360): Return from an exception level. -/
  | eret (i : Issue) (imm : BitVec 16)
  /-- WAIT (R361): Stop the hart clock until an event is pending. -/
  | wait (i : Issue) (imm : BitVec 16)
  /-- BRK (R362): Halt for the debugger, or ILLEGAL. -/
  | brk (i : Issue) (imm : BitVec 16)
  /-- STORE_DRAIN (R344): A buffered store drains to its target. -/
  | storeDrain (h : Fin 8) (res : MemRes)
  /-- ATOMIC_WINDOW_EXPIRY (R359): ATW reaches 0, so ATOMIC_OVERRUN becomes pending. -/
  | atomicWindowExpiry (h : Fin 8)
  /-- INTERRUPT_TAKE (R377): At an instruction boundary a pending eligible interrupt is taken. -/
  | interruptTake (h : Fin 8)
  /-- ASYNC_CAUSE_TAKE (R375): A pending LATE_STORE, ATOMIC_OVERRUN or BUDGET is taken at its level. -/
  | asyncCauseTake (h : Fin 8)
  /-- HART_PARITY_ERROR (R376): A parity error halts the hart in HALTED_HW. -/
  | hartParityError (h : Fin 8) (unit : Fin 5)
  /-- WAIT_WAKE (R390): A source routed to a waiting hart is pending, so WAIT completes. -/
  | waitWake (h : Fin 8)
  /-- HART_HALT (R392): HT_CMD HALT requests a hart halt. -/
  | hartHalt (w h : Fin 8)
  /-- HALT_COMPLETE (R392): At the next boundary, after any window has closed, the hart drains and halts. -/
  | haltComplete (h : Fin 8)
  /-- HART_RESUME (R392): HT_CMD RESUME restarts a HALTED_CMD hart from HT_PC. -/
  | hartResume (w h : Fin 8)
  /-- HART_RESTART (R392): HT_CMD RESTART clears a halted hart and starts it at HT_START at level 3. -/
  | hartRestart (w h : Fin 8)
  /-- HART_RETIRE (R392): HT_CMD RETIRE gates a halted hart off until reset. -/
  | hartRetire (w h : Fin 8)
  /-- HART_RAISE (R395): A write of HT_RAISE raises offset 4 of the hart's sources. -/
  | hartRaise (h : Fin 8) (v : W32)
  /-- HART_CLAIM (R388): A read of HT_CLAIM returns and clears the selected pending source. -/
  | hartClaim (h : Fin 8)
  /-- EV_RAISE (R397): A write of EV_RAISE raises a steward source 208–223. -/
  | evRaise (v : W32)
  /-- ROUTE_WRITE (R385): A write of EV_ROUTE_s sets a source's route, or is refused. -/
  | routeWrite (src : Fin 4096) (v : W32)
  /-- PLL_IDLE_STOP (R513): PLL_IDLE_US after every hart waits, the control fast PLLs stop. -/
  | pllIdleStop
  /-- RECOLOUR_ALL (R412): Recolour engine command that sets the tags of a range. -/
  | recolourAll
  /-- RECOLOUR_IF (R412): Recolour engine command that sets the tags equal to OLD to NEW. -/
  | recolourIf
  /-- WIPE (R412): Recolour engine command that zeroes the data and sets the tags of a range. -/
  | wipe
  /-- RECOLOUR_COMPLETE (R412): A recolour engine command completes. -/
  | recolourComplete
  /-- DMA_GO (R419): DM_CTL GO starts a transfer, or is refused. -/
  | dmaGo (c : Fin 16)
  /-- DMA_PAUSE (R419): DM_CTL PAUSE pauses a channel at the next beat boundary. -/
  | dmaPause (c : Fin 16)
  /-- DMA_RESUME (R419): DM_CTL RESUME restarts a paused or repairable faulted channel. -/
  | dmaResume (c : Fin 16)
  /-- DMA_ABORT (R419): DM_CTL ABORT ends a transfer at the next beat boundary. -/
  | dmaAbort (c : Fin 16)
  /-- DMA_BEAT (R418): A channel writes one beat, advancing its registers. -/
  | dmaBeat (c : Fin 16) (src dst : MemRes)
  /-- DMA_HOST_COMPLETION (R418): A host read completion arrives in the reorder buffer, or is discarded. -/
  | dmaHostCompletion (c : Fin 16) (k : Fin 8) (stale : Bool) (data : List Byte) (err : Option HostErr)
  /-- JOB_SUBMIT (R434): LI_JCMD SUBMIT queues a job from FREE. -/
  | jobSubmit (j : Fin 272)
  /-- JOB_ABORT (R434): LI_JCMD ABORT ends a job. -/
  | jobAbort (j : Fin 272)
  /-- JOB_RESUME (R434): LI_JCMD RESUME repeats a FAULTED job's failing access. -/
  | jobResume (j : Fin 272)
  /-- JOB_FREE (R434): LI_JCMD FREE frees an ENDED job entry. -/
  | jobFree (j : Fin 272)
  /-- LI_LOAD_COMPLETE (R432): A job's load phase ends, or faults on a refused access. -/
  | liLoadComplete (j : Fin 272) (cycles : Nat) (res : MemRes)
  /-- LI_YIELD (R444): A job reaches a yield point, is charged and the next job is selected. -/
  | liYield (cycles : Fin 1601)
  /-- LI_COMPUTE_COMPLETE (R443): A job's compute ends and its self-check runs. -/
  | liComputeComplete (iter : Fin 129)
  /-- LI_STORE_COMPLETE (R434): A job's store phase ends, the job is ENDED and its context wiped. -/
  | liStoreComplete (j : Fin 272) (cycles : Nat) (res : MemRes)
  /-- LI_CONTEXT_HOLD_EXPIRY (R446): Contexts 0–6 have been held for 1 ms, so source 101 is raised. -/
  | liContextHoldExpiry
  /-- LI_NEED_RISE (R642): LI_NEED exceeds the engine step, so the step is raised. -/
  | liNeedRise (need : Fin 7)
  /-- LI_STEP_SET (R642): A write of PW_LISTEP lowers the engine step. -/
  | liStepSet (v : W32)
  /-- RNG_SAMPLE_TICK (R453): At each 1.28 µs tick every enabled oscillator is sampled and tested. -/
  | rngSampleTick (samples : BitVec 8)
  /-- RNG_FREQ_WINDOW (R456): Every 10 µs each oscillator's frequency count is checked. -/
  | rngFreqWindow (counts : List Nat)
  /-- RNG_STARTUP_COMPLETE (R459): The start-up bits and nonce are gathered and the DRBG is instantiated. -/
  | rngStartupComplete (katOk : Bool)
  /-- RETRY (R468): RG_CMD RETRY runs a full start-up from FAILED. -/
  | retry
  /-- RESEED (R463): RG_CMD RESEED reseeds the DRBG with additional input. -/
  | reseed
  /-- REINSTANTIATE (R463): RG_CMD REINSTANTIATE instantiates the DRBG afresh. -/
  | reinstantiate
  /-- ENABLE (R468): RG_CMD ENABLE leaves DISABLED and starts a start-up. -/
  | enable
  /-- RNG_RETRY_EXPIRY (R468): One second after FAILED, the code in charge writes RETRY. -/
  | rngRetryExpiry
  /-- AUTO_RESEED (R463): RESEED_INT calls or RESEED_MS pass, so the DRBG reseeds. -/
  | autoReseed
  /-- RESEED_COMPLETE (R463): A reseed or instantiate completes once the pool has 512 bits. -/
  | reseedComplete
  /-- DRBG_CALL (R464): At a call boundary the arbiter serves the highest-priority requester. -/
  | drbgCall
  /-- RNG_PORT_REQUEST (R472): A write of RG_PREQ_k requests blocks at the port's priority. -/
  | rngPortRequest (k : Fin 2) (n : Fin 32)
  /-- RNG_DATA_READ (R472): A read of word 3 of RG_PDATA_k releases the waiting block. -/
  | rngDataRead (k : Fin 2)
  /-- FLASH_KEY_WRITE (R481): A write of FL_KEY advances or breaks the command sequence. -/
  | flashKeyWrite (h : Fin 8) (v : Fin 65536)
  /-- FLASH_SEQUENCE_STEP (R481): A write of FL_CMD or FL_ADDR advances or breaks the command sequence. -/
  | flashSequenceStep (h : Fin 8) (isAddr : Bool) (v : W32)
  /-- FLASH_DATA_WRITE (R481): A write of FL_DATA_w adds a program data word. -/
  | flashDataWrite (h : Fin 8) (w : Fin 64) (v : W32)
  /-- PROGRAM (R484): Blank-checks and programs 1–8 pages. -/
  | program (pulses : Fin 32) (verifyOk : Bool)
  /-- ERASE (R484): Erases one sector. -/
  | erase (pulses : Fin 32) (verifyOk : Bool)
  /-- MOVE (R495): Copies a sector to a spare and remaps it. -/
  | move
  /-- RELEASE (R480): Erases an execute-only region and then clears its EN. -/
  | release (pulses : Fin 32) (bad : Option (Fin 2048))
  /-- FLASH_SEQ_TIMEOUT (R482): 1 ms passes from the first key without the operation starting, so the sequence breaks. -/
  | flashSeqTimeout
  /-- FLASH_OP_COMPLETE (R486): A flash operation completes, setting FL_RESULT and clearing BUSY. -/
  | flashOpComplete
  /-- RETENTION_DAILY_CHECK (R496): Once a day, sectors due for refresh are moved or rewritten. -/
  | retentionDailyCheck
  /-- POWER_GOOD_RISE (R514): Power good rises, which starts the start sequence or enters DORMANT. -/
  | powerGoodRise (ownOk : Bool)
  /-- POWER_GOOD_FALL (R502): Power good falls and the device enters BACKUP. -/
  | powerGoodFall (pageDone : Bool)
  /-- RESET_PIN (R505): A recognised RESET_N pulse starts the whole start sequence. -/
  | resetPin
  /-- RESET_COMMAND (R506): PW_CMD RESET starts the device with cause STEWARD. -/
  | resetCommand
  /-- DORMANT_COMMAND (R522): PW_CMD DORMANT starts the DORMANT sequence. -/
  | dormantCommand
  /-- HOLD_N_LOW (R521): HOLD_N driven low requests DORMANT. -/
  | holdNLow
  /-- HOLD_N_HIGH (R502): HOLD_N rising wakes the device from DORMANT. -/
  | holdNHigh
  /-- SMBUS_VERSION (R524): SMBus VERSION returns 0x0100. -/
  | smbusVersion
  /-- SMBUS_MODE (R524): SMBus MODE returns the mode and start step. -/
  | smbusMode
  /-- SMBUS_CAUSE (R524): SMBus CAUSE returns the start cause. -/
  | smbusCause
  /-- SMBUS_TEMP (R524): SMBus TEMP returns the hottest sensor of each die. -/
  | smbusTemp (line ctl : Fin 256)
  /-- DORMANT_REQ (R524): SMBus DORMANT_REQ with data 0xA5 requests DORMANT. -/
  | dormantReq (data : Fin 256)
  /-- WAKE (R524): SMBus WAKE with data 0x5A wakes the device from DORMANT. -/
  | wake (data : Fin 256)
  /-- START_PLL_LOCKED (R514): The fast PLLs of both dies lock during a start. -/
  | startPllLocked (a b : Fin 8)
  /-- START_WIPE_COMPLETE (R508): The wipe of every memory completes, and hart 0 enters the boot ROM. -/
  | startWipeComplete (fails : List (Nat × Nat × Nat))
  /-- LC_DECODE (R570): Once random numbers are available, the life-cycle state is decoded by double decision. -/
  | lcDecode (dis : Fin 3)
  /-- PUF_REGEN (R517): The PUF root is regenerated from the array and the array is wiped. -/
  | pufRegen (gen : Option (Fin 2)) (other repeated : Bool) (worst : Fin 19)
  /-- STEWARD_ACCEPT (R514): The steward image is accepted and entered at level 1. -/
  | stewardAccept (slot : Option (Fin 2)) (dis : Fin 3)
  /-- SERDES_CALIBRATION_COMPLETE (R514): All SerDes lane groups are calibrated, and the owner configuration is applied. -/
  | serdesCalibrationComplete (cfg : List (Nat × W32))
  /-- START_SERVICE_ENTRY (R514): The OPEN record is programmed and the device enters SERVICE or LOCKDOWN. -/
  | startServiceEntry
  /-- PLL_LOCK_LOSS (R512): An active PLL loses lock, so its domain moves to the partner, or the device goes DORMANT. -/
  | pllLockLoss (d : Fin 3)
  /-- PLL_RETRY_EXPIRY (R512): Every second a failed PLL is tried again. -/
  | pllRetryExpiry (d : Fin 3) (locked : Bool)
  /-- PUF_REFRESH (R520): PW_PUF_CTL REFRESH produces new helper data in the window. -/
  | pufRefresh
  /-- PUF_REFRESH_COMPLETE (R520): The new helper data is ready. -/
  | pufRefreshComplete
  /-- PUF_CHECK (R520): PW_PUF_CTL CHECK regenerates trially with the new helper data. -/
  | pufCheck
  /-- PUF_CHECK_COMPLETE (R520): The trial regeneration passes or fails. -/
  | pufCheckComplete (worst : Fin 32) (same : Bool)
  /-- DORMANT_SEAL_TIMEOUT (R522): The seal of the DORMANT sequence is abandoned at 2 s. -/
  | dormantSealTimeout
  /-- DORMANT_ENTRY (R522): After the flush and wipe, the device powers down into DORMANT. -/
  | dormantEntry
  /-- VBAT_LOW (R663): VBAT falls below its warning level, raising source 153. -/
  | vbatLow
  /-- LOOP_SAMPLE (R536): Every 976.56 µs each enclosure loop is sampled. -/
  | loopSample (bad : Fin 256)
  /-- MONITOR_TRIP (R534): A monitor detects an event and its filter records it. -/
  | monitorTrip (ms : Fin 4194304)
  /-- ASSERTED_CLEAR_EXPIRY (R535): W ms after a monitor's last event, ASSERTED clears. -/
  | assertedClearExpiry (m : Fin 22) (cond : Bool)
  /-- ALARM_RAISE (R544): A write of TM_RAISE raises an alarm with a level and reason. -/
  | alarmRaise (level : Fin 8) (reason : Fin 65536)
  /-- SHADOW_MISMATCH (R547): A shadowed register differs from its inverse copy, which is an event of monitor 20. -/
  | shadowMismatch (a : BitVec 32)
  /-- TAMPER_LOG_APPEND (R549): One record per backup cycle is appended to the tamper log. -/
  | tamperLogAppend
  /-- TAMPER_MIRROR_UPDATE (R551): With a token available, a tamper-log copy is written to flash. -/
  | tamperMirrorUpdate
  /-- LOG_TOKEN_REFILL (R551): Every 4 hours the tamper-log mirror bucket gains a token. -/
  | logTokenRefill
  /-- RECORDER_ACCEPT (R555): The recorder takes one raising from the intake. -/
  | recorderAccept
  /-- RECORDER_QUARTER_MIRROR (R559): A closed quarter is mirrored to flash, or counted unmirrored. -/
  | recorderQuarterMirror
  /-- RECORDER_TOKEN_REFILL (R559): Every 20 minutes the recorder mirror bucket gains a token. -/
  | recorderTokenRefill
  /-- MSIX_TOKEN_REFILL (R561): A vector's message bucket gains a token, and a held message is sent. -/
  | msixTokenRefill (f : Fin 512) (v : Fin 64)
  /-- LC_INTENT (R576): LC_CMD INTENT burns an INTENT record. -/
  | lcIntent (t : Fin 8)
  /-- LC_COMMIT (R576): LC_CMD COMMIT burns a COMMIT record. -/
  | lcCommit
  /-- LC_VOID (R570): LC_CMD VOID burns a VOID word. -/
  | lcVoid
  /-- LC_PAIR (R578): LC_CMD PAIR burns the line-die pairing fuses. -/
  | lcPair
  /-- OTP_BURN_COMPLETE (R576): An OTP burn completes with OK or BITS_FAILED. -/
  | otpBurnComplete (got : BitVec 32)
  /-- EXTEST (R581): JTAG EXTEST, or BYPASS where it is not open. -/
  | extest
  /-- SAMPLE_PRELOAD (R581): JTAG SAMPLE/PRELOAD. -/
  | samplePreload
  /-- IDCODE (R581): JTAG IDCODE reads 0x1640_04F7. -/
  | idcode
  /-- DBG_CHAL (R582): Shifts out the debug challenge. -/
  | dbgChal
  /-- DBG_RESP (R582): Shifts in a signed response, which unlocks or refuses the debug port. -/
  | dbgResp (octets : List Byte) (agree : Bool)
  /-- DBG_CMD (R583): A debug command within the open scope. -/
  | dbgCmd (c : DbgCmd)
  /-- DBG_LOCK (R585): Closes the debug port. -/
  | dbgLock
  /-- BYPASS (R581): JTAG BYPASS, also for unknown codes. -/
  | bypass
  /-- FIELD_RISE (R589): A reader's field powers the tag, which reaches IDLE. -/
  | fieldRise (strong ownOk : Bool)
  /-- FIELD_COLLAPSE (R603): The field collapses, possibly during a write. -/
  | fieldCollapse (pageDone : Bool)
  /-- REQA (R590): Type A REQA. -/
  | reqa (ownOk : Bool)
  /-- WUPA (R590): Type A WUPA. -/
  | wupa (ownOk : Bool)
  /-- ANTICOLLISION (R590): Type A anticollision at cascade level 1. -/
  | anticollision (n : Fin 33) (v : BitVec 32) (ownOk : Bool)
  /-- SELECT (R591): Type A SELECT, answered with SAK 0x20. -/
  | select (v : BitVec 32) (ownOk : Bool)
  /-- HLTA (R590): Type A HLTA. -/
  | hlta (ownOk : Bool)
  /-- RATS (R592): RATS, answered with the ATS. -/
  | rats (fsdi : Fin 16) (ownOk : Bool)
  /-- PPS (R590): PPS, answered with the bit rate kept at 106 kbit/s. -/
  | pps (ownOk : Bool)
  /-- S_DESELECT (R593): S(DESELECT) takes the tag to HALT. -/
  | sDeselect (ownOk : Bool)
  /-- TAG_PROTOCOL_ERROR (R593): A malformed or unexpected frame returns the tag to IDLE. -/
  | tagProtocolError (ownOk : Bool)
  /-- WTX_EXPIRY (R592): A reply would exceed the frame waiting time, so S(WTX) is sent. -/
  | wtxExpiry
  /-- TAG_HELLO (R596): Tag HELLO negotiates the command-set version. -/
  | tagHello (v : Fin 65536)
  /-- IDENTITY (R596): Returns the identity, the life-cycle state and the flags. -/
  | identity
  /-- SUMMARY (R606): Returns the live or stored summary. -/
  | summary
  /-- COUNTERS (R596): Returns the 16 counters. -/
  | counters
  /-- INCREMENT (R596): Raises a reader counter. -/
  | increment (c amount : Fin 256)
  /-- INBOX_READ (R596): Reads part of the inbox. -/
  | inboxRead (off : Fin 65536) (len : Fin 256)
  /-- INBOX_STAGE (R596): Stages inbox data in volatile memory. -/
  | inboxStage (off : Fin 65536) (data : List Byte)
  /-- INBOX_COMMIT (R596): Writes the staged inbox record. -/
  | inboxCommit (len : Fin 65536) (crc : BitVec 32)
  /-- NVM_PAGE_WRITE_COMPLETE (R602): A tag NVM page write and verify complete. -/
  | nvmPageWriteComplete (verifyOk : Bool)
  /-- TG_WRITE (R610): TG_CMD WRITE writes a record from TG_BUF. -/
  | tgWrite (kind : Fin 8)
  /-- TG_INCREMENT (R610): TG_CMD INCREMENT raises device counter 0–3. -/
  | tgIncrement (c : Fin 4)
  /-- TG_READ (R610): TG_CMD READ reads a record into TG_BUF. -/
  | tgRead (kind : Fin 8)
  /-- CARD_INSERT (R613): CS_CD_N stays low for 100 ms, so the card is initialised. -/
  | cardInsert (wp : Bool)
  /-- CARD_REMOVAL (R613): Card removal is recognised and the card is unpowered. -/
  | cardRemoval
  /-- SD_COMMAND (R631): CS_CMD GO sends an SD command. -/
  | sdCommand (index : Fin 64) (resp : Fin 8) (data toCard : Bool)
  /-- SD_COMMAND_COMPLETE (R616): An SD command or transfer ends with its result code. -/
  | sdCommandComplete (code : Fin 11) (blocks : Fin 17) (resp : List (BitVec 32)) (octets : List Byte)
  /-- SD_BUSY_END (R616): The card's write busy ends on DAT0. -/
  | sdBusyEnd
  /-- SD_BUSY_TIMEOUT (R616): Write busy exceeds its limit, so the card is FAILED. -/
  | sdBusyTimeout
  /-- ACMD41_RETRY_EXPIRY (R614): Every 10 ms ACMD41 is repeated until busy clears or 1 s passes. -/
  | acmd41RetryExpiry
  /-- PROBATION_ARM (R652): PW_UPD_CTL ARM starts probation. -/
  | probationArm (secs : Fin 65536)
  /-- PROBATION_DISARM (R652): PW_UPD_CTL DISARM stops probation. -/
  | probationDisarm
  /-- PROBATION_EXPIRY (R647): Probation runs out, so the device resets and falls back. -/
  | probationExpiry
  /-- SRAM_REMAP (R640): MP_REMAP GO remaps a control SRAM row to a spare. -/
  | sramRemap (bank : Fin 32) (row : Fin 1024)
  /-- LINE_REMAP (R640): CU_REMAP GO remaps a line-die SRAM row to a spare. -/
  | lineRemap (mem : Fin 8) (unit : Fin 32) (row : Fin 8192)
  /-- REMAP_COMPLETE (R640): A row remap completes with OK or NO_SPARE. -/
  | remapComplete (line : Bool)
  /-- COMPLETION_TIMEOUT (R228): A read request that the device issued on PCIe, for order entries, a DMA channel or a dirty-log bitmap, receives no completion within the Completion Timeout range and ends in error. -/
  | completionTimeout (x : HostRead)
  /-- MALFORMED_TLP (R228): A malformed TLP, an ECRC failure, a receiver overflow or a Data Link protocol error is received, so AER and HF_EP_ERR record it and the link retrains or goes down. -/
  | malformedTlp (e : Fin 2) (x : TlpErr) (down : Bool)
  /-- HARVEST_STALL (R325): The harvest engine has stalled on a full landing ring for more than 1 ms, so offset 10 of the metering sources is raised. -/
  | harvestStall
  /-- VBAT_OK_CHANGE (R649): The coin cell is removed or fitted, so VBAT_OK changes, and without a cell the backup domain has no supply if main power fails. -/
  | vbatOkChange (v : Bool)
deriving DecidableEq, Repr

end Sys2Proof
end

