-- ==== Sys2Proof/Config.lean ====
section
/-! DEFINITION. What an implementation fixes and what the spec leaves open: free values and uninterpreted functions.
None of them has a body, so nothing can be proved of their values. -/

namespace Sys2Proof.Config

/-- A value the spec leaves undefined or unstated: the n-th such value of a run (log entry 5). -/
opaque freeValue : Nat → Nat

/-- ST_EM_HASH: the four bucket indices, of DIR, SLOT, KTYPE, the key fields of that KTYPE and the seed (R63). -/
opaque emHash : Nat → W32 → W32

/-- The keyed 16-bit permutation of R166: key, slot → q. -/
opaque granaryPermute : W64 → Nat → Nat

/-- The GHASH subkey E(K, 0^128) under a suite (R168). -/
opaque hashSubkey : Nat → BitVec 256 → BitVec 128

/-- The fresh mask of the n-th masking, drawn from the keystream of a seed (R168, R169). -/
opaque mask256 : BitVec 256 → Nat → BitVec 256
opaque mask128 : BitVec 256 → Nat → BitVec 128

/-- GCM of R131: suite, key, IV, octets authenticated only, octets encrypted → ciphertext and ICV. -/
opaque gcmSeal : Nat → BitVec 256 → BitVec 96 → List Byte → List Byte → List Byte × List Byte
/-- GCM opening: the plaintext and whether the ICV is right. -/
opaque gcmOpen : Nat → BitVec 256 → BitVec 96 → List Byte → List Byte → List Byte → List Byte × Bool

/-- The CRC-32 frame check sequence of IEEE 802.3, as its four octets. -/
opaque fcs32 : List Byte → List Byte

/-- The session key of R190 from the pairing key and both nonces. -/
opaque sessionKey : BitVec 256 → BitVec 256 → BitVec 256 → BitVec 256

/-- AES-CMAC (R293), RFC 3394 wrap and unwrap (R292), the AES-CMAC KDF (R293). -/
opaque cmac : List Byte → List Byte → List Byte
opaque keyWrap : List Byte → List Byte → List Byte
opaque keyUnwrap : List Byte → List Byte → Option (List Byte)
opaque kdf : List Byte → List Byte → Nat → List Byte

/-- KEM_WRAP's key agreement with the wrapped-key length octet 40 (R438, R624): parameter, recipient's public key, seed → ciphertext or ephemeral
point, and the KEK. -/
opaque kemEncap : Nat → List Byte → BitVec 256 → List Byte × List Byte
/-- The KEK that a private key gets back from a ciphertext or point. -/
opaque kemDecap : Nat → List Byte → List Byte → List Byte

/-- SHA-384. -/
opaque sha384 : List Byte → List Byte

/-- Signature by a key held as octets: algorithm, key, message. -/
opaque sign : Nat → List Byte → List Byte → List Byte
/-- Signature check: algorithm, public key, message, signature. -/
opaque verify : Nat → List Byte → List Byte → List Byte → Bool

/-- The n-th output block of 128 bits of the DRBG from an instance's seed material (R462–R465). -/
opaque drbgBlock : Nat → Nat → BitVec 128

/-- A long-integer operation of R438: operation, parameter, private key, input, auxiliary input, seed → its status of R437
(DONE, INVALID, BAD_INPUT, CHECK_FAIL or RETRY) and output. -/
opaque liOp : Nat → Nat → List Byte → List Byte → List Byte → BitVec 256 → Nat × List Byte

/-- The key that an operation which creates a handle makes, from the same operands. -/
opaque liKey : Nat → Nat → List Byte → List Byte → List Byte → BitVec 256 → List Byte

/-- An octet of the boot ROM (R19). -/
opaque romByte : Nat → Byte

/-- The device's metering key pair of R579 for an algorithm: the private key, and the public key. -/
opaque meteringKey : Nat → List Byte
opaque meteringPub : Nat → List Byte

/-- The public key of the owner whose unit this is after the model's reset (log entry 4). -/
opaque ownerKey : List Byte

/-- The vendor's public key (R573). -/
opaque vendorKey : List Byte

/-- Octets of the helper data that the n-th REFRESH puts in its window (R520, R529). -/
opaque pufHelper : Nat → Nat → Byte

/-- CHECK of the header that goes with the n-th helper data: SHA-384 over the label and the root (R518). -/
opaque helperCheck : Nat → List Byte

/-- The key derived from the root that wraps the metering key in flash (R579). -/
opaque rootKek : List Byte

/-- The PUF root of an enrolment, and the device's key pair of R579: its private and its public key. -/
opaque deviceKey : List Byte
opaque devicePub : List Byte

/-- The 64-bit identity assigned at vendor provisioning (R600). -/
opaque identity : W64

end Sys2Proof.Config
end

