-- ==== Sys2Proof/Machine/Bits.lean ====
section
/-! DEFINITION. Bit fields, sign extension, byte order and CRC-32C: the helpers every chapter's meanings use. -/

namespace Sys2Proof.Machine

/-- The field `[msb:lsb]` of a word given as a number (R5). -/
def bitsOf (w msb lsb : Nat) : Nat := (w >>> lsb) % 2 ^ (msb + 1 - lsb)

/-- The field `[msb:lsb]` of a register word. -/
def fld (w : W32) (msb lsb : Nat) : Nat := bitsOf w.toNat msb lsb

/-- Bit `i` of a number as a Boolean. -/
def bitAt (w i : Nat) : Bool := w.testBit i

/-- A Boolean as a bit. -/
def b2n (b : Bool) : Nat := if b then 1 else 0

/-- The mask that covers bits `[msb:lsb]`. -/
def maskOf (msb lsb : Nat) : Nat := (2 ^ (msb + 1 - lsb) - 1) <<< lsb

/-- The word `w` with field `[msb:lsb]` set to `v` (cut to the field's width). -/
def putFld (w : W32) (msb lsb v : Nat) : W32 :=
  BitVec.ofNat 32 ((w.toNat - (bitsOf w.toNat msb lsb) <<< lsb) + (v % 2 ^ (msb + 1 - lsb)) <<< lsb)

/-- A word packed from (value, lsb) pairs whose fields do not overlap. -/
def packFields : List (Nat × Nat) → Nat
  | [] => 0
  | (v, lsb) :: r => v <<< lsb + packFields r

/-- The 32-bit word of a number. -/
def w32 (n : Nat) : W32 := BitVec.ofNat 32 n

/-- Little-endian value of octets, the first at the lowest place (R6). -/
def leNat : List Byte → Nat
  | [] => 0
  | b :: r => b.toNat + 256 * leNat r

/-- Big-endian (wire order) value of octets. -/
def beNat (l : List Byte) : Nat := leNat l.reverse

/-- `n` octets of a number, least significant first (R6). -/
def leBytes : Nat → Nat → List Byte
  | 0, _ => []
  | n + 1, v => BitVec.ofNat 8 v :: leBytes n (v / 256)

/-- `n` octets of a number, most significant first. -/
def beBytes (n v : Nat) : List Byte := (leBytes n v).reverse

/-- Octets `i … i+n-1` of a list, zeros beyond its end. -/
def octetsAt (l : List Byte) (i n : Nat) : List Byte :=
  let t := (l.drop i).take n
  t ++ List.replicate (n - t.length) 0

/-- The list with octets `v` written at place `i` (places beyond the end are lost). -/
def putOctets (l : List Byte) (i : Nat) (v : List Byte) : List Byte :=
  (l.take i ++ v ++ l.drop (i + v.length)).take l.length

/-- The words of octets, four octets a word (R6). -/
def wordsOf : Nat → List Byte → List W32
  | 0, _ => []
  | n + 1, l => w32 (leNat (l.take 4)) :: wordsOf n (l.drop 4)

/-- The octets of words. -/
def octetsOf (ws : List W32) : List Byte := ws.flatMap (fun w => leBytes 4 w.toNat)

/-- Sign extension of the low `n` bits of `v` to an integer. -/
def sxt (n v : Nat) : Int :=
  let u := v % 2 ^ n
  if u < 2 ^ (n - 1) then (u : Int) else (u : Int) - (2 ^ n : Nat)

/-- Ceiling division. -/
def cdiv (a b : Nat) : Nat := (a + b - 1) / b

/-- One bit step of CRC-32C (reflected polynomial 0x82F6_3B78). -/
def crcBit (c : Nat) : Nat := if c % 2 = 1 then (c / 2) ^^^ 0x82F63B78 else c / 2

/-- One octet of CRC-32C. -/
def crcByte (c : Nat) (b : Byte) : Nat :=
  let x := c ^^^ b.toNat
  crcBit (crcBit (crcBit (crcBit (crcBit (crcBit (crcBit (crcBit x)))))))

/-- CRC-32C over octets (R554, R599, R619, R621, R643). -/
def crc32c (l : List Byte) : Nat := (l.foldl crcByte 0xFFFFFFFF) ^^^ 0xFFFFFFFF

/-- The element of a list at a place, or a default. -/
def nth {α : Type} (l : List α) (i : Nat) (d : α) : α := l.getD i d

/-- The list with its element at place `i` replaced. -/
def setNth {α : Type} (l : List α) (i : Nat) (v : α) : List α := l.set i v

end Sys2Proof.Machine
end

