-- ==== Sys2Proof/Machine/Tbl.lean ====
section
/-! DEFINITION. Sparse tables in one canonical form: keys strictly rising, no entry equal to what an unlisted key reads
as. Every register file, counter bank and memory of the model is such a table, so equal contents are equal data. -/

namespace Sys2Proof.Machine

/-- A sparse table: (key, value) pairs. -/
abbrev Tbl (α : Type) := List (Nat × α)

/-- What a table reads at key `k`: the listed value, or the default `d k`. -/
def tget {α : Type} (d : Nat → α) : Tbl α → Nat → α
  | [], k => d k
  | (j, v) :: r, k => if j = k then v else tget d r k

/-- The table with `v` listed at key `k`, before the first greater key. -/
def tins {α : Type} : Tbl α → Nat → α → Tbl α
  | [], k, v => [(k, v)]
  | (j, w) :: r, k, v => if j = k then (k, v) :: r else if k < j then (k, v) :: (j, w) :: r else (j, w) :: tins r k v

/-- The table with `v` at key `k`: a default is not listed. -/
def tput {α : Type} [DecidableEq α] (d : Nat → α) (t : Tbl α) (k : Nat) (v : α) : Tbl α :=
  if v = d k then t.filter (fun e => e.1 != k) else tins t k v

/-- Every key of the table exceeds `b`. -/
def keysAbove {α : Type} (b : Nat) : Tbl α → Bool
  | [] => true
  | (j, _) :: r => decide (b < j) && keysAbove b r

/-- The canonical form: keys strictly rising and no default entry. -/
def tblWf {α : Type} [DecidableEq α] (d : Nat → α) : Tbl α → Bool
  | [] => true
  | (j, v) :: r => decide (v ≠ d j) && keysAbove j r && tblWf d r

/-- Consecutive values written from key `k` on. -/
def tputs {α : Type} [DecidableEq α] (d : Nat → α) (t : Tbl α) (k : Nat) : List α → Tbl α
  | [] => t
  | v :: r => tputs d (tput d t k v) (k + 1) r

/-- `n` consecutive values from key `k` on. -/
def tgets {α : Type} (d : Nat → α) (t : Tbl α) (k : Nat) : Nat → List α
  | 0 => []
  | n + 1 => tget d t k :: tgets d t (k + 1) n

/-- A table with every listed value changed, in canonical form. -/
def tmap {α : Type} [DecidableEq α] (d : Nat → α) (g : Nat → α → α) : Tbl α → Tbl α
  | [] => []
  | (j, v) :: r => if g j v = d j then tmap d g r else (j, g j v) :: tmap d g r

end Sys2Proof.Machine
end

