-- ==== Sys2Proof/Machine/RegTable.lean ====
section
/-! DEFINITION. The register tables of the spec: address, strides, named fields with access code and reset value (R12–R17,
and each chapter's register rules), the values a write may take, and the event source of each block's refused writes. -/

namespace Sys2Proof.Machine

/-- The access codes of R12. -/
inductive Acc where
  | ro | rw | wo | w1c | w1s | rc | rwl | st
deriving DecidableEq, Repr

/-- A named field `[msb:lsb]` with its access code and reset value. -/
structure Field where
  msb : Nat
  lsb : Nat
  acc : Acc
  rst : Nat
deriving DecidableEq, Repr

/-- One register or one array of registers: it lies at `base + i·s + j·t …` for the (stride, count) pairs given, largest
stride first. Bits no field names are reserved. `legal` is the set of values a write may take (others are refused under
R18); `special` overrides the reset value where it depends on the index. -/
structure RegDesc where
  base : Nat
  strides : List (Nat × Nat)
  fields : List Field
  legal : Nat → Bool := fun _ => true
  special : Option (Nat → Nat) := none

def rw (m l r : Nat) : Field := ⟨m, l, .rw, r⟩
def ro (m l : Nat) : Field := ⟨m, l, .ro, 0⟩
def wo (m l : Nat) : Field := ⟨m, l, .wo, 0⟩
def w1c (m l : Nat) : Field := ⟨m, l, .w1c, 0⟩
def rc (m l : Nat) : Field := ⟨m, l, .rc, 0⟩
def rwl (m l r : Nat) : Field := ⟨m, l, .rwl, r⟩

/-- Every two of a lane map's four positions differ, so it is a permutation of 0–3 (R37). -/
def isPerm4 (v : Nat) : Bool :=
  let a := bitsOf v 1 0; let b := bitsOf v 3 2; let c := bitsOf v 5 4; let d := bitsOf v 7 6
  decide (a ≠ b ∧ a ≠ c ∧ a ≠ d ∧ b ≠ c ∧ b ≠ d ∧ c ≠ d)

/-- At most three key types selected (R66). -/
def popcount5 (v : Nat) : Nat := bitsOf v 0 0 + bitsOf v 1 1 + bitsOf v 2 2 + bitsOf v 3 3 + bitsOf v 4 4

/-- PB_ and LN_ registers (R55–R58). -/
def regsPB : List RegDesc :=
  [ { base := 0x41000000, strides := [(0x10000, 16)], fields := [rw 2 0 0, rw 7 4 0], legal := fun v => bitsOf v 2 0 ≤ 5 },
    { base := 0x41000004, strides := [(0x10000, 16)], fields := [ro 1 0, ro 2 2, ro 3 3, ro 18 4] },
    { base := 0x41000008, strides := [(0x10000, 16)], fields := [rw 7 0 0xE4, rw 15 8 0xE4, rw 23 16 0xE4, rw 31 24 0xE4],
      legal := fun v => isPerm4 (bitsOf v 7 0) && isPerm4 (bitsOf v 15 8) && isPerm4 (bitsOf v 23 16) && isPerm4 (bitsOf v 31 24) },
    { base := 0x4100000C, strides := [(0x10000, 16)], fields := [rw 13 0 9216],
      legal := fun v => 1518 ≤ bitsOf v 13 0 && bitsOf v 13 0 ≤ 10208 },
    { base := 0x41000010, strides := [(0x10000, 16)], fields := [rw 15 0 100, rw 31 16 100] },
    { base := 0x41000014, strides := [(0x10000, 16)], fields := [rw 15 0 100], legal := fun v => 1 ≤ bitsOf v 15 0 },
    { base := 0x41000018, strides := [(0x10000, 16)], fields := [rw 15 0 16, rw 16 16 0] },
    { base := 0x4100001C, strides := [(0x10000, 16)], fields := [rw 14 0 2048] },
    { base := 0x41000100, strides := [(0x10000, 16), (0x100, 4)],
      fields := [rw 3 0 0, rw 7 4 0, rw 8 8 0, rw 9 9 0, rw 10 10 0, rw 12 11 3, rw 14 13 0, rw 15 15 0, rw 16 16 1, rw 17 17 1, rw 25 18 0xFF, rw 28 26 0],
      legal := fun v => bitsOf v 14 13 ≤ 2 && bitsOf v 3 0 ≤ 4 && bitsOf v 7 4 ≤ 4 },
    { base := 0x41000104, strides := [(0x10000, 16), (0x100, 4)], fields := [ro 2 0, ro 6 4, ro 8 8, ro 9 9, ro 10 10, ro 11 11, ro 12 12, ro 23 16] },
    { base := 0x41000108, strides := [(0x10000, 16), (0x100, 4)], fields := [rw 15 0 0, rw 31 16 0] },
    { base := 0x4100010C, strides := [(0x10000, 16), (0x100, 4)], fields := [rw 15 0 0] },
    { base := 0x41000110, strides := [(0x10000, 16), (0x100, 4)], fields := [rw 15 0 0, rw 31 16 0] },
    { base := 0x41000114, strides := [(0x10000, 16), (0x100, 4)], fields := [rw 15 0 0] },
    { base := 0x41000118, strides := [(0x10000, 16), (0x100, 4)], fields := [rw 15 0 0, rw 31 16 0] },
    { base := 0x4100011C, strides := [(0x10000, 16), (0x100, 4)], fields := [rw 15 0 0, rw 31 16 0] },
    { base := 0x41000120, strides := [(0x10000, 16), (0x100, 4)], fields := [ro 15 0, ro 31 16] },
    { base := 0x41000140, strides := [(0x10000, 16), (0x100, 4), (4, 34)], fields := [ro 31 0] },
    { base := 0x41001000, strides := [(0x10000, 16), (0x100, 8)],
      fields := [rw 0 0 0, rw 1 1 0, rw 2 2 0, rw 4 3 0, rw 7 5 0, rw 8 8 0, rw 9 9 0, rw 10 10 0],
      legal := fun v => bitsOf v 4 3 ≤ 2 && bitsOf v 7 5 ≤ 4 },
    { base := 0x41001004, strides := [(0x10000, 16), (0x100, 8)], fields := [ro 0 0, ro 1 1, ro 2 2, ro 5 3, ro 15 8, ro 16 16, ro 17 17] },
    { base := 0x41001008, strides := [(0x10000, 16), (0x100, 8)], fields := [rw 4 0 0, rw 9 5 0, rw 14 10 0, rw 21 15 64, rw 26 22 0] },
    { base := 0x4100100C, strides := [(0x10000, 16), (0x100, 8), (4, 2)], fields := [rc 31 0] } ]

/-- ST_ registers (R87, R88). -/
def regsST : List RegDesc :=
  [ { base := 0x44000000, strides := [(0x10000, 16)], fields := [ro 1 0, rw 2 2 0, rw 31 16 0x9100] },
    { base := 0x44000004, strides := [(0x10000, 16)], fields := [ro 12 0, ro 21 13, ro 27 22] },
    { base := 0x44000008, strides := [(0x10000, 16)], fields := [rwl 31 0 0] },
    { base := 0x44000100, strides := [(0x10000, 16), (0x40, 4)],
      fields := [rw 4 0 0, rw 9 5 0, rw 11 10 0, rw 13 12 0, rw 15 14 0, rw 27 16 0],
      legal := fun v => popcount5 (bitsOf v 4 0) ≤ 3 && popcount5 (bitsOf v 9 5) ≤ 3 && bitsOf v 4 3 = 0 && bitsOf v 11 10 ≤ 1 && bitsOf v 13 12 ≤ 1 && bitsOf v 15 14 ≤ 2 },
    { base := 0x44000104, strides := [(0x10000, 16), (0x40, 4)], fields := [rw 15 0 1000, rw 23 16 32] },
    { base := 0x44000110, strides := [(0x10000, 16), (0x40, 4), (4, 12)], fields := [ro 31 0] },
    { base := 0x44000200, strides := [(0x10000, 16), (4, 10)], fields := [ro 31 0] },
    { base := 0x44000300, strides := [(0x10000, 16)], fields := [wo 12 0, wo 14 13] },
    { base := 0x44000304, strides := [(0x10000, 16)], fields := [rw 12 0 0] },
    { base := 0x44000308, strides := [(0x10000, 16)], fields := [ro 1 0] },
    { base := 0x44000400, strides := [(0x10000, 16), (4, 8)], fields := [rw 31 0 0] },
    { base := 0x44000420, strides := [(0x10000, 16)], fields := [rw 11 0 0] },
    { base := 0x44000424, strides := [(0x10000, 16)], fields := [wo 1 0] },
    { base := 0x44000428, strides := [(0x10000, 16)], fields := [ro 31 0] },
    { base := 0x44000500, strides := [(0x10000, 16), (4, 20)], fields := [rw 31 0 0] },
    { base := 0x44000550, strides := [(0x10000, 16)], fields := [rw 7 0 0] },
    { base := 0x44000554, strides := [(0x10000, 16)], fields := [wo 1 0] },
    { base := 0x44000600, strides := [(0x10000, 16)], fields := [ro 10 0, ro 12 11, ro 13 13, ro 27 16, ro 31 31] },
    { base := 0x44000604, strides := [(0x10000, 16)], fields := [ro 31 0] },
    { base := 0x44000608, strides := [(0x10000, 16)], fields := [ro 14 0] },
    { base := 0x4400060C, strides := [(0x10000, 16)], fields := [ro 31 0] },
    { base := 0x44000610, strides := [(0x10000, 16)], fields := [wo 0 0] },
    { base := 0x44000620, strides := [(0x10000, 16)], fields := [wo 10 0, wo 12 11, wo 13 13] },
    { base := 0x44000630, strides := [(0x10000, 16)], fields := [rw 15 0 0x888E, rw 31 16 0] },
    { base := 0x44000634, strides := [(0x10000, 16)], fields := [rw 15 0 0, rw 31 16 0] },
    { base := 0x44004000, strides := [(0x10000, 16), (4, 384)], fields := [rw 31 0 0] },
    { base := 0x44008000, strides := [(0x10000, 16), (4, 8192)], fields := [ro 31 0] } ]

/-- TL_ registers (R128–R130). -/
def regsTL : List RegDesc :=
  [ { base := 0x42000000, strides := [(0x1000, 72)], fields := [wo 1 0], legal := fun v => bitsOf v 1 0 ≠ 3 },
    { base := 0x42000004, strides := [(0x1000, 72)], fields := [ro 2 0, ro 3 3, ro 9 4, ro 12 10, ro 14 13, ro 19 16, ro 29 20] },
    { base := 0x42000008, strides := [(0x1000, 72)], fields := [ro 15 0, ro 16 16, ro 17 17, ro 18 18, ro 19 19, ro 31 20] },
    { base := 0x4200000C, strides := [(0x1000, 72)], fields := [ro 31 0] },
    { base := 0x42000010, strides := [(0x1000, 72)], fields := [ro 4 0, ro 5 5] },
    { base := 0x42000040, strides := [(0x1000, 72), (4, 16)], fields := [ro 31 0] },
    { base := 0x42080000, strides := [], fields := [rw 4 0 10, rw 5 5 1, rw 8 6 3, rw 11 9 3],
      legal := fun v => 1 ≤ bitsOf v 4 0 && bitsOf v 4 0 ≤ 22 && 1 ≤ bitsOf v 8 6 && bitsOf v 8 6 ≤ 5 && 1 ≤ bitsOf v 11 9 },
    { base := 0x42080004, strides := [], fields := [rw 6 0 4, rw 31 16 1000],
      legal := fun v => 1 ≤ bitsOf v 6 0 && bitsOf v 6 0 ≤ 64 && 1 ≤ bitsOf v 31 16 && bitsOf v 31 16 ≤ 60000 },
    { base := 0x42080008, strides := [], fields := [ro 6 0, ro 13 7, ro 19 14, ro 23 20, ro 24 24, ro 31 25] },
    { base := 0x4208000C, strides := [], fields := [wo 3 0] },
    { base := 0x42080010, strides := [], fields := [wo 5 0, wo 12 6, wo 13 13] },
    { base := 0x42080100, strides := [(4, 16)], fields := [ro 31 0] },
    { base := 0x42080200, strides := [(4, 12)], fields := [ro 31 0] } ]

/-- VD_ registers (R158–R160). -/
def regsVD : List RegDesc :=
  [ { base := 0x43000000, strides := [(0x1000, 64)], fields := [rw 0 0 0, rw 1 1 0] },
    { base := 0x43000004, strides := [(0x1000, 64)], fields := [ro 0 0, ro 21 21, ro 22 22] },
    { base := 0x43000008, strides := [(0x1000, 64)], fields := [rw 15 0 64, rw 31 16 1000],
      legal := fun v => 1 ≤ bitsOf v 15 0 && 1 ≤ bitsOf v 31 16 && bitsOf v 31 16 ≤ 60000 },
    { base := 0x4300000C, strides := [(0x1000, 64)], fields := [ro 15 0, ro 18 16, ro 19 19, ro 20 20, ro 21 21, ro 22 22] },
    { base := 0x43000010, strides := [(0x1000, 64), (4, 2)], fields := [ro 31 0] },
    { base := 0x43000018, strides := [(0x1000, 64)], fields := [ro 15 0, ro 31 16] },
    { base := 0x43000040, strides := [(0x1000, 64), (4, 32)], fields := [ro 31 0] },
    { base := 0x43080000, strides := [], fields := [rw 13 0 0] },
    { base := 0x43080004, strides := [], fields := [rw 31 0 0] },
    { base := 0x43080008, strides := [], fields := [rw 31 0 0] },
    { base := 0x4308000C, strides := [], fields := [wo 1 0] } ]

/-- GR_, CU_ and line-die remap registers (R197–R200, R654). -/
def regsGR : List RegDesc :=
  [ { base := 0x45000000, strides := [], fields := [rw 0 0 0, rw 1 1 1, rw 6 2 30, rw 12 7 40] },
    { base := 0x45000004, strides := [], fields := [ro 0 0, ro 1 1, ro 2 2, ro 3 3, ro 7 4, ro 24 8] },
    { base := 0x45000008, strides := [(4, 2)], fields := [rwl 31 0 0] },
    { base := 0x45000010, strides := [], fields := [wo 2 0, wo 31 16] },
    { base := 0x45000014, strides := [], fields := [ro 31 0] },
    { base := 0x45000018, strides := [], fields := [ro 15 0, ro 16 16] },
    { base := 0x45000020, strides := [(4, 5)], fields := [ro 31 0] },
    { base := 0x45000034, strides := [], fields := [ro 15 0] },
    { base := 0x45000100, strides := [(4, 24)], fields := [wo 31 0] },
    { base := 0x45000200, strides := [(4, 18)], fields := [ro 31 0] },
    { base := 0x40000000, strides := [], fields := [rw 13 0 1000], legal := fun v => 100 ≤ bitsOf v 13 0 && bitsOf v 13 0 ≤ 10000 },
    { base := 0x300E0000, strides := [], fields := [wo 0 0] },
    { base := 0x40000004, strides := [], fields := [ro 0 0, ro 1 1, ro 2 2, ro 4 3, ro 10 5] },
    { base := 0x300E0004, strides := [], fields := [ro 0 0, ro 1 1, ro 2 2, ro 4 3, ro 10 5] },
    { base := 0x40000008, strides := [], fields := [ro 31 0] },
    { base := 0x4000000C, strides := [], fields := [ro 1 0] },
    { base := 0x300E0008, strides := [], fields := [ro 31 0] },
    { base := 0x300E000C, strides := [], fields := [ro 1 0] },
    { base := 0x40000040, strides := [(4, 12)], fields := [ro 31 0] },
    { base := 0x300E0040, strides := [(4, 12)], fields := [ro 31 0] },
    { base := 0x40000100, strides := [], fields := [rw 2 0 0, rw 7 3 0, rw 20 8 0, wo 21 21], legal := fun v => bitsOf v 2 0 ≤ 5 },
    { base := 0x40000104, strides := [], fields := [ro 0 0, ro 2 1, ro 9 3] } ]

/-- The model's address of offset 0 of function `f` (256·endpoint + index) in its own BAR window: the host's view is not
the Rhaby view (R23), so the windows are kept above it. -/
def hfWin (f : Nat) : Nat := 0x100000000 + 0x10000 * f

/-- HF_ and VF_ registers (R229–R231, R259–R262). The function windows stand at `hfWin`. -/
def regsHF : List RegDesc :=
  [ { base := 0x100000000, strides := [(0x10000, 512)], fields := [ro 7 0, ro 8 8, ro 31 16] },
    { base := 0x100000004, strides := [(0x10000, 512)], fields := [ro 15 0] },
    { base := 0x100000008, strides := [(0x10000, 512)], fields := [wo 15 0] },
    { base := 0x10000000C, strides := [(0x10000, 512)], fields := [ro 15 0, ro 23 16, ro 24 24] },
    { base := 0x100000010, strides := [(0x10000, 512)], fields := [rw 0 0 0] },
    { base := 0x100000014, strides := [(0x10000, 512)], fields := [ro 0 0, ro 2 1, ro 6 3, ro 20 8, ro 21 21] },
    { base := 0x100000018, strides := [(0x10000, 512), (4, 4)], fields := [rw 31 0 0] },
    { base := 0x100000028, strides := [(0x10000, 512)], fields := [rw 3 0 0, rw 11 8 0] },
    { base := 0x100000040, strides := [(0x10000, 512)], fields := [wo 15 0] },
    { base := 0x100000044, strides := [(0x10000, 512)], fields := [ro 15 0] },
    { base := 0x100000048, strides := [(0x10000, 512)], fields := [wo 15 0] },
    { base := 0x10000004C, strides := [(0x10000, 512)], fields := [ro 15 0] },
    { base := 0x100000100, strides := [(0x10000, 512), (4, 64)], fields := [rw 9 0 0, rw 23 16 1] },
    { base := 0x100004010, strides := [(0x1000000, 2)], fields := [rw 11 0 0] },
    { base := 0x100004000, strides := [(0x1000000, 2), (4, 2)], fields := [ro 31 0] },
    { base := 0x100004014, strides := [(0x1000000, 2), (4, 6)], fields := [ro 31 0] },
    { base := 0x10000C000, strides := [(0x1000000, 2), (4, 2)], fields := [ro 31 0] },
    { base := 0x100005000, strides := [(0x1000000, 2), (0x10, 256), (4, 4)], fields := [ro 31 0] },
    { base := 0x30090000, strides := [(0x10000, 2)], fields := [rw 0 0 1, rw 1 1 0, rwl 9 2 255, rw 19 10 1] },
    { base := 0x30090004, strides := [(0x10000, 2)], fields := [ro 0 0, ro 1 1, ro 5 2, ro 9 6, ro 12 10, ro 20 13, ro 21 21] },
    { base := 0x30090008, strides := [(0x10000, 2)],
      fields := [w1c 0 0, w1c 1 1, w1c 2 2, w1c 3 3, w1c 4 4, w1c 5 5, w1c 6 6, w1c 7 7, w1c 8 8] },
    { base := 0x300B0000, strides := [(0x40, 512)], fields := [ro 15 0, ro 16 16, w1c 17 17] },
    { base := 0x300B0004, strides := [(0x40, 512)], fields := [rw 0 0 0, rw 1 1 0, rw 6 2 0, ro 7 7, w1c 8 8] },
    { base := 0x300B0008, strides := [(0x40, 512), (4, 6)], fields := [rw 31 0 0] },
    { base := 0x300B0020, strides := [(0x40, 512)], fields := [ro 10 0] },
    { base := 0x300B8000, strides := [], fields := [wo 8 0, wo 9 9, wo 10 10, wo 11 11] },
    { base := 0x300B8004, strides := [], fields := [ro 0 0, ro 1 1] } ]

/-- MT_ registers (R326, R327). -/
def regsMT : List RegDesc :=
  [ { base := 0x46000000, strides := [], fields := [wo 1 0] },
    { base := 0x46000004, strides := [], fields := [ro 0 0, ro 2 1, ro 3 3, ro 20 4] },
    { base := 0x46000008, strides := [], fields := [ro 31 0] },
    { base := 0x46000010, strides := [(4, 2)], fields := [ro 31 0] },
    { base := 0x46000020, strides := [], fields := [rw 31 0 0] },
    { base := 0x46000024, strides := [], fields := [ro 15 0] },
    { base := 0x46000028, strides := [], fields := [rw 15 0 0] },
    { base := 0x46000030, strides := [], fields := [rw 16 0 0, rw 17 17 0, rw 18 18 0] },
    { base := 0x46000034, strides := [], fields := [wo 0 0] },
    { base := 0x46000040, strides := [(4, 16)], fields := [ro 31 0] } ]

/-- HT_ and EV_ registers (R395–R398, R564–R567). Sources 3648–3903 are routed to hart 0 at level 3 (R385). -/
def regsEV : List RegDesc :=
  [ { base := 0x31000000, strides := [(0x1000, 8)], fields := [wo 2 0] },
    { base := 0x31000004, strides := [(0x1000, 8)],
      fields := [ro 2 0, ro 4 3, ro 5 5, ro 6 6, ro 7 7, ro 11 8, ro 12 12, ro 13 13, ro 14 14, w1c 15 15, w1c 16 16] },
    { base := 0x31000008, strides := [(0x1000, 8)], fields := [ro 31 0] },
    { base := 0x3100000C, strides := [(0x1000, 8)], fields := [rw 31 2 0] },
    { base := 0x31000010, strides := [(0x1000, 8), (4, 3)], fields := [ro 31 0] },
    { base := 0x3100001C, strides := [(0x1000, 8)], fields := [wo 0 0] },
    { base := 0x31000020, strides := [(0x1000, 8)], fields := [rc 11 0, rc 12 12, rc 13 13] },
    { base := 0x31000040, strides := [(0x1000, 8), (4, 12)], fields := [ro 31 0] },
    { base := 0x30030000, strides := [], fields := [rw 2 0 0] },
    { base := 0x30030004, strides := [], fields := [ro 12 0] },
    { base := 0x30030008, strides := [], fields := [wo 11 0] },
    { base := 0x30031000, strides := [(4, 4096)], fields := [rw 1 0 0, rw 4 2 0, rw 5 5 0, rw 13 6 0, rw 14 14 0, rw 20 15 0],
      special := some (fun a => let s := (a - 0x30031000) / 4; if 3648 ≤ s ∧ s ≤ 3903 then 0x21 else 0) },
    { base := 0x30035000, strides := [(4, 128)], fields := [w1c 31 0] },
    { base := 0x30038000, strides := [], fields := [rw 0 0 1] },
    { base := 0x30038004, strides := [], fields := [ro 31 0] },
    { base := 0x30038008, strides := [], fields := [ro 15 0] },
    { base := 0x30038010, strides := [(4, 4)], fields := [ro 9 0, ro 10 10] },
    { base := 0x30038020, strides := [], fields := [rw 15 0 10000, rw 23 16 16], legal := fun v => 100 ≤ bitsOf v 15 0 && 1 ≤ bitsOf v 23 16 },
    { base := 0x30038024, strides := [], fields := [ro 7 0, ro 15 8] } ]

/-- MP_ and DM_ registers (R427–R429, R653). -/
def regsMP : List RegDesc :=
  [ { base := 0x30080000, strides := [(0x400, 27), (0x10, 32)], fields := [rw 31 6 0] },
    { base := 0x30080004, strides := [(0x400, 27), (0x10, 32)], fields := [rw 31 6 0],
      special := some (fun a => let o := a - 0x30080004; if o % 0x400 = 0 ∧ o / 0x400 < 8 then 0xFFFFFFC0 else 0) },
    { base := 0x30080008, strides := [(0x400, 27), (0x10, 32)],
      fields := [rw 0 0 0, rw 1 1 0, rw 2 2 0, rw 3 3 0, rw 4 4 0, rw 5 5 0, rw 6 6 0, rw 7 7 0, ⟨8, 8, .w1s, 0⟩],
      special := some (fun a => let o := a - 0x30080008; if o % 0x400 = 0 ∧ o / 0x400 < 8 then 0x71 else 0) },
    { base := 0x30080200, strides := [(0x400, 27)], fields := [rw 7 0 0, rw 15 8 0],
      special := some (fun a => if (a - 0x30080200) / 0x400 < 8 then 0x100 else 0) },
    { base := 0x30080204, strides := [(0x400, 27)], fields := [ro 31 0] },
    { base := 0x30080208, strides := [(0x400, 27)], fields := [ro 7 0, ro 10 8, ro 12 11, w1c 13 13] },
    { base := 0x30088000, strides := [], fields := [rw 31 6 0] },
    { base := 0x30088004, strides := [], fields := [rw 16 0 0] },
    { base := 0x30088008, strides := [], fields := [rw 7 0 0, rw 15 8 0] },
    { base := 0x3008800C, strides := [], fields := [wo 1 0] },
    { base := 0x30088010, strides := [], fields := [ro 0 0, ro 17 1] },
    { base := 0x30088014, strides := [], fields := [rw 16 0 0] },
    { base := 0x30088018, strides := [], fields := [ro 7 0, ro 8 8] },
    { base := 0x30088200, strides := [], fields := [rw 4 0 0, rw 14 5 0, wo 15 15] },
    { base := 0x30088204, strides := [], fields := [ro 0 0, ro 2 1, ro 7 3] },
    { base := 0x30070000, strides := [(0x100, 16), (4, 4)], fields := [rw 31 0 0] },
    { base := 0x30070010, strides := [(0x100, 16)], fields := [rw 23 0 0] },
    { base := 0x30070014, strides := [(0x100, 16)], fields := [rw 0 0 0, rw 1 1 0, rw 2 2 0, rw 4 3 0] },
    { base := 0x30070018, strides := [(0x100, 16)], fields := [rw 7 0 0, rw 8 8 0, rw 31 16 0] },
    { base := 0x3007001C, strides := [(0x100, 16)], fields := [wo 0 0, wo 1 1, wo 2 2, wo 3 3] },
    { base := 0x30070020, strides := [(0x100, 16)], fields := [ro 2 0, ro 6 3, ro 7 7, ro 8 8, ro 9 9, ro 13 10] },
    { base := 0x30070024, strides := [(0x100, 16), (4, 2)], fields := [ro 31 0] },
    { base := 0x3007002C, strides := [(0x100, 16)], fields := [ro 15 0] } ]

/-- LI_ and RG_ registers (R451, R452, R472, R473). -/
def regsLI : List RegDesc :=
  [ { base := 0x30050000, strides := [], fields := [rw 0 0 1, rw 11 1 1600] },
    { base := 0x30050004, strides := [], fields := [ro 8 0, ro 12 9, ro 13 13, ro 22 14] },
    { base := 0x30050008, strides := [], fields := [wo 8 0, wo 11 9] },
    { base := 0x30051000, strides := [(0x40, 272)], fields := [rw 5 0 0, rw 6 6 0, rw 14 7 0, rw 24 16 0] },
    { base := 0x30051004, strides := [(0x40, 272)], fields := [rw 7 0 0] },
    { base := 0x30051008, strides := [(0x40, 272), (4, 10)], fields := [rw 31 0 0] },
    { base := 0x30051030, strides := [(0x40, 272), (4, 4)], fields := [] },
    { base := 0x30056000, strides := [(4, 272)], fields := [ro 2 0, ro 6 3, ro 10 7, ro 11 11, ro 19 12] },
    { base := 0x30057000, strides := [(4, 512)], fields := [rw 7 0 0] },
    { base := 0x30057800, strides := [(4, 512)], fields := [ro 31 0] },
    { base := 0x30040000, strides := [], fields := [rw 0 0 0, rw 16 1 1024, rw 31 17 1000] },
    { base := 0x30040004, strides := [], fields := [ro 2 0, ro 13 3, ro 14 14, ro 16 15, ro 24 17] },
    { base := 0x30040008, strides := [], fields := [wo 2 0] },
    { base := 0x3004000C, strides := [], fields := [rw 5 0 32, rw 17 8 102, rw 23 18 48] },
    { base := 0x30040010, strides := [], fields := [ro 3 0, ro 6 4, ro 9 7, ro 10 10] },
    { base := 0x30040020, strides := [(4, 8)], fields := [ro 15 0] },
    { base := 0x30040040, strides := [(0x20, 2)], fields := [wo 4 0] },
    { base := 0x30040044, strides := [(0x20, 2)], fields := [ro 4 0, ro 5 5, ro 6 6] },
    { base := 0x30040048, strides := [(0x20, 2), (4, 4)], fields := [ro 31 0] },
    { base := 0x30040100, strides := [(0x40, 2), (4, 12)], fields := [rw 31 0 0] } ]

/-- FL_ and PW_ registers (R500, R529, R530, R652). -/
def regsFL : List RegDesc :=
  [ { base := 0x30060000, strides := [], fields := [rw 4 0 10, rw 9 5 14, rw 11 10 2] },
    { base := 0x30060004, strides := [], fields := [ro 0 0, ro 1 1, ro 4 2, ro 7 5, ro 10 8, ro 11 11] },
    { base := 0x30060008, strides := [], fields := [wo 15 0] },
    { base := 0x3006000C, strides := [], fields := [wo 2 0, wo 5 3] },
    { base := 0x30060010, strides := [], fields := [wo 31 0] },
    { base := 0x30060014, strides := [], fields := [ro 2 0, ro 5 3, ro 10 6, ro 21 11, ro 31 22] },
    { base := 0x30060018, strides := [], fields := [ro 31 0] },
    { base := 0x30060020, strides := [(4, 4)], fields := [rw 10 0 0, rw 26 16 0, rw 31 31 0] },
    { base := 0x30060040, strides := [(4, 64)], fields := [wo 31 0] },
    { base := 0x30060200, strides := [], fields := [rw 10 0 0] },
    { base := 0x30060204, strides := [], fields := [ro 16 0] },
    { base := 0x30060208, strides := [], fields := [ro 14 0] },
    { base := 0x3006020C, strides := [], fields := [ro 4 0, ro 9 5, ro 11 10, ro 13 12, ro 14 14] },
    { base := 0x30060210, strides := [], fields := [ro 31 0] },
    { base := 0x30000000, strides := [], fields := [ro 2 0, ro 6 3] },
    { base := 0x30000004, strides := [], fields := [ro 2 0, ro 3 3, ro 4 4, ro 5 5] },
    { base := 0x30000008, strides := [], fields := [wo 2 0, wo 15 8] },
    { base := 0x3000000C, strides := [], fields := [rw 0 0 1, rw 10 1 100, rw 11 11 1], legal := fun v => 10 ≤ bitsOf v 10 1 },
    { base := 0x30000010, strides := [], fields := [ro 13 0] },
    { base := 0x30000014, strides := [], fields := [ro 0 0, ro 1 1, ro 2 2, ro 3 3, ro 8 4, ro 9 9, ro 10 10] },
    { base := 0x30000018, strides := [], fields := [wo 0 0, wo 1 1, rw 8 4 10], legal := fun v => 1 ≤ bitsOf v 8 4 && bitsOf v 8 4 ≤ 18 },
    { base := 0x3000001C, strides := [], fields := [ro 0 0, ro 2 1, ro 7 3] },
    { base := 0x30000044, strides := [(4, 15)], fields := [ro 31 0] },
    { base := 0x30004000, strides := [(4, 4096)], fields := [ro 31 0] },
    { base := 0x30000080, strides := [], fields := [ro 5 0, ro 6 6, ro 7 7] },
    { base := 0x30000200, strides := [], fields := [ro 3 0, ro 6 4, ro 7 7] },
    { base := 0x30000204, strides := [], fields := [wo 2 0] },
    { base := 0x30000208, strides := [], fields := [ro 1 0, ro 2 2, ro 18 3] },
    { base := 0x3000020C, strides := [], fields := [rw 15 0 300, wo 16 16, wo 17 17], legal := fun v => 10 ≤ bitsOf v 15 0 && bitsOf v 15 0 ≤ 3600 } ]

/-- The default filter of monitor `m` (R534): count, window in ms, level. -/
def monitorDefault (m : Nat) : Nat × Nat × Nat :=
  if m ≤ 7 then (2, 10, 4)
  else if m = 8 ∨ m = 13 then (4, 10, 3)
  else if m = 9 ∨ m = 14 then (8, 100, 1)
  else if m = 10 ∨ m = 15 then (1, 1, 4)
  else if m = 11 ∨ m = 16 then (1, 1, 4)
  else if m = 12 ∨ m = 17 then (1, 1, 5)
  else if m = 18 then (2, 1000, 1)
  else if m = 19 then (1, 1, 1)
  else if m = 20 then (1, 1, 3)
  else if m = 21 then (1, 1, 0)
  else (0, 0, 0)

/-- TM_MCFG_m after a life-cycle change (R534, R564). -/
def mcfgReset (m : Nat) : Nat :=
  if m ≤ 21 then
    let d := monitorDefault m
    packFields [(1, 0), (d.1, 2), (d.2.1, 7), (d.2.2, 21)]
  else 0

/-- TM_ and LC_ registers (R564, R587). -/
def regsTM : List RegDesc :=
  [ { base := 0x30020000, strides := [], fields := [rw 0 0 0] },
    { base := 0x30020004, strides := [], fields := [ro 2 0, ro 3 3, ro 4 4] },
    { base := 0x30020008, strides := [], fields := [wo 2 0, wo 31 16], legal := fun v => bitsOf v 2 0 ≤ 5 },
    { base := 0x3002000C, strides := [(4, 3)], fields := [ro 31 0] },
    { base := 0x30020018, strides := [], fields := [ro 31 0] },
    { base := 0x3002001C, strides := [], fields := [ro 15 0] },
    { base := 0x30020020, strides := [(4, 2)], fields := [ro 31 0] },
    { base := 0x30020028, strides := [(4, 2)], fields := [rw 31 0 0] },
    { base := 0x30020100, strides := [(4, 32)], fields := [rw 1 0 0, rw 6 2 0, rw 20 7 0, rw 23 21 0],
      legal := fun v => bitsOf v 1 0 ≠ 3, special := some (fun a => mcfgReset ((a - 0x30020100) / 4)) },
    { base := 0x30020180, strides := [(4, 32)], fields := [ro 0 0, ro 5 1] },
    { base := 0x30028000, strides := [(4, 4104)], fields := [ro 31 0] },
    { base := 0x30010000, strides := [], fields := [ro 2 0, ro 5 3, ro 10 6, ro 14 11, ro 15 15, ro 16 16, ro 17 17, ro 22 18] },
    { base := 0x30010010, strides := [(4, 4)], fields := [ro 31 0] },
    { base := 0x30010020, strides := [], fields := [wo 2 0, wo 5 3, wo 15 8] },
    { base := 0x30010024, strides := [], fields := [ro 0 0, ro 2 1] },
    { base := 0x30010040, strides := [(4, 12)], fields := [ro 31 0] } ]

/-- TG_ and CS_ registers (R610, R631). -/
def regsTG : List RegDesc :=
  [ { base := 0x300C0000, strides := [], fields := [rw 0 0 0, rw 1 1 1] },
    { base := 0x300C0004, strides := [], fields := [ro 0 0, ro 2 1, ro 3 3, ro 4 4, ro 5 5, ro 6 6] },
    { base := 0x300C0008, strides := [], fields := [ro 31 0] },
    { base := 0x300C000C, strides := [], fields := [wo 1 0, wo 6 4, wo 9 8] },
    { base := 0x300C0010, strides := [], fields := [ro 1 0, ro 2 2, ro 5 3] },
    { base := 0x300C0024, strides := [(4, 5)], fields := [ro 31 0] },
    { base := 0x300C0200, strides := [(4, 29)], fields := [rw 31 0 0] },
    { base := 0x300C0400, strides := [(4, 272)], fields := [rw 31 0 0] },
    { base := 0x300D0000, strides := [], fields := [rw 0 0 0, rw 2 1 0, rw 3 3 0] },
    { base := 0x300D0004, strides := [], fields := [ro 0 0, ro 1 1, ro 2 2, ro 3 3] },
    { base := 0x300D0008, strides := [], fields := [rw 31 0 0] },
    { base := 0x300D000C, strides := [], fields := [wo 5 0, wo 8 6, wo 9 9, wo 10 10, wo 11 11] },
    { base := 0x300D0010, strides := [], fields := [rw 4 0 0] },
    { base := 0x300D0020, strides := [(4, 4)], fields := [ro 31 0] },
    { base := 0x300D0030, strides := [], fields := [ro 3 0, ro 8 4] },
    { base := 0x300D0034, strides := [], fields := [rw 9 0 250], legal := fun v => bitsOf v 9 0 = 250 || bitsOf v 9 0 = 500 },
    { base := 0x300D8000, strides := [(4, 2048)], fields := [rw 31 0 0] } ]

/-- The 64-bit counters kept as _LO/_HI pairs: first _LO address, strides and count of pairs (R57 and the counter rules of
each chapter). -/
def regsCnt : List RegDesc :=
  [ { base := 0x30090040, strides := [(0x10000, 2), (4, 18)], fields := [ro 31 0] },
    { base := 0x300B8100, strides := [(4, 12)], fields := [ro 31 0] },
    { base := 0x46000100, strides := [(4, 10)], fields := [ro 31 0] },
    { base := 0x31000100, strides := [(0x1000, 8), (4, 12)], fields := [ro 31 0] },
    { base := 0x30030100, strides := [(4, 12)], fields := [ro 31 0] },
    { base := 0x30038100, strides := [(4, 26)], fields := [ro 31 0] },
    { base := 0x30088100, strides := [(4, 12)], fields := [ro 31 0] },
    { base := 0x30070040, strides := [(0x100, 16), (4, 10)], fields := [ro 31 0] },
    { base := 0x30058000, strides := [(4, 14)], fields := [ro 31 0] },
    { base := 0x30040200, strides := [(4, 14)], fields := [ro 31 0] },
    { base := 0x30060300, strides := [(4, 16)], fields := [ro 31 0] },
    { base := 0x30000100, strides := [(4, 8)], fields := [ro 31 0] },
    { base := 0x30020200, strides := [(4, 12)], fields := [ro 31 0] },
    { base := 0x30010100, strides := [(4, 6)], fields := [ro 31 0] },
    { base := 0x300C0800, strides := [(4, 14)], fields := [ro 31 0] },
    { base := 0x300D0100, strides := [(4, 10)], fields := [ro 31 0] } ]

/-- Every register of the device. -/
def regTable : List RegDesc :=
  regsPB ++ regsST ++ regsTL ++ regsVD ++ regsGR ++ regsHF ++ regsMT ++ regsEV ++ regsMP ++ regsLI ++ regsFL ++ regsTM ++ regsTG ++ regsCnt

/-- An offset lies on the lattice of (stride, count) pairs. -/
def onStrides : List (Nat × Nat) → Nat → Bool
  | [], o => o == 0
  | (s, n) :: r, o => decide (o / s < n) && onStrides r (o % s)

/-- The register at an address, where the tables assign one. -/
def regAt (a : Nat) : Option RegDesc := regTable.find? (fun d => decide (d.base ≤ a) && onStrides d.strides (a - d.base))

/-- The reset value of a register: its fields' Reset column, or its index's value. -/
def RegDesc.reset (d : RegDesc) (a : Nat) : Nat :=
  match d.special with
  | some f => f a
  | none => packFields (d.fields.map (fun f => (f.rst, f.lsb)))

/-- What an unlisted register of the register file reads: its reset value, or 0 where no table assigns the address. -/
def regReset (a : Nat) : W32 :=
  match regAt a with
  | some d => w32 (d.reset a)
  | none => 0

/-- The bits of a register that fields of the given codes cover. -/
def RegDesc.mask (d : RegDesc) (p : Acc → Bool) : Nat :=
  d.fields.foldl (fun m f => if p f.acc then m ||| maskOf f.msb f.lsb else m) 0

/-- The bits that some named field covers; the others are reserved (R15). -/
def RegDesc.named (d : RegDesc) : Nat := d.mask (fun _ => true)

end Sys2Proof.Machine
end

