-- ==== Sys2Proof/Machine/Types.lean ====
section
/-! DEFINITION. The kinds of data the state is made of, line die first: sides, frames, SA entries, tillers, the granary and
the culm; then the event router and recorder. All plain data. -/

namespace Sys2Proof.Machine

/-- The side a direction's frames arrive on. -/
def inSide : Dir → Side
  | .egress => .host
  | .ingress => .line

/-- The side a direction's frames leave on. -/
def outSide : Dir → Side
  | .egress => .line
  | .ingress => .host

/-- The direction of frames arriving on a side. -/
def dirOf : Side → Dir
  | .host => .egress
  | .line => .ingress

def sideNum : Side → Nat
  | .host => 0
  | .line => 1

def dirNum : Dir → Nat
  | .egress => 0
  | .ingress => 1

def otherSide : Side → Side
  | .host => .line
  | .line => .host

/-- Link states of R32. -/
inductive Link where | disabled | waitSignal | an | training | aligning | up | fault | degraded
deriving DecidableEq, Repr

def Link.code : Link → Nat
  | .disabled => 0 | .waitSignal => 1 | .an => 2 | .training => 3
  | .aligning => 4 | .up => 5 | .fault => 6 | .degraded => 7

/-- The frame a side is receiving. -/
structure Recv where
  /-- its sequence number, 0 before resolution (R143) -/
  seq : Nat := 0
  /-- domain and cookie of a TO_HOST frame, copied at its end (R82) -/
  punt : Option (Nat × W32) := none
  /-- an uncorrectable codeword has corrupted it (R53) -/
  corrupt : Bool := false
deriving DecidableEq, Repr

/-- One side of one slot. -/
structure SideSt where
  link : Link := .disabled
  /-- alignment is held and UP_HOLD runs (R32) -/
  aligned : Bool := false
  /-- uncorrectable codewords of the current 1 ms window (R684) -/
  uncorr : Nat := 0
  /-- Clause 73 complete -/
  anDone : Bool := false
  /-- this side's transmitter is stopped by a received pause (R46) -/
  stopped : Bool := false
  /-- the device asserts a pause for the slot total on this side (R44, R45) -/
  pauseTot : Bool := false
  /-- priorities the device pauses for their own counts (R45) -/
  pausePri : Nat := 0
  /-- Local Fault is transmitted on this side under FOLLOW (R36) -/
  localFault : Bool := false
  /-- the partner did not advertise the ability, and the event has been raised (R30) -/
  anFail : Bool := false
  /-- the frame in reception -/
  recv : Option Recv := none
deriving DecidableEq, Repr

/-- Power and clocks of a port block (R51, R52). -/
structure BlockSt where
  gatedHost : Bool := false
  gatedLine : Bool := false
  active : Bool := false
  tclk : Bool := false
  wake : Bool := false
deriving DecidableEq, Repr

/-- One physical lane (R58). -/
structure LaneSt where
  sig : Bool := false
  cdr : Bool := false
  train : Nat := 0
  precTx : Bool := false
  precRx : Bool := false
  patErr : Nat := 0
  symErr : Nat := 0
deriving DecidableEq, Repr

/-- Actions of R69. -/
inductive Act where | drop | bypass | protect | validate | toHost
deriving DecidableEq, Repr

/-- The attribute word and the rest of an SA entry (R163, R164). -/
structure SaEntry where
  keyS0 : BitVec 256 := 0
  keyS1 : BitVec 256 := 0
  hS0 : BitVec 128 := 0
  hS1 : BitVec 128 := 0
  salt : BitVec 96 := 0
  ssci : W32 := 0
  nextPn : W64 := 0
  window : W32 := 0
  attr : W32 := 0
deriving DecidableEq, Repr

namespace SaEntry
def valid (e : SaEntry) : Bool := fld e.attr 0 0 == 1
def rx (e : SaEntry) : Bool := fld e.attr 1 1 == 1
def suite (e : SaEntry) : Nat := fld e.attr 3 2
def an (e : SaEntry) : Nat := fld e.attr 5 4
def domain (e : SaEntry) : Nat := fld e.attr 17 6
def noExport (e : SaEntry) : Bool := fld e.attr 18 18 == 1
def purging (e : SaEntry) : Bool := fld e.attr 19 19 == 1
def storeFwd (e : SaEntry) : Bool := fld e.attr 20 20 == 1
def conf (e : SaEntry) : Bool := fld e.attr 21 21 == 1
/-- confidentiality offset in octets (R133) -/
def offset (e : SaEntry) : Nat := if fld e.attr 23 22 = 1 then 30 else if fld e.attr 23 22 = 2 then 50 else 0
def sectag (e : SaEntry) : Nat := fld e.attr 25 24
def clearTags (e : SaEntry) : Nat := fld e.attr 27 26
def strict (e : SaEntry) : Bool := fld e.attr 28 28 == 1
def replayProtect (e : SaEntry) : Bool := fld e.attr 29 29 == 1
def epoch (e : SaEntry) : Bool := fld e.attr 30 30 == 1
/-- XPN suites are 0b10 and 0b11 (R131) -/
def xpn (e : SaEntry) : Bool := decide (2 ≤ e.suite)
/-- 128-bit suites are 0b00 and 0b10 (R131) -/
def short (e : SaEntry) : Bool := e.suite % 2 == 0
/-- last usable PN (R184) -/
def lastPn (e : SaEntry) : Nat := if e.xpn then 0xFFFFFFFFFFFFFFFF else 0xFFFFFFFF
/-- the next PN as a number: 0, which no install accepts, records 2^64 (R184) -/
def nextVal (e : SaEntry) : Nat := if e.nextPn = 0 then 2 ^ 64 else e.nextPn.toNat
/-- a transmit slot is exhausted once its NEXT_PN exceeds the last usable PN (R184) -/
def exhausted (e : SaEntry) : Bool := decide (e.lastPn < e.nextVal)
/-- the PNs that remain, from NEXT_PN through the last usable PN (R185) -/
def remain (e : SaEntry) : Nat := e.lastPn + 1 - e.nextVal
/-- lowest acceptable PN: next PN less REPLAY_WINDOW, or 1 if that is below 1 (R141) -/
def lowest (e : SaEntry) : Nat := if e.nextVal < e.window.toNat + 1 then 1 else e.nextVal - e.window.toNat
/-- the key: share 0 XOR share 1 (R163) -/
def key (e : SaEntry) : BitVec 256 := e.keyS0 ^^^ e.keyS1
end SaEntry

/-- What marks a frame carries to the verdict stage (R72, R76, R95, R105, R122). -/
inductive Mark where | none | noSa | noTiller | untagged | purged | twinFail
deriving DecidableEq, Repr

/-- Input errors of a frame found at its end (R39, R53). -/
inductive InBad where | none | fcs | long | lost
deriving DecidableEq, Repr

/-- Where a frame stands between arrival and release. -/
inductive FStage where
  /-- arriving, not yet resolved -/
  | arriving
  /-- resolved, its SA fetch requested (R77) -/
  | fetchWait
  /-- fetch granted: admitted, the direction-queue entry reserved (R74, R93) -/
  | granted
  /-- in the direction queue (R92) -/
  | queued
  /-- in a tiller -/
  | inTiller (t : Nat)
  /-- every block released, or on the direct lane (R143) -/
  | lane
deriving DecidableEq, Repr

/-- The end a started frame gets (R147). -/
inductive Fate where | pass | stompFull | stompTrunc
deriving DecidableEq, Repr

/-- A frame held in headroom, from arrival to its last octet. -/
structure Frame where
  /-- the sequence number given at resolution, 0 before it (R143) -/
  seq : Nat := 0
  /-- the steering stage that resolved it (R78) -/
  stg : Nat := 0
  octets : List Byte := []
  ended : Bool := false
  bad : InBad := .none
  prio : Nat := 0
  cells : Nat := 0
  stage : FStage := .arriving
  act : Act := .drop
  domain : Nat := 0
  sc : Nat := 0
  slot : Option Nat := none
  entry : SaEntry := {}
  /-- PN given at grant, or recovered PN of a received frame -/
  pn : Nat := 0
  /-- the SCI table's entry as the frame is handed to a tiller (R134) -/
  sci : W64 := 0
  mark : Mark := .none
  headOk : Bool := false
  started : Bool := false
  /-- output blocks released -/
  blocks : Nat := 0
  fate : Option Fate := none
  injected : Bool := false
  /-- the fetched entry had an uncorrectable error (R84) -/
  fetchBad : Bool := false
  /-- what the frame leaves as, once its verdict is made -/
  out : List Byte := []
  /-- class bits of the tags and SecTAG as resolved, for IN_UNKNOWN_SCI and IN_NO_SCI -/
  hadSectag : Bool := false
  hadSci : Bool := false
deriving DecidableEq, Repr

/-- A punted frame (R82, ST_PUNT_DESC). -/
structure PuntFrame where
  octets : List Byte
  slot : Nat
  dir : Dir
  domain : Nat
  cookie : W32
  offset : Nat
  seq : Nat
deriving DecidableEq, Repr

/-- Tiller states of R109. -/
inductive TState where | retired | ready | active | draining | quarantined | testing
deriving DecidableEq, Repr

def TState.code : TState → Nat
  | .retired => 0 | .ready => 1 | .active => 2 | .draining => 3 | .quarantined => 4 | .testing => 5

/-- One tiller (R109–R114, R128). -/
structure Tiller where
  st : TState
  pos : Nat
  strikes : Nat := 0
  kat : Nat := 0
  need : Nat := 0
  mm0 : W32 := 0
  mm1 : W32 := 0
  katInfo : W32 := 0
  /-- the order in which tillers became READY; lower is longer ago (R115) -/
  since : Nat := 0
  /-- what a DRAINING tiller becomes (R109): true RETIRED, false TESTING -/
  retireNext : Bool := false
  /-- next patrol vector (R113); 24 is the comparator check -/
  patrol : Nat := 0
  /-- when it was last attached, and the microseconds it has spent attached before that (ACTIVE_MS) -/
  activeAt : Nat := 0
  activeUs : Nat := 0
  /-- the frames it holds, as (port, sequence number), in the order taken -/
  held : List (Nat × Nat) := []
deriving DecidableEq, Repr

/-- Every tiller's state after reset: tiller t attached at position t for t = 0–63, the rest READY (R91). -/
def tillerInit (t : Nat) : Tiller := { st := if t < 64 then .active else .ready, pos := if t < 64 then t else 0 }

/-- A swap in progress at a position (R106, R111). -/
structure Swap where
  pos : Nat
  reserve : Nat
  /-- planned swaps keep the outgoing tiller until the boundary -/
  planned : Bool
  /-- the tiller whose failure or whose position this is, for offset 4 (R107, R127) -/
  blame : Nat
  /-- link check has failed once -/
  failedOnce : Bool := false
  /-- link check passed: a planned swap waits for the frame boundary -/
  checked : Bool := false
  /-- the outgoing tiller is to be RETIRED, else TESTED -/
  retire : Bool := false
  rotation : Bool := false
deriving DecidableEq, Repr

/-- VD_LASTERR (R158). -/
structure LastErr where
  e0 : W32 := 0
  seq : W32 := 0
  pn : W32 := 0
deriving DecidableEq, Repr

/-- The line path: port blocks, steering, tillers and verdict stages. -/
structure LineSt where
  sides : Tbl SideSt := []
  blocks : Tbl BlockSt := []
  lanes : Tbl LaneSt := []
  /-- frames of each port and direction in arrival order; key 2·port + direction -/
  frames : Tbl (List Frame) := []
  seqs : Tbl Nat := []
  /-- direction queues: (port, sequence number); key 2·block + direction -/
  queues : Tbl (List (Nat × Nat)) := []
  em : Tbl (List W32) := []
  rules : Tbl (List W32) := []
  txan : Tbl Nat := []
  punt : Tbl (List PuntFrame) := []
  puntPtr : Tbl Nat := []
  /-- tokens each slot's punt bucket lacks to PUNT_BURST (R82) -/
  puntUsed : Tbl Nat := []
  /-- a frame waits in the stage's staging buffer (R83) -/
  injWait : Tbl Bool := []
  tillers : Tbl Tiller := []
  swaps : List Swap := []
  readyCtr : Nat := 1
  rotPtr : Nat := 0
  step : Nat := 0
  /-- target of a step change in progress (R120) -/
  stepTo : Option Nat := none
  /-- a further change that waits for it -/
  stepNext : Option Nat := none
  /-- the start-up known-answer tests of R114 run -/
  startTest : Bool := false
  /-- the steward's retirement record in flash: tiller and first failing vector (R114) -/
  retireRec : List (Nat × Nat) := []
  /-- mismatch times counted toward MM_COUNT, newest first (R108) -/
  mmTimes : List Nat := []
  /-- every mismatch time, for MM_RECENT -/
  mmAll : List Nat := []
  lastErr : Tbl LastErr := []
  icvTimes : Tbl (List Nat) := []
  sci : Tbl W64 := []
deriving DecidableEq, Repr

/-- A granary command in progress (R178). -/
structure GrCmd where
  op : Nat
  slot : Nat
  /-- code the command completes with if nothing intervenes -/
  code : Nat
  entry : SaEntry := {}
deriving DecidableEq, Repr

/-- A drain fence: the descriptors it waits for, as (port, direction, sequence number) (R179). -/
structure Fence where
  slot : Nat
  waits : List (Nat × Nat × Nat)
deriving DecidableEq, Repr

/-- The granary (R161–R188, R197). -/
structure GranSt where
  slots : Tbl SaEntry := []
  /-- slots whose PN margin event has been raised since install (R185) -/
  margins : Tbl Bool := []
  xfer : Tbl W32 := []
  written : Tbl Bool := []
  cmd : Option GrCmd := none
  /-- GR_RESULT and GR_RD_n -/
  resSlot : Nat := 0
  resOp : Nat := 0
  resCode : Nat := 0
  resSeq : Nat := 0
  rd : List W32 := []
  fences : List Fence := []
  zeroed : Bool := false
  /-- ZEROISE writing and reading back (R188) -/
  zeroising : Bool := false
  /-- the seed whose keystream masks now (R169) -/
  seed : Option (BitVec 256) := none
  /-- a fresh seed received for the next sweep -/
  seedNext : Option (BitVec 256) := none
  paused : Bool := false
  ptr : Nat := 0
  /-- a sweep is running -/
  sweeping : Bool := false
  sparesUsed : Tbl Nat := []
deriving DecidableEq, Repr

/-- The culm as both its endpoints see it (R189–R194). -/
structure CulmSt where
  paired : Bool := false
  session : Bool := false
  /-- nonces of the set-up in progress or of the session: control die, line die (R190) -/
  nonceC : BitVec 256 := 0
  nonceL : BitVec 256 := 0
  starting : Bool := false
  /-- flit sequence numbers sent: to the line die, to the control die -/
  seqDown : Nat := 0
  seqUp : Nat := 0
  failsDown : Nat := 0
  failsUp : Nat := 0
  /-- lanes taken out of use -/
  failed : Nat := 0
  spares : Nat := 0
  half : Bool := false
  /-- the 5 µs stop of R192 runs -/
  halted : Bool := false
deriving DecidableEq, Repr

/-- One raising of a source: code, count and data (R553–R556). -/
structure Raising where
  src : Nat
  code : Nat
  count : Nat
  data : List Nat
deriving DecidableEq, Repr

/-- The latest recorder record of a source (R555): its place, SEQ, code and REPEAT. -/
structure EvLast where
  slot : Nat
  seq : Nat
  code : Nat
  rep : Nat
deriving DecidableEq, Repr

/-- Router and recorder (R384–R389, R553–R561). -/
structure EvSt where
  /-- sources pending on HART routes -/
  pend : Tbl Bool := []
  /-- raisings held by their source blocks until the intake takes them -/
  held : List Raising := []
  /-- the intake of 512 entries, oldest first -/
  intake : List Raising := []
  /-- each class's area: slots that hold a record of this start, and the latest record of each source -/
  filled : Tbl Nat := []
  latest : Tbl (Option EvLast) := []
  heads : Tbl Nat := []
  gapped : Tbl Bool := []
  /-- losses since the last gap record, per class -/
  gapLoss : Tbl Nat := []
  seq : Nat := 0
  /-- quarters closed and waiting to be mirrored: (class, quarter) -/
  quarters : List (Nat × Nat) := []
  /-- recorder mirror tokens, −16 to 16, and tamper-log mirror tokens (EV_RC_TOKENS) -/
  recTok : Int := 16
  logTok : Int := 8
  /-- next segment of the mirror's flash ring (R559) -/
  mirSeg : Nat := 0
deriving DecidableEq, Repr

/-- One MSI-X vector: table entry, pending cause, moderation and bucket (R224, R561). -/
structure VecSt where
  masked : Bool := true
  addr : W64 := 0
  data : W32 := 0
  pend : Bool := false
  running : Bool := false
  last : Option Nat := none
  compl : Nat := 0
  /-- messages the bucket lacks to its BURST -/
  used : Nat := 0
  /-- the pending message has been counted as held, or as deferred -/
  heldCnt : Bool := false
  deferCnt : Bool := false
deriving DecidableEq, Repr

end Sys2Proof.Machine
end

