-- ==== Sys2Proof/Machine/TypesCtl.lean ====
section
/-! DEFINITION. Data of the control die, part one: modes and starting (chapter 16), the tamper domain (chapter 17). -/

namespace Sys2Proof.Machine

/-- The modes of R502; FIELD is the tag's own and may hold beside another (R503). `off` is no mode: no main power, no VBAT. -/
inductive Mode where | off | backup | dormant | starting | service | lockdown
deriving DecidableEq, Repr

/-- One PLL pair: which PLL is in use, which are locked, and whether the idle one failed its last attempt (R511, R512). -/
structure Pll where
  activeB : Bool := false
  lockA : Bool := false
  lockB : Bool := false
  failed : Bool := false
  /-- since when the PLL not in use has held a lock that a retry gave it -/
  relock : Option Nat := none
deriving DecidableEq, Repr

/-- Power and modes (R502–R530). -/
structure PwSt where
  mode : Mode := .starting
  /-- last step of R514 completed -/
  step : Nat := 0
  /-- cause code of PW_CAUSE -/
  cause : Nat := 0
  lcPending : Bool := false
  lockLatch : Bool := false
  lostFound : Bool := false
  /-- the time of step 1 -/
  startAt : Nat := 0
  /-- PW_T_n by n -/
  times : Tbl Nat := []
  /-- control fast, line system, tiller -/
  plls : List Pll := [{}, {}, {}]
  /-- control fast PLLs stopped (R513) -/
  stopped : Bool := false
  /-- the wipe of R508 has completed in this start -/
  wiped : Bool := false
  rootOk : Bool := false
  gen : Nat := 0
  otherValid : Bool := false
  repeated : Bool := false
  worst : Nat := 0
  pufFail : Bool := false
  /-- REFRESH (1) or CHECK (2) in progress, 0 when none -/
  pufBusy : Nat := 0
  refreshed : Bool := false
  /-- REFRESHes completed in the model's life, and whether a generation has been committed in this start -/
  helperN : Nat := 0
  committed : Bool := false
  pufRes : Nat := 0
  pufResWorst : Nat := 0
  /-- a DORMANT request waits for step 12 (R504) -/
  dormantWait : Bool := false
  /-- step of the DORMANT sequence of R522, 0 when none runs -/
  dormantStep : Nat := 0
  /-- rails in range, PWR_OK, VBAT_OK and VBAT_LOW (R529, R663) -/
  vbatOk : Bool := true
  vbatLow : Bool := false
  mainGood : Bool := true
  /-- the time main power was last present, for BROWNOUT (R505) -/
  lastMain : Nat := 0
  /-- HOLD_N is low -/
  holdLow : Bool := false
  /-- hottest sensor of each die, as SMBus TEMP gives it (R524) -/
  tempC : Nat := 255
  tempL : Nat := 255
  /-- the life-cycle state has been decoded in this start -/
  decoded : Bool := false
  /-- the line-die tests of step 9 have begun in this start -/
  tested : Bool := false
  /-- DORMANT followed a PLL failure, or a COMMIT that would not burn: what SMBus CAUSE records (R512, R576) -/
  pllLost : Bool := false
  commitFail : Bool := false
deriving DecidableEq, Repr

/-- A tamper-log record (R549). -/
structure LogRec where
  lseq : Nat
  tsc : Nat
  kind : Nat
  monitor : Nat
  level : Nat
  flags : Nat
  count : Nat
  data : List Nat
deriving DecidableEq, Repr

/-- One monitor's filter (R535). -/
structure MonSt where
  /-- times of the last N events, newest first, in microseconds -/
  times : List Nat := []
  /-- events in the record -/
  count : Nat := 0
  /-- stamp of the record's first event -/
  firstTsc : Nat := 0
  asserted : Bool := false
  last : Nat := 0
  /-- response of the last event, which monitor 21's decision gives (R548) -/
  lastResp : Nat := 0
deriving DecidableEq, Repr

/-- A monitor's firing. -/
structure Firing where
  mon : Nat
  level : Nat
  count : Nat
  first : Nat
  tsc : Nat
  concurrent : Bool
deriving DecidableEq, Repr

/-- The tamper part of the backup domain (R531–R552). -/
structure TmSt where
  latch : Bool := false
  backupLost : Bool := false
  /-- the signature matches (R533) -/
  sigOk : Bool := true
  tscBase : Nat := 0
  mons : Tbl MonSt := []
  /-- line-die firings that wait for a culm session (R538) -/
  late : List Firing := []
  fired : Nat := 0
  clearSeq : Nat := 0
  /-- the first 64 records ever appended, and the ring of the latest 448 -/
  first : List LogRec := []
  ring : List LogRec := []
  lseq : Nat := 0
  /-- records waiting to be appended, one a backup cycle (R549) -/
  logPend : List LogRec := []
  /-- the flash copy to be written next, and whether the log has changed since the last update (R551) -/
  nextB : Bool := false
  dirty : Bool := false
deriving DecidableEq, Repr

end Sys2Proof.Machine
end

