-- ==== Sys2Proof/Machine/TypesHost.lean ====
section
/-! DEFINITION. Data of the host endpoints and tenant functions (chapters 6 and 7), and what the device sends out. -/

namespace Sys2Proof.Machine

/-- Ring states of R221. -/
inductive Ring where | disabled | enabled | quiescing | stopped
deriving DecidableEq, Repr

def Ring.code : Ring → Nat
  | .disabled => 0 | .enabled => 1 | .quiescing => 2 | .stopped => 3

/-- A completion waiting to be written (R217, R219). `gen` is the generation of fetch. -/
structure Compl where
  gen : Nat
  tag : Nat
  status : Nat
  genField : Nat
  result : List Byte := []
  /-- result buffers written before the entry: (host address, octets) -/
  buffers : List (Nat × List Byte) := []
deriving DecidableEq, Repr

/-- A fetched ring entry not yet looked at: its generation of fetch and its 64 octets (R215). -/
structure RawEntry where
  gen : Nat
  octets : List Byte
deriving DecidableEq, Repr

/-- One line of the dirty-log cache (R252). -/
structure LogLine where
  fn : Nat
  bitmap : Nat
  word : Nat
  bits : W64
  /-- the word's read is in flight; `bits` holds the marks to be set -/
  filling : Bool := false
deriving DecidableEq, Repr

/-- One PCIe function (R203–R262). -/
structure FnSt where
  present : Bool := false
  ending : Bool := false
  gen : Nat := 0
  bme : Bool := false
  mse : Bool := false
  msixEn : Bool := false
  fmask : Bool := false
  d3 : Bool := false
  ring : Ring := .disabled
  cause : Nat := 0
  orTail : Nat := 0
  orHead : Nat := 0
  crTail : Nat := 0
  crHead : Nat := 0
  /-- agreed ring ABI, 0 when none -/
  abi : Nat := 0
  helloStatus : Nat := 0
  helloValid : Bool := false
  /-- entries of the order-entry read in flight, 0 when none (R218) -/
  reading : Nat := 0
  /-- a PHASE re-read is pending (R222) -/
  recheck : Bool := false
  /-- entries fetched and not yet looked at -/
  raw : List RawEntry := []
  /-- entries fetched and not completed (OUTSTANDING) -/
  out : Nat := 0
  /-- completions in completion order, waiting to be written -/
  compl : List Compl := []
  doms : List Nat := []
  hartW : Nat := 1
  liW : Nat := 0
  evVecs : Nat := 0
  maxOut : Nat := 16
  /-- agreed order format, service table and sheaf versions; 0 when none (R270) -/
  vFmt : Nat := 0
  vSvc : Nat := 0
  vSheaf : Nat := 0
  /-- virtual time of the sandbox-hart scheduling (R286) -/
  vtime : Nat := 0
  /-- EPOCH of the dirty log: HARVESTs since START (R260) -/
  logEpoch : Nat := 0
deriving DecidableEq, Repr

/-- Quotas of a domain (R239). -/
structure Quota where
  hard : Bool := false
  tx : Nat := 0
  rx : Nat := 0
  sa : Nat := 0
  em : Nat := 0
  rule : Nat := 0
deriving DecidableEq, Repr

/-- One endpoint's link and SR-IOV state (R202–R207). -/
structure EpSt where
  linkUp : Bool := false
  perst : Bool := true
  /-- the time from which configuration requests are answered without Request Retry Status (R206, R207) -/
  cfgAt : Option Nat := none
  ltssm : Nat := 0
  speed : Nat := 0
  width : Nat := 0
  vfEn : Bool := false
  numVfs : Nat := 0
  ari : Bool := false
  /-- VF Memory Space Enable -/
  vfMse : Bool := false
  /-- AER status bits set, by the base specification's bit number -/
  aer : Nat := 0
deriving DecidableEq, Repr

/-- The host side as a whole. -/
structure HostSt where
  eps : Tbl EpSt := []
  fns : Tbl FnSt := []
  vecs : Tbl VecSt := []
  quotas : Tbl Quota := []
  lines : List LogLine := []
  flushErr : Bool := false
deriving DecidableEq, Repr

/-- What leaves the device (log entry 7). -/
inductive Sent where
  /-- a frame on one side of a port, with the end it got -/
  | frame (port : Nat) (side : Side) (octets : List Byte) (fate : Fate)
  /-- a PAUSE frame with its quanta (R44) -/
  | pause (port : Nat) (side : Side) (quanta : Nat)
  /-- a PFC frame: priorities named and whether each is paused (R45) -/
  | pfc (port : Nat) (side : Side) (named : Nat) (paused : Nat) (quanta : Nat)
  /-- Local Fault ordered sets begun or ended (R36) -/
  | localFault (port : Nat) (side : Side) (on : Bool)
  /-- a memory write to a host, on behalf of a function -/
  | hostWrite (fn : Nat) (addr : Nat) (octets : List Byte)
  /-- a memory read request to a host -/
  | hostRead (fn : Nat) (addr : Nat) (len : Nat)
  /-- an MSI-X message -/
  | msix (fn : Nat) (vector : Nat) (addr : W64) (data : W32)
  /-- a PCIe completion answering a read, or Unsupported Request (none) -/
  | cpl (fn : Nat) (data : Option W32)
  /-- a flit over the culm, toward the line die or back: nonce, seed, heartbeat, register traffic -/
  | flit (down : Bool) (what : Nat) (data : Nat)
  /-- octets a serial interface answers: 0 SMBus, 1 JTAG, 2 the field tag -/
  | answer (port : Nat) (octets : List Byte)
  /-- an SD command, argument, and the octets sent with it -/
  | sd (index : Nat) (arg : W32) (octets : List Byte)
deriving DecidableEq, Repr

end Sys2Proof.Machine
end

