-- ==== Sys2Proof/Machine/TypesOrd.lean ====
section
/-! DEFINITION. Data of orders and services (chapter 8), harts (chapters 10 and 11) and DMA channels (chapter 12). -/

namespace Sys2Proof.Machine

/-- An entry of a hart's store buffer (R344): address, octets, data and the level that issued it. -/
structure StoreEnt where
  addr : Nat
  size : Nat
  data : W32
  level : Nat
deriving DecidableEq, Repr

/-- What a hart holds (R328, R349), with the causes that wait (R375) and what the steward runs on it. -/
structure Hart where
  pc : W32 := 0
  g : Tbl W32 := []
  p : Tbl Bool := []
  level : Nat := 3
  ie : Bool := false
  aw : Bool := false
  /-- LOOPMODE REPEAT (R350) -/
  rept : Bool := false
  /-- ATW as the window opened (R359) -/
  atw : Nat := 0
  /-- address of the ATOMIC that opened the last window -/
  atwAt : W32 := 0
  ls : Tbl W32 := []
  le : Tbl W32 := []
  lc : Tbl W32 := []
  /-- SV_PC, SV_PS, SV_CAUSE, SV_ADDR of level n at keys 4·(n−1) + 0…3 -/
  sv : Tbl W32 := []
  scr : Tbl W32 := []
  vbase : W32 := 0x400
  /-- the latched CYCLE_HI (R349) -/
  cycHi : Option W32 := none
  /-- BUDGET as last loaded -/
  budget : Nat := 0
  sbuf : List StoreEnt := []
  /-- LATE_STOREs waiting, oldest first: (level, address) -/
  late : List (Nat × Nat) := []
  /-- ATOMIC_OVERRUN waiting: level of its window and the ATOMIC's address -/
  ovr : Option (Nat × W32) := none
  budgetPend : Bool := false
  /-- HALT requested (R392) -/
  haltReq : Bool := false
  /-- source last taken at level 2 and at level 3 (R387) -/
  last2 : Nat := 4095
  last3 : Nat := 4095
  /-- service that the script has called and that has not returned (R357) -/
  svc : Option Nat := none
  /-- order that it serves -/
  job : Option Nat := none
  /-- a debug command feeds the halted hart one instruction, at this level (R583) -/
  fed : Option Nat := none
deriving DecidableEq, Repr

/-- What a service or an order waits for (R277). -/
inductive Wait where
  /-- 100 µs since the receive slot's previous install (R291) -/
  | spacing (slot : Nat)
  /-- the drain fence of the slot (R179) -/
  | fence (slot : Nat)
  /-- one of the eight drain fences to pass (R291) -/
  | fenceRoom
  /-- random numbers -/
  | rng
  /-- a long-integer job -/
  | li (job : Nat)
  /-- the next culm session: before the service has issued anything -/
  | culm
  /-- the next culm session, with a granary command for the slot outstanding (R291) -/
  | readBack (slot : Nat)
  /-- an entry of the long-integer job table (R449) -/
  | liRoom
  /-- a punted frame (R294) -/
  | punt
  /-- the wait for a punted frame has run out -/
  | timedOut
deriving DecidableEq, Repr

/-- Where an order stands. -/
inductive JStage where
  /-- fetched and checked, not dispatched -/
  | queued
  | running (h : Nat)
  /-- inside a service whose granary command is outstanding; the hart is kept -/
  | gran (h slot : Nat)
  | waiting (w : Wait)
  /-- its wait is over; the number orders the resumptions (R286) -/
  | ready (n : Nat)
deriving DecidableEq, Repr

/-- An order in the device-wide queue (R263–R286). -/
structure Job where
  id : Nat
  fn : Nat
  /-- generation of fetch -/
  gen : Nat
  tag : Nat
  genField : Nat
  kind : Nat
  argbuf : Bool := false
  serial : Bool := false
  domain : Nat := 0
  res : Nat := 0
  budget : Nat := 0
  /-- the argument octets (R274), or the HELLO pairs -/
  args : List Byte := []
  resAddr : Nat := 0
  resLen : Nat := 0
  code : List Byte := []
  entry : Nat := 0
  rept : Bool := false
  sandbox : Option Nat := none
  stage : JStage := .queued
  /-- the hart's registers while the script waits -/
  ctx : Option Hart := none
  lastSvc : Nat := 0xFFFF
  /-- address of the SVC last issued -/
  svcAt : W32 := 0
  /-- octets for result buffers written by RESULT_WRITE: (offset, octets) -/
  results : List (Nat × List Byte) := []
  /-- the wait that has ended, as the service goes on -/
  resumed : Option Wait := none
  /-- a host buffer that a running service's DMA has read for it (R423) -/
  argAddr : Nat := 0
  argLen : Nat := 0
deriving DecidableEq, Repr

/-- An SC of a domain (R289). -/
structure ScRec where
  held : Bool := false
  /-- the domain that holds it, or held it last -/
  dom : Nat := 0
  sci : W64 := 0
  /-- octets 8 and 9 of its record -/
  b8 : Nat := 0
  b9 : Nat := 0
  /-- the minute in which it was allocated, and that of its release (R311) -/
  since : Nat := 0
  released : Option Nat := none
deriving DecidableEq, Repr

/-- A key handle (R292). -/
structure KeyRec where
  used : Bool := false
  dom : Nat := 0
  len : Nat := 0
  key : List Byte := []
  nowrap : Bool := false
  /-- a private key of the long-integer engine: its type of R439, 0 for a symmetric key -/
  ptype : Nat := 0
deriving DecidableEq, Repr

/-- What a STEER_GRANT fixes (R81, R288). -/
inductive GrantKey where
  | vid (cls : Nat) (vid : Nat)
  | sci (v : W64)
deriving DecidableEq, Repr

/-- A STEER_GRANT (R81). -/
structure SteerGrant where
  dom : Nat
  stage : Nat
  slot : Nat
  key : GrantKey
deriving DecidableEq, Repr

/-- An owner's resident script (R268, R269). -/
structure ResRec where
  code : List Byte := []
  entry : Nat := 0
  rept : Bool := false
  opOnly : Bool := false
  svcMin : Nat := 0
  seq : Nat := 0
  held : Bool := false
deriving DecidableEq, Repr

/-- Orders, services and what they hold for domains. -/
structure OrdSt where
  jobs : List Job := []
  nextId : Nat := 0
  readyCtr : Nat := 0
  scs : Tbl ScRec := []
  keys : Tbl KeyRec := []
  grants : List SteerGrant := []
  res : Tbl ResRec := []
  /-- one above the highest SEQ of each owner slot, 0 where it never held one (R269) -/
  resSeq : Tbl Nat := []
  /-- wrapped copies of installed keys, by slot: the key's octets (R171) -/
  copies : Tbl (List Byte) := []
  /-- time of each receive slot's last install (R291) -/
  installed : Tbl (Option Nat) := []
  /-- punted frames queued for each domain (R294) -/
  punts : Tbl (List PuntFrame) := []
  /-- colour bound to each domain, 0 when none (R410); domains in the order of last use -/
  colour : Tbl Nat := []
  colourLru : List Nat := []
  /-- fetching and dispatch paused by a steward update (R297) -/
  paused : Bool := false
deriving DecidableEq, Repr

/-- A host read request of a DMA channel: offset from the transfer's progress at GO, and its octets once arrived. -/
structure DmaReq where
  addr : Nat
  len : Nat
  data : Option (List Byte) := none
  /-- the request failed: CAUSE code of DM_STAT -/
  err : Nat := 0
deriving DecidableEq, Repr

/-- A DMA channel beyond its registers (R418, R419). -/
structure DmaSt where
  reqs : List DmaReq := []
  /-- requests of ended transfers whose completions are still to come -/
  stale : Nat := 0
  /-- next host address to request -/
  nextReq : Nat := 0
  /-- a RESUME has been written in the present hardware pause -/
  pauseReq : Bool := false
  resumed : Bool := false
deriving DecidableEq, Repr

/-- The recolour engine (R412, R428). -/
structure RcSt where
  busy : Bool := false
  done : Nat := 0
deriving DecidableEq, Repr

end Sys2Proof.Machine
end

