-- ==== Sys2Proof/Machine/TypesMt.lean ====
section
/-! DEFINITION. Data of metering: the counter banks' maps, the harvest and the steward's minutes (chapter 9). -/

namespace Sys2Proof.Machine

/-- States of the frozen bank (R303). -/
inductive Frozen where | frozen | harvesting | harvested | cleared
deriving DecidableEq, Repr

def Frozen.code : Frozen → Nat
  | .frozen => 0 | .harvesting => 1 | .harvested => 2 | .cleared => 3

/-- A boundary in progress, from step 1 of R308 until its SWAP: placed by a tick or by the timer. -/
structure Boundary where
  timer : Bool
  /-- seconds·2^20 + microseconds, 0 for none (R307) -/
  stamp : Nat := 0
  /-- the order whose MINUTE_TICK returns after the SWAP -/
  order : Option Nat := none
deriving DecidableEq, Repr

/-- A closed minute in the steward's care: harvested, its tree built, signed in its turn (R313–R321). -/
structure Minute where
  epoch : Nat
  start : Nat
  timer : Bool
  stamp : Nat
  backward : Bool
  us : Nat
  /-- when its boundary fell -/
  closed : Nat
  /-- domains in a function's list at the boundary, in rising order (R312) -/
  present : List Nat := []
  /-- the channels as they were held at the boundary (R311) -/
  scs : Tbl ScRec := []
  built : Bool := false
  /-- sheaves by domain, in rising domain order; empty once evicted -/
  sheaves : List (Nat × List Byte) := []
  leaves : List (Nat × List Byte) := []
  evicted : Bool := false
  first : Bool := false
  root : List Byte := []
  /-- octets 0–647 of the root record as signed, and its signature; empty before -/
  record : List Byte := []
  sign : List Byte := []
deriving DecidableEq, Repr

/-- Metering (R300–R323). -/
structure MtSt where
  frozen : Frozen := .cleared
  clearing : Bool := false
  /-- touched and damaged records: key 131,072·bank + 65,536·kind + index, kind 1 a domain record (R301, R304) -/
  touched : Tbl Bool := []
  damaged : Tbl Bool := []
  /-- what the next record update's read finds (R304) -/
  ecc : Ecc := .clean
  swapSeq : Nat := 0
  swapTime : Nat := 0
  /-- records still to be delivered, as 65,536·kind + index (R310) -/
  left : List Nat := []
  tail : Nat := 0
  /-- the engine has stalled on a full ring since -/
  stallAt : Option Nat := none
  /-- MT_RD_DATA_n -/
  rd : List W32 := []
  /-- START (R305) -/
  start : Nat := 0
  /-- the open minute, once one has opened -/
  minute : Option Nat := none
  timer : Bool := false
  lastSwap : Nat := 0
  lastStamp : Nat := 0
  boundary : Option Boundary := none
  /-- a timer boundary waits for the bank or the session (R306) -/
  due : Bool := false
  /-- highest epoch that the journal shows as opened (R309) -/
  highest : Option Nat := none
  minutes : List Minute := []
  /-- each domain's previous sheaf in this start: its epoch and leaf hash (R313) -/
  prev : Tbl (Option (Nat × List Byte)) := []
  /-- ROOT and MINUTE of the last sealed stook, from the SEAL record (R316) -/
  lastRoot : Option (Nat × List Byte) := none
  /-- a stook has been made in this start -/
  anyStook : Bool := false
  /-- the signing job has failed and waits for its retry (R317) -/
  retry : Bool := false
  /-- when the signing job in progress started -/
  signAt : Nat := 0
deriving DecidableEq, Repr

end Sys2Proof.Machine
end

