-- ==== Sys2Proof/Machine/TypesNv.lean ====
section
/-! DEFINITION. Data of the long-integer engine (chapter 13), the random source (chapter 14), the flash controller
(chapter 15) and the life cycle (chapter 18). -/

namespace Sys2Proof.Machine

/-- A request waiting for DRBG blocks: its class of R464 and the blocks left. -/
structure RngReq where
  cls : Nat
  left : Nat
deriving DecidableEq, Repr

/-- STATE of RG_STAT (R472). -/
inductive RState where | starting | running | failed | disabled
deriving DecidableEq, Repr

def RState.code : RState → Nat
  | .starting => 1 | .running => 2 | .failed => 3 | .disabled => 4

/-- The random source and DRBG (R453–R470). Bits of the pool are counted, not kept: no register shows them (R455). -/
structure RngSt where
  st : RState := .starting
  oscEn : Nat := 0xFF
  /-- sampling ticks of this start-up -/
  ticks : Nat := 0
  /-- COND in force (R454) -/
  vn : Bool := false
  last : Tbl Bool := []
  run : Tbl Nat := []
  /-- first samples of conditioning pairs -/
  half : Tbl (Option Bool) := []
  lockN : Nat := 0
  agree : Tbl Nat := []
  propN : Nat := 0
  propOnes : Nat := 0
  lockWin : Nat := 0
  propWin : Nat := 0
  /-- bits not yet in the pool: (lock window, proportion window) of each (R457) -/
  wait : List (Nat × Nat) := []
  pool : Nat := 0
  /-- conditioned bits of this start-up, and of each oscillator (R459) -/
  startBits : Nat := 0
  startOsc : Tbl Nat := []
  /-- 1 a reseed, 2 a reinstantiate in progress -/
  busy : Nat := 0
  calls : Nat := 0
  lastSeed : Nat := 0
  /-- seedings so far, and blocks made since the last -/
  inst : Nat := 0
  blk : Nat := 0
  /-- times of the last failures on the time-stamp counter, newest first (R466) -/
  hist : List Nat := []
  reqs : List RngReq := []
  /-- delays in the double-decision reserve (R465) -/
  dd : Nat := 0
  portLeft : Tbl Nat := []
  portErr : Tbl Bool := []
  portBlk : Tbl (List (BitVec 128)) := []
deriving DecidableEq, Repr

/-- A flash operation in progress (R484). -/
structure FlOp where
  op : Nat
  addr : Nat
  words : List W32 := []
  /-- its work has been done; the code and pulses wait for completion -/
  done : Bool := false
  code : Nat := 0
  pulses : Nat := 0
deriving DecidableEq, Repr

/-- The hidden metadata of the physical sector that a logical sector is mapped to (R492). -/
structure Sect where
  erases : Nat := 0
  stamp : Nat := 0
  progMax : Nat := 0
  eraseLast : Nat := 0
  corrMax : Nat := 0
  near : Bool := false
deriving DecidableEq, Repr

/-- The flash controller (R474–R500). -/
structure FlSt where
  /-- octets by Rhaby address; unlisted octets are erased (R475) -/
  data : Tbl Byte := []
  /-- undefined pages, by address divided by 256 (R487) -/
  undef : Tbl Bool := []
  sects : Tbl Sect := []
  /-- spares by 2·bank + class, code 0 and data 1 (R474) -/
  spares : Tbl Nat := []
  seq : Nat := 0
  owner : Nat := 0
  cmd : Nat := 0
  count : Nat := 0
  addr : Nat := 0
  words : List W32 := []
  op : Option FlOp := none
  /-- the steward's flash record of retired harts (R393) -/
  retired : Tbl Bool := []
  /-- next free page of the write journal's ring, and next SEQ of its entries (R489, R491) -/
  jpage : Nat := 0
  jseq : Nat := 0
  /-- a MOVE was interrupted before its work was done: its metadata may need repair (R495) -/
  moveCut : Bool := false
deriving DecidableEq, Repr

/-- States of a long-integer job (R434). -/
inductive LiState where | free | queued | loading | computing | suspended | storing | faulted | ended
deriving DecidableEq, Repr

def LiState.code : LiState → Nat
  | .free => 0 | .queued => 1 | .loading => 2 | .computing => 3 | .suspended => 4 | .storing => 5 | .faulted => 6 | .ended => 7

/-- An entry of the job table (R431, R434). -/
structure LiJob where
  st : LiState := .free
  status : Nat := 0
  ctx : Option Nat := none
  side : Nat := 0
  iter : Nat := 0
  /-- order of admission -/
  age : Nat := 0
  /-- the order that submitted it, and its number there (R449) -/
  order : Option Nat := none
  num : Nat := 0
  dom : Nat := 0
  seed : BitVec 256 := 0
  inp : List Byte := []
  aux : List Byte := []
  key : List Byte := []
  sym : List Byte := []
  out : List Byte := []
  made : List Byte := []
  /-- the handle the job created (R439) -/
  handle : Nat := 0
  written : Nat := 0
  /-- the SVC's address, for the completion of an order whose operand is refused (R449) -/
  svcAt : W32 := 0
deriving DecidableEq, Repr

/-- The long-integer engine (R431–R449). -/
structure LiSt where
  jobs : Tbl LiJob := []
  ageCtr : Nat := 0
  /-- the entry running, if any -/
  running : Option Nat := none
  vt : Tbl Nat := []
  /-- times of self-check failures, newest first (R443) -/
  checks : List Nat := []
  /-- contexts 0–6 all held since this time -/
  fullAt : Option Nat := none
  /-- source 101 has been raised for the present hold -/
  fullTold : Bool := false
  /-- derating of the engine's clock (R642) -/
  step : Nat := 0
  stepTo : Option Nat := none
deriving DecidableEq, Repr

/-- A record of the life-cycle area of the OTP (R569). -/
structure OtpRec where
  intent : W32 := 0
  commit : W32 := 0
  void : W32 := 0
deriving DecidableEq, Repr

/-- Life cycle and debug (R568–R587). -/
structure LcSt where
  /-- code of R568 -/
  state : Nat := 3
  pending : Option Nat := none
  /-- records 0–7: a unit in OWNED has committed TEST, SEALED and OWNED (log entry 4) -/
  recs : Tbl OtpRec := [(0, ⟨0x0000FFFF, 0x0000FFFF, 0⟩), (1, ⟨0xFFFF0000, 0xFFFF0000, 0⟩), (2, ⟨0x00FFFF00, 0x00FFFF00, 0⟩)]
  /-- tokens, all burned by the transition to SEALED (R572) -/
  tokens : Tbl W32 := (List.range 16).map (fun i => (i, 0xFFFFFFFF))
  /-- the owner public key in use, the flash record of sector 932, and the hash in OTP with its ALG; empty for none (R569, R579) -/
  ownKey : List Byte := Config.ownerKey
  ownAlg : Nat := 0
  flashKey : List Byte := Config.ownerKey
  flashAlg : Nat := 0
  ownHash : List Byte := Config.sha384 Config.ownerKey
  nonce : Option (BitVec 128) := none
  /-- a burn in progress: 1 INTENT, 2 COMMIT, 3 VOID, 4 PAIR or 5 a token; its record or token; the bits to burn -/
  burn : Option (Nat × Nat × W32) := none
  burnRes : Nat := 0
  burnTry : Nat := 0
  paired : Bool := true
  /-- debug port: open, its scope, nonce, refusals and instruction (R581–R585) -/
  dbgOpen : Bool := false
  scope : Nat := 0
  dbgNonce : Option (BitVec 128) := none
  dbgRefused : Nat := 0
  ir : Nat := 0x02
  /-- a transition's wipes have been made in this start -/
  wiped : Bool := false
  /-- a record that the decode found bad, whose VOID the boot ROM burns next (R570) -/
  voiding : Option Nat := none
  /-- the hart whose LC_REQUEST waits for its INTENT, and the target (R576) -/
  waitHart : Option (Nat × Nat) := none
  /-- scope and token of an unlock that waits for its token's burn (R584) -/
  unlock : Option (Nat × Nat) := none
  /-- the metering key exists (R579) -/
  metKey : Bool := true
deriving DecidableEq, Repr

end Sys2Proof.Machine
end

