-- ==== Sys2Proof/Machine/TypesSv.lean ====
section
/-! DEFINITION. Data of the field tag (chapter 19), the custody slot (chapter 20), row remaps and steward updates (chapter 21). -/

namespace Sys2Proof.Machine

/-! ### The field tag -/

/-- One copy of a tag record: whether MAGIC, CRC and KIND are right, its SEQ and payload (R599). -/
structure TagCopy where
  valid : Bool := false
  seq : Nat := 0
  payload : List Byte := []
deriving DecidableEq, Repr

/-- A record's backup and primary copies (R598). -/
structure TagRec where
  b : TagCopy := {}
  p : TagCopy := {}
deriving DecidableEq, Repr

/-- Type A states (R590). -/
inductive Iso where | idle | ready | active | halt
deriving DecidableEq, Repr

def Iso.code : Iso → Nat
  | .idle => 0 | .ready => 1 | .active => 2 | .halt => 3

/-- What a tag write asks for: a whole payload, or an increment of a counter. -/
inductive TagAsk where
  | payload (l : List Byte)
  | counter (c amount : Nat)
deriving DecidableEq, Repr

/-- Where a tag write stands: step 0 on copy P or B, steps 1 and 2, steps 3 and 4 (R602). -/
inductive TagStep where | repairB | repairP | writeB | writeP
deriving DecidableEq, Repr

/-- Who asked for a tag write: a reader, or the steward or boot ROM through TG_CMD. -/
inductive TagWho where | reader | device
deriving DecidableEq, Repr

/-- A tag write. -/
structure TagWrite where
  kind : Nat
  ask : TagAsk
  who : TagWho
  step : TagStep := .writeB
  /-- what the new copies hold, fixed as the write begins -/
  copy : TagCopy := {}
  page : Nat := 0
  failed : Bool := false
  repaired : Bool := false
deriving DecidableEq, Repr

/-- The field tag (R589–R611). -/
structure TagSt where
  nvm : Tbl TagRec := []
  field : Bool := false
  /-- the field is at least 2.0 A/m -/
  strong : Bool := false
  iso : Iso := .idle
  l4 : Bool := false
  hello : Bool := false
  /-- UID1–UID3, once drawn -/
  uid : Option Nat := none
  /-- the own generator failed, so the handle is fixed by the next REQA or WUPA (R594) -/
  degraded : Bool := false
  stage : List Byte := []
  /-- largest frame toward the reader -/
  fsd : Nat := 64
  /-- the write under way and those that wait -/
  writes : List TagWrite := []
  /-- TG_LIVE has been written since the start -/
  live : Bool := false
  /-- TG_RES -/
  code : Nat := 0
  repaired : Bool := false
  kind : Nat := 0
  /-- SEQ of each record as the steward last recorded it (R606) -/
  seen : Tbl Nat := []
  /-- time of the last SUMMARY write, and the epoch of the last rewrite of R607 -/
  sumAt : Option Nat := none
  refreshed : Option Nat := none
  /-- kinds of device writes that ended on field power, for source 170 at the next start (R608) -/
  owed : List Nat := []
deriving DecidableEq, Repr

/-! ### The custody slot -/

/-- A directory entry (R620). -/
structure DirEnt where
  kind : Nat
  flags : Nat
  lba : Nat
  nblk : Nat
  len : Nat
  minute : Nat
  name : List Byte
  digest : List Byte
deriving DecidableEq, Repr

/-- A superblock, and the copy it stands in (R619). -/
structure SuperBlk where
  minor : Nat := 0
  sseq : Nat := 0
  vol : List Byte := []
  creator : Nat := 0
  blocks : Nat := 0
  txn : Nat := 0
  head : Nat := 0
  dir : Nat := 0
  dirCrc : Nat := 0
  copy : Nat := 0
deriving DecidableEq, Repr

/-- An SD command: a plain one, a read or a write of blocks. -/
inductive SdCmd where
  | plain (index arg : Nat)
  | read (lba n : Nat)
  | write (lba : Nat) (l : List Byte)
  /-- one that a hart has sent by CS_CMD -/
  | raw (index resp : Nat) (data toCard : Bool)
deriving DecidableEq, Repr

/-- Where the steward's custody program stands. -/
inductive CsPhase where
  | idle
  /-- the commands of R614, R615 by number -/
  | init (k : Nat)
  | supers | dirs | slots | settling
  | begin | object | readBack | directory | super | commit
  | fetch
  /-- the boot ROM's recovery of R629 -/
  | bootHeads | bootFetch
deriving DecidableEq, Repr

/-- An operation of R626. -/
structure CsOp where
  num : Nat
  op : Nat
  format : Bool := false
  readOnly : Bool := false
  name : List Byte := []
  dom : Nat := 0
  /-- private handle and KEYS output of a restore -/
  handle : Nat := 0
  keys : Option (List Byte) := none
  obj : List Byte := []
  ent : Option DirEnt := none
  txn : Nat := 0
  head : Nat := 0
deriving DecidableEq, Repr

/-- The custody slot (R612–R632). -/
structure CsSt where
  cd : Bool := false
  wp : Bool := false
  /-- 0 ABSENT, 1 INITIALISING, 2 READY, 3 FAILED, 4 LOCKED_CARD -/
  card : Nat := 0
  ctype : Nat := 0
  /-- CMD8 answered; RCA; the register of capacity -/
  v2 : Bool := false
  rca : Nat := 0
  blocks : Nat := 0
  wide : Bool := false
  fast : Bool := false
  ro : Bool := false
  /-- reinitialised at 25 MHz already, and what then goes on -/
  slowed : Bool := false
  resume : Option (CsPhase × List SdCmd × List Byte) := none
  /-- repeats of ACMD41 so far -/
  acmd : Nat := 0
  /-- the boot ROM recovers a steward image from the card (R629) -/
  boot : Bool := false
  cmd : Option SdCmd := none
  dat0 : Bool := false
  retry : Nat := 0
  plan : List SdCmd := []
  got : List Byte := []
  phase : CsPhase := .idle
  /-- 0 NONE, 1 MOUNTED, 2 READ_ONLY, 3 DAMAGED, 4 UNMOUNTED -/
  vol : Nat := 0
  sb : SuperBlk := {}
  dir : Tbl (Option DirEnt) := []
  op : Option CsOp := none
  opNum : Nat := 0
  opState : Nat := 0
  outcome : Nat := 0
  handles : List Nat := []
  unsigned : Bool := false
  resp : List W32 := []
  code : Nat := 0
  done : Nat := 0
deriving DecidableEq, Repr

/-! ### Row remaps and steward updates -/

/-- A row remap of one die (R640, R653, R654): spares used by 64·MEM + unit, or by bank. -/
structure RemapSt where
  busy : Bool := false
  mem : Nat := 0
  unit : Nat := 0
  row : Nat := 0
  result : Nat := 0
  used : Tbl Nat := []
  /-- rows kept out of use: memory, unit and row (R509) -/
  excl : List (Nat × Nat × Nat) := []
deriving DecidableEq, Repr

/-- Steward images and updates (R643–R647). -/
structure UpdSt where
  /-- 0 NONE, 1 ACCEPTED, 2 PROBATION -/
  st : Nat := 0
  /-- slot running: 0 A, 1 B -/
  slot : Nat := 0
  left : Nat := 0
  /-- when probation was armed -/
  armAt : Nat := 0
  /-- the slot not running is cleared, its pages programmed since, and its next sector to clear -/
  cleared : Bool := false
  clearing : Nat := 0
  written : Tbl Bool := []
  /-- the start ended a probation or a hand-over: a fallback is to be reported at step 12 -/
  fallback : Bool := false
  /-- the order whose SWITCH is in progress -/
  switching : Option Nat := none
deriving DecidableEq, Repr

end Sys2Proof.Machine
end

