-- ==== Sys2Proof/Machine/State.lean ====
section
/-! DEFINITION. The machine's state as plain data, the reasons a command can stop, and the state after reset. -/

namespace Sys2Proof.Machine

/-- Why a command stops the model. -/
inductive Fault where
  /-- An operand list of the command does not have the length its row gives it (WellFormed refuses such a command).
  Raised by the meanings that read octet lists. Safe: no sender can send it. -/
  | badOperand
deriving DecidableEq, Repr

/-- Why the model gives no next state for a command. -/
inductive Refusal where
  /-- The command's meaning has not been written. Raised by the arms of exec only. Safe. -/
  | notModelled (mnemonic : String)
deriving DecidableEq, Repr

/-- Hart states of HT_STAT (R395). -/
inductive HState where | running | waiting | haltedCmd | haltedDouble | haltedHw | haltedDebug | retired
deriving DecidableEq, Repr

def HState.code : HState → Nat
  | .running => 0 | .waiting => 1 | .haltedCmd => 2 | .haltedDouble => 3 | .haltedHw => 4 | .haltedDebug => 5 | .retired => 6

/-- The state of the device. -/
structure State where
  /-- stored bits of every register that holds a value written to it -/
  regs : Tbl W32 := []
  /-- addresses of RWL registers written since reset (R12) -/
  locks : Tbl Bool := []
  /-- 64-bit counters by the address of their _LO register -/
  cnts : Tbl W64 := []
  /-- latched _HI values: key requester·2^33 + address of _LO (R16) -/
  latches : Tbl (Option W32) := []
  /-- the answer of the last command that answers (log entry 7) -/
  reply : List Nat := []
  /-- what has left the device, oldest first (log entry 7) -/
  sent : List Sent := []
  /-- microseconds since the model's reset (log entry 1) -/
  now : Nat := 0
  /-- free values drawn so far (log entry 5) -/
  freeCtr : Nat := 0
  line : LineSt := {}
  /-- per-SA counters: key (bank·65,536 + slot)·8 + index (R151) -/
  saCnt : Tbl W64 := []
  /-- domain counters: key (bank·4,096 + domain)·4 + index (R153) -/
  domCnt : Tbl W64 := []
  /-- active counter bank (R301) -/
  bank : Nat := 0
  mt : MtSt := {}
  gran : GranSt := {}
  culm : CulmSt := {}
  ev : EvSt := {}
  host : HostSt := {}
  hstate : Tbl HState := []
  harts : Tbl Hart := []
  /-- SRAM octets by address (R408); the wipe of every reset leaves zeros (R508) -/
  sram : Tbl Byte := []
  /-- tags by granule index, and granules whose tag parity fails (R409) -/
  tags : Tbl Nat := []
  badTag : Tbl Bool := []
  /-- 64-bit lanes, by address divided by 8, that hold an uncorrectable error (R409) -/
  badLane : Tbl Bool := []
  rc : RcSt := {}
  dma : Tbl DmaSt := []
  ord : OrdSt := {}
  rng : RngSt := {}
  fl : FlSt := {}
  li : LiSt := {}
  lc : LcSt := {}
  /-- ladder level 0–5 (R540) -/
  level : Nat := 0
  tm : TmSt := {}
  pw : PwSt := {}
  tag : TagSt := {}
  cs : CsSt := {}
  /-- row remaps of the control die and of the line die -/
  rmSram : RemapSt := {}
  rmLine : RemapSt := {}
  upd : UpdSt := {}
  /-- commands waiting, first in first out -/
  pending : List Instr := []
deriving DecidableEq, Repr

/-- The machine right after reset. -/
def State.reset : State := {}

/-- What a command answers. -/
abbrev Out := Host.Outcome State Fault Refusal

end Sys2Proof.Machine
end

