-- ==== Sys2Proof/Machine/Ops.lean ====
section
/-! DEFINITION. The named operations every chapter's meanings use: registers and fields, counters, free values, what is
sent, and the raising of an event source with its route and its place in the recorder's intake. -/

namespace Sys2Proof.Machine

/-- A command's next state. -/
def ok (s : State) : Out := .next s

/-- The control and line dies run: not BACKUP, DORMANT or off (R511, R537). -/
def runs (s : State) : Bool :=
  match s.pw.mode with
  | .starting => true
  | .service => true
  | .lockdown => true
  | _ => false

/-- A command to the control and line dies has no effect while they do not run (R512, R537). -/
def powered (s t : State) : Out := .next (if runs s then t else s)

/-! ### Registers and counters -/

/-- The stored word of a register. -/
def rget (s : State) (a : Nat) : W32 := tget regReset s.regs a

/-- Field `[m:l]` of a stored register. -/
def rf (s : State) (a m l : Nat) : Nat := fld (rget s a) m l

/-- One bit of a stored register. -/
def rbit (s : State) (a i : Nat) : Bool := rf s a i i == 1

/-- Store a register word. -/
def rset (s : State) (a : Nat) (v : W32) : State := { s with regs := tput regReset s.regs a v }

/-- Store a field of a register. -/
def rsetf (s : State) (a m l v : Nat) : State := rset s a (putFld (rget s a) m l v)

/-- Store consecutive registers. -/
def rsets (s : State) (a : Nat) : List W32 → State
  | [] => s
  | w :: r => rsets (rset s a w) (a + 4) r

/-- Consecutive stored registers. -/
def rgets (s : State) (a : Nat) : Nat → List W32
  | 0 => []
  | n + 1 => rget s a :: rgets s (a + 4) n

/-- A 64-bit counter (R57: starts at 0, wraps at 2^64). -/
def cget (s : State) (a : Nat) : W64 := tget (fun _ => 0) s.cnts a

/-- Add to a counter. -/
def cadd (s : State) (a n : Nat) : State :=
  { s with cnts := tput (fun _ => 0) s.cnts a (cget s a + BitVec.ofNat 64 n) }

/-- Add 1 to a counter. -/
def cinc (s : State) (a : Nat) : State := cadd s a 1

/-- What leaves the device. -/
def send (s : State) (x : Sent) : State := { s with sent := s.sent ++ [x] }

/-- The answer of a command. -/
def answer (s : State) (l : List Nat) : State := { s with reply := l }

/-- Draw a free value (log entry 5). -/
def free (s : State) : Nat := Config.freeValue s.freeCtr

/-- The counter of free values advanced past one drawn. -/
def freed (s : State) : State := { s with freeCtr := s.freeCtr + 1 }

/-! ### Functions and MSI-X vectors (R10, R224, R561) -/

/-- The state of function `f` = 256·endpoint + index. PFs exist from reset with the grant of R240; VFs do not. -/
def fnInit (f : Nat) : FnSt :=
  if f % 256 = 0 then { present := true, hartW := 255, liW := 255, evVecs := 62, maxOut := 4096 } else {}

def fnOf (s : State) (f : Nat) : FnSt := tget fnInit s.host.fns f

def setFn (s : State) (f : Nat) (x : FnSt) : State := { s with host := { s.host with fns := tput fnInit s.host.fns f x } }

def modFn (s : State) (f : Nat) (g : FnSt → FnSt) : State := setFn s f (g (fnOf s f))

def epOf (s : State) (e : Nat) : EpSt := tget (fun _ => {}) s.host.eps e

def setEp (s : State) (e : Nat) (x : EpSt) : State := { s with host := { s.host with eps := tput (fun _ => {}) s.host.eps e x } }

def vecOf (s : State) (f v : Nat) : VecSt := tget (fun _ => {}) s.host.vecs (64 * f + v)

def setVec (s : State) (f v : Nat) (x : VecSt) : State :=
  { s with host := { s.host with vecs := tput (fun _ => {}) s.host.vecs (64 * f + v) x } }

/-- HF_EP_CTL of endpoint e. -/
def epCtl (e : Nat) : Nat := 0x30090000 + 0x10000 * e

/-- The event source of function f (R10). -/
def fnSrc (f : Nat) : Nat := 1856 + f

/-- The function may issue DMA and messages (R225). -/
def canMaster (x : FnSt) : Bool := x.present && x.bme && !x.d3

/-- Microseconds that must pass between messages of a vector: INTERVAL, but never below MSIX_FLOOR (R224). -/
def vecInterval (s : State) (f v : Nat) : Nat :=
  Nat.max (rf s (hfWin f + 0x100 + 4 * v) 9 0) (rf s (epCtl (f / 256)) 19 10)

/-- A vector's message may go as far as moderation is concerned: its interval has passed, or COUNT completions wait on
vector 0 under ring ABI 1.1 or later and the floor has passed (R224). -/
def vecDue (s : State) (f v : Nat) : Bool :=
  let x := vecOf s f v
  !x.running ||
    (decide (v = 0) && decide (0x0101 ≤ (fnOf s f).abi) &&
      decide (Nat.max 1 (rf s (hfWin f + 0x100) 23 16) ≤ x.compl) &&
      (match x.last with
       | none => true
       | some t => decide (t + rf s (epCtl (f / 256)) 19 10 ≤ s.now)))

/-- Send a vector's pending message if nothing holds it: masking, Bus Master Enable, moderation (R224, R225) and the bucket
of R561; a message delayed or held is counted once. -/
def vecTry (s : State) (f v : Nat) : State :=
  let x := vecOf s f v
  let fn := fnOf s f
  let hfc := epCtl (f / 256)
  if !x.pend || !fn.present || !fn.msixEn || !canMaster fn then s
  else if x.masked || fn.fmask || !vecDue s f v then
    if x.deferCnt then s else cinc (setVec s f v { x with deferCnt := true }) (hfc + 0x68)
  else if rf s 0x30038020 23 16 ≤ x.used then
    if x.heldCnt then s else cinc (setVec s f v { x with heldCnt := true }) 0x30038158
  else
    let s := setVec s f v { x with pend := false, running := decide (0 < vecInterval s f v), last := some s.now, compl := 0,
                                   used := x.used + 1, heldCnt := false, deferCnt := false }
    cinc (send s (.msix f v x.addr x.data)) (hfc + 0x60)

/-- Set a cause on a vector (R224, R386). -/
def vecCause (s : State) (f v : Nat) : State :=
  let fn := fnOf s f
  if !fn.present || fn.ending then s
  else vecTry (setVec s f v { vecOf s f v with pend := true }) f v

/-! ### Event sources (R384–R389, R553–R557) -/

/-- The recorder class of a source (R553). -/
def evClass (src : Nat) : Nat :=
  if 3648 ≤ src ∧ src ≤ 3903 then 0
  else if src ≤ 63 ∨ (96 ≤ src ∧ src ≤ 127) ∨ (144 ≤ src ∧ src ≤ 167) ∨ (1280 ≤ src ∧ src ≤ 1855) ∨ (3392 ≤ src ∧ src ≤ 3455) then 1
  else if src ≤ 255 ∨ (1856 ≤ src ∧ src ≤ 2367) then 2
  else 3

/-- Intake entries of a class. -/
def intakeOf (l : List Raising) (k : Nat) : Nat := (l.filter (fun r => evClass r.src == k)).length

/-- Shared entries in use: what each class holds beyond its reserve of 64 (R556). -/
def sharedUsed (l : List Raising) : Nat :=
  (intakeOf l 0 - 64) + (intakeOf l 1 - 64) + (intakeOf l 2 - 64) + (intakeOf l 3 - 64)

/-- The intake has a place for class `k`: within its reserve of 64, or among the 256 shared (R556). -/
def intakeRoom (l : List Raising) (k : Nat) : Bool := decide (intakeOf l k < 64) || decide (sharedUsed l < 256)

/-- A 16-bit repeat count that stops at 0xFFFF. -/
def sat16 (n : Nat) : Nat := Nat.min n 0xFFFF

/-- A loss in class `k` counted (R557): LOST_k, GAPPED; answers the state and whether GAPPED was newly set. -/
def loseEv (s : State) (k n : Nat) : State × Bool :=
  let was := tget (fun _ => false) s.ev.gapped k
  let s := cadd s (0x30038100 + 8 * k) n
  ({ s with ev := { s.ev with gapped := tput (fun _ => false) s.ev.gapped k true,
                              gapLoss := tput (fun _ => 0) s.ev.gapLoss k (tget (fun _ => 0) s.ev.gapLoss k + n) } }, !was)

/-- A raising offered to the recorder: it joins the one its source block holds, or the intake, or is held (TAMPER) or
lost (R556, R557). Answers whether a class newly became GAPPED. -/
def offerEv (s : State) (r : Raising) : State × Bool :=
  match s.ev.held.find? (fun h => h.src == r.src) with
  | some h =>
    if h.code = r.code then
      ({ s with ev := { s.ev with held := s.ev.held.map (fun x => if x.src == r.src then { x with count := sat16 (x.count + r.count) } else x) } }, false)
    else if evClass r.src = 0 then (s, false) else loseEv s (evClass r.src) r.count
  | none =>
    if intakeRoom s.ev.intake (evClass r.src) then ({ s with ev := { s.ev with intake := s.ev.intake ++ [r] } }, false)
    else if evClass r.src = 0 then ({ s with ev := { s.ev with held := s.ev.held ++ [r] } }, true)
    else loseEv s (evClass r.src) r.count

/-- Harts in service start as R395 says: hart 0 RUNNING, the others HALTED_CMD. -/
def hstInit (h : Nat) : HState := if h = 0 then .running else .haltedCmd

def hstOf (s : State) (h : Nat) : HState := tget hstInit s.hstate h

/-- The hart is halted or retired (R389). -/
def hartDown (s : State) (h : Nat) : Bool :=
  match hstOf s h with
  | .running => false
  | .waiting => false
  | _ => true

/-- The hart a HART route delivers to: the one named, else STEWARD_HART, else the lowest RUNNING or WAITING (R389). -/
def deliverHart (s : State) (h : Nat) : Nat :=
  if !hartDown s h then h
  else if !hartDown s (rf s 0x30030000 2 0) then rf s 0x30030000 2 0
  else ((List.range 8).find? (fun j => !hartDown s j)).getD (rf s 0x30030000 2 0)

/-- EV_ROUTE_s of a source. -/
def routeAddr (src : Nat) : Nat := 0x30031000 + 4 * src

/-- The route's destination beyond the recorder (R385–R389). -/
def routeEv (s : State) (src : Nat) : State :=
  let a := routeAddr src
  match rf s a 1 0 with
  | 1 =>
    let s := cinc { s with ev := { s.ev with pend := tput (fun _ => false) s.ev.pend src true } } 0x30030108
    if hartDown s (rf s a 4 2) then cinc s 0x30030118 else s
  | 2 => vecCause (cinc s 0x30030110) (256 * rf s a 14 14 + rf s a 13 6) (rf s a 20 15)
  | _ => s

/-- One raising of a source, with its count: offered to the recorder and routed (R385). -/
def raiseOne (s : State) (r : Raising) : State × Bool :=
  let p := offerEv (cinc s 0x30030100) r
  (routeEv p.1 r.src, p.2)

/-- Raise a source with a code and data. A class that newly lost records raises source 201; a TAMPER raising that finds no
place raises source 203 (R557). -/
def raiseEv (s : State) (src code : Nat) (data : List Nat) : State :=
  let p := raiseOne s ⟨src, code, 1, data⟩
  if p.2 then (raiseOne p.1 ⟨if evClass src = 0 then 203 else 201, 0, 1, [evClass src]⟩).1 else p.1

/-- Raise a source with no code. -/
def raise (s : State) (src : Nat) (data : List Nat := []) : State := raiseEv s src 0 data

/-! ### The counter store (R151, R153, R300–R304) -/

/-- The metering block and its event sources (R325, R326). -/
def mtA : Nat := 0x46000000
def mtSrc : Nat := 3456

/-- Key of a record of bank `b` in the maps: `kind` 1 for a domain record. -/
def recKey (b kind i : Nat) : Nat := 131072 * b + 65536 * kind + i

/-- A record of bank `b` set to zero. -/
def recZero (s : State) (b kind i : Nat) : State :=
  if kind = 0 then { s with saCnt := s.saCnt.filter (fun e => !(decide (e.1 / 8 = 65536 * b + i))) }
  else { s with domCnt := s.domCnt.filter (fun e => !(decide (e.1 / 4 = 4096 * b + i))) }

/-- The read of a record that an update makes: its bit in the touched map, and the errors of R304. -/
def recUpdate (s : State) (kind i : Nat) : State :=
  let k := recKey s.bank kind i
  let e := s.mt.ecc
  let s := cinc { s with mt := { s.mt with ecc := .clean, touched := tput (fun _ => false) s.mt.touched k true } } (mtA + 0x100)
  match e with
  | .clean => s
  | .corrected => raise (cinc s (mtA + 0x110)) (mtSrc + 9) []
  | .uncorrectable =>
    let s := recZero s s.bank kind i
    raise (cinc { s with mt := { s.mt with damaged := tput (fun _ => false) s.mt.damaged k true } } (mtA + 0x118)) (mtSrc + 8) [i, kind]

/-- Add to a counter of an SA slot in the active bank (R151). OCTETS, index 1, is always added with the class of the same frame,
in one update. -/
def saAdd (s : State) (slot idx n : Nat) : State :=
  let s := if idx = 1 then s else recUpdate s 0 slot
  let k := (s.bank * 65536 + slot) * 8 + idx
  { s with saCnt := tput (fun _ => 0) s.saCnt k (tget (fun _ => 0) s.saCnt k + BitVec.ofNat 64 n) }

/-- Add to a counter of a domain in the active bank (R153): 0 BYPASS_FRAMES, 1 BYPASS_OCTETS, 2 DROP_FRAMES, 3 PUNT_FRAMES. -/
def domAdd (s : State) (d idx n : Nat) : State :=
  let s := if idx = 1 then s else recUpdate s 1 d
  let k := (s.bank * 4096 + d) * 4 + idx
  { s with domCnt := tput (fun _ => 0) s.domCnt k (tget (fun _ => 0) s.domCnt k + BitVec.ofNat 64 n) }

/-- What the record updates of the command at hand find (R304). -/
def withEcc (s : State) (e : Ecc) (g : State → State) : State :=
  let t := g { s with mt := { s.mt with ecc := e } }
  { t with mt := { t.mt with ecc := .clean } }

/-- The source that records a write refused under R15 or R18, by the register's address (each chapter's event table); the
router's own are offset 7 of the steward's hart (R399). -/
def refuseSrc (s : State) (a : Nat) : Nat :=
  if 0x100000000 ≤ a then fnSrc ((a - 0x100000000) / 0x10000)
  else if 0x46000000 ≤ a then 3456 + 11
  else if 0x45000000 ≤ a then 3392 + 12
  else if 0x44000000 ≤ a then 2368 + 32 * ((a - 0x44000000) / 0x10000) + 16
  else if 0x43080000 ≤ a then 2880 + 7
  else if 0x43000000 ≤ a then 2880 + 8 * ((a - 0x43000000) / 0x1000) + 7
  else if 0x42080000 ≤ a then 1280 + 7
  else if 0x42000000 ≤ a then 1280 + 8 * ((a - 0x42000000) / 0x1000) + 7
  else if 0x41000000 ≤ a then 256 + 64 * ((a - 0x41000000) / 0x10000) + 43
  else if 0x40000000 ≤ a then 3392 + 12
  else if 0x31000000 ≤ a then 8 * ((a - 0x31000000) / 0x1000) + 7
  else if 0x300E0000 ≤ a then 191
  else if 0x300D0000 ≤ a then 183
  else if 0x300C0000 ≤ a then 175
  else if 0x300B0000 ≤ a then fnSrc (((a - 0x300B0000) / 0x40) % 512)
  else if 0x300A0000 ≤ a then 1856 + 256
  else if 0x30090000 ≤ a then 1856
  else if 0x30080000 ≤ a then 198
  else if 0x30070000 ≤ a then 64 + 2 * ((a - 0x30070000) / 0x100) + 1
  else if 0x30060000 ≤ a then 137
  else if 0x30050000 ≤ a then 102
  else if 0x30040000 ≤ a then 124
  else if 0x30038000 ≤ a then 206
  else if 0x30030000 ≤ a then 8 * rf s 0x30030000 2 0 + 7
  else if 0x30020000 ≤ a then 3784
  else if 0x30010000 ≤ a then 167
  else 157

/-- The record code of a refused write: functions use code 0x08 (R229), the other blocks give none. -/
def refuseCode (a : Nat) : Nat :=
  if 0x100000000 ≤ a ∨ (0x30090000 ≤ a ∧ a < 0x300C0000) then 8 else 0

/-- A write refused under R18 or R15's record: nothing but the event record. -/
def refuse (s : State) (a : Nat) : State := raiseEv s (refuseSrc s a) (refuseCode a) [a]

end Sys2Proof.Machine
end

