-- ==== Sys2Proof/Machine/CsOps.lean ====
section
/-! DEFINITION. What ends a custody operation from outside (R622, R625, R628). -/

namespace Sys2Proof.Machine

def csA : Nat := 0x300D0000
def setCs (s : State) (x : CsSt) : State := { s with cs := x }

/-- The card loses power, and whatever was under way with it. -/
def csOff (s : State) : State :=
  setCs (rset s csA 0) { s.cs with cmd := none, dat0 := false, plan := [], phase := .idle, got := [], retry := 0, resume := none, acmd := 0, slowed := false, boot := false }

/-- The journal is being settled, or is to be. -/
def settling (p : CsPhase) : Bool :=
  match p with
  | .supers => true
  | .dirs => true
  | .slots => true
  | .settling => true
  | _ => false

/-- The journal is settled again, as at a mount; a command under way ends for itself (R623). -/
def csSettle (s : State) : State :=
  if settling s.cs.phase then s
  else setCs s { s.cs with phase := .supers, plan := [], got := [], retry := 0, cmd := s.cs.cmd.map (fun _ => .raw 0 0 false false) }

/-- The operation ends with a status, OK once it has passed its commit point: source 176; without OK, with the card still present and its volume
mounted, the journal is settled (R622, R623, R630). -/
def csEnd (s : State) (status : Nat) : State :=
  match s.cs.op with
  | none => s
  | some o =>
    let st := if s.cs.phase = .commit then 0 else status
    let t := raise (setCs s { s.cs with op := none, opState := 2, outcome := st }) 176 [o.num, o.op, st]
    if st ≠ 0 ∧ o.op ≠ 1 ∧ s.cs.card = 2 ∧ (s.cs.vol = 1 ∨ s.cs.vol = 2) then csSettle t else t

/-- Abandoned at LOCKDOWN, at a DORMANT request or a reset: the card is unpowered. -/
def csAbandon (s : State) : State := let t := csOff (csEnd s 11); setCs t { t.cs with card := if t.cs.card = 2 then 1 else t.cs.card, vol := 0 }

/-- What a rise of the ladder does to the operation (R628). -/
def csLadder (s : State) (new : Nat) : State :=
  match s.cs.op with
  | none => if new = 5 then csAbandon s else s
  | some o => if new = 5 then csAbandon s else if new = 4 then csEnd s 11 else if new = 3 ∧ o.op = 4 then csEnd s 12 else s

end Sys2Proof.Machine
end

