-- ==== Sys2Proof/Machine/LineOps.lean ====
section
/-! DEFINITION. Shared operations of the line path: port-block configuration, headroom occupancy, pauses, link state, power
(chapter 1), and the verdict stage's fates and counts (chapter 4). -/

namespace Sys2Proof.Machine

/-! ### Configuration -/

def pbA (b : Nat) : Nat := 0x41000000 + 0x10000 * b
/-- The slot registers of logical port `p` (R25, R56). -/
def slotA (p : Nat) : Nat := pbA (p / 4) + 0x100 + 0x100 * (p % 4)
def laneA (b n : Nat) : Nat := pbA b + 0x1000 + 0x100 * n
def stA (b : Nat) : Nat := 0x44000000 + 0x10000 * b
def scfgA (p : Nat) : Nat := stA (p / 4) + 0x100 + 0x40 * (p % 4)
def vdA (v : Nat) : Nat := 0x43000000 + 0x1000 * v
def tlA (t : Nat) : Nat := 0x42000000 + 0x1000 * t
def tlArr : Nat := 0x42080000
def pbSrc (b : Nat) : Nat := 256 + 64 * b
def stSrc (b : Nat) : Nat := 2368 + 32 * b
def vdSrc (v : Nat) : Nat := 2880 + 8 * v
def tlSrc (t : Nat) : Nat := 1280 + 8 * t

/-- MODE codes of PB_CTL: 0 OFF, 1 P400, 2 P200X2, 3 P100X4, 4 P800_LEAD, 5 P800_PAIR. -/
def modeOf (s : State) (b : Nat) : Nat := rf s (pbA b) 2 0
def slotEn (s : State) (b : Nat) : Nat := rf s (pbA b) 7 4

/-- The slots a mode creates (R25, R26). -/
def modeSlots (m : Nat) : List Nat :=
  match m with
  | 1 => [0]
  | 2 => [0, 2]
  | 3 => [0, 1, 2, 3]
  | 4 => [0]
  | _ => []

/-- The port's block is the lead of an 800 Gbit/s pair (R26). -/
def isLead (s : State) (b : Nat) : Bool := modeOf s b == 4

/-- The logical port exists (R25). -/
def portExists (s : State) (p : Nat) : Bool :=
  (modeSlots (modeOf s (p / 4))).contains (p % 4) && (modeOf s (p / 4) != 4 || modeOf s (p / 4 + 1) == 5)

/-- The logical port exists and is enabled. -/
def portOn (s : State) (p : Nat) : Bool := portExists s p && (slotEn s (p / 4)).testBit (p % 4)

/-- Port rate in Gbit/s (R25). -/
def portRate (s : State) (p : Nat) : Nat :=
  match modeOf s (p / 4) with
  | 1 => 400 | 2 => 200 | 3 => 100 | 4 => 800 | _ => 0

/-- Any slot of the block, or of its 800G pair, is enabled (R35). -/
def anySlotOn (s : State) (b : Nat) : Bool :=
  decide (slotEn s b ≠ 0) || (modeOf s b == 4 && decide (slotEn s (b + 1) ≠ 0)) ||
    (modeOf s b == 5 && decide (slotEn s (b - 1) ≠ 0))

/-- The physical lanes of one side of a port: (block, lane register index) (R25, R58). -/
def portLanes (s : State) (p : Nat) (d : Side) : List (Nat × Nat) :=
  let b := p / 4
  let o := 4 * sideNum d
  match modeOf s b with
  | 1 => [(b, o), (b, o + 1), (b, o + 2), (b, o + 3)]
  | 2 => if p % 4 = 0 then [(b, o), (b, o + 1)] else [(b, o + 2), (b, o + 3)]
  | 3 => [(b, o + p % 4)]
  | 4 => [(b, o), (b, o + 1), (b, o + 2), (b, o + 3), (b + 1, o), (b + 1, o + 1), (b + 1, o + 2), (b + 1, o + 3)]
  | _ => []

def sideOf (s : State) (p : Nat) (d : Side) : SideSt := tget (fun _ => {}) s.line.sides (2 * p + sideNum d)
def setSide (s : State) (p : Nat) (d : Side) (x : SideSt) : State :=
  { s with line := { s.line with sides := tput (fun _ => {}) s.line.sides (2 * p + sideNum d) x } }
def modSide (s : State) (p : Nat) (d : Side) (g : SideSt → SideSt) : State := setSide s p d (g (sideOf s p d))

def blockOf (s : State) (b : Nat) : BlockSt := tget (fun _ => {}) s.line.blocks b
def setBlock (s : State) (b : Nat) (x : BlockSt) : State :=
  { s with line := { s.line with blocks := tput (fun _ => {}) s.line.blocks b x } }

def laneOf (s : State) (b n : Nat) : LaneSt := tget (fun _ => {}) s.line.lanes (8 * b + n)
def setLane (s : State) (b n : Nat) (x : LaneSt) : State :=
  { s with line := { s.line with lanes := tput (fun _ => {}) s.line.lanes (8 * b + n) x } }
def modLanes (s : State) (l : List (Nat × Nat)) (g : LaneSt → LaneSt) : State :=
  l.foldl (fun t q => setLane t q.1 q.2 (g (laneOf t q.1 q.2))) s

def framesOf (s : State) (p : Nat) (d : Dir) : List Frame := tget (fun _ => []) s.line.frames (2 * p + dirNum d)
def setFrames (s : State) (p : Nat) (d : Dir) (l : List Frame) : State :=
  { s with line := { s.line with frames := tput (fun _ => []) s.line.frames (2 * p + dirNum d) l } }

/-- Replace the frame of sequence number `n` of a port and direction. -/
def modFrame (s : State) (p : Nat) (d : Dir) (n : Nat) (g : Frame → Frame) : State :=
  setFrames s p d ((framesOf s p d).map (fun f => if f.seq == n then g f else f))

def dropFrame (s : State) (p : Nat) (d : Dir) (n : Nat) : State :=
  setFrames s p d ((framesOf s p d).filter (fun f => f.seq != n))

/-- UP or DEGRADED: the side carries frames (R53). -/
def sideUp (x : SideSt) : Bool := x.link == .up || x.link == .degraded

/-! ### Headroom (R41, R42) -/

/-- Cells a port's direction holds, reservations included (PB_OCC_s). -/
def occOf (s : State) (p : Nat) (d : Dir) : Nat := ((framesOf s p d).map (fun f => f.cells)).sum

/-- Cells of one priority (R45). -/
def occPrio (s : State) (p : Nat) (d : Dir) (c : Nat) : Nat :=
  (((framesOf s p d).filter (fun f => f.prio == c)).map (fun f => f.cells)).sum

/-- The logical ports whose frames lie in a block's pool. -/
def poolPorts (b : Nat) : List Nat := [4 * b, 4 * b + 1, 4 * b + 2, 4 * b + 3]

def poolUsed (s : State) (b : Nat) (d : Dir) : Nat := ((poolPorts b).map (fun p => occOf s p d)).sum

/-- Cells of one block's pool: 24,576, less 8 for every row kept out of use (R41, R509). -/
def poolOne (s : State) (b : Nat) : Nat := 24576 - 8 * (s.rmLine.excl.filter (fun e => e.1 == 0 && e.2.1 == b)).length

/-- Cells of the pool: two joined blocks form one (R41). -/
def poolSize (s : State) (b : Nat) : Nat := if isLead s b then poolOne s b + poolOne s (b + 1) else poolOne s b

def maxLen (s : State) (b : Nat) : Nat := rf s (pbA b + 0x0C) 13 0

/-- The reservation of R42: ⌈(MAXLEN + 32) / 64⌉ cells. -/
def reserveCells (s : State) (p : Nat) : Nat := cdiv (maxLen s (p / 4) + 32) 64

/-- EG_CAP or IN_CAP of the port. -/
def capOf (s : State) (p : Nat) : Dir → Nat
  | .egress => rf s (slotA p + 0x0C) 15 0
  | .ingress => rf s (slotA p + 0x14) 15 0

/-- Both the port's cap and the pool have room for `n` cells; IN_RSV is never granted to egress (R41, R42). -/
def hasRoom (s : State) (p : Nat) (d : Dir) (n : Nat) : Bool :=
  let b := p / 4
  let used := poolUsed s b .egress + poolUsed s b .ingress
  decide (occOf s p d + n ≤ capOf s p d) && decide (used + n ≤ poolSize s b) &&
    (match d with
     | .ingress => true
     | .egress => decide (poolUsed s b .egress + n + rf s (pbA b + 0x1C) 14 0 ≤ poolSize s b))

/-- The frame limit of the side a frame arrives on (R38). -/
def sideLimit (s : State) (p : Nat) : Side → Nat
  | .host => maxLen s (p / 4)
  | .line => maxLen s (p / 4) + 32

/-- Slot counters of R57, by offset from the slot base 0x0100. -/
def slotCnt (p off : Nat) : Nat := slotA p - 0x100 + off

def downDrop (p : Nat) : Dir → Nat
  | .egress => slotCnt p 0x170
  | .ingress => slotCnt p 0x178

/-! ### Pauses the device asserts (R44–R48) -/

/-- FC of PB_PCFG_s: 0 none, 1 PAUSE, 2 PFC. -/
def fcOf (s : State) (p : Nat) : Nat := rf s (slotA p) 14 13

/-- The direction is flow-controlled toward the side its frames arrive on: egress always under FC, ingress with FC_LINE (R47). -/
def fcActive (s : State) (p : Nat) : Dir → Bool
  | .egress => decide (fcOf s p ≠ 0)
  | .ingress => decide (fcOf s p ≠ 0) && rbit s (slotA p) 15

def xoffOf (s : State) (p : Nat) : Dir → Nat
  | .egress => rf s (slotA p + 0x08) 15 0
  | .ingress => rf s (slotA p + 0x10) 15 0
def xonOf (s : State) (p : Nat) : Dir → Nat
  | .egress => rf s (slotA p + 0x08) 31 16
  | .ingress => rf s (slotA p + 0x10) 31 16
/-- Per-priority thresholds: PFC_XOFF and PFC_XON for egress, a quarter of the slot's for ingress (R45, R47). -/
def pxoffOf (s : State) (p : Nat) : Dir → Nat
  | .egress => rf s (slotA p + 0x18) 15 0
  | .ingress => rf s (slotA p + 0x10) 15 0 / 4
def pxonOf (s : State) (p : Nat) : Dir → Nat
  | .egress => rf s (slotA p + 0x18) 31 16
  | .ingress => rf s (slotA p + 0x10) 31 16 / 4

def quantaOf (s : State) (p : Nat) : Nat := rf s (slotA p + 0x1C) 15 0

/-- PFC_EN of PB_PCFG_s. -/
def pfcEn (s : State) (p : Nat) : Nat := rf s (slotA p) 25 18

/-- The priorities the device pauses on a side: those over their own count, and all of PFC_EN for the slot total (R45). -/
def pausedMask (s : State) (p : Nat) (x : SideSt) : Nat :=
  if fcOf s p = 2 then (if x.pauseTot then x.pausePri ||| pfcEn s p else x.pausePri) else (if x.pauseTot then 0xFF else 0)

/-- The pause state a side should assert for the occupancy now held: above XOFF asserts, at XON releases (R44, R45). -/
def wantPause (s : State) (p : Nat) (d : Dir) : SideSt :=
  let x := sideOf s p (inSide d)
  let o := occOf s p d
  if !fcActive s p d || !sideUp (sideOf s p .host) || !sideUp (sideOf s p .line) then { x with pauseTot := false, pausePri := 0 }
  else
    let tot := if x.pauseTot then decide (xonOf s p d < o) else decide (xoffOf s p d ≤ o)
    let pri := if fcOf s p = 2 then
        (List.range 8).foldl (fun m c =>
          let on := if x.pausePri.testBit c then decide (pxonOf s p d < occPrio s p d c) else decide (pxoffOf s p d ≤ occPrio s p d c)
          if on && (pfcEn s p).testBit c then m + 2 ^ c else m) 0
      else 0
    { x with pauseTot := tot, pausePri := pri }

/-- Send the pause frame that announces a change, count it and raise the pause source (R44, R45, R54 offsets 24–31). -/
def sendPause (s : State) (p : Nat) (d : Dir) (was now : Nat) : State :=
  let side := inSide d
  let f := if fcOf s p = 2 then Sent.pfc p side (was ^^^ now) now (if now = 0 then 0 else quantaOf s p)
           else Sent.pause p side (if now = 0 then 0 else quantaOf s p)
  let s := cinc (send s f) (slotCnt p (match side with | .host => 0x140 | .line => 0x150))
  raise s (pbSrc (p / 4) + (match d with | .egress => 24 | .ingress => 28) + p % 4) [now]

/-- Bring the asserted pause of a direction in line with its occupancy, sending a frame where it changes. -/
def pauseUpdate (s : State) (p : Nat) (d : Dir) : State :=
  let x := sideOf s p (inSide d)
  let y := wantPause s p d
  let was := pausedMask s p x
  let now := pausedMask s p y
  let s := setSide s p (inSide d) y
  if was = now then s else sendPause s p d was now

/-- Release every pause asserted on a side, in the setting's own form, if the side can send (R35, R48). -/
def releasePause (s : State) (p : Nat) (d : Dir) : State :=
  let x := sideOf s p (inSide d)
  let was := pausedMask s p x
  let s := setSide s p (inSide d) { x with pauseTot := false, pausePri := 0 }
  if was = 0 then s
  else if sideUp x then sendPause s p d was 0
  else raise s (pbSrc (p / 4) + (match d with | .egress => 24 | .ingress => 28) + p % 4) [0]

/-! ### Power (R51) -/

/-- POWER of PB_STAT. -/
def powerOf (s : State) (b : Nat) : Nat :=
  let x := blockOf s b
  if modeOf s b = 0 || !anySlotOn s b then 0
  else if x.gatedHost && x.gatedLine then 1
  else if x.active then 3 else 2

/-- Raise the change-of-POWER source if POWER differs from before (R54 offset 40). -/
def powerEvent (old s : State) (b : Nat) : State :=
  if powerOf old b = powerOf s b then s else raise s (pbSrc b + 40) [powerOf s b]

/-- A frame admitted to headroom keeps its block ACTIVE and asks for tiller clocks (R51, R52). -/
def blockAdmit (s : State) (b : Nat) : State :=
  let x := blockOf s b
  let t := setBlock s b (if x.tclk then { x with active := true } else { x with active := true, wake := true })
  powerEvent s t b

/-- The blocks a port uses: its own, and the pair's for an 800 Gbit/s port (R26). -/
def portBlocks (s : State) (p : Nat) : List Nat := if isLead s (p / 4) then [p / 4, p / 4 + 1] else [p / 4]

/-! ### Counting and fates at the verdict stage (R149–R156) -/

/-- VD_LASTERR classes of R158. -/
def recordErr (s : State) (v : Nat) (d : Dir) (f : Frame) (cls : Nat) : State :=
  let e : LastErr :=
    { e0 := w32 (packFields [(f.slot.getD 0, 0), (cls, 16), (dirNum d, 19), (b2n f.started, 20), (1, 21), (b2n f.slot.isNone, 22)]),
      seq := w32 f.seq, pn := w32 f.pn }
  { s with line := { s.line with lastErr := tput (fun _ => {}) s.line.lastErr v e } }

/-- The data of a verdict event: SA slot, all ones for a frame without one, low words of the sequence number and of the PN (R156). -/
def vdData (f : Frame) : List Nat := [f.slot.getD 0xFFFFFFFF, f.seq % 2 ^ 32, f.pn % 2 ^ 32]

def vdStompCnt (v : Nat) : Dir → Nat
  | .egress => vdA v + 0x98
  | .ingress => vdA v + 0xA0
def vdDiscardCnt (v : Nat) : Dir → Nat
  | .egress => vdA v + 0xA8
  | .ingress => vdA v + 0xB0

/-- A frame removed whole: its cells return and the pause is brought in line. -/
def endFrame (s : State) (p : Nat) (d : Dir) (n : Nat) : State := pauseUpdate (dropFrame s p d n) p d

/-- Stomp or drop (R149): a started frame gets the stomp fate, another is dropped whole; EG_/IN_STOMP or _DISCARD counts. -/
def stompOrDrop (s : State) (p : Nat) (d : Dir) (f : Frame) (how : Fate) : State :=
  if f.started then cinc (modFrame s p d f.seq (fun g => { g with fate := some how })) (vdStompCnt p d)
  else cinc (endFrame s p d f.seq) (vdDiscardCnt p d)

/-- A frame ended by one of the first five rows of R149: STOMPED on its slot with offset 4, or DROP_FRAMES of its domain
where it has no slot (R149, R151, R153). -/
def countStomped (s : State) (p : Nat) (d : Dir) (f : Frame) : State :=
  match f.slot with
  | some n => raise (recordErr (saAdd s n 7 1) p d f 3) (vdSrc p + 4) (vdData f)
  | none => recordErr (domAdd s f.domain 2 1) p d f 3

/-- Find ICV failures within ICV_WINDOW and raise offset 1 at ICV_COUNT; raising clears the record (R156). -/
def icvFailure (s : State) (v : Nat) : State :=
  let th := vdA v + 8
  let win := 1000 * rf s th 31 16
  let old := tget (fun _ => []) s.line.icvTimes v
  let recent := s.now :: old.filter (fun t => decide (s.now ≤ t + win))
  let fire := decide (rf s th 15 0 ≤ recent.length)
  let s := cinc { s with line := { s.line with icvTimes := tput (fun _ => []) s.line.icvTimes v (if fire then [] else recent) } } (vdA v + 0xB8)
  if fire then raise s (vdSrc v + 1) [recent.length] else s

end Sys2Proof.Machine
end

