-- ==== Sys2Proof/Machine/GranOps.lean ====
section
/-! DEFINITION. Shared operations on the granary's slots: fetch, packet numbers, margins and erasure (R74, R176, R179,
R184, R185). -/

namespace Sys2Proof.Machine

/-- The registers of the granary, and the base of its event sources (R196, R197). -/
def grA : Nat := 0x45000000
def grSrc : Nat := 3392

/-- The entry in a slot; an unlisted slot is EMPTY and all zeros (R172). -/
def slotOf (s : State) (n : Nat) : SaEntry := tget (fun _ => {}) s.gran.slots n

def setSlot (s : State) (n : Nat) (e : SaEntry) : State :=
  { s with gran := { s.gran with slots := tput (fun _ => {}) s.gran.slots n e } }

def setMargin (s : State) (n : Nat) (b : Bool) : State :=
  { s with gran := { s.gran with margins := tput (fun _ => false) s.gran.margins n b } }

def marginRaised (s : State) (n : Nat) : Bool := tget (fun _ => false) s.gran.margins n

/-- 2^m for the entry's kind of suite (R185). -/
def marginOf (s : State) (e : SaEntry) : Nat := 2 ^ (if e.xpn then rf s grA 12 7 else rf s grA 6 2)

/-- The PN advance of a granted fetch from a usable transmit slot, with the events of the fetch that reaches the margin
or exhausts the slot (R176, R184, R185). -/
def handPn (s : State) (n : Nat) : State :=
  let e := slotOf s n
  let e' := { e with nextPn := e.nextPn + 1 }
  let s := setSlot s n e'
  let s := if e'.remain = marginOf s e' ∧ marginRaised s n = false then raise (setMargin s n true) (grSrc + 3) [n] else s
  if e'.exhausted then raise (cinc s (grA + 0x238)) (grSrc + 4) [n] else s

/-- Raise a receive slot's next PN past an accepted PN (R141, R185). -/
def raiseNextPn (s : State) (n pn : Nat) : State :=
  let e := { slotOf s n with nextPn := BitVec.ofNat 64 (pn + 1) }
  let s := setSlot s n e
  if e.remain ≤ marginOf s e ∧ marginRaised s n = false then raise (setMargin s n true) (grSrc + 5) [n] else s

/-- The descriptors a drain fence waits for: of every direction queue, the newest that still holds an entry (R179). -/
def fenceWaits (s : State) : List (Nat × Nat × Nat) :=
  (List.range 64).flatMap (fun p => [Dir.egress, Dir.ingress].flatMap (fun d =>
    match ((framesOf s p d).filter (fun f => match f.stage with
        | .granted => true | .queued => true | .inTiller _ => true | _ => false)).getLast? with
    | some f => [(p, dirNum d, f.seq)]
    | none => []))

/-- A slot erased in drain style: zeroed, with a drain fence where one of the eight is free (R175, R179). -/
def drainSlot (s : State) (n : Nat) : State :=
  let fs := if s.gran.fences.length < 8 then s.gran.fences ++ [⟨n, fenceWaits s⟩] else s.gran.fences
  let t := setMargin (setSlot s n {}) n false
  { t with gran := { t.gran with fences := fs } }

/-- An uncorrectable error in an entry: the slot is erased in drain style, with offset 7 (R167, R195). -/
def eccErase (s : State) (n : Nat) : State :=
  raise (cinc (drainSlot s n) (grA + 0x228)) (grSrc + 7) [n]

/-- A corrected error (R167, R195). -/
def eccCorrected (s : State) (n : Nat) : State := raise (cinc s (grA + 0x220)) (grSrc + 6) [n]

end Sys2Proof.Machine
end

