-- ==== Sys2Proof/Machine/FrameOps.lean ====
section
/-! DEFINITION. Frames: parsing (R60–R62), building and reading protected frames (R135–R138), the head decisions and the
verdict (R145–R153), the fates of frames when a side goes down (R48, R53, R149), and purge marks (R122, R123). -/

namespace Sys2Proof.Machine

/-! ### Parsing (R60–R62) -/

/-- One parsed VLAN tag: class, VID and PCP. -/
structure VTag where
  cls : Nat
  vid : Nat
  pcp : Nat
deriving DecidableEq, Repr

/-- What the parser extracts (R60). -/
structure Parse where
  dst : Nat
  src : List Byte
  tags : List VTag
  etype : Nat
  next2 : Nat
  /-- place of the SecTAG's EtherType, if one is recognised -/
  sec : Option Nat
  tci : Nat
  hasSci : Bool
  /-- SCI in the octet order of R65 -/
  sci : Nat
deriving DecidableEq, Repr

/-- The TPID class of an EtherType value at a stage (R60). -/
def tpidClass (s : State) (stg t : Nat) : Option Nat :=
  if t = 0x8100 then some 0
  else if t = 0x88A8 then some 1
  else if rbit s (stA stg) 2 ∧ t = rf s (stA stg) 31 16 then some 2
  else none

/-- The tag at octet `i`, if its TPID is one of the classes. -/
def tagAt (s : State) (stg : Nat) (l : List Byte) (i : Nat) : Option VTag :=
  match tpidClass s stg (beNat (octetsAt l i 2)) with
  | some c => let v := beNat (octetsAt l (i + 2) 2); some ⟨c, v % 4096, v / 8192⟩
  | none => none

/-- Up to two tags are parsed; a third is taken as the EtherType (R60). -/
def tagsOf (s : State) (stg : Nat) (l : List Byte) : List VTag :=
  match tagAt s stg l 12 with
  | none => []
  | some a => match tagAt s stg l 16 with
    | none => [a]
    | some b => [a, b]

/-- The parse of a frame's first octets (R60, R61). -/
def parseFrame (s : State) (stg : Nat) (l : List Byte) : Parse :=
  let tags := tagsOf s stg l
  let e := 12 + 4 * tags.length
  let et := beNat (octetsAt l e 2)
  let tci := beNat (octetsAt l (e + 2) 1)
  let sec := if et = 0x88E5 then some e else none
  let sc := bitAt tci 5
  let es := bitAt tci 6
  let sci := if sc then leNat (octetsAt l (e + 8) 8) else if es then leNat (octetsAt l 6 6 ++ [0, 1]) else 0
  { dst := leNat (octetsAt l 0 6), src := octetsAt l 6 6, tags := tags, etype := et, next2 := beNat (octetsAt l (e + 2) 2),
    sec := sec, tci := tci, hasSci := sec.isSome && (sc || es), sci := sci }

/-- A malformed SecTAG: V is 1, SC and ES, SC and SCB, or SCB set (R62). -/
def Parse.malformed (p : Parse) : Bool :=
  p.sec.isSome && (bitAt p.tci 7 || (bitAt p.tci 5 && bitAt p.tci 6) || bitAt p.tci 4)

/-! ### Building and reading (R135–R138) -/

/-- The IV of R137 from the SCI in wire order and the PN. -/
def ivOf (e : SaEntry) (sci : List Byte) (pn : Nat) : BitVec 96 :=
  if e.xpn then e.salt ^^^ BitVec.ofNat 96 (e.ssci.toNat * 2 ^ 64 + pn % 2 ^ 64)
  else BitVec.ofNat 96 (beNat sci * 2 ^ 32 + pn % 2 ^ 32)

/-- SecTAG length T (R135). -/
def sectagLen (sc : Bool) : Nat := if sc then 16 else 8

/-- What R135 and R99 need of a frame: secure data length S, authenticated octets A and encrypted octets P. -/
structure Sizes where
  sLen : Nat
  a : Nat
  p : Nat
deriving DecidableEq, Repr

def sizesOf (t s off : Nat) (e : Bool) : Sizes :=
  let o := Nat.min off s
  if e then ⟨s, 12 + t + o, s - o⟩ else ⟨s, 12 + t + s, 0⟩

/-- Clear tags of a transmitted frame: the first CLEAR_TAGS tags, or all where it has fewer (R136). -/
def clearTagsOf (s : State) (f : Frame) : Nat := Nat.min f.entry.clearTags (tagsOf s f.stg f.octets).length

/-- S, A and P of a frame to be protected (R135). -/
def txSizes (s : State) (f : Frame) : Sizes :=
  sizesOf (sectagLen (f.entry.sectag == 1)) (f.octets.length - 16 - 4 * clearTagsOf s f) f.entry.offset f.entry.conf

/-- S, A and P of a received frame (R135). -/
def rxSizes (s : State) (f : Frame) : Sizes :=
  let p := parseFrame s f.stg f.octets
  let t := sectagLen (bitAt p.tci 5)
  sizesOf t (f.octets.length - (12 + t + 20) - 4 * p.tags.length) f.entry.offset (bitAt p.tci 3)

def frameSizes (s : State) (d : Dir) (f : Frame) : Sizes :=
  match d with
  | .egress => txSizes s f
  | .ingress => rxSizes s f

/-- Input cycles, and output blocks, of a frame (R99, R100). -/
def frameBlocks (s : State) (d : Dir) (f : Frame) : Nat :=
  let z := frameSizes s d f
  cdiv z.a 16 + cdiv z.p 16

/-- The SecTAG of R136. -/
def sectagOf (f : Frame) (sci : List Byte) (sl : Nat) : List Byte :=
  let e := f.entry
  let tci := packFields [(e.an, 0), (b2n e.conf, 2), (b2n e.conf, 3), (b2n (e.sectag == 1), 5), (b2n (e.sectag == 2), 6)]
  [0x88, 0xE5, BitVec.ofNat 8 tci, BitVec.ofNat 8 sl] ++ beBytes 4 f.pn ++ (if e.sectag = 1 then sci else [])

/-- The protected frame without its FCS (R135–R137). -/
def protectFrame (s : State) (f : Frame) : List Byte :=
  let e := f.entry
  let k := clearTagsOf s f
  let z := txSizes s f
  let tag := sectagOf f (leBytes 8 f.sci.toNat) (if z.sLen < 48 then z.sLen else 0)
  let addrs := f.octets.take 12
  let clear := (f.octets.drop 12).take (4 * k)
  let secure := (f.octets.drop (12 + 4 * k)).take z.sLen
  let o := Nat.min e.offset z.sLen
  let aad := addrs ++ tag ++ (if e.conf then secure.take o else secure)
  let enc := if e.conf then secure.drop o else []
  let r := Config.gcmSeal e.suite e.key (ivOf e (leBytes 8 f.sci.toNat) f.pn) aad enc
  addrs ++ clear ++ tag ++ (if e.conf then secure.take o ++ r.1 else secure) ++ r.2

/-- A received frame opened: what it leaves as, without FCS and before padding, and whether its ICV is right (R135–R138). -/
def validateFrame (s : State) (f : Frame) : List Byte × Bool :=
  let e := f.entry
  let p := parseFrame s f.stg f.octets
  let at_ := p.sec.getD 12
  let t := sectagLen (bitAt p.tci 5)
  let z := rxSizes s f
  let enc := bitAt p.tci 3
  let sci := if p.hasSci then leBytes 8 p.sci else leBytes 8 f.sci.toNat
  let secure := (f.octets.drop (at_ + t)).take z.sLen
  let icv := (f.octets.drop (at_ + t + z.sLen)).take 16
  let o := Nat.min e.offset z.sLen
  let tag := (f.octets.drop at_).take t
  let aad := f.octets.take 12 ++ tag ++ (if enc then secure.take o else secure)
  let r := Config.gcmOpen e.suite e.key (ivOf e sci f.pn) aad (if enc then secure.drop o else []) icv
  (f.octets.take at_ ++ (if enc then secure.take o ++ r.1 else secure), r.2)

/-- Zero octets up to `n`, where the list is shorter. -/
def padTo (n : Nat) (l : List Byte) : List Byte := l ++ List.replicate (n - l.length) 0

/-- A frame with its correct FCS. -/
def withFcs (l : List Byte) : List Byte := l ++ Config.fcs32 l

/-- A frame ended with its correct CRC-32 inverted (R147). -/
def withStomp (l : List Byte) : List Byte := l ++ (Config.fcs32 l).map (fun b => ~~~b)

/-! ### The SecTAG's bad-tag checks and the receive state (R139–R142) -/

/-- The PN field of a received frame. -/
def pnField (p : Parse) (l : List Byte) : Nat := beNat (octetsAt l (p.sec.getD 12 + 4) 4)

/-- The SL field. -/
def slField (p : Parse) (l : List Byte) : Nat := beNat (octetsAt l (p.sec.getD 12 + 3) 1)

/-- The bad tags of R139; those of SL need the frame's length. -/
def badTag (s : State) (f : Frame) : Bool :=
  let p := parseFrame s f.stg f.octets
  let sl := slField p f.octets
  let z := rxSizes s f
  (bitAt p.tci 3 != bitAt p.tci 2) || (!f.entry.xpn && pnField p f.octets == 0) ||
    (f.ended && ((sl != 0 && sl != z.sLen) || (sl == 0 && decide (z.sLen < 48))))

/-- Condition 4 of R146 for a validated frame. -/
def storeForward (s : State) (p : Nat) (f : Frame) : Bool :=
  let q := parseFrame s f.stg f.octets
  f.entry.storeFwd || rbit s (vdA p) 1 || slField q f.octets != 0 || (f.ended && decide (f.octets.length ≤ 103))

/-- The lowest acceptable PN a frame is compared with: its slot's state, or its own copy's where the slot has been installed
into since (R141, R142, R175). -/
def lowestFor (s : State) (f : Frame) : Nat :=
  let e := slotOf s (f.slot.getD 0)
  if e.epoch = f.entry.epoch then e.lowest else f.entry.lowest

/-- The 64-bit PN of a received frame, recovered at admission (R140). -/
def recoverPn (e : SaEntry) (r : Nat) : Nat :=
  if e.xpn then
    let l := e.lowest
    let hi := l / 2 ^ 32
    if l % 2 ^ 32 ≤ r then hi * 2 ^ 32 + r else (hi + 1) * 2 ^ 32 + r
  else r

/-! ### Fates -/

/-- The first resolved frame of a direction: the head (R145). -/
def headOf (s : State) (p : Nat) (d : Dir) : Option Frame := (framesOf s p d).find? (fun f => f.seq != 0)

/-- A frame's slot or, without one, its domain's DROP_FRAMES (R149, R151, R153). -/
def countIn (s : State) (f : Frame) (cls : Nat) : State :=
  match f.slot with
  | some n => saAdd s n cls 1
  | none => domAdd s f.domain 2 1

/-- A DROP descriptor counted: DROP_FRAMES; and a SecTAG frame in IN_UNKNOWN_SCI or IN_NO_SCI with offset 5 (R149, R157). -/
def countDrop (s : State) (p : Nat) (d : Dir) (f : Frame) : State :=
  let s := domAdd s f.domain 2 1
  match d with
  | .egress => s
  | .ingress => if f.hadSectag then raise (cinc s (vdA p + (if f.hadSci then 0x70 else 0x78))) (vdSrc p + 5) (vdData f) else s

/-- The descriptors at the head counted and removed; they take no cycles of their own (R145). `k` bounds their number. -/
def runDescriptors : Nat → State → Nat → Dir → State
  | 0, s, _, _ => s
  | k + 1, s, p, d =>
    match headOf s p d with
    | some f =>
      match f.act with
      | .drop => runDescriptors k (dropFrame (if f.bad = .none then countDrop s p d f else countStomped s p d f) p d f.seq) p d
      | .toHost => runDescriptors k (dropFrame (if f.bad = .none then domAdd s f.domain 3 1 else countStomped s p d f) p d f.seq) p d
      | _ => s
    | none => s

def headRun (s : State) (p : Nat) (d : Dir) : State := runDescriptors (framesOf s p d).length s p d

/-- A frame dropped whole at the verdict stage: counted in EG_DISCARD or IN_DISCARD, its cells returned. -/
def dropWhole (s : State) (p : Nat) (d : Dir) (f : Frame) : State :=
  let s := if f.injected then { s with line := { s.line with injWait := tput (fun _ => false) s.line.injWait f.stg false } } else s
  headRun (cinc (endFrame s p d f.seq) (vdDiscardCnt p d)) p d

/-- A started frame's stomp, or a whole drop of one not started (R147, R149). -/
def stompDrop (s : State) (p : Nat) (d : Dir) (f : Frame) (how : Fate) (out : List Byte) : State :=
  if f.started then cinc (modFrame s p d f.seq (fun g => { g with fate := some how, out := out })) (vdStompCnt p d)
  else dropWhole s p d f

/-- A frame that passes: its fate is fixed and what it leaves as is known. -/
def passFrame (s : State) (p : Nat) (d : Dir) (f : Frame) (out : List Byte) : State :=
  modFrame s p d f.seq (fun g => { g with fate := some .pass, out := out })

/-- What has left of a frame cut short: the spec fixes no number of octets, which is a free value (R147). -/
def cutOut (s : State) (f : Frame) : List Byte := f.octets.take (free s)

/-- Count the ICV failure and raise offset 0, and offset 1 at the threshold (R156). -/
def icvFail (s : State) (p : Nat) (f : Frame) (cls : Nat) : State :=
  raise (icvFailure (recordErr s p .ingress f cls) p) (vdSrc p) (vdData f)

/-- The verdict of a validated frame whose last block is released (R141, R149 rows 8 to 13). -/
def verdictRx (s : State) (p : Nat) (f : Frame) : State :=
  let n := f.slot.getD 0
  let q := parseFrame s f.stg f.octets
  let r := validateFrame s f
  let out := padTo 60 r.1
  let len := out.length + 4
  let low := lowestFor s f
  let z := rxSizes s f
  let enc := bitAt q.tci 3
  if badTag s f then
    dropWhole (raise (cinc (recordErr (saAdd s n 7 1) p .ingress f 4) (vdA p + 0x68)) (vdSrc p + 3) (vdData f)) p .ingress f
  else if r.2 = false then
    if f.entry.strict || enc then
      stompDrop (icvFail (saAdd s n 2 1) p f 0) p .ingress f .stompFull out
    else passFrame (icvFail (saAdd (saAdd s n 6 1) n 1 len) p f 6) p .ingress f out
  else if f.pn < low then
    if f.entry.replayProtect then
      stompDrop (raise (recordErr (saAdd s n 4 1) p .ingress f 1) (vdSrc p + 2) (vdData f)) p .ingress f .stompFull out
    else passFrame (raise (saAdd (saAdd s n 3 1) n 1 len) (vdSrc p + 6) (vdData f)) p .ingress f out
  else
    let e := slotOf s n
    let s := saAdd (saAdd s n 0 1) n 1 len
    let s := cadd s (vdA p + (if enc then 0x90 else 0x88)) z.sLen
    let s := if e.epoch = f.entry.epoch ∧ e.nextVal ≤ f.pn then raiseNextPn s n f.pn else s
    passFrame s p .ingress f out

/-- The verdict of a protected frame: no failure (R149). -/
def verdictTx (s : State) (p : Nat) (f : Frame) : State :=
  let n := f.slot.getD 0
  let out := protectFrame s f
  let s := saAdd (saAdd s n 0 1) n 1 (out.length + 4)
  passFrame (cadd s (vdA p + (if f.entry.conf then 0x50 else 0x48)) (txSizes s f).sLen) p .egress f out

/-- The verdict of a frame passed unchanged: BYPASS, or untagged under UNTAGGED_PASS (R149, R153, R159). -/
def verdictBypass (s : State) (p : Nat) (d : Dir) (f : Frame) : State :=
  let s := domAdd (domAdd s f.domain 0 1) f.domain 1 f.octets.length
  let s := match d with
    | .egress => cinc s (vdA p + 0x40)
    | .ingress => if f.hadSectag then s else cinc s (vdA p + 0x58)
  passFrame s p d f (f.octets.take (f.octets.length - 4))

/-- Every block of the frame has been released, or it came by the direct lane. -/
def onLane (f : Frame) : Bool :=
  match f.stage with
  | .lane => true
  | _ => false

/-- Fix the head frame's fate where that can be done now: at a purge or twin-fail mark, at the loss of the input, or when
its last block and its last octet are in (R147, R149). -/
def tryVerdict (s : State) (p : Nat) (d : Dir) : State :=
  match headOf s p d with
  | none => s
  | some f =>
    if !f.headOk || f.fate.isSome then s
    else if f.mark = .purged ∨ f.mark = .twinFail then
      stompDrop (freed (countStomped s p d f)) p d f .stompTrunc (cutOut s f)
    else if f.bad = .lost then
      stompDrop (freed (countStomped s p d f)) p d f .stompTrunc (cutOut s f)
    else if !f.ended || !onLane f then s
    else if f.bad ≠ .none then
      let whole := match f.act with
        | .protect => protectFrame s f
        | .validate => padTo 60 (validateFrame s f).1
        | _ => f.octets.take (f.octets.length - 4)
      if f.bad = .fcs then stompDrop (countStomped s p d f) p d f .stompFull whole
      else stompDrop (freed (countStomped s p d f)) p d f .stompTrunc (whole.take (free s))
    else if f.injected then passFrame s p d f (f.octets.take (f.octets.length - 4))
    else match f.act with
      | .protect => verdictTx s p f
      | .validate => if f.mark = .untagged then verdictBypass s p d f else verdictRx s p f
      | _ => verdictBypass s p d f

/-! ### Local Fault under FOLLOW (R36) -/

/-- FOLLOW asks the side to transmit Local Fault: its bit is set and the other side is not UP or DEGRADED. -/
def wantsFault (s : State) (p : Nat) (d : Side) : Bool :=
  rbit s (slotA p) (match d with | .host => 11 | .line => 12) && (sideOf s p d).link != .disabled && !sideUp (sideOf s p (otherSide d))

/-- Begin Local Fault once the frames queued for the side have left, or end it. -/
def faultSide (s : State) (p : Nat) (d : Side) : State :=
  let x := sideOf s p d
  if wantsFault s p d then
    if x.localFault || !(framesOf s p (dirOf (otherSide d))).isEmpty then s
    else send (setSide s p d { x with localFault := true }) (.localFault p d true)
  else if x.localFault then send (setSide s p d { x with localFault := false }) (.localFault p d false) else s

def faultUpdate (s : State) (p : Nat) : State := faultSide (faultSide s p .host) p .line

/-! ### Sides going down (R46, R48, R53, R149) -/

/-- One frame queued for a side that goes down. -/
def outDown (s : State) (p : Nat) (d : Dir) (f : Frame) : State :=
  if f.injected then
    cinc { s with line := { s.line with injWait := tput (fun _ => false) s.line.injWait f.stg false } } (downDrop p d)
  else if f.seq = 0 ∨ f.stage = .fetchWait then cinc s (downDrop p d)
  else if f.fate.isSome then cinc s (vdDiscardCnt p d)
  else cinc (countStomped s p d f) (vdDiscardCnt p d)

/-- The frames of a direction whose output side goes down end; DROP and TO_HOST descriptors stay to be counted. -/
def discardOut (s : State) (p : Nat) (d : Dir) : State :=
  let l := framesOf s p d
  let gone := l.filter (fun f => !(f.act == .toHost || (f.act == .drop && f.seq != 0)))
  let s := setFrames s p d (l.filter (fun f => f.act == .toHost || (f.act == .drop && f.seq != 0)))
  let s := { s with line := { s.line with queues := tmap (fun _ => []) (fun k q =>
      if k % 2 = dirNum d then q.filter (fun e => !(e.1 == p && gone.any (fun f => f.seq == e.2))) else q) s.line.queues } }
  headRun (gone.foldl (fun t f => outDown t p d f) s) p d

/-- The frame arriving on a side that goes down: dropped whole before its 64th octet, else ended as lost (R53, R149). -/
def inputLost (s : State) (p : Nat) (sd : Side) : State :=
  let d := dirOf sd
  match (sideOf s p sd).recv with
  | none => s
  | some r =>
    let s := setSide s p sd { sideOf s p sd with recv := none }
    if r.seq = 0 then
      if (framesOf s p d).any (fun f => f.seq == 0) then cinc (endFrame s p d 0) (downDrop p d) else s
    else tryVerdict (modFrame s p d r.seq (fun f => { f with bad := .lost, ended := true })) p d

/-- What follows when a side leaves UP or DEGRADED. -/
def sideLeaves (s : State) (p : Nat) (sd : Side) : State :=
  let s := setSide s p sd { sideOf s p sd with stopped := false }
  let s := releasePause s p (dirOf (otherSide sd))
  let s := releasePause s p (dirOf sd)
  let s := discardOut s p (dirOf (otherSide sd))
  inputLost s p sd

/-- The link event of a side (R54 offsets 0–7). -/
def linkSrc (p : Nat) (sd : Side) : Nat := pbSrc (p / 4) + 4 * sideNum sd + p % 4

/-- Move a side to a link state: its event, what leaving UP or DEGRADED brings, and pauses compared afresh when both sides
are up (R33, R36, R48). -/
def linkTo (s : State) (p : Nat) (sd : Side) (st : Link) : State :=
  let x := sideOf s p sd
  if x.link = st then s
  else
    let y := { x with link := st, aligned := false, anFail := false }
    let s := raise (setSide s p sd y) (linkSrc p sd) [x.link.code, st.code]
    let s := if sideUp x && !sideUp y then sideLeaves s p sd
      else if !sideUp x && sideUp y then pauseUpdate (pauseUpdate s p .egress) p .ingress else s
    faultUpdate s p

/-! ### Purge marks (R122, R123, R180) -/

/-- Mark one frame PURGED unless it is already TWIN_FAIL, and take it out of tiller and queue: its remaining blocks are
never released (R122, R124). -/
def purgeFrame (f : Frame) : Frame :=
  { f with mark := if f.mark = .twinFail then .twinFail else .purged, stage := .lane, entry := { f.entry with keyS0 := 0, keyS1 := 0, hS0 := 0, hS1 := 0 } }

/-- The frame is admitted, holds an entry of a slot and has no fixed fate. -/
def holdsEntry (f : Frame) : Bool :=
  f.slot.isSome && f.fate.isNone && f.mark != .noSa && f.seq != 0

/-- Purge the frames a test picks, on every port: counted in PURGE_KILL of the tiller that holds each. -/
def purgeFrames (s : State) (q : Frame → Bool) : State :=
  let hit := fun f => holdsEntry f && q f
  let inT := fun (t : Nat) => ((List.range 128).map (fun k =>
      ((tget (fun _ => []) s.line.frames k).filter (fun f => hit f && f.stage == .inTiller t)).length)).sum
  let picked := fun (p sq dn : Nat) => (tget (fun _ => []) s.line.frames (2 * p + dn)).any (fun f => f.seq == sq && hit f)
  let s1 := (List.range 72).foldl (fun t k => if inT k = 0 then t else cadd t (tlA k + 0x60) (inT k)) s
  let s2 := { s1 with line := { s1.line with
      queues := tmap (fun _ => []) (fun k q => q.filter (fun x => !picked x.1 x.2 (k % 2))) s1.line.queues,
      tillers := tmap tillerInit (fun _ e => { e with held := e.held.filter (fun x => !(picked x.1 x.2 ((e.pos % 4) / 2))) }) s1.line.tillers,
      frames := tmap (fun _ => []) (fun _ l => l.map (fun f => if hit f then purgeFrame f else f)) s1.line.frames } }
  (List.range 64).foldl (fun t p => tryVerdict (tryVerdict t p .egress) p .ingress) s2

/-- A purge-style erase of a slot marks every copy (R122). -/
def purgeSlot (s : State) (n : Nat) : State := purgeFrames s (fun f => f.slot == some n)

/-- PURGE on the ladder, or a zeroise, ends every frame the array and its queues hold (R123). -/
def purgeAll (s : State) : State :=
  purgeFrames s (fun f => match f.stage with
    | .inTiller _ => true
    | .queued => true
    | .granted => true
    | _ => false)

end Sys2Proof.Machine
end

