-- ==== Sys2Proof/Machine/LiOps.lean ====
section
/-! DEFINITION. Shared operations on the long-integer engine's job table: selection, charging and withdrawal
(R434, R444–R446, R449). -/

namespace Sys2Proof.Machine

def liA : Nat := 0x30050000
def setLi (s : State) (x : LiSt) : State := { s with li := x }
def liJob (s : State) (j : Nat) : LiJob := tget (fun _ => {}) s.li.jobs j
def setLiJob (s : State) (j : Nat) (x : LiJob) : State := setLi s { s.li with jobs := tput (fun _ => {}) s.li.jobs j x }

/-- Word w of LI_JOB_j (R451), and the fields of word 0. -/
def liRec (j w : Nat) : Nat := liA + 0x1000 + 0x40 * j + 4 * w
def liOpOf (s : State) (j : Nat) : Nat := rf s (liRec j 0) 5 0
def liClass (s : State) (j : Nat) : Nat := rf s (liRec j 0) 6 6
def liParam (s : State) (j : Nat) : Nat := rf s (liRec j 0) 14 7
def liFunc (s : State) (j : Nat) : Nat := rf s (liRec j 0) 24 16

def liVt (s : State) (i : Nat) : Nat := tget (fun _ => 0) s.li.vt i
def setVt (s : State) (i v : Nat) : State := setLi s { s.li with vt := tput (fun _ => 0) s.li.vt i v }

/-- Entries of the table in a state. -/
def liIn (s : State) (st : LiState) : List Nat := (List.range 272).filter (fun j => (liJob s j).st == st)

/-- Contexts held. -/
def ctxHeld (s : State) : List Nat := s.li.jobs.filterMap (fun e => e.2.ctx)

/-- The lowest context free for a class: 0–6 for either, 7 only for class 1 (R431). -/
def ctxFree (s : State) (cls : Nat) : Option Nat :=
  (List.range (if cls = 1 then 8 else 7)).find? (fun c => !(ctxHeld s).contains c)

/-- The oldest job of a list by order of admission. -/
def oldest (s : State) (l : List Nat) : Option Nat :=
  l.foldl (fun b j => match b with
    | none => some j
    | some i => if (liJob s j).age < (liJob s i).age then some j else some i) none

/-- The function of least virtual time among jobs; the least index on a tie (R444). -/
def leastFn (s : State) (l : List Nat) : Option Nat :=
  l.foldl (fun b j => match b with
    | none => some (liFunc s j)
    | some i => if liVt s (liFunc s j) < liVt s i ∨ (liVt s (liFunc s j) = liVt s i ∧ liFunc s j < i) then some (liFunc s j) else some i) none

/-- The choice of R444 among the jobs that may run. -/
def liChoice (s : State) : Option Nat :=
  let c := liIn s .suspended ++ (match s.li.running with | some j => [j] | none => [])
  let q := (liIn s .queued).filter (fun j => (ctxFree s (liClass s j)).isSome)
  match oldest s ((c ++ q).filter (fun j => liClass s j == 1)) with
  | some j => some j
  | none =>
    match leastFn s (c ++ q) with
    | none => none
    | some i =>
      match c.find? (fun j => liFunc s j == i) with
      | some j => some j
      | none => oldest s (q.filter (fun j => liFunc s j == i))

/-- Whether contexts 0–6 are all held, and since when (R446). -/
def ctxWatch (s : State) : State :=
  let full := (List.range 7).all (fun c => (ctxHeld s).contains c)
  setLi s { s.li with fullAt := if full then some (s.li.fullAt.getD s.now) else none, fullTold := full && s.li.fullTold }

/-- The chosen job runs: one with a context computes, one QUEUED takes a context and loads, with its colour at MPU 24 (R444, R451). -/
def liRun (s : State) (j : Nat) : State :=
  let x := liJob s j
  let s := match x.st with
    | .queued => rsetf (setLiJob s j { x with st := .loading, ctx := ctxFree s (liClass s j) }) (0x30080200 + 0x400 * 24) 7 0 (rf s (liRec j 1) 7 0)
    | _ => setLiJob s j { x with st := .computing }
  ctxWatch (setLi s { s.li with running := some j })

/-- The engine selects the job to run, at a yield point, at a job's end or while idle (R444); with EN 0 none is selected (R451). -/
def liSelect (s : State) : State :=
  if rbit s liA 0 then
    match liChoice s with
    | none => s
    | some j =>
      if s.li.running = some j then s
      else match s.li.running with
        | some r => liRun (cinc (setLiJob s r { liJob s r with st := .suspended }) (liA + 0x8028)) j
        | none => liRun s j
  else match s.li.running with
    | some r =>
      let t := cinc (setLiJob s r { liJob s r with st := .suspended }) (liA + 0x8028)
      setLi t { t.li with running := none }
    | none => s

/-- The engine is idle or at a yield point of a computing job, so a new job may be selected at once. -/
def liKick (s : State) : State := if s.li.running.isNone then liSelect s else s

/-- A job is ENDED with a status: its context wiped and freed, source 96, and the counter of its status (R434, R437, R452). -/
def liEnd (s : State) (j status : Nat) : State :=
  let x := liJob s j
  let s := setLiJob s j { x with st := .ended, status := status, ctx := none, seed := 0, inp := [], aux := [], key := [], sym := [] }
  let s := if s.li.running = some j then setLi s { s.li with running := none } else s
  let s := ctxWatch s
  let s := if status = 0 ∨ status = 1 then cinc s (liA + 0x8000)
    else if status = 4 then raise (cinc s (liA + 0x8008)) 100 [j]
    else if status = 3 then cinc s (liA + 0x8010)
    else if status = 6 then cinc s (liA + 0x8018) else s
  raise s 96 [j, status]

/-- The job is neither FREE nor ENDED. -/
def LiJob.live (x : LiJob) : Bool :=
  match x.st with
  | .free => false
  | .ended => false
  | _ => true

/-- Every live job whose entry `p` names ends WITHDRAWN, and the engine goes on with the others (R449). -/
def liWithdraw (s : State) (p : LiJob → Bool) : State :=
  let mine := (List.range 272).filter (fun j => (liJob s j).live && p (liJob s j))
  if mine = [] then s else liKick (mine.foldl (fun t j => liEnd t j 4) s)

/-- Every job of the engine is stopped and its contexts wiped (R449 row 1). -/
def liPurge (s : State) : State := liWithdraw s (fun _ => true)

/-- The long-integer jobs of an order are withdrawn or stopped, and their results discarded (R242, R280, R449). -/
def withdrawLi (s : State) (order : Nat) : State :=
  let t := liWithdraw s (fun x => x.order == some order)
  setLi t { t.li with jobs := tmap (fun _ => {}) (fun _ x => if x.order = some order then { x with order := none, out := [] } else x) t.li.jobs }

end Sys2Proof.Machine
end

