-- ==== Sys2Proof/Machine/PurgeOps.lean ====
section
/-! DEFINITION. What the alarm ladder's PURGE reaches: the granary's zeroise (R188), the long-integer engine's first row of
R449, the DRBG's reinstantiation (R470) and the key handles (R292). -/

namespace Sys2Proof.Machine

/-- A granary command completes: GR_RESULT updated, the transfer record cleared (R178, R197). -/
def grComplete (s : State) (op slot code : Nat) : State :=
  { s with gran := { s.gran with cmd := none, resOp := op, resSlot := slot, resCode := code, resSeq := (s.gran.resSeq + 1) % 1024,
                                 xfer := [], written := [] } }

/-- ZEROISE: aborts any command, sets ZEROED, clears the record, the seed and the keystream state, and from now on every
fetch returns VALID 0; admitted frames end under R123 (R188). -/
def zeroiseStart (s : State) : State :=
  let s := match s.gran.cmd with
    | some c => grComplete s c.op c.slot 3
    | none => s
  let s := { s with gran := { s.gran with zeroed := true, zeroising := true, xfer := [], written := [], seed := none, seedNext := none, sweeping := false,
                                          slots := [], margins := [] } }
  purgeAll (cinc s (grA + 0x240))

/-- Before its next call the DRBG reinstantiates (R470). -/
def drbgReinst (s : State) : State := if s.rng.st = .running then { s with rng := { s.rng with busy := 2 } } else s

/-- Every key handle is wiped (R284, R292). -/
def wipeHandles (s : State) : State := { s with ord := { s.ord with keys := [] } }

end Sys2Proof.Machine
end

