-- ==== Sys2Proof/Machine/TagOps.lean ====
section
/-! DEFINITION. Records of the field tag and their writes (R597–R607), and the time-stamp counter (R532). -/

namespace Sys2Proof.Machine

/-- The time-stamp counter: cycles of 32.768 kHz, 48 bits (R532). -/
def tscOf (s : State) : Nat := (s.tm.tscBase + s.now * 4096 / 125000) % 2 ^ 48

/-! ### Records (R598–R600) -/

def setTagSt (s : State) (x : TagSt) : State := { s with tag := x }

def tagRec (s : State) (k : Nat) : TagRec := tget (fun _ => {}) s.tag.nvm k

/-- Pages of a copy of each kind, and the octets of its payload. -/
def tagPages (k : Nat) : Nat := nth [0, 1, 1, 2, 2, 17] k 0
def tagLen (k : Nat) : Nat := 64 * tagPages k - 12

/-- First page of the copies of a kind (R598). -/
def tagPage (k : Nat) (primary : Bool) : Nat := nth [0, 0, 2, 4, 8, 12] k 0 + (if primary then tagPages k else 0)

/-- The copy that a record reads as: the valid one of higher SEQ, P where they are equal; none where the record is absent (R599). -/
def tagValue (r : TagRec) : Option TagCopy :=
  if r.b.valid && r.p.valid then some (if r.p.seq < r.b.seq then r.b else r.p)
  else if r.b.valid then some r.b
  else if r.p.valid then some r.p
  else none

/-- A record's payload and SEQ; zeros where it is absent. -/
def tagPayload (s : State) (k : Nat) : List Byte := octetsAt (((tagValue (tagRec s k)).map (fun c => c.payload)).getD []) 0 (tagLen k)
def tagSeq (s : State) (k : Nat) : Nat := ((tagValue (tagRec s k)).map (fun c => c.seq)).getD 0

/-- Counter c. -/
def tagCounter (s : State) (c : Nat) : Nat := leNat (octetsAt (tagPayload s 4) (4 * c) 4)

/-! ### Writes (R602–R604) -/

/-- What the new copies will hold: SEQ one above the record's, and the payload asked for. -/
def newCopy (s : State) (k : Nat) (a : TagAsk) : TagCopy :=
  ⟨true, (tagSeq s k + 1) % 2 ^ 32, match a with
    | .payload l => octetsAt l 0 (tagLen k)
    | .counter c n => putOctets (tagPayload s 4) (4 * c) (leBytes 4 (tagCounter s c + n))⟩

def setCopy (s : State) (k : Nat) (primary : Bool) (c : TagCopy) : State :=
  let r := tagRec s k
  setTagSt s { s.tag with nvm := tput (fun _ => {}) s.tag.nvm k (if primary then { r with p := c } else { r with b := c }) }

def onPrimary (t : TagStep) : Bool :=
  match t with
  | .repairP => true
  | .writeP => true
  | _ => false

/-- The first write in the list begins a step: its copy is being rewritten, so it is not valid until its last page is written. -/
def tagEnter (s : State) (w : TagWrite) : State :=
  let s := setCopy s w.kind (onPrimary w.step) {}
  setTagSt s { s.tag with writes := { w with page := 0, failed := false } :: s.tag.writes.tail }

/-- Step 0 where the copies are not both valid with equal SEQ and one is valid, else step 1 (R602). -/
def tagBegin (s : State) (w : TagWrite) : State :=
  let r := tagRec s w.kind
  let s' := if (tagValue r).isNone ∧ runs s then raise s 171 [w.kind] else s
  if (r.b.valid && r.p.valid && r.b.seq == r.p.seq) || (!r.b.valid && !r.p.valid) then
    tagEnter s' { w with step := .writeB, copy := newCopy s w.kind w.ask }
  else
    match tagValue r with
    | some c => tagEnter s' { w with step := if c = r.b then .repairP else .repairB, copy := c, repaired := true }
    | none => s'

/-- A write in order of arrival (R604). -/
def tagQueue (s : State) (w : TagWrite) : State :=
  let t := setTagSt s { s.tag with writes := s.tag.writes ++ [w] }
  if s.tag.writes.isEmpty then tagBegin t w else t

/-- The first write ends, and the next begins. -/
def tagNext (s : State) : State :=
  let s := setTagSt s { s.tag with writes := s.tag.writes.tail }
  match s.tag.writes with
  | w :: _ => tagBegin s w
  | [] => s

/-- A device write through TG_CMD. -/
def tagDevice (s : State) (kind : Nat) (a : TagAsk) : State := tagQueue s { kind := kind, ask := a, who := .device }

/-! ### The device's own records (R600, R601, R605, R606) -/

/-- MODE as SMBus shows it (R524). -/
def modeCode (s : State) : Nat :=
  match s.pw.mode with
  | .off => 0 | .backup => 1 | .dormant => 2 | .starting => 3 | .service => 4 | .lockdown => 5

/-- First address of a steward slot, and an octet of it (R643). -/
def slotBase (b : Nat) : Nat := if b = 0 then 0x10000000 else 0x10800000
def slotByte (s : State) (b o : Nat) : Byte := tget (fun _ => 0xFF) s.fl.data (slotBase b + o)
def slotNat (s : State) (b o n : Nat) : Nat := leNat ((List.range n).map (fun i => slotByte s b (o + i)))

/-- The summary payload of R605 for a reason. -/
def summaryOf (s : State) (reason : Nat) : List Byte :=
  leBytes 1 (modeCode s) ++ leBytes 1 s.level ++ leBytes 1 (b2n s.tm.latch + 2 * b2n s.tm.backupLost) ++ leBytes 1 reason ++ leBytes 6 (tscOf s) ++
  leBytes 4 (s.mt.minute.getD 0) ++ leBytes 4 s.mt.start ++ leBytes 4 s.tm.fired ++ leBytes 4 ((s.tm.lseq + 2 ^ 32 - 1) % 2 ^ 32) ++
  leBytes 4 s.tm.clearSeq ++ leBytes 2 (slotNat s s.upd.slot 4 2) ++ leBytes 1 s.pw.tempL ++ leBytes 1 s.pw.tempC

/-- The SUMMARY record written, not more than once in 10 minutes save where `must` (R606). -/
def tagSummary (s : State) (reason : Nat) (must : Bool) : State :=
  let late := match s.tag.sumAt with
    | some t => decide (t + 600000000 ≤ s.now)
    | none => true
  if must || late then tagDevice (setTagSt s { s.tag with sumAt := some s.now }) 3 (.payload (summaryOf s reason)) else s

/-- A counter of the device raised by one (R601). -/
def tagCount (s : State) (c : Nat) : State := tagDevice s 4 (.counter c 1)

/-- A rise of the level: counter 1 from THROTTLE on, and the SUMMARY record. -/
def tagLevel (s : State) (new : Nat) : State := tagSummary (if 2 ≤ new then tagCount s 1 else s) 2 (decide (4 ≤ new))

/-- LIFECYCLE of R600: state code, pending target, tokens left and records free. -/
def lcPayload (s : State) : List Byte :=
  let tokens := (List.range 16).foldl (fun n i => if tget (fun _ => 0) s.lc.tokens i = 0 then n + 1 else n) 0
  let free := (List.range 8).foldl (fun n i => if (tget (fun _ => {}) s.lc.recs i).intent = 0 ∧ (tget (fun _ => {}) s.lc.recs i).void = 0 then n + 1 else n) 0
  leBytes 1 s.lc.state ++ leBytes 1 (s.lc.pending.getD 0xFF) ++ leBytes 1 tokens ++ leBytes 1 free

/-- The boot ROM writes IDENT and LIFECYCLE where they differ (R600). -/
def tagBoot (s : State) : State :=
  let ident := octetsAt (leBytes 8 Config.identity.toNat) 0 (tagLen 1)
  let lc := octetsAt (lcPayload s) 0 (tagLen 2)
  let s := if (tagValue (tagRec s 1)).isNone ∨ tagPayload s 1 ≠ ident then tagDevice s 1 (.payload ident) else s
  if (tagValue (tagRec s 2)).isNone ∨ tagPayload s 2 ≠ lc then tagDevice s 2 (.payload lc) else s

/-- Every valid record rewritten with its contents, once in 2,629,800 minute epochs; the first time where `first` (R607). -/
def tagRefresh (s : State) (epoch : Nat) (first : Bool) : State :=
  let due := match s.tag.refreshed with
    | some e => decide (e + 2629800 ≤ epoch)
    | none => first
  if !due then s
  else [1, 2, 3, 4, 5].foldl (fun t k => if (tagValue (tagRec t k)).isSome then tagDevice t k (.payload (tagPayload t k)) else t)
    (setTagSt s { s.tag with refreshed := some epoch })

end Sys2Proof.Machine
end

