-- ==== Sys2Proof/Machine/AlarmOps.lean ====
section
/-! DEFINITION. The alarm ladder and the tamper log (R532–R552): raising, firing, and the parts of each level. -/

namespace Sys2Proof.Machine

/-- Latest time of each step of a start, in whole microseconds (R514). -/
def stepLatest (n : Nat) : Nat :=
  [0, 0, 80, 390, 390, 1498, 1500, 6300, 6400, 6520, 24000, 24000, 70000, 2150000, 2210000, 2210000].getD n 0

/-- A row of R527 of its own tells why step n is late: the random source failed in this start, or the culm's session came after step 12. -/
def lateExcused (s : State) (n : Nat) : Bool :=
  s.rng.hist.any (fun t => decide (tscOf s ≤ t + (s.now - s.pw.startAt) * 4096 / 125000)) || s.rng.st == .disabled ||
    ((n == 8 || n == 9 || decide (13 ≤ n)) && decide (12 ≤ s.pw.step) && (decide (n ≤ 9) || decide (tget (fun _ => 0) s.pw.times 12 ≤ tget (fun _ => 0) s.pw.times 8)))

/-- A step of the start sequence completes: STEP and its time; past its latest time for a reason of no other row of R527, source 156 with the
step (R514, R527, R529). -/
def startStep (s : State) (n : Nat) : State :=
  if s.pw.mode = .starting then
    let t := { s with pw := { s.pw with step := Nat.max s.pw.step n, times := tput (fun _ => 0) s.pw.times n (s.now - s.pw.startAt) } }
    if stepLatest n < s.now - s.pw.startAt ∧ lateExcused s n = false then raise t 156 [n] else t
  else s

/-- TM_CTL.EXERCISE. -/
def exercising (s : State) : Bool := rbit s 0x30020000 0

/-- A record queued for the tamper log with its stamp; LSEQ is given when it is appended. MAIN is 0 in BACKUP and DORMANT (R549, R562). -/
def logAt (s : State) (tsc kind monitor level count : Nat) (concurrent : Bool) (data : List Nat) : State :=
  let fl := packFields [(b2n (runs s), 0), (b2n (exercising s), 1), (b2n concurrent, 2)]
  { s with tm := { s.tm with logPend := s.tm.logPend ++ [⟨0, tsc, kind, monitor, level, fl, sat16 count, data⟩] } }

/-- A record stamped now. -/
def logPut (s : State) (kind monitor level count : Nat) (concurrent : Bool) (data : List Nat) : State :=
  logAt s (tscOf s) kind monitor level count concurrent data

/-- FAIL of every enabled slot written from the fail policy (R543): 1 CLOSED, 2 BYPASS; `off` writes NONE. -/
def failWrite (s : State) (off : Bool) : State :=
  (List.range 64).foldl (fun t p =>
    if portOn t p then
      let pol := bitAt (rget t (0x30020028 + 4 * (p / 32))).toNat (p % 32)
      rsetf t (scfgA p) 15 14 (if off then 0 else if pol then 2 else 1)
    else t) s

/-- The LIFECYCLE record of R577: phase, source state, target state or scope, token, and the first octets of a key's hash. -/
def lifeRecord (s : State) (phase src tgt token : Nat) (key : List Byte) : State :=
  let k := if key = [] then [] else Config.sha384 key
  logPut s 6 0xFF s.level 0 false [packFields [(phase, 0), (src, 8), (tgt, 16), (token, 24)], leNat (octetsAt k 0 4), leNat (octetsAt k 4 4)]

/-- The debug port closes, with a DEBUG_CLOSE record and source 165; harts in HALTED_DEBUG resume (R585). -/
def dbgClose (s : State) : State :=
  if !s.lc.dbgOpen then s
  else
    let t := raise (lifeRecord { s with lc := { s.lc with dbgOpen := false, scope := 0, unlock := none } } 5 s.lc.state s.lc.scope 0xFF []) 165 []
    (List.range 8).foldl (fun u h =>
      if hstOf u h = .haltedDebug then raise { u with hstate := tput hstInit u.hstate h .running } (8 * h + 6) [HState.running.code] else u) t

/-- The SEAL part: GR_CTL.SEAL set over the culm (R541, R187). -/
def sealPart (s : State) : State := if s.culm.session then rsetf s grA 0 0 1 else s

/-- The PURGE part of R541: the alarm flit with ZEROISE and R123 where a session is up (R538), the engine, the DRBG, FAIL
under the fail policy and the key handles. -/
def purgePart (s : State) : State :=
  let s := if s.culm.session then zeroiseStart s else s
  let s := wipeHandles (drbgReinst (liPurge s))
  if s.culm.session then failWrite s false else s

/-- The LOCKDOWN part: SERVICE gives way to LOCKDOWN with source 145 (R502, R526, R528). -/
def lockdownPart (s : State) : State :=
  if s.pw.mode = .service then raise { s with pw := { s.pw with mode := .lockdown } } 145 [0] else s

/-- The parts of every level that a rise crosses (R541). -/
def levelParts (s : State) (old new : Nat) : State :=
  let s := if old < 3 ∧ 3 ≤ new then sealPart s else s
  let s := if 4 ≤ new then dbgClose (purgePart s) else s
  let s := csLadder s new
  if new = 5 then lockdownPart s else s

/-- The ladder rises to a level above its own: LADDER record, source 3776, the latch at LOCKDOWN, and the level's parts,
which wait for the next start where the dies do not run (R537, R540, R541). -/
def ladderTo (s : State) (target : Nat) : State :=
  let new := Nat.min 5 target
  if new ≤ s.level then s
  else
    let old := s.level
    let s := logPut { s with level := new, tm := { s.tm with latch := s.tm.latch || decide (new = 5) } } 2 0xFF new 0 false [old]
    if runs s then tagLevel (levelParts (raise s 3776 [old, new]) old new) new else s

/-- TM_RAISE: recorded; at THROTTLE and above also logged; at WARN and above applied as a firing (R540, R544). -/
def alarmRaise (s : State) (level reason : Nat) : State :=
  let s := raise s 3782 [level, reason]
  let s := if 2 ≤ level then logPut s 7 0xFF level 0 false [reason] else s
  ladderTo s level

/-- The steward raises an alarm for a use another chapter names; the spec gives no reason code, which is a free value (R544). -/
def alarmFree (s : State) (level : Nat) : State := alarmRaise (freed s) level (free s % 65536)

/-- The steward raises WARN (R544). -/
def warn (s : State) : State := alarmFree s 1

/-- A monitor's filter. -/
def monOf (s : State) (m : Nat) : MonSt := tget (fun _ => {}) s.tm.mons m
def setMon (s : State) (m : Nat) (x : MonSt) : State := { s with tm := { s.tm with mons := tput (fun _ => {}) s.tm.mons m x } }

/-- The event source of monitor m (R563). -/
def monSrc (m : Nat) : Nat := 3648 + 4 * m

/-- MODE, N, W in microseconds and LEVEL of a monitor. -/
def mcfgA (m : Nat) : Nat := 0x30020100 + 4 * m

/-- A firing of PURGE or above of a line-die monitor acts on the line die itself (R538). -/
def lineFire (s : State) (m level : Nat) : State := if 13 ≤ m ∧ m ≤ 17 ∧ 4 ≤ level ∧ runs s then zeroiseStart s else s

/-- The firing of a line-die monitor reaches the alarm controller over the culm, so it waits for a session (R538). -/
def lateMon (s : State) (m : Nat) : Bool := decide (13 ≤ m ∧ m ≤ 17) && !s.culm.session

/-- What a firing records at the controller: FIRED, its log record and its source (R535, R540). -/
def fireRecord (s : State) (f : Firing) : State :=
  let s := cinc { s with tm := { s.tm with fired := s.tm.fired ||| 2 ^ f.mon } } 0x30020200
  let s := if 2 ≤ f.level ∨ exercising s then logAt s f.tsc 1 f.mon f.level f.count f.concurrent [f.first] else s
  if runs s then raise s (monSrc f.mon + 1) [f.level] else s

/-- The response of a monitor: that of the decision for monitor 21 (R548), else its LEVEL. -/
def response (s : State) (m dd : Nat) : Nat := if m = 21 then dd else rf s (mcfgA m) 23 21

/-- The filter's last N events once an event now is added, newest first (R535). -/
def withEvent (s : State) (m : Nat) : List Nat := (s.now :: (monOf s m).times).take (rf s (mcfgA m) 6 2)

/-- The monitor runs: 0–7 and 18 in BACKUP and DORMANT, all with main power, none without power; and its MODE is not OFF (R536, R537). -/
def monitorRuns (s : State) (m : Nat) : Bool :=
  rf s (mcfgA m) 1 0 != 0 && (runs s || ((m ≤ 7 || m == 18) && s.pw.mode != .off))

/-- An event now makes the monitor fire: it is the N-th within W ms of the earliest of the last N (R535). -/
def willFire (s : State) (m : Nat) : Bool :=
  let kept := withEvent s m
  decide (rf s (mcfgA m) 6 2 ≤ kept.length) && (match kept.getLast? with
    | some t => decide (s.now ≤ t + 1000 * rf s (mcfgA m) 20 7)
    | none => false)

/-- One event taken by a monitor's filter: ASSERTED, the record, offset 0 for the record's first event, and the firing, which goes to
the controller or waits for the culm (R535, R538). -/
def monitorNote (s : State) (m : Nat) (data : List Nat) (dd : Nat) (concurrent : Bool) : State :=
  let x := monOf s m
  let first := if x.count = 0 then tscOf s else x.firstTsc
  let fires := willFire s m
  let f : Firing := ⟨m, response s m dd, x.count + 1, first, tscOf s, concurrent⟩
  let s := cinc (setMon s m { times := if fires then [] else withEvent s m, count := if fires then 0 else x.count + 1, firstTsc := first,
                              asserted := true, last := s.now, lastResp := response s m dd }) 0x30020208
  let s := if x.count = 0 && runs s then raise s (monSrc m) data else s
  if !fires then s
  else if lateMon s m then { s with tm := { s.tm with late := s.tm.late ++ [f] } }
  else fireRecord s f

/-- Events of several monitors in one always-on cycle, in monitor-number order: each firing recorded with its own response, and the
ladder raised to the highest; in EXERCISE no firing has a ladder response (R535, R539, R540). -/
def monitorEvents (s : State) (ms : List Nat) (data : List Nat) (dd : Nat) : State :=
  let on := ms.filter (monitorRuns s)
  let fires := on.filter (willFire s)
  let here := fires.filter (fun m => !lateMon s m)
  let t := on.foldl (fun t m => monitorNote t m data dd (decide (1 < here.length))) s
  if exercising s then t
  else ladderTo (fires.foldl (fun t m => lineFire t m (response s m dd)) t) (here.foldl (fun l m => Nat.max l (response s m dd)) 0)

/-- One event of one monitor. -/
def monitorEvent (s : State) (m : Nat) (data : List Nat) : State := monitorEvents s [m] data 0

/-- A double decision's instances disagree: DD_DISAGREE and an event of monitor 21 with the decision's response (R548, R565). -/
def disagree (s : State) (resp : Nat) : State := monitorEvents (cinc s 0x30020218) [21] [] resp

/-- Line-die firings that waited reach the controller as a session is established (R538). -/
def lateFirings (s : State) : State :=
  let l := s.tm.late
  let t := l.foldl fireRecord { s with tm := { s.tm with late := [] } }
  if exercising s then t else ladderTo t (l.foldl (fun n f => Nat.max n f.level) 0)

end Sys2Proof.Machine
end

