-- ==== Sys2Proof/Machine/MemOps.lean ====
section
/-! DEFINITION. SRAM, its tags and the MPUs' checks (R342, R400–R413). -/

namespace Sys2Proof.Machine

/-! ### SRAM and tags -/

/-- An address of SRAM (R19). -/
def inSram (a : Nat) : Bool := decide (0x20000000 ≤ a ∧ a ≤ 0x205FFFFF)

/-- The granule of an SRAM address (R409). -/
def granule (a : Nat) : Nat := (a - 0x20000000) / 64

/-- `n` octets of SRAM from address `a`. -/
def memRead (s : State) (a n : Nat) : List Byte := tgets (fun _ => 0) s.sram a n

/-- Octets written to SRAM. -/
def memWrite (s : State) (a : Nat) (l : List Byte) : State := { s with sram := tputs (fun _ => 0) s.sram a l }

/-- `n` octets of SRAM set to zero. -/
def memZero (s : State) (a n : Nat) : State := { s with sram := s.sram.filter (fun e => !(decide (a ≤ e.1 ∧ e.1 < a + n))) }

/-- The tag a granule's checks see: 0x00 where its parity fails (R409). -/
def tagOf (s : State) (g : Nat) : Nat := if tget (fun _ => false) s.badTag g then 0 else tget (fun _ => 0) s.tags g

/-- One granule's tag written, with fresh parity (R412). -/
def setTag (s : State) (g v : Nat) : State :=
  { s with tags := tput (fun _ => 0) s.tags g v, badTag := tput (fun _ => false) s.badTag g false }

/-- `n` granules tagged from granule `g` on. -/
def setTags (s : State) (g n v : Nat) : State := (List.range n).foldl (fun t i => setTag t (g + i) v) s

/-- `n` granules wiped: data zero, lanes repaired by the fresh check bits, and tags set (R412). -/
def wipeTags (s : State) (g n v : Nat) : State :=
  let t := setTags (memZero s (0x20000000 + 64 * g) (64 * n)) g n v
  { t with badLane := t.badLane.filter (fun e => !(decide ((0x20000000 + 64 * g) / 8 ≤ e.1 ∧ e.1 < (0x20000000 + 64 * (g + n)) / 8))) }

/-! ### MPUs (R400–R405, R427) -/

/-- MP_RBASE_0 of MPU m. -/
def mpA (m : Nat) : Nat := 0x30080000 + 0x400 * m

/-- Region r of MPU m is enabled and holds the address (R401). -/
def regionHolds (s : State) (m a r : Nat) : Bool :=
  rbit s (mpA m + 0x10 * r + 8) 0 && decide (rf s (mpA m + 0x10 * r) 31 6 ≤ a / 64) && decide (a / 64 ≤ rf s (mpA m + 0x10 * r + 4) 31 6)

/-- The deciding region (R401). -/
def region (s : State) (m a : Nat) : Option Nat := (List.range 32).find? (regionHolds s m a)

/-- Kinds of access with the ACCESS code of SV_CAUSE_n (R374). -/
inductive Kind where | fetch | load | store | amo | eread | ewrite
deriving DecidableEq, Repr

def Kind.code : Kind → Nat
  | .fetch => 1 | .load => 2 | .store => 3 | .amo => 4 | .eread => 5 | .ewrite => 6

/-- The region's bits permit the access at user or supervisor level (R402). -/
def permits (s : State) (m r : Nat) (k : Kind) (user : Bool) : Bool :=
  let b := fun i => rbit s (mpA m + 0x10 * r + 8) i
  let o := if user then 0 else 3
  match k with
  | .fetch => b (3 + o)
  | .load => b (1 + o)
  | .eread => b (1 + o)
  | .store => b (2 + o)
  | .ewrite => b (2 + o)
  | .amo => b (1 + o) && b (2 + o)

/-- The colour carried through a region: COLOUR_U at level 0 or through CSEL, else COLOUR_S (R403). -/
def colourOf (s : State) (m r : Nat) (user : Bool) : Nat :=
  if user || rbit s (mpA m + 0x10 * r + 8) 7 then rf s (mpA m + 0x200) 7 0 else rf s (mpA m + 0x200) 15 8

/-- The colour check: 0x00 satisfies no master (R407). -/
def colourOk (s : State) (c a : Nat) : Bool := !(inSram a) || (c != 0 && tagOf s (granule a) == c)

/-- The ranges of R19. -/
def inRom (a : Nat) : Bool := decide (a ≤ 0xFFFF)
def inFlash (a : Nat) : Bool := decide (0x10000000 ≤ a ∧ a ≤ 0x10FFFFFF)
def inBlocks (a : Nat) : Bool := decide (0x30000000 ≤ a ∧ a ≤ 0x31FFFFFF)
def inWindow (a : Nat) : Bool := decide (0x40000000 ≤ a ∧ a ≤ 0x4FFFFFFF)
def inMap (a : Nat) : Bool := inRom a || inFlash a || inSram a || inBlocks a || inWindow a

/-- The kind of access is one its range takes (R342, third check). -/
def kindFits (k : Kind) (a size : Nat) : Bool :=
  if inBlocks a || inWindow a then k == .fetch || ((k == .load || k == .store) && size == 4)
  else inSram a || k == .fetch || k == .load

/-- The issue checks of R342 but the target's: the cause code of R373 of the first that fails. -/
def memCheck (s : State) (m : Nat) (user : Bool) (k : Kind) (a size : Nat) : Option Nat :=
  if a % size ≠ 0 then some 2
  else if !inMap a || !kindFits k a size then some 3
  else match region s m a with
    | none => some 5
    | some r =>
      if !permits s m r k user then some 5
      else if !colourOk s (colourOf s m r user) a then some 4
      else none

/-- MP_FADDR and MP_FINFO of a refused access; REFUSALS counts those of MPUs 8–26 (R427, R428). -/
def noteRefusal (s : State) (m a cause access level : Nat) : State :=
  if cause < 3 then s
  else
    let t := rset (rset s (mpA m + 0x204) (w32 a)) (mpA m + 0x208)
      (w32 (packFields [(cause, 0), (access, 8), (level, 11), (1, 13)]))
    if 8 ≤ m then cinc t 0x30088128 else t

end Sys2Proof.Machine
end

