-- ==== Sys2Proof/Machine/OrderOps.lean ====
section
/-! DEFINITION. Shared operations on functions' completions, dirty logs, orders and the harts that serve them
(R216–R225, R249–R255, R279–R286). -/

namespace Sys2Proof.Machine

/-! ### Functions' own events and endpoint errors (R228, R229) -/

/-- A code of R229 on the function's source; it also causes vector 1 (R224). -/
def fnEv (s : State) (f code : Nat) (data : List Nat) : State := vecCause (raiseEv s (fnSrc f) code data) f 1

/-- HF_EP_ERR and AER bits of an endpoint set (R228, R232). -/
def epErr (s : State) (e bit aer : Nat) : State :=
  let t := rset s (epCtl e + 8) (rget s (epCtl e + 8) ||| w32 (2 ^ bit))
  setEp t e { epOf t e with aer := (epOf t e).aer ||| 2 ^ aer }

/-- A PCIe error of R228: code 0x06 with the AER status bit, counted in HOST_ERRORS (R229, R233). -/
def pcieError (s : State) (f bit aer : Nat) : State :=
  fnEv (cinc (epErr s (f / 256) bit aer) (epCtl (f / 256) + 0x78)) f 6 [aer]

/-- HF_EP_ERR bit and AER status bit of a failed read (R228, R232). -/
def readErrBits : HostErr → Nat × Nat
  | .ur => (3, 20)
  | .ca => (3, 15)
  | .poison => (0, 12)
  | .timeout => (2, 14)

/-- A read that the device issued for a function has failed (R228). -/
def readFailed (s : State) (f : Nat) (x : HostErr) : State := pcieError s f (readErrBits x).1 (readErrBits x).2

/-- NOT_NOW returned by an order or service: code 0x0F with TAG and the service number, or 0xFF (R283, R299). -/
def notNowEv (s : State) (f tag n : Nat) : State := raiseEv s (fnSrc f) 0x0F [tag, n]

/-! ### Dirty logs (R249–R255, R261) -/

/-- VF_LOGCTL of function record i, and its 64-bit address registers at offset o. -/
def logA (i : Nat) : Nat := 0x300B0004 + 0x40 * i
def logAddr (s : State) (i o : Nat) : Nat := (rget s (0x300B0000 + 0x40 * i + o)).toNat + (rget s (0x300B0000 + 0x40 * i + o + 4)).toNat * 2 ^ 32

/-- Base of bitmap b of the record. -/
def bmpBase (s : State) (i b : Nat) : Nat := if b = 0 then logAddr s i 0x10 else logAddr s i 0x18

def setLines (s : State) (l : List LogLine) : State := { s with host := { s.host with lines := l } }

/-- The lines of an endpoint's cache. -/
def linesOf (s : State) (e : Nat) : List LogLine := s.host.lines.filter (fun x => x.fn / 256 == e)

/-- A line is written back under the PF's requester ID (R249, R252). -/
def writeLine (s : State) (x : LogLine) : State :=
  cinc (send s (.hostWrite (256 * (x.fn / 256)) (bmpBase s x.fn x.bitmap + 8 * x.word) (leBytes 8 x.bits.toNat))) 0x300B8108

/-- A full cache first writes back its least recently used line: the oldest of the endpoint whose word has been read (R252). -/
def makeRoom (s : State) (e : Nat) : State :=
  if (linesOf s e).length < 1024 then s
  else match (linesOf s e).find? (fun x => !x.filling) with
    | some x => setLines (writeLine s x) (s.host.lines.erase x)
    | none => s

/-- One page marked in the active bitmap: the line is made most recently used, or its word is read (R252). -/
def markPage (s : State) (f p : Nat) : State :=
  let b := rf s (logA f) 1 1
  let bit := BitVec.ofNat 64 (2 ^ (p % 64))
  match s.host.lines.find? (fun x => x.fn == f && x.bitmap == b && x.word == p / 64) with
  | some x => setLines s (s.host.lines.erase x ++ [{ x with bits := x.bits ||| bit }])
  | none =>
    let t := makeRoom s (f / 256)
    let t := setLines t (t.host.lines ++ [⟨f, b, p / 64, bit, true⟩])
    cinc (send t (.hostRead (256 * (f / 256)) (bmpBase s f b + 8 * (p / 64)) 8)) 0x300B8100

/-- A memory write issued on behalf of a function marks every page it touches while the function's log is RUNNING; one
outside the range sets OUT_OF_RANGE (R249, R250, R259). -/
def dirtyMark (s : State) (f addr len : Nat) : State :=
  if !rbit s (logA f) 0 || rbit s (logA f) 7 || len == 0 then s
  else
    let base := logAddr s f 8
    let size := 4096 * 2 ^ rf s (logA f) 6 2
    if addr < base ∨ base + size < addr + len then
      let t := cinc s 0x300B8110
      if rbit t (logA f) 8 then t else raiseEv (rsetf t (logA f) 8 8 1) (fnSrc f) 0x0E []
    else
      let p := (addr - base) / 4096
      let q := (addr + len - 1 - base) / 4096
      (List.range (q + 1 - p)).foldl (fun t i => markPage t f (p + i)) s

/-- A memory write to a host for a function, with its dirty mark. -/
def hostWrite (s : State) (f addr : Nat) (l : List Byte) : State := dirtyMark (send s (.hostWrite f addr l)) f addr l.length

/-- The lines of function f of bitmap b (both bitmaps for none), written back in order and dropped, or dropped unwritten. -/
def flushLines (s : State) (f : Nat) (b : Option Nat) (drop : Bool) : State :=
  let mine := fun x : LogLine => x.fn == f && (match b with | some k => x.bitmap == k | none => true)
  let t := if drop then s else (s.host.lines.filter mine).foldl writeLine s
  setLines t (t.host.lines.filter (fun x => !mine x))

/-- The log of function f becomes OFF, its lines written back or dropped (R255); FAULT clears with LOG_EN (R261). -/
def logOff (s : State) (f : Nat) (drop : Bool) : State :=
  rsetf (rsetf (flushLines s f none drop) (logA f) 0 0 0) (logA f) 7 7 0

/-- A bitmap read or write of function f has failed: FAULTED and code 0x0D with the bitmap address (R255, R259). -/
def logFault (s : State) (f addr : Nat) : State :=
  raiseEv (rsetf s (logA f) 7 7 1) (fnSrc f) 0x0D [addr % 2 ^ 32]

/-! ### Completions (R216, R217, R219) -/

/-- A completion joins those of its function, in completion order. -/
def complete (s : State) (f : Nat) (c : Compl) : State := modFn s f (fun x => { x with compl := x.compl ++ [c] })

/-- The completion of a fetched entry that never became an order: CYCLES 0, LAST_SVC 0xFFFF (R281). -/
def completeRaw (s : State) (f : Nat) (r : RawEntry) (status : Nat) : State :=
  complete s f ⟨r.gen, leNat (octetsAt r.octets 2 2), status, leNat (octetsAt r.octets 4 2), leBytes 6 0 ++ leBytes 2 0xFFFF ++ List.replicate 16 0, []⟩

/-! ### Harts that serve orders (R274, R280, R416) -/

/-- Hart h after reset: level 3, and hart 0 at the boot ROM's first word (R350, R395). -/
def hartInit (_h : Nat) : Hart := {}

def hartOf (s : State) (h : Nat) : Hart := tget hartInit s.harts h
def setHart (s : State) (h : Nat) (x : Hart) : State := { s with harts := tput hartInit s.harts h x }
def setHst (s : State) (h : Nat) (x : HState) : State := { s with hstate := tput hstInit s.hstate h x }

/-- A general register; g0 reads 0 (R329). -/
def gget (x : Hart) (r : Nat) : W32 := if r = 0 then 0 else tget (fun _ => 0) x.g r
/-- A general register written; g0 discards (R329). -/
def gset (x : Hart) (r : Nat) (v : W32) : Hart := if r = 0 then x else { x with g := tput (fun _ => 0) x.g r v }
/-- A predicate; p0 reads 1 (R329). -/
def pget (x : Hart) (r : Nat) : Bool := if r = 0 then true else tget (fun _ => false) x.p r
def pset (x : Hart) (r : Nat) (v : Bool) : Hart := if r = 0 then x else { x with p := tput (fun _ => false) x.p r v }

/-- Scratch and code region of sandbox k (R408). -/
def scratchA (k : Nat) : Nat := 0x20100000 + 0x4000 * k
def codeA (k : Nat) : Nat := 0x20200000 + 0x1000 * k

/-- The sandbox wiped to colour 0x00 (R280, R416). -/
def wipeSandbox (s : State) (k : Nat) : State :=
  cadd (wipeTags (wipeTags s (granule (scratchA k)) 256 0) (granule (codeA k)) 64 0) 0x30088108 320

/-- The hart serves no order: regions 0 and 1 of its MPU disabled, COLOUR_U 0x00 (R416). -/
def releaseHart (s : State) (h : Nat) : State :=
  let t := setHart s h { hartOf s h with job := none, svc := none, budgetPend := false, budget := 0 }
  rsetf (rsetf (rsetf t (mpA h + 8) 0 0 0) (mpA h + 0x18) 0 0 0) (mpA h + 0x200) 7 0 0

def setJobs (s : State) (l : List Job) : State := { s with ord := { s.ord with jobs := l } }
def jobOf (s : State) (i : Nat) : Option Job := s.ord.jobs.find? (fun j => j.id == i)
def modJob (s : State) (i : Nat) (g : Job → Job) : State := setJobs s (s.ord.jobs.map (fun j => if j.id == i then g j else j))

/-- The order has been dispatched. -/
def Job.started (j : Job) : Bool :=
  match j.stage with
  | .queued => false
  | _ => true

/-- An order's script stops, whatever the cause: its hart released, its long-integer jobs withdrawn, its sandbox wiped
(R280), and the order leaves the queue. -/
def dropJob (s : State) (j : Job) : State :=
  let s := match j.stage with
    | .running h => releaseHart s h
    | .gran h _ => releaseHart s h
    | _ => s
  let s := withdrawLi s j.id
  let s := match j.sandbox with
    | some k => wipeSandbox s k
    | none => s
  setJobs s (s.ord.jobs.filter (fun x => x.id != j.id))

/-! ### Scheduling by virtual time (R285, R286) -/

/-- The function's oldest undispatched order. -/
def oldestOrder (s : State) (f : Nat) : Option Job := s.ord.jobs.find? (fun j => j.fn == f && !j.started)

/-- It may be dispatched: SERIAL waits for every earlier order, and no order of the function passes a SERIAL one (R285). -/
def mayRun (s : State) (j : Job) : Bool :=
  !(s.ord.jobs.any (fun k => k.fn == j.fn && k.started && (j.serial || k.serial)))

/-- E of R286: the functions whose oldest undispatched order may be dispatched. -/
def members (s : State) : List Nat :=
  (List.range 512).filter (fun f => match oldestOrder s f with
    | some j => mayRun s j
    | none => false)

/-- Functions that join E, which held `old`, take the least virtual time of the members that were there (R286). -/
def joinMembers (s : State) (old : List Nat) : State :=
  let now := members s
  let least := fun f => (now.filter (fun g => g != f)).foldl (fun b g => some (Nat.min (fnOf s g).vtime (b.getD (fnOf s g).vtime))) (none : Option Nat)
  (now.filter (fun f => !old.contains f)).foldl (fun t f => match least f with
    | some v => modFn t f (fun x => { x with vtime := Nat.max x.vtime v })
    | none => t) s

/-- An order ends with a status: CYCLES (a free value, log entry 5; 0 where never dispatched), CAUSE, LAST_SVC and RESULT of
R281; its function's virtual time advances by CYCLES × 256 / HART_W (R286). -/
def endJob (s : State) (j : Job) (status cause : Nat) (result : List Byte) : State :=
  let cyc := if j.started then free s % 2 ^ 32 else 0
  let old := members s
  let s := if j.started then freed s else s
  let s := joinMembers (dropJob s j) old
  let s := complete s j.fn ⟨j.gen, j.tag, status, j.genField,
    leBytes 4 cyc ++ leBytes 2 cause ++ leBytes 2 j.lastSvc ++ octetsAt result 0 16, j.results.map (fun r => (j.resAddr + r.1, r.2))⟩
  if j.started then modFn s j.fn (fun x => { x with vtime := x.vtime + cyc * 256 / Nat.max 1 x.hartW }) else s

/-- An order ends FAULTED: code 0x10 with its TAG and CAUSE (R279, R299). RESULT holds the saved PC and address (R281). -/
def endFaulted (s : State) (j : Job) (cause : Nat) (pc addr : W32) : State :=
  raiseEv (endJob s j 6 cause (octetsOf [pc, addr])) (fnSrc j.fn) 0x10 [j.tag, cause]

/-- An order ends TIMEOUT: code 0x11 (R275, R299). -/
def endTimeout (s : State) (j : Job) : State := raiseEv (endJob s j 9 0 []) (fnSrc j.fn) 0x11 [j.tag]

/-- Orders completed WITHDRAWN under R242 or R246 (R262), with code 0x0C and their count (R259). -/
def withdrawn (s : State) (f n : Nat) : State :=
  if n = 0 then s else raiseEv (cadd s 0x300B8120 n) (fnSrc f) 0x0C [n]

/-! ### Ends of generations (R244–R248, R227) -/

/-- Every MSI-X vector and every register of a function's window at its Reset values (R13, R227). -/
def resetVecs (s : State) (f : Nat) : State :=
  let t := { s with host := { s.host with vecs := s.host.vecs.filter (fun e => !(decide (e.1 / 64 = f))) } }
  { t with regs := t.regs.filter (fun e => !(decide (hfWin f ≤ e.1 ∧ e.1 < hfWin f + 0x200))) }

/-- A ring pair DISABLED, with zero counters (R213, R227). -/
def ringOff (x : FnSt) : FnSt :=
  { x with ring := .disabled, orTail := 0, orHead := 0, crTail := 0, crHead := 0, reading := 0, recheck := false }

/-- The end of a function's generation (R245 steps 1 to 5): GEN incremented, ENDING set, the ring DISABLED, the agreements
and the configuration space at their reset values, orders fetched and not dispatched completed WITHDRAWN, scripts ended. The
completions stay queued and are discarded under R217. -/
def endFn (s : State) (f : Nat) : State :=
  let x := fnOf s f
  let mine := s.ord.jobs.filter (fun j => j.fn == f)
  let wait := mine.filter (fun j => !j.started)
  let s := x.raw.foldl (fun t r => completeRaw t f r 11) s
  let s := wait.foldl (fun t j => endJob t j 11 0 []) s
  let s := (mine.filter (fun j => j.started)).foldl (fun t j => endJob t j 11 0 []) s
  let s := modFn s f (fun y => { ringOff y with
    gen := (x.gen + 1) % 65536, ending := true, cause := 0, abi := 0, helloStatus := 0, helloValid := false, raw := [], out := 0, vtime := 0,
    vFmt := 0, vSvc := 0, vSheaf := 0, bme := false, mse := decide (f % 256 ≠ 0) && (epOf s (f / 256)).vfMse, msixEn := false, fmask := false, d3 := false })
  let s := resetVecs s f
  withdrawn (cinc s 0x300B8118) f (wait.length + x.raw.length)

/-- LI_W_i, which the steward keeps equal to the grant's (R445). -/
def liWeight (s : State) (f w : Nat) : State := rset s (liA + 0x7000 + 4 * f) (w32 w)

/-- The grant of R240 for a VF. -/
def vfGrant (x : FnSt) : FnSt := { x with doms := [], hartW := 1, liW := 0, evVecs := 0, maxOut := 16 }

/-- The grant of R240 for a PF. -/
def pfGrant (x : FnSt) : FnSt := { x with doms := [], hartW := 255, liW := 255, evVecs := 62, maxOut := 4096 }

/-- Routes to vectors of function f that `p` names become RECORDER, and their pending messages are cleared (R242, R257, R386). -/
def dropRoutes (s : State) (f : Nat) (p : Nat → Bool) : State :=
  let mine := fun e : Nat × W32 => decide (0x30031000 ≤ e.1 ∧ e.1 < 0x30035000) && fld e.2 1 0 == 2 && decide (256 * fld e.2 14 14 + fld e.2 13 6 = f) && p (fld e.2 20 15)
  (s.regs.filter mine).foldl (fun t e =>
    let v := fld e.2 20 15
    setVec (rset t e.1 (putFld e.2 1 0 0)) f v { vecOf t f v with pend := false, heldCnt := false, deferCnt := false }) s

/-- A VF ceases to exist: its generation ends, its grant is cleared, its log becomes OFF (R244, R248, R255). -/
def removeVf (s : State) (f : Nat) (dropLog : Bool) : State :=
  let s := logOff (endFn s f) f dropLog
  dropRoutes (liWeight (modFn s f (fun x => { vfGrant x with present := false })) f 0) f (fun _ => true)

/-- Every VF of an endpoint removed, and VF Enable clear. -/
def removeVfs (s : State) (e : Nat) (dropLog : Bool) : State :=
  let t := (List.range 255).foldl (fun t i => if (fnOf t (256 * e + 1 + i)).present then removeVf t (256 * e + 1 + i) dropLog else t) s
  setEp t e { epOf t e with vfEn := false, numVfs := 0 }

/-- A function-level reset of a PF: its own, and the removal of every VF of the endpoint with the logs dropped (R227, R255). -/
def resetPf (s : State) (e : Nat) : State :=
  liWeight (modFn (endFn (removeVfs s e true) (256 * e)) (256 * e) pfGrant) (256 * e) 255

/-- The endpoint has gone (R207): every function ended, SR-IOV settings at their defaults, routes to the recorder, code 0x05
with the reason: 0 link down, 1 PERST#, 2 Hot Reset or Link Disable, 3 LINK_EN. Nothing where it had not arrived. -/
def epGone (s : State) (e reason ltssm : Nat) : State :=
  let x := epOf s e
  if !x.linkUp then setEp s e { x with ltssm := ltssm }
  else
    let s := setEp s e { x with linkUp := false, ltssm := ltssm, speed := 0, width := 0, cfgAt := none }
    let s := dropRoutes (resetPf s e) (256 * e) (fun _ => true)
    let s := setEp s e { x with linkUp := false, ltssm := ltssm, speed := 0, width := 0, cfgAt := none,
                                vfEn := false, numVfs := 0, ari := false, vfMse := false }
    let s := rset s (epCtl e + 8) (rget s (epCtl e + 8) ||| w32 (2 ^ 8))
    raiseEv (cinc s (epCtl e + 0x80)) (fnSrc (256 * e)) 5 [reason]

/-- Configuration requests of the endpoint are answered without Request Retry Status: its time has come and no function's
end is still in progress (R206, R207, R245). -/
def cfgOpen (s : State) (e : Nat) : Bool :=
  (epOf s e).linkUp &&
    (match (epOf s e).cfgAt with
     | some t => decide (t ≤ s.now)
     | none => false) &&
    s.host.fns.all (fun p => !(decide (p.1 / 256 = e) && p.2.ending))

/-- An access to a BAR is refused: code 0x07; under R211 AER records Unsupported Request and a read is so completed, at an
unassigned offset a read returns zero (R17, R211, R228). -/
def barRefuse (s : State) (f : Nat) (write unassigned : Bool) : State :=
  let s := if unassigned then s else epErr s (f / 256) 1 20
  let s := fnEv (cinc s (epCtl (f / 256) + 0x78)) f 7 []
  if write then s else send s (.cpl f (if unassigned then some 0 else none))

/-- A host write to a register of a function's window: lost where the function or its configuration is not there, refused
under R211 while Memory Space Enable is clear, else carried out. -/
def barWrite (s : State) (f : Nat) (g : State → State) : State :=
  if !(fnOf s f).present || !cfgOpen s (f / 256) then s
  else if !(fnOf s f).mse then barRefuse s f true false
  else g s

end Sys2Proof.Machine
end

