-- ==== Sys2Proof/Machine/Random.lean ====
section
/-! DEFINITION. The random source and DRBG (chapter 14). -/

namespace Sys2Proof.Machine

def setRng (s : State) (x : RngSt) : State := { s with rng := x }

/-- RG_CTL, RG_CMD and RG_HT of the random source. -/
def rgA : Nat := 0x30040000

/-! ### Requests, draws and refusals (R462–R467) -/

/-- The source supplies calls now: RUNNING, no reseed in progress and none due (R463). -/
def reseedDue (s : State) : Bool :=
  decide (rf s rgA 16 1 ≤ s.rng.calls) ||
    (decide (rf s rgA 31 17 ≠ 0) && decide (s.rng.lastSeed + 1000 * rf s rgA 31 17 ≤ s.now))

def canDraw (s : State) : Bool := s.rng.st == .running && s.rng.busy == 0 && !reseedDue s

/-- The source refuses requests (R466). -/
def rngDown (s : State) : Bool :=
  match s.rng.st with
  | .failed => true
  | .disabled => true
  | _ => false

/-- The next `n` blocks of the DRBG. -/
def blocksOf (x : RngSt) (n : Nat) : List (BitVec 128) := (List.range n).map (fun i => Config.drbgBlock x.inst (x.blk + i))

/-- `n` blocks drawn in calls of at most two (R462, R464). -/
def drawn (s : State) (n : Nat) : State :=
  cadd (setRng s { s.rng with blk := s.rng.blk + n, calls := s.rng.calls + (n + 1) / 2 }) (rgA + 0x208) ((n + 1) / 2)

/-- The octets of blocks, first octet first. -/
def blockOctets (l : List (BitVec 128)) : List Byte := l.flatMap (fun b => beBytes 16 b.toNat)

/-- `n` random octets for a draw of as many blocks as they need. -/
def drawOctets (s : State) (n : Nat) : List Byte := (blockOctets (blocksOf s.rng ((n + 15) / 16))).take n
def drewOctets (s : State) (n : Nat) : State := drawn s ((n + 15) / 16)

/-- A request refused: counted, with source 121 (R467). -/
def rngRefused (s : State) : State := raise (cinc s (rgA + 0x220)) 121 []

/-- A request of a class of R464 joins the queue, or is refused at once (R466). -/
def rngRequest (s : State) (cls blocks : Nat) : State :=
  if rngDown s then rngRefused s else setRng s { s.rng with reqs := s.rng.reqs ++ [⟨cls, blocks⟩] }

/-- A refused port request: ERR, and what had not been read is not served (R467). -/
def portRefuse (x : RngSt) (k : Nat) : RngSt :=
  { x with portErr := tput (fun _ => false) x.portErr k true, portLeft := tput (fun _ => 0) x.portLeft k 0,
           portBlk := tput (fun _ => []) x.portBlk k [] }

/-- A waiting request refused as the source fails (R466, R467). -/
def refuseReq (s : State) (r : RngReq) : State :=
  let s := if r.cls = 5 then setRng s (portRefuse s.rng 0) else if r.cls = 6 then setRng s (portRefuse s.rng 1) else s
  rngRefused s

/-! ### Double decisions (R465, R548) -/

/-- The double-decision logic asks for a refill whenever fewer than 16 delays remain. -/
def ddRefill (s : State) : State :=
  if s.rng.dd < 16 ∧ s.rng.reqs.all (fun r => r.cls != 3) ∧ !rngDown s then rngRequest s 3 2 else s

/-- A decision other than zeroise can be made now: it has a delay, or takes the fixed one because the source is down. -/
def ddReady (s : State) : Bool := decide (s.rng.dd ≠ 0) || rngDown s

/-- One double decision takes a delay from the reserve, or the fixed delay with source 122. -/
def ddTake (s : State) : State :=
  if s.rng.dd = 0 then ddRefill (raise (cinc s (rgA + 0x228)) 122 [])
  else ddRefill (setRng s { s.rng with dd := s.rng.dd - 1 })

/-! ### Start-up and failure (R457–R459, R466, R468) -/

/-- A start-up begins (R459). -/
def rngStart (s : State) : State :=
  setRng s { s.rng with
    st := .starting, ticks := 0, vn := rbit s rgA 0, last := [], run := [], half := [], lockN := 0, agree := [], propN := 0,
    propOnes := 0, wait := [], pool := 0, startBits := 0, startOsc := [], busy := 0 }

/-- Failures of the history within the last 3,600 s (R468). -/
def recentFails (s : State) : List Nat := s.rng.hist.filter (fun t => decide (tscOf s < t + 3600 * 32768))

/-- A failure of the source (R466, R468): `disable` names an oscillator taken out in the same cycle (R458). -/
def rngFail (s : State) (test a b src : Nat) (data : List Nat) (disable : Option Nat) : State :=
  let hist := (tscOf s :: recentFails s).take 3
  let third := decide (3 ≤ hist.length)
  let osc := match disable with
    | some o => s.rng.oscEn &&& (0xFF - 2 ^ o)
    | none => s.rng.oscEn
  let reqs := s.rng.reqs
  let s := raise s src data
  let s := rset s (rgA + 0x10) (w32 (packFields [(test, 0), (a, 4), (b, 7), (1, 10)]))
  let s := setRng s { s.rng with st := if third then .disabled else .failed, oscEn := osc, hist := hist, pool := 0, wait := [],
                                 busy := 0, reqs := [], half := [], run := [], last := [] }
  let s := reqs.foldl refuseReq (cinc s (rgA + 0x218))
  if third then warn (raise s 119 []) else s

/-- Enabled oscillators. -/
def oscOn (s : State) : List Nat := (List.range 8).filter (fun o => bitAt s.rng.oscEn o)

/-- The oscillator that a repetition or frequency failure naming only it takes out (R458). -/
def takeOut (s : State) (bad : List Nat) : Option Nat :=
  match bad with
  | [o] => if 7 ≤ (oscOn s).length then some o else none
  | _ => none

/-- A repetition or frequency failure (R456, R458, R466). -/
def oscFail (s : State) (test : Nat) (bad : List Nat) : State :=
  let out := takeOut s bad
  rngFail s test (bad.headD 0) 0 114 [bad.headD 0, b2n out.isSome] out

/-- One raw sample per enabled oscillator: runs of identical samples (R456). -/
def repStep (x : RngSt) (osc : List Nat) (smp : Nat) : RngSt :=
  osc.foldl (fun y o =>
    let b := bitAt smp o
    let same := decide (0 < tget (fun _ => 0) y.run o) && (tget (fun _ => false) y.last o == b)
    { y with run := tput (fun _ => 0) y.run o (if same then tget (fun _ => 0) y.run o + 1 else 1),
             last := tput (fun _ => false) y.last o b }) x

/-- Simultaneous agreement of every pair, over the lock window (R456). -/
def lockStep (x : RngSt) (osc : List Nat) (smp : Nat) : RngSt :=
  let y := osc.foldl (fun z a => osc.foldl (fun w b =>
    if a < b ∧ bitAt smp a = bitAt smp b then { w with agree := tput (fun _ => 0) w.agree (8 * a + b) (tget (fun _ => 0) w.agree (8 * a + b) + 1) } else w) z) x
  { y with lockN := y.lockN + 1 }

/-- A conditioned bit of an oscillator (R454): counted toward the start-up, or waiting to enter the pool (R457). -/
def condBit (x : RngSt) (o : Nat) (b : Bool) : RngSt :=
  let y := { x with propN := x.propN + 1, propOnes := x.propOnes + b2n b }
  if y.st = .starting ∧ y.startBits < 4224 then
    { y with startBits := y.startBits + 1,
             startOsc := if y.startBits < 4096 then tput (fun _ => 0) y.startOsc o (tget (fun _ => 0) y.startOsc o + 1) else y.startOsc }
  else { y with wait := y.wait ++ [(y.lockWin, y.propWin)] }

/-- Bits whose windows have all passed enter the pool, which holds 1,024 (R455, R457). -/
def poolIn (s : State) : State :=
  let ready := s.rng.wait.filter (fun w => decide (w.1 < s.rng.lockWin) && decide (w.2 < s.rng.propWin))
  let n := Nat.min ready.length (1024 - s.rng.pool)
  cadd (setRng s { s.rng with pool := s.rng.pool + n, wait := s.rng.wait.filter (fun w => !(decide (w.1 < s.rng.lockWin) && decide (w.2 < s.rng.propWin))) })
    (rgA + 0x200) n

/-- The proportion window ends at 1,024 bits: none where it fails (R456). -/
def propStep (s : State) (x : RngSt) : Option RngSt :=
  if x.propN < 1024 then some x
  else if x.propOnes + rf s (rgA + 12) 17 8 < 512 ∨ 512 + rf s (rgA + 12) 17 8 < x.propOnes then none
  else some { x with propN := 0, propOnes := 0, propWin := x.propWin + 1 }

/-- Conditioning of one tick's samples in rising oscillator order, with the proportion test (R454, R456). -/
def condStep (s : State) (x : RngSt) (smp : Nat) : List Nat → Option RngSt
  | [] => some x
  | o :: r =>
    match tget (fun _ => none) x.half o with
    | none => condStep s { x with half := tput (fun _ => none) x.half o (some (bitAt smp o)) } smp r
    | some b1 =>
      let y := { x with half := tput (fun _ => none) x.half o none }
      if x.vn && (b1 == bitAt smp o) then condStep s y smp r
      else match propStep s (condBit y o (if x.vn then b1 else xor b1 (bitAt smp o))) with
        | some z => condStep s z smp r
        | none => none

/-- A pair of enabled oscillators whose agreement over the window is out of bounds (R456). -/
def lockBad (s : State) (x : RngSt) (osc : List Nat) : Option (Nat × Nat) :=
  let dev := rf s (rgA + 12) 23 18
  (osc.flatMap (fun a => osc.map (fun b => (a, b)))).find? (fun p =>
    decide (p.1 < p.2) && (decide (tget (fun _ => 0) x.agree (8 * p.1 + p.2) + dev < 128) || decide (128 + dev < tget (fun _ => 0) x.agree (8 * p.1 + p.2))))

/-- One sampling tick: the tests of R456 in the order of their codes, then conditioning. Samples of the first 140 µs of a
start-up (110 ticks) are discarded; a start-up that has not gathered 4,096 bits within 10 ms of them fails (R459). -/
def rngTick (s : State) (smp : Nat) : State :=
  if rngDown s then s
  else
    let s := setRng s { s.rng with ticks := s.rng.ticks + 1 }
    if s.rng.st = .starting ∧ s.rng.ticks ≤ 110 then s
    else if s.rng.st = .starting ∧ s.rng.startBits < 4096 ∧ 110 + 7812 < s.rng.ticks then rngFail s 5 0 0 113 [] none
    else
      let osc := oscOn s
      let x := repStep s.rng osc smp
      let bad := osc.filter (fun o => decide (rf s (rgA + 12) 5 0 ≤ tget (fun _ => 0) x.run o))
      if bad ≠ [] then oscFail s 1 bad
      else
        let x := lockStep x osc smp
        match if x.lockN = 256 then lockBad s x osc else none with
        | some p => rngFail s 3 p.1 p.2 115 [p.1, p.2] none
        | none =>
          match condStep s x smp osc with
          | none => rngFail s 4 0 0 116 [] none
          | some y => poolIn (setRng s (if y.lockN = 256 then { y with lockN := 0, agree := [], lockWin := y.lockWin + 1 } else y))

def execRngSampleTick (samples : BitVec 8) (s : State) : Out := powered s (rngTick s samples.toNat)

/-- Nominal frequencies in MHz (R453). -/
def oscNominal : List Nat := [401, 433, 467, 503, 541, 577, 619, 661]

/-- The frequency counts of a 10 µs window: RG_OSCFREQ_n in MHz, and the test at ±40 % (R456, R472). -/
def freqWindow (s : State) (counts : List Nat) : State :=
  if rngDown s then s
  else
    let s := (oscOn s).foldl (fun t o => rset t (rgA + 0x20 + 4 * o) (w32 (nth counts o 0 / 10 % 65536))) s
    let bad := (oscOn s).filter (fun o => decide (nth counts o 0 < 6 * nth oscNominal o 0) || decide (14 * nth oscNominal o 0 < nth counts o 0))
    if bad = [] then s else oscFail s 2 bad

def execRngFreqWindow (counts : List Nat) (s : State) : Out := powered s (freqWindow s counts)

/-- RUNNING entered (R459, R469): source 112, the counters of the DRBG afresh, and a remask seed asked for at once. -/
def rngRunning (s : State) : State :=
  let s := setRng s { s.rng with st := .running, inst := s.rng.inst + 1, blk := 0, calls := 0, lastSeed := s.now, busy := 0 }
  let s := raise (cinc s (rgA + 0x210)) 112 []
  ddRefill (startStep (if s.culm.session then rngRequest s 1 2 else s) 5)

/-- The end of a start-up: the known-answer test, the start-up test and the instantiate (R459, R460). -/
def startupDone (s : State) (katOk : Bool) : State :=
  if s.rng.st ≠ .starting then s
  else if !katOk then rngFail s 6 0 0 117 [] none
  else if s.rng.startBits < 4224 then s
  else if (oscOn s).any (fun o => decide (tget (fun _ => 0) s.rng.startOsc o < 384)) then rngFail s 5 0 0 113 [] none
  else rngRunning s

def execRngStartupComplete (katOk : Bool) (s : State) : Out := powered s (startupDone s katOk)

/-- A command refused under R18: source 124. -/
def rgRefuse (s : State) : State := raise s 124 [rgA + 8]

/-- RG_CMD RETRY, from FAILED (R468). -/
def rgRetry (s : State) : State := if s.rng.st = .failed then rngStart s else rgRefuse s
def execRetry (s : State) : Out := powered s (rgRetry s)

/-- A reseed or instantiate begins; while the pool is short of what it takes, calls wait with source 123 (R463). -/
def reseedBegin (s : State) (kind : Nat) : State :=
  let need := if kind = 2 then 640 else 512
  let s := setRng s { s.rng with busy := kind }
  if s.rng.pool < need then raise (cinc s (rgA + 0x230)) 123 [] else s

/-- RG_CMD RESEED, from RUNNING (R463). -/
def rgReseed (s : State) : State := if s.rng.st ≠ .running then rgRefuse s else if s.rng.busy = 0 then reseedBegin s 1 else s
def execReseed (s : State) : Out := powered s (rgReseed s)

/-- RG_CMD REINSTANTIATE, from RUNNING (R463). -/
def rgReinst (s : State) : State := if s.rng.st ≠ .running then rgRefuse s else reseedBegin s 2
def execReinstantiate (s : State) : Out := powered s (rgReinst s)

/-- RG_CMD ENABLE, from DISABLED: the history cleared and a start-up, with source 120 (R468). -/
def rgEnable (s : State) : State :=
  if s.rng.st = .disabled then rngStart (raise (setRng s { s.rng with hist := [] }) 120 []) else rgRefuse s
def execEnable (s : State) : Out := powered s (rgEnable s)

/-- One second after FAILED, the code in charge writes RETRY, unless the source is DISABLED (R468). -/
def execRngRetryExpiry (s : State) : Out := powered s (if s.rng.st = .failed then rngStart s else s)

/-- A reseed that is due begins before the next call (R463). -/
def execAutoReseed (s : State) : Out :=
  powered s (if s.rng.st = .running ∧ s.rng.busy = 0 ∧ reseedDue s then reseedBegin s 1 else s)

/-- The pool holds what the reseed or instantiate takes: source 118, or 112 for an instantiate (R463, R471). -/
def reseedDone (s : State) : State :=
  let kind := s.rng.busy
  let need := if kind = 2 then 640 else 512
  if kind = 0 ∨ s.rng.st ≠ .running ∨ s.rng.pool < need then s
  else
    let s := setRng s { s.rng with pool := s.rng.pool - need, inst := s.rng.inst + 1, blk := 0, calls := 0, lastSeed := s.now, busy := 0 }
    raise (cinc s (rgA + 0x210)) (if kind = 2 then 112 else 118) []

def execReseedComplete (s : State) : Out := powered s (reseedDone s)

/-- The waiting request of highest priority, the oldest of its class (R464). -/
def topReq (l : List RngReq) : Option RngReq :=
  (List.range 7).findSome? (fun c => l.find? (fun r => r.cls == c))

/-- What the blocks of a call bring its requester: a remask seed over the culm, 32 delays, or blocks at a port. -/
def deliverBlocks (s : State) (r : RngReq) (bs : List (BitVec 128)) : State :=
  match r.cls with
  | 1 => if s.culm.session then send s (.flit true 2 (beNat (blockOctets bs))) else s
  | 3 => setRng s { s.rng with dd := 32 }
  | 5 => setRng s { s.rng with portBlk := tput (fun _ => []) s.rng.portBlk 0 (tget (fun _ => []) s.rng.portBlk 0 ++ bs) }
  | 6 => setRng s { s.rng with portBlk := tput (fun _ => []) s.rng.portBlk 1 (tget (fun _ => []) s.rng.portBlk 1 ++ bs) }
  | _ => s

/-- One generate call of one or two blocks (R462, R464). -/
def drbgCall (s : State) : State :=
  if !canDraw s then s
  else match topReq s.rng.reqs with
    | none => s
    | some r =>
      let n := Nat.min 2 r.left
      let bs := blocksOf s.rng n
      let rest := if r.left ≤ 2 then s.rng.reqs.erase r else s.rng.reqs.map (fun q => if q = r then { q with left := q.left - 2 } else q)
      deliverBlocks (drawn (setRng s { s.rng with reqs := rest }) n) r bs

def execDrbgCall (s : State) : Out := powered s (drbgCall s)

/-- RG_PREQ_k written (R472). -/
def portRequest (s : State) (k n : Nat) : State :=
  if n = 0 ∨ 16 < n ∨ tget (fun _ => 0) s.rng.portLeft k ≠ 0 then raise s 124 [rgA + 0x40 + 0x20 * k]
  else if rngDown s then rngRefused (setRng s (portRefuse s.rng k))
  else rngRequest (setRng s { s.rng with portErr := tput (fun _ => false) s.rng.portErr k false, portLeft := tput (fun _ => 0) s.rng.portLeft k n }) (5 + k) n

def execRngPortRequest (k : Fin 2) (n : Fin 32) (s : State) : Out := powered s (portRequest s k n)

/-- Word `w` of the block waiting at a port. -/
def portWord (s : State) (k w : Nat) : W32 :=
  match tget (fun _ => []) s.rng.portBlk k with
  | b :: _ => w32 (leNat (octetsAt (beBytes 16 b.toNat) (4 * w) 4))
  | [] => 0

/-- A read of word 3 of RG_PDATA_k returns it and releases the block (R472). -/
def portRead (s : State) (k : Nat) : State :=
  let s := answer s [(portWord s k 3).toNat]
  match tget (fun _ => []) s.rng.portBlk k with
  | _ :: r => setRng s { s.rng with portBlk := tput (fun _ => []) s.rng.portBlk k r,
                                    portLeft := tput (fun _ => 0) s.rng.portLeft k (tget (fun _ => 0) s.rng.portLeft k - 1) }
  | [] => s

def execRngDataRead (k : Fin 2) (s : State) : Out := powered s (portRead s k)

end Sys2Proof.Machine
end

