-- ==== Sys2Proof/Machine/Flash.lean ====
section
/-! DEFINITION. The flash controller (chapter 15). -/

namespace Sys2Proof.Machine

def flA : Nat := 0x30060000
def setFl (s : State) (x : FlSt) : State := { s with fl := x }

/-! ### Places and wear (R474, R476, R492, R493) -/

/-- Logical sector of a flash address, and its first address (R19, R474). -/
def sectorOf (a : Nat) : Nat := (a - 0x10000000) / 8192
def sectorA (x : Nat) : Nat := 0x10000000 + 8192 * x
/-- Sectors 768–1,023 of a bank are data-class. -/
def dataClass (x : Nat) : Bool := decide (768 ≤ x % 1024)
/-- The key of a sector's pool of spares: 2·bank + class. -/
def poolOf (x : Nat) : Nat := 2 * (x / 1024) + b2n (dataClass x)

def sparesOf (s : State) (k : Nat) : Nat := tget (fun _ => 32) s.fl.spares k
def sectOf (s : State) (x : Nat) : Sect := tget (fun _ => {}) s.fl.sects x
def setSect (s : State) (x : Nat) (v : Sect) : State := setFl s { s.fl with sects := tput (fun _ => {}) s.fl.sects x v }

/-- WEAR_NEAR raised once for a sector at its first threshold since its last erase or move: 1 program pulses, 2 erase
pulses, 3 corrected bits, 4 erase count (R493). -/
def wearNear (s : State) (x why : Nat) : State :=
  if (sectOf s x).near then s else raise (setSect s x { sectOf s x with near := true }) 130 [x, why]

/-- A program that took `n` pulses (R492, R493). -/
def wearProgram (s : State) (x n : Nat) : State :=
  let s := setSect s x { sectOf s x with progMax := Nat.max (sectOf s x).progMax n }
  if rf s flA 4 0 ≤ n then wearNear s x 1 else s

/-- An erase of a sector that took `n` pulses (R492, R493). -/
def wearErase (s : State) (x n : Nat) : State :=
  let e := (sectOf s x).erases + 1
  let s := setSect s x { erases := e, stamp := tscOf s, progMax := 0, eraseLast := n, corrMax := 0, near := false }
  let s := if rf s flA 9 5 ≤ n then wearNear s x 2 else s
  if (if dataClass x then 95000 else 9500) ≤ e then wearNear s x 4 else s

/-- A read that corrected `n` bits in one codeword (R475, R493). -/
def wearRead (s : State) (x n : Nat) : State :=
  let s := cinc (setSect s x { sectOf s x with corrMax := Nat.max (sectOf s x).corrMax n }) (flA + 0x318)
  if rf s flA 11 10 ≤ n then wearNear s x 3 else s

/-! ### Reads (R475–R479, R487) -/

/-- The page at an address is undefined. -/
def pageUndef (s : State) (a : Nat) : Bool := tget (fun _ => false) s.fl.undef (a / 256)

/-- The sector lies in an enabled execute-only region (R479). -/
def xoSector (s : State) (x : Nat) : Bool :=
  (List.range 4).any (fun n => rbit s (flA + 0x20 + 4 * n) 31 && decide (rf s (flA + 0x20 + 4 * n) 10 0 ≤ x) && decide (x ≤ rf s (flA + 0x20 + 4 * n) 26 16))

/-- A read of the bank whose operation is in progress suspends it (R477, R501). -/
def flashSuspend (s : State) (a : Nat) : State :=
  match s.fl.op with
  | some o => if o.op ≠ 0 ∧ sectorOf a / 1024 = sectorOf o.addr / 1024 then cinc s (flA + 0x330) else s
  | none => s

/-- A read of a flash address fails: FL_ERRADDR with source 131 or 132 (R478). -/
def flashError (s : State) (a src cnt : Nat) : State := raise (cinc (rset s (flA + 0x18) (w32 a)) (flA + cnt)) src [a]

/-- A read of flash, a fetch or data: whether it is answered. `res` is what the codeword's check finds. -/
def flashRead (s : State) (a : Nat) (fetch : Bool) (res : MemRes) : State × Bool :=
  if !fetch && xoSector s (sectorOf a) then (flashError s a 132 0x328, false)
  else
    let s := flashSuspend s a
    match res with
    | .ok => (s, true)
    | .slow => (raise s 136 [a], true)
    | .corrected n => (wearRead s (sectorOf a) n, true)
    | _ => (flashError s a 131 0x320, false)

/-- `n` octets of flash; an undefined page reads as free values (R487, log entry 5). -/
def flashOctets (s : State) (a n : Nat) : List Byte :=
  if pageUndef s a then leBytes n (free s) else tgets (fun _ => 0xFF) s.fl.data a n

/-! ### The command sequence (R481–R485) -/

/-- A write refused under R18: source 137, with the address. -/
def flRefuse (s : State) (o : Nat) : State := raise s 137 [flA + o]

/-- The sequence broken: SEQ LOCKED, and the write that broke it refused (R482). -/
def flBreak (s : State) (o : Nat) : State := flRefuse (setFl s { s.fl with seq := 0, words := [] }) o

/-- A write by a hart other than the owner of an open sequence is refused and leaves it intact; by the owner, one that is not
the next step breaks it (R482). -/
def flOther (s : State) (h o : Nat) : State := if s.fl.owner ≠ h then flRefuse s o else flBreak s o

/-- FL_KEY (R481, R482). -/
def flashKey (s : State) (h v : Nat) : State :=
  if s.fl.seq = 0 then
    if s.fl.op.isSome ∨ v ≠ 0x5A17 then flRefuse s 8
    else setFl s { s.fl with seq := 1, owner := h, words := [] }
  else if s.fl.seq = 1 ∧ s.fl.owner = h ∧ v = 0xA5E8 then setFl s { s.fl with seq := 2 }
  else flOther s h 8

def execFlashKeyWrite (h : Fin 8) (v : Fin 65536) (s : State) : Out := powered s (flashKey s h v)

/-- Sectors 640–767 of bank 0 take PROGRAM, ERASE and MOVE only in BLANK and TEST (R485). -/
def vendorShut (s : State) (x : Nat) : Bool := decide (640 ≤ x ∧ x ≤ 767) && !(decide (s.lc.state ≤ 1))

/-- FL_ADDR names what the command admits (R484, R485). -/
def addrOk (s : State) (op count a : Nat) : Bool :=
  if op = 4 then rbit s (flA + 0x20 + 4 * (a % 4)) 31
  else inFlash a && !vendorShut s (sectorOf a) &&
    (if op = 1 then decide (a % 256 = 0 ∧ a % 8192 + 256 * (count + 1) ≤ 8192) && !xoSector s (sectorOf a)
     else if op = 2 then decide (a % 8192 = 0) && !xoSector s (sectorOf a)
     else decide (a % 8192 = 0))

/-- The operation starts with the write that completes its sequence (R481). -/
def flStart (s : State) (op a : Nat) (ws : List W32) : State :=
  setFl s { s.fl with seq := 0, words := [], op := some { op := op, addr := a, words := ws } }

/-- FL_CMD or FL_ADDR (R481, R482, R484). -/
def flashStep (s : State) (h : Nat) (isAddr : Bool) (v : W32) : State :=
  let o := if isAddr then 0x10 else 0x0C
  if s.fl.seq = 0 then flRefuse s o
  else if s.fl.owner ≠ h then flRefuse s o
  else if !isAddr then
    let op := fld v 2 0
    if s.fl.seq = 2 ∧ 1 ≤ op ∧ op ≤ 4 ∧ (op = 1 ∨ fld v 5 3 = 0) then setFl s { s.fl with seq := 3, cmd := op, count := fld v 5 3 } else flBreak s o
  else if s.fl.seq = 3 ∧ addrOk s s.fl.cmd s.fl.count v.toNat then
    if s.fl.cmd = 1 then setFl s { s.fl with seq := 4, addr := v.toNat }
    else flStart s s.fl.cmd (if s.fl.cmd = 4 then v.toNat % 4 else v.toNat) []
  else flBreak s o

def execFlashSequenceStep (h : Fin 8) (isAddr : Bool) (v : W32) (s : State) : Out := powered s (flashStep s h isAddr v)

/-- FL_DATA_w: the words of a page in rising order, 64 for each page (R481). -/
def flashData (s : State) (h w : Nat) (v : W32) : State :=
  if s.fl.seq = 0 then flRefuse s (0x40 + 4 * w)
  else if s.fl.owner ≠ h then flRefuse s (0x40 + 4 * w)
  else if s.fl.seq = 4 ∧ w = s.fl.words.length % 64 then
    let ws := s.fl.words ++ [v]
    if ws.length = 64 * (s.fl.count + 1) then flStart s 1 s.fl.addr ws else setFl s { s.fl with words := ws }
  else flBreak s (0x40 + 4 * w)

def execFlashDataWrite (h : Fin 8) (w : Fin 64) (v : W32) (s : State) : Out := powered s (flashData s h w v)

/-- 1 ms from the first key without the operation starting (R482). -/
def execFlashSeqTimeout (s : State) : Out := powered s (if s.fl.seq = 0 then s else flBreak s 8)

/-! ### Operations (R484–R487, R494, R495) -/

/-- Pages of an address range marked undefined, or defined. -/
def setUndef (s : State) (a pages : Nat) (b : Bool) : State :=
  setFl s { s.fl with undef := (List.range pages).foldl (fun t i => tput (fun _ => false) t (a / 256 + i) b) s.fl.undef }

/-- The octets of a sector erased. -/
def eraseData (s : State) (x : Nat) : State :=
  setFl s { s.fl with data := s.fl.data.filter (fun e => !(decide (sectorA x ≤ e.1 ∧ e.1 < sectorA x + 8192))) }

/-- A sector erased: defined and blank where the verify passes, undefined where it does not (R486, R487). -/
def eraseSector (s : State) (x pulses : Nat) (good : Bool) : State :=
  let s := cinc (wearErase s x pulses) (flA + 0x308)
  if good then setUndef (eraseData s x) (sectorA x) 32 false else setUndef s (sectorA x) 32 true

/-- The operation in progress has done its work, with a code (R500). -/
def flWorked (s : State) (code pulses : Nat) : State :=
  match s.fl.op with
  | some o => setFl s { s.fl with op := some { o with done := true, code := code, pulses := pulses } }
  | none => s

/-- The operation in progress, if it is of the given OP and its work has not been done. -/
def flDue (s : State) (op : Nat) : Option FlOp :=
  match s.fl.op with
  | some o => if o.op = op ∧ o.done = false then some o else none
  | none => none

/-- A page reads erased; an undefined page may or may not (R484, R487). -/
def blankCheck (s : State) (a pages : Nat) : Bool :=
  if (List.range pages).any (fun i => pageUndef s (a + 256 * i)) then free s % 2 == 1
  else s.fl.data.all (fun e => !(decide (a ≤ e.1 ∧ e.1 < a + 256 * pages)))

/-- PROGRAM: the blank check, then programming with verify (R484). -/
def flProgram (s : State) (pulses : Nat) (good : Bool) : State :=
  match flDue s 1 with
  | none => s
  | some o =>
    let pages := o.words.length / 64
    let blank := blankCheck s o.addr pages
    let s := if (List.range pages).any (fun i => pageUndef s (o.addr + 256 * i)) then freed s else s
    if !blank then flWorked s 1 0
    else
      let s := wearProgram s (sectorOf o.addr) pulses
      if good then flWorked (setFl s { s.fl with data := tputs (fun _ => 0xFF) s.fl.data o.addr (octetsOf o.words) }) 0 pulses
      else flWorked (setUndef s o.addr pages true) 2 pulses

def execProgram (pulses : Fin 32) (verifyOk : Bool) (s : State) : Out := powered s (flProgram s pulses verifyOk)

/-- ERASE of one sector (R484). -/
def flErase (s : State) (pulses : Nat) (good : Bool) : State :=
  match flDue s 2 with
  | none => s
  | some o => flWorked (eraseSector s (sectorOf o.addr) pulses good) (if good then 0 else 2) pulses

def execErase (pulses : Fin 32) (verifyOk : Bool) (s : State) : Out := powered s (flErase s pulses verifyOk)

/-- A sector moved to a spare of its class in its bank: the old one RETIRED where WEAR_NEAR had been raised, else SPARE. What
the spare's own metadata holds is not stated: free values (R492, R494, R495). The answer says whether there was a spare. -/
def moveSector (s : State) (x : Nat) : State × Bool :=
  let k := poolOf x
  if sparesOf s k = 0 then (s, false)
  else
    let old := sectOf s x
    let s := freed (setSect s x { erases := free s % 131072, stamp := free s % 2 ^ 48, progMax := 0, eraseLast := free s % 32, corrMax := 0, near := false })
    if old.near then
      let n := sparesOf s k - 1
      let s := raise (setFl s { s.fl with spares := tput (fun _ => 32) s.fl.spares k n }) 133 [x]
      (if n ≤ 4 then raise s 134 [k] else s, true)
    else (s, true)

/-- MOVE: without a spare NO_SPARE, and the steward raises WARN (R494, R495). -/
def flMove (s : State) : State :=
  match flDue s 3 with
  | none => s
  | some o =>
    let p := moveSector s (sectorOf o.addr)
    if p.2 then flWorked p.1 0 0 else flWorked (warn p.1) 3 0

def execMove (s : State) : Out := powered s (flMove s)

/-- Sectors of a range erased in rising order; `bad` is the sector whose verify fails, which ends it (R480). -/
def eraseRange (s : State) (pulses : Nat) (bad : Option Nat) (x : Nat) : Nat → State × Bool
  | 0 => (s, true)
  | n + 1 =>
    if bad = some x then (eraseSector s x pulses false, false) else eraseRange (eraseSector s x pulses true) pulses bad (x + 1) n

/-- RELEASE: every sector of the region erased in rising order, then its EN cleared; a failure leaves it enabled (R480). -/
def flRelease (s : State) (pulses : Nat) (bad : Option Nat) : State :=
  match flDue s 4 with
  | none => s
  | some o =>
    let r := flA + 0x20 + 4 * o.addr
    let p := eraseRange s pulses bad (rf s r 10 0) (rf s r 26 16 + 1 - rf s r 10 0)
    if p.2 then flWorked (rsetf p.1 r 31 31 0) 0 pulses else flWorked p.1 2 pulses

def execRelease (pulses : Fin 32) (bad : Option (Fin 2048)) (s : State) : Out := powered s (flRelease s pulses (bad.map Fin.val))

/-- Counter of completed commands of an OP; a RELEASE counts its erases (R501). -/
def flCounter (op : Nat) : Nat := if op = 1 then 0x300 else 0x310

/-- An operation completes: FL_RESULT, BUSY clear, source 128 or 129 (R486, R499, R500). -/
def flashDone (s : State) : State :=
  match s.fl.op with
  | none => s
  | some o =>
    if !o.done then s
    else
      let r := flA + 0x14
      let sec := if o.op = 4 then rf s (flA + 0x20 + 4 * o.addr) 10 0 else sectorOf o.addr
      let s := setFl s { s.fl with op := none }
      let s := rset s r (w32 (packFields [(o.code, 0), (o.op, 3), (o.pulses % 32, 6), (sec % 2048, 11), ((rf s r 31 22 + 1) % 1024, 22)]))
      let s := if o.op = 1 ∨ o.op = 3 then cinc s (flA + flCounter o.op) else s
      let s := if o.code = 2 then cinc s (flA + 0x338) else s
      if o.code = 0 then raise s 128 [o.op, o.addr] else raise s 129 [o.code, o.addr]

def execFlashOpComplete (s : State) : Out := powered s (flashDone s)

/-- An interruption of the operation in progress leaves its unit undefined; a MOVE leaves one complete copy (R487, R495). -/
def flashCut (s : State) : State :=
  let s := match s.fl.op with
    | some o =>
      if o.op = 1 then setUndef s o.addr (o.words.length / 64) true
      else if o.op = 2 then setUndef s o.addr 32 true
      else if o.op = 4 then setUndef s (sectorA (rf s (flA + 0x20 + 4 * o.addr) 10 0)) 32 true
      else s
    | none => s
  setFl s { s.fl with op := none, seq := 0, words := [] }

/-! ### Retention (R496) -/

/-- Days since a sector's last erase; none for AGE_UNKNOWN, where its stamp lies ahead of the counter. -/
def sectAge (s : State) (x : Nat) : Option Nat :=
  let e := sectOf s x
  if tscOf s < e.stamp then none else some ((tscOf s - e.stamp) / (32768 * 86400))

/-- A sector holds programmed data. -/
def programmed (s : State) (x : Nat) : Bool :=
  s.fl.data.any (fun e => decide (sectorA x ≤ e.1 ∧ e.1 < sectorA x + 8192)) ||
    s.fl.undef.any (fun e => decide (sectorA x / 256 ≤ e.1 ∧ e.1 < sectorA x / 256 + 32))

end Sys2Proof.Machine
end

