-- ==== Sys2Proof/Machine/Bus.lean ====
section
/-! DEFINITION. Accesses of harts, DMA channels, the long-integer engine and the fixed masters to SRAM, flash and the boot ROM
(R342, R404, R409, R424). -/

namespace Sys2Proof.Machine

/-- The tag store's parity fails for the granule of an address (R409). -/
def tagBad (s : State) (a : Nat) : Bool := inSram a && tget (fun _ => false) s.badTag (granule a)

/-- A tag found with failing parity: the granule reads 0x00 until it is recoloured (R409). -/
def tagFound (s : State) (a : Nat) (res : MemRes) : State :=
  if inSram a && res == .tagParity then { s with badTag := tput (fun _ => false) s.badTag (granule a) true } else s

/-- The event and count of a tag whose parity fails (R409, R426, R428). -/
def tagEvent (s : State) (a : Nat) : State := raise (cinc s 0x30088120) 195 [granule a]

/-- The checks of an access at issue, with what the tag store finds: the cause of the first that fails (R342, R409). -/
def busCheck (s : State) (m : Nat) (user : Bool) (k : Kind) (a size : Nat) (res : MemRes) : State × Option Nat :=
  let t := tagFound s a res
  match memCheck t m user k a size with
  | some 4 => (if tagBad t a then tagEvent t a else t, some 4)
  | some c => (s, some c)
  | none => (t, none)

/-- The 64-bit lane of an SRAM address (R409). -/
def memLane (a : Nat) : Nat := a / 8

/-- What reading or updating an SRAM lane finds: whether it is answered. An uncorrectable lane keeps its error (R409). -/
def sramLane (s : State) (a : Nat) (res : MemRes) : State × Bool :=
  let bad := tget (fun _ => false) s.badLane (memLane a)
  let unc := match res with
    | .uncorrectable => true
    | .error => true
    | _ => false
  if bad || unc then
    (raise (cinc { s with badLane := tput (fun _ => false) s.badLane (memLane a) true } 0x30088118) 194 [granule a], false)
  else match res with
    | .corrected _ => (raise (cinc s 0x30088110) 193 [granule a], true)
    | _ => (s, true)

/-- `n` octets of the boot ROM. -/
def romRead (a n : Nat) : List Byte := (List.range n).map (fun i => Config.romByte (a + i))

/-- Read `n` octets of SRAM, flash or the boot ROM that have passed the checks: the octets, or an error of the target. -/
def busRead (s : State) (a n : Nat) (fetch : Bool) (res : MemRes) : State × Option (List Byte) :=
  if inSram a then
    let p := sramLane s a res
    (p.1, if p.2 then some (memRead s a n) else none)
  else if inFlash a then
    let p := flashRead s a fetch res
    (if pageUndef s a then freed p.1 else p.1, if p.2 then some (flashOctets s a n) else none)
  else if inRom a then (s, some (romRead a n))
  else (s, some (leBytes n 0))

/-! ### Buffers of the engine and the fixed masters (R404, R424) -/

/-- Causes of a channel's or engine's beat: RANGE for an address it may not reach, as cause 3 (R404, R423). -/
def reachable (k : Kind) (a : Nat) : Bool :=
  match k with
  | .store => inSram a
  | _ => inSram a || inFlash a || inRom a

/-- The check of one octet's granule for a master that is no hart. -/
def dmaCheck (s : State) (m : Nat) (k : Kind) (a : Nat) : Option Nat :=
  if !reachable k a then some 3
  else match region s m a with
    | none => some 5
    | some r => if !permits s m r k true then some 5 else if !colourOk s (colourOf s m r true) a then some 4 else none

/-- The first octet of a buffer that is refused: its offset and cause. Octets of one granule fail alike. -/
def bufferFault (s : State) (m : Nat) (k : Kind) (a len : Nat) : Option (Nat × Nat) :=
  (List.range ((a % 64 + len + 63) / 64)).findSome? (fun i =>
    let o := if i = 0 then 0 else 64 * i - a % 64
    if o < len then (dmaCheck s m k (a + o)).map (fun c => (o, c)) else none)

/-- The octets of a buffer that has passed its checks. -/
def bufferRead (s : State) (a len : Nat) : List Byte :=
  if inSram a then memRead s a len else if inFlash a then tgets (fun _ => 0xFF) s.fl.data a len else romRead a len

end Sys2Proof.Machine
end

