-- ==== Sys2Proof/Machine/Operands.lean ====
section
/-! DEFINITION. Operand forms of the Rhaby instructions: the formats of R334 as words, register operands, immediates and
addresses (R331–R341). -/

namespace Sys2Proof.Machine

/-- A word of an opcode, a guard and the fields below bit 22. -/
def encWord (guard op low : Nat) : W32 := w32 (guard <<< 28 + op <<< 22 + low)

def encR (guard op rd ra rb func : Nat) : W32 := encWord guard op (rd <<< 17 + ra <<< 12 + rb <<< 7 + func)
def encI (guard op rd ra imm : Nat) : W32 := encWord guard op (rd <<< 17 + ra <<< 12 + imm)
def encU (guard op rd imm : Nat) : W32 := encWord guard op (rd <<< 17 + imm)
def encJ (guard op off : Nat) : W32 := encWord guard op off
def encP (guard op pd mode ra rb cond z : Nat) : W32 := encWord guard op (pd <<< 19 + mode <<< 17 + ra <<< 12 + rb <<< 7 + cond <<< 3 + z)
def encPI (guard op pd mode ra cond imm : Nat) : W32 := encWord guard op (pd <<< 19 + mode <<< 17 + ra <<< 12 + cond <<< 8 + imm)
def encPL (guard op pd pa pb plop z : Nat) : W32 := encWord guard op (pd <<< 19 + pa <<< 16 + pb <<< 13 + plop <<< 10 + z)
def encLoop (guard n ra len : Nat) : W32 := encWord guard 0x28 (n <<< 20 + ra <<< 15 + len)
def encLoopi (guard n cnt len : Nat) : W32 := encWord guard 0x29 (n <<< 20 + cnt <<< 10 + len)
def encC (guard r sub z creg : Nat) : W32 := encWord guard 0x38 (r <<< 17 + sub <<< 15 + z <<< 12 + creg)
def encY (guard sub imm : Nat) : W32 := encWord guard 0x3C (sub <<< 16 + imm)

/-- sx(v, n) as a word (R335). -/
def sxw (n v : Nat) : W32 := BitVec.ofInt 32 (sxt n v)

/-- The address of a load or store: g[ra] + sx(imm12, 12) (R341). -/
def effAddr (x : Hart) (ra : Nat) (imm : BitVec 12) : Nat := (gget x ra + sxw 12 imm.toNat).toNat

/-- The target of B and CALL: PC + 4 × sx(off22, 22) (R347). -/
def jumpAddr (x : Hart) (off : BitVec 22) : W32 := x.pc + 4 * sxw 22 off.toNat

/-- A loaded value of z octets, sign-extended or zero-extended (R341). -/
def loadExt (signed : Bool) (z : Nat) (l : List Byte) : W32 := if signed then sxw (8 * z) (leNat l) else w32 (leNat l)

end Sys2Proof.Machine
end

