-- ==== Sys2Proof/Machine/Flags.lean ====
section
/-! DEFINITION. Predicates, the machine's only flags (R330): the guard, conditions, modes and predicate logic. -/

namespace Sys2Proof.Machine

/-- The guard lets the instruction act: p_g XOR v (R332). -/
def guardOk (x : Hart) (guard : Nat) : Bool := xor (pget x (guard / 2)) (guard % 2 == 1)

/-- A condition of R339 between two words. -/
def condOf (c : Nat) (a b : W32) : Bool :=
  match c with
  | 0 => a == b
  | 1 => a != b
  | 2 => a.slt b
  | 3 => !(a.slt b)
  | 4 => a.ult b
  | 5 => !(a.ult b)
  | 6 => b.slt a
  | 7 => !(b.slt a)
  | 8 => b.ult a
  | 9 => !(b.ult a)
  | 10 => (a &&& b) != 0
  | _ => (a &&& b) == 0

/-- A condition combined into p[pd] by mode: 0 SET, 1 AND, 2 OR (R339). -/
def predMode (mode : Nat) (old c : Bool) : Bool :=
  match mode with
  | 0 => c
  | 1 => old && c
  | _ => old || c

/-- Predicate logic by plop: 0 PAND, 1 POR, 2 PXOR, 3 PANDN, 4 PNOT (R340). -/
def plopOf (op : Nat) (a b : Bool) : Bool :=
  match op with
  | 0 => a && b
  | 1 => a || b
  | 2 => xor a b
  | 3 => a && !b
  | _ => !a

/-- PRED: bit i is p_i (R349). -/
def predWord (x : Hart) : W32 := w32 (packFields ((List.range 8).map (fun i => (b2n (pget x i), i))))

/-- A write of PRED: bit 0 and bits above 7 are ignored (R349). -/
def predWrite (x : Hart) (v : W32) : Hart := (List.range 8).foldl (fun y i => pset y i (bitAt v.toNat i)) x

end Sys2Proof.Machine
end

