-- ==== Sys2Proof/Machine/HartOps.lean ====
section
/-! DEFINITION. What surrounds a Rhaby instruction: pending causes (R375–R377, R387), entry into a level (R369–R374), faults,
the loop test (R380), and the order of issue (R333). -/

namespace Sys2Proof.Machine

/-- The HT_ block of hart h (R395). -/
def htA (h : Nat) : Nat := 0x31000000 + 0x1000 * h

/-- A hart changes STATE: offset 6 of its sources (R394). -/
def stateChange (s : State) (h : Nat) (st : HState) : State :=
  if hstOf s h = st then s else raise (setHst s h st) (8 * h + 6) [st.code]

/-! ### Control words (R350, R374) -/

/-- PS as a word. -/
def psWord (x : Hart) : W32 := w32 (packFields [(x.level, 0), (b2n x.ie, 2), (b2n x.aw, 3), (b2n x.rept, 4)])

/-- Save register k of level n: 0 SV_PC, 1 SV_PS, 2 SV_CAUSE, 3 SV_ADDR. -/
def svGet (x : Hart) (n k : Nat) : W32 := tget (fun _ => 0) x.sv (4 * (n - 1) + k)
def svSet (x : Hart) (n k : Nat) (v : W32) : Hart := { x with sv := tput (fun _ => 0) x.sv (4 * (n - 1) + k) v }

/-- SV_CAUSE_n: code, access, size as its power of two, source. -/
def causeWord (code access size src : Nat) : W32 :=
  w32 (packFields [(code, 0), (access, 8), (size / 2, 11), (src, 16)])

/-- The vector of entry to level m with cause code c (R371). -/
def vectorOf (x : Hart) (m c : Nat) : W32 :=
  x.vbase + w32 (0x100 * (m - 1) + 0x40 * (if c ≤ 5 then 0 else if c ≤ 8 then 1 else if c = 9 then 2 else 3))

/-- The counter of an entry (R396). -/
def entryCounter (c : Nat) : Nat := if c ≤ 8 then 0x108 else if c = 9 then 0x110 else 0x118

/-- Entry to level m: the saved words, LEVEL, IE, the closed window and the vector (R370). -/
def entered (x : Hart) (m c access size src : Nat) (pc addr : W32) : Hart :=
  let y := svSet (svSet (svSet (svSet x m 0 pc) m 1 (psWord x)) m 2 (causeWord c access size src)) m 3 addr
  { y with level := m, aw := false, atw := 0, ie := decide (m ≠ 3), pc := vectorOf x m c }

def enter (s : State) (h m c access size src : Nat) (pc addr : W32) : State :=
  cinc (setHart s h (entered (hartOf s h) m c access size src pc addr)) (htA h + entryCounter c)

/-! ### Pending causes (R375–R377, R387–R389) -/

/-- The sources pending for hart h at level 3 or level 2, lowest first (R387, R389). -/
def pendAt (s : State) (h : Nat) (crit : Bool) : List Nat :=
  (s.ev.pend.map (fun e => e.1)).filter (fun src =>
    rf s (routeAddr src) 1 0 == 1 && rbit s (routeAddr src) 5 == crit && deliverHart s (rf s (routeAddr src) 4 2) == h)

/-- The lowest pending source above the one last taken, wrapping (R387). -/
def nextSource (l : List Nat) (last : Nat) : Option Nat :=
  match l.find? (fun x => decide (last < x)) with
  | some x => some x
  | none => l.head?

def lastTaken (x : Hart) (crit : Bool) : Nat := if crit then x.last3 else x.last2

/-- The source that hart h would take at a level. -/
def selectAt (s : State) (h : Nat) (crit : Bool) : Option Nat := nextSource (pendAt s h crit) (lastTaken (hartOf s h) crit)

/-- A source's pending bit cleared, as hart h takes it at a level. -/
def takeSource (s : State) (h src : Nat) (crit : Bool) : State :=
  let s := { s with ev := { s.ev with pend := tput (fun _ => false) s.ev.pend src false } }
  setHart s h (if crit then { hartOf s h with last3 := src } else { hartOf s h with last2 := src })

/-- What waits at an instruction boundary (R377). -/
inductive Due where
  | int (crit : Bool) (src : Nat)
  | late (level addr : Nat)
  | ovr (level : Nat) (addr : W32)
  | budget
deriving DecidableEq, Repr

/-- The first pending and eligible cause of R377. -/
def due (s : State) (h : Nat) : Option Due :=
  let x := hartOf s h
  match (if x.level < 3 ∧ x.aw = false then selectAt s h true else none) with
  | some src => some (.int true src)
  | none =>
    match x.late.find? (fun e => decide (x.level ≤ e.1)) with
    | some e => some (.late e.1 e.2)
    | none =>
      match x.ovr.filter (fun e => decide (x.level ≤ e.1)) with
      | some e => some (.ovr e.1 e.2)
      | none =>
        if x.budgetPend ∧ x.level = 0 then some .budget
        else if x.level < 2 ∧ x.ie ∧ x.aw = false then (selectAt s h false).map (fun src => .int false src)
        else none

/-! ### Faults (R369, R373, R376, R378, R279) -/

/-- The order that hart h serves ends FAULTED with a cause, a saved PC and an address (R279, R378). -/
def endHartJob (s : State) (h c : Nat) (pc addr : W32) : State :=
  match (hartOf s h).job with
  | some i => (match jobOf s i with
    | some j => endFaulted s j c pc addr
    | none => s)
  | none => s

/-- A halt with no handler: HT_DF_*, the state, and the end of the order (R376, R378). -/
def hartDies (s : State) (h : Nat) (st : HState) (off code : Nat) (cause addr : W32) : State :=
  let pc := (hartOf s h).pc
  let s := rset (rset (rset s (htA h + 0x10) pc) (htA h + 0x14) cause) (htA h + 0x18) addr
  endHartJob (raise (stateChange s h st) (8 * h + off) [addr.toNat]) h code pc addr

/-- A precise fault of hart h: taken one level up, or a DOUBLE_FAULT at level 3; at level 0 the order ends FAULTED. -/
def fault (s : State) (h c : Nat) (pc addr : W32) (access size : Nat) : State :=
  let n := (hartOf s h).level
  if 3 ≤ n then hartDies s h .haltedDouble 1 0x0B (causeWord c access size 0) addr
  else
    let t := enter s h (n + 1) c access size 0 pc addr
    if n = 0 then endHartJob t h c pc addr else t

/-! ### Completing an instruction (R331, R380, R396) -/

def lsGet (x : Hart) (n : Nat) : W32 := tget (fun _ => 0) x.ls n
def leGet (x : Hart) (n : Nat) : W32 := tget (fun _ => 0) x.le n
def lcGet (x : Hart) (n : Nat) : W32 := tget (fun _ => 0) x.lc n
def lcSet (x : Hart) (n : Nat) (v : W32) : Hart := { x with lc := tput (fun _ => 0) x.lc n v }

/-- The loop test over the sets of a list, for the instruction at `a`: PC of the next instruction (R380). -/
def loopTest (a : W32) : List Nat → Hart → Hart
  | [], x => { x with pc := a + 4 }
  | n :: r, x =>
    if lcGet x n ≠ 0 ∧ leGet x n = a then
      if lcGet x n - 1 ≠ 0 then { lcSet x n (lcGet x n - 1) with pc := lsGet x n } else loopTest a r (lcSet x n (lcGet x n - 1))
    else loopTest a r x

/-- PC after an instruction that does not transfer control: under REPEAT the test is never made. -/
def advance (x : Hart) : Hart := loopTest x.pc (if x.rept then [] else [3, 2, 1, 0]) x

/-- An instruction that completed. -/
def retire (s : State) (h : Nat) : State := cinc s (htA h + 0x100)

/-- What an operation comes to. -/
inductive HRes where
  /-- completed without transfer of control: the loop test follows -/
  | next (s : State) (x : Hart)
  /-- completed with PC set -/
  | jump (s : State) (x : Hart)
  /-- completed, with the hart's state already in place -/
  | done (s : State)
  /-- a precise fault: cause, address, ACCESS and size -/
  | fault (s : State) (x : Hart) (c : Nat) (addr : W32) (access size : Nat)
  /-- left between two elements: it issues again -/
  | stay (s : State) (x : Hart)
  /-- it waits, with no effect -/
  | stall

/-- The fetch of the instruction at PC: the cause of the check or target that fails (R342). -/
def fetchAt (s : State) (h : Nat) (res : MemRes) : State × Option Nat :=
  let x := hartOf s h
  let a := x.pc.toNat
  let p := busCheck s h (x.level == 0) .fetch a 4 res
  match p.2 with
  | some c => (noteRefusal p.1 h a c 1 x.level, some c)
  | none =>
    if inBlocks a || inWindow a then (p.1, if res == .error then some 3 else none)
    else
      let r := busRead p.1 a 4 true res
      (r.1, if r.2.isSome then none else some 3)

/-- The hart may issue an instruction: it is out of reset, since the wipe of the start (R514), and RUNNING, with nothing due and no halt
to make (R377, R392). -/
def mayIssue (s : State) (h : Nat) : Bool :=
  s.pw.wiped && hstOf s h == .running && (due s h).isNone && !((hartOf s h).haltReq && !(hartOf s h).aw)

/-- An instruction that completes without transfer: the loop test and INSTRET. -/
def completeNext (s : State) (h : Nat) (x : Hart) : State := retire (setHart s h (advance x)) h

/-- What the outcome of an operation does to the hart. -/
def settle (s : State) (h : Nat) : HRes → State
  | .next t x => completeNext t h x
  | .jump t x => retire (setHart t h x) h
  | .done t => retire t h
  | .fault t x c addr access size => fault (setHart t h x) h c x.pc addr access size
  | .stay t x => setHart t h x
  | .stall => s

/-- The hart as an instruction finds it: at the level of a fed instruction, else at its own. -/
def issuing (s : State) (h : Nat) : Hart := { hartOf s h with level := (hartOf s h).fed.getD (hartOf s h).level }

/-- An instruction that the debugger feeds to a halted hart: it is not fetched, it runs at the level the command chose, and PC stays
unless it transfers control; its faults are taken from that level (R583). The level before returns unless the instruction changed it. -/
def issueFed (s : State) (i : Issue) (lv : Nat) (word : W32) (illegal perm : Bool) (op : State → Hart → HRes) : State :=
  let h := i.h.val
  let x := hartOf s h
  let y := { x with level := lv, fed := none }
  let t := setHart s h y
  let back := fun (u : State) => if (hartOf u h).level = lv then setHart u h { hartOf u h with level := x.level } else u
  if i.guard = 1 || illegal then back (fault t h 1 y.pc word 0 0)
  else if perm then back (fault t h 5 y.pc word 0 0)
  else if !guardOk y i.guard then back (retire t h)
  else back (match op t y with
    | .next u z => retire (setHart u h z) h
    | r => settle t h r)

/-- Issue of an instruction: fetch, decode, level, guard, operation (R333). -/
def issue (s : State) (i : Issue) (word : W32) (illegal perm : Bool) (op : State → Hart → HRes) : State :=
  let h := i.h.val
  if hstOf s h = .haltedDebug then
    match (hartOf s h).fed with
    | some lv => issueFed s i lv word illegal perm op
    | none => s
  else if !mayIssue s h then s
  else
    match fetchAt s h i.fetch with
    | (t, some c) => fault t h c (hartOf s h).pc (hartOf s h).pc 1 4
    | (t, none) =>
      if i.guard = 1 || illegal then fault t h 1 (hartOf t h).pc word 0 0
      else if perm then fault t h 5 (hartOf t h).pc word 0 0
      else if !guardOk (hartOf t h) i.guard then completeNext t h (hartOf t h)
      else settle s h (op t (hartOf t h))

end Sys2Proof.Machine
end

