-- ==== Sys2Proof/Machine/Alu.lean ====
section
/-! DEFINITION. Arithmetic, logic, constants and predicates of the Rhaby hart (R336–R340). -/

namespace Sys2Proof.Machine

/-! ### Operations between words (R336) -/

def shamt (b : W32) : Nat := b.toNat % 32

/-- DIVS: truncated toward zero; divisor 0 gives 0; −2^31 ÷ −1 saturates. -/
def divS (a b : W32) : W32 :=
  if b = 0 then 0 else if a = 0x80000000 ∧ b = 0xFFFFFFFF then 0x7FFFFFFF else BitVec.ofInt 32 (a.toInt.tdiv b.toInt)

/-- MODS: the remainder of DIVS, with the sign of the dividend; divisor 0 gives the dividend; −2^31 mod −1 gives 0. -/
def modS (a b : W32) : W32 := if b = 0 then a else BitVec.ofInt 32 (a.toInt.tmod b.toInt)

def divZ (a b : W32) : W32 := if b = 0 then 0 else w32 (a.toNat / b.toNat)
def modZ (a b : W32) : W32 := if b = 0 then a else w32 (a.toNat % b.toNat)

/-- High 32 bits of a product of integers. -/
def mulHi (a b : Int) : W32 := BitVec.ofInt 32 ((a * b) / 2 ^ 32)

/-- Leading zero bits, 0–32. -/
def clz (a : W32) : Nat := ((List.range 32).find? (fun i => bitAt a.toNat (31 - i))).getD 32
/-- Trailing zero bits, 0–32. -/
def ctz (a : W32) : Nat := ((List.range 32).find? (fun i => bitAt a.toNat i)).getD 32
/-- Set bits. -/
def popc (a : W32) : Nat := ((List.range 32).filter (fun i => bitAt a.toNat i)).length
/-- The four octets reversed. -/
def bswap (a : W32) : W32 := w32 (leNat (leBytes 4 a.toNat).reverse)

/-- An operation that writes g[rd] from two words (R336, R337). -/
def writeRd (rd : Nat) (v : Hart → W32) (s : State) (x : Hart) : HRes := .next s (gset x rd (v x))

/-- The ALU group by func (R336). -/
def aluR (s : State) (i : Issue) (func : Nat) (rd ra rb : Fin 32) (f : W32 → W32 → W32) : State :=
  issue s i (encR i.guard 0x01 rd ra rb func) false false (writeRd rd (fun x => f (gget x ra) (gget x rb)))

/-- The one-operand functions: rb must be g0. -/
def aluU (s : State) (i : Issue) (func : Nat) (rd ra rb : Fin 32) (f : W32 → W32) : State :=
  issue s i (encR i.guard 0x01 rd ra rb func) (decide (rb ≠ 0)) false (writeRd rd (fun x => f (gget x ra)))

def execAdd (i : Issue) (rd ra rb : Fin 32) (s : State) : Out := ok (aluR s i 0x00 rd ra rb (fun a b => a + b))
def execSub (i : Issue) (rd ra rb : Fin 32) (s : State) : Out := ok (aluR s i 0x01 rd ra rb (fun a b => a - b))
def execAnd (i : Issue) (rd ra rb : Fin 32) (s : State) : Out := ok (aluR s i 0x02 rd ra rb (fun a b => a &&& b))
def execOr (i : Issue) (rd ra rb : Fin 32) (s : State) : Out := ok (aluR s i 0x03 rd ra rb (fun a b => a ||| b))
def execXor (i : Issue) (rd ra rb : Fin 32) (s : State) : Out := ok (aluR s i 0x04 rd ra rb (fun a b => a ^^^ b))
def execAndn (i : Issue) (rd ra rb : Fin 32) (s : State) : Out := ok (aluR s i 0x05 rd ra rb (fun a b => a &&& ~~~b))
def execShl (i : Issue) (rd ra rb : Fin 32) (s : State) : Out := ok (aluR s i 0x06 rd ra rb (fun a b => a <<< shamt b))
def execShr (i : Issue) (rd ra rb : Fin 32) (s : State) : Out := ok (aluR s i 0x07 rd ra rb (fun a b => a >>> shamt b))
def execSar (i : Issue) (rd ra rb : Fin 32) (s : State) : Out := ok (aluR s i 0x08 rd ra rb (fun a b => a.sshiftRight (shamt b)))
def execRot (i : Issue) (rd ra rb : Fin 32) (s : State) : Out := ok (aluR s i 0x09 rd ra rb (fun a b => a.rotateRight (shamt b)))
def execMins (i : Issue) (rd ra rb : Fin 32) (s : State) : Out := ok (aluR s i 0x0A rd ra rb (fun a b => if b.slt a then b else a))
def execMaxs (i : Issue) (rd ra rb : Fin 32) (s : State) : Out := ok (aluR s i 0x0B rd ra rb (fun a b => if a.slt b then b else a))
def execMinz (i : Issue) (rd ra rb : Fin 32) (s : State) : Out := ok (aluR s i 0x0C rd ra rb (fun a b => if b.ult a then b else a))
def execMaxz (i : Issue) (rd ra rb : Fin 32) (s : State) : Out := ok (aluR s i 0x0D rd ra rb (fun a b => if a.ult b then b else a))
def execMul (i : Issue) (rd ra rb : Fin 32) (s : State) : Out := ok (aluR s i 0x10 rd ra rb (fun a b => a * b))
def execMulhs (i : Issue) (rd ra rb : Fin 32) (s : State) : Out := ok (aluR s i 0x11 rd ra rb (fun a b => mulHi a.toInt b.toInt))
def execMulhz (i : Issue) (rd ra rb : Fin 32) (s : State) : Out := ok (aluR s i 0x12 rd ra rb (fun a b => mulHi a.toNat b.toNat))
def execDivs (i : Issue) (rd ra rb : Fin 32) (s : State) : Out := ok (aluR s i 0x14 rd ra rb divS)
def execDivz (i : Issue) (rd ra rb : Fin 32) (s : State) : Out := ok (aluR s i 0x15 rd ra rb divZ)
def execMods (i : Issue) (rd ra rb : Fin 32) (s : State) : Out := ok (aluR s i 0x16 rd ra rb modS)
def execModz (i : Issue) (rd ra rb : Fin 32) (s : State) : Out := ok (aluR s i 0x17 rd ra rb modZ)
def execClz (i : Issue) (rd ra rb : Fin 32) (s : State) : Out := ok (aluU s i 0x18 rd ra rb (fun a => w32 (clz a)))
def execCtz (i : Issue) (rd ra rb : Fin 32) (s : State) : Out := ok (aluU s i 0x19 rd ra rb (fun a => w32 (ctz a)))
def execPopc (i : Issue) (rd ra rb : Fin 32) (s : State) : Out := ok (aluU s i 0x1A rd ra rb (fun a => w32 (popc a)))
def execBswap (i : Issue) (rd ra rb : Fin 32) (s : State) : Out := ok (aluU s i 0x1B rd ra rb bswap)

/-! ### Immediates and constants (R337, R338) -/

/-- An immediate operation with sx(imm12, 12). -/
def aluI (s : State) (i : Issue) (op : Nat) (rd ra : Fin 32) (imm : BitVec 12) (f : W32 → W32 → W32) : State :=
  issue s i (encI i.guard op rd ra imm.toNat) false false (writeRd rd (fun x => f (gget x ra) (sxw 12 imm.toNat)))

def execAddk (i : Issue) (rd ra : Fin 32) (imm : BitVec 12) (s : State) : Out := ok (aluI s i 0x02 rd ra imm (fun a b => a + b))
def execAndk (i : Issue) (rd ra : Fin 32) (imm : BitVec 12) (s : State) : Out := ok (aluI s i 0x03 rd ra imm (fun a b => a &&& b))
def execOrk (i : Issue) (rd ra : Fin 32) (imm : BitVec 12) (s : State) : Out := ok (aluI s i 0x04 rd ra imm (fun a b => a ||| b))
def execXork (i : Issue) (rd ra : Fin 32) (imm : BitVec 12) (s : State) : Out := ok (aluI s i 0x05 rd ra imm (fun a b => a ^^^ b))

/-- The SHK group: imm12[11:7] (`z`) must be 0, imm12[6:5] selects, imm12[4:0] is the amount (R337). -/
def shk (s : State) (i : Issue) (sel : Nat) (rd ra k z : Fin 32) (f : W32 → Nat → W32) : State :=
  issue s i (encI i.guard 0x06 rd ra (z.val <<< 7 + sel <<< 5 + k.val)) (decide (z ≠ 0)) false (writeRd rd (fun x => f (gget x ra) k))

def execShlk (i : Issue) (rd ra k z : Fin 32) (s : State) : Out := ok (shk s i 0 rd ra k z (fun a n => a <<< n))
def execShrk (i : Issue) (rd ra k z : Fin 32) (s : State) : Out := ok (shk s i 1 rd ra k z (fun a n => a >>> n))
def execSark (i : Issue) (rd ra k z : Fin 32) (s : State) : Out := ok (shk s i 2 rd ra k z (fun a n => a.sshiftRight n))
def execRotk (i : Issue) (rd ra k z : Fin 32) (s : State) : Out := ok (shk s i 3 rd ra k z (fun a n => a.rotateRight n))

def execKset (i : Issue) (rd : Fin 32) (imm : BitVec 17) (s : State) : Out :=
  ok (issue s i (encU i.guard 0x07 rd imm.toNat) false false (writeRd rd (fun _ => sxw 17 imm.toNat)))

/-- KHI and KLO: imm17[16] is reserved (R338). -/
def execKhi (i : Issue) (rd : Fin 32) (imm : BitVec 17) (s : State) : Out :=
  ok (issue s i (encU i.guard 0x08 rd imm.toNat) (bitAt imm.toNat 16) false (writeRd rd (fun _ => w32 (imm.toNat % 65536) <<< 16)))
def execKlo (i : Issue) (rd : Fin 32) (imm : BitVec 17) (s : State) : Out :=
  ok (issue s i (encU i.guard 0x09 rd imm.toNat) (bitAt imm.toNat 16) false (writeRd rd (fun x => gget x rd ||| w32 (imm.toNat % 65536))))

/-! ### Predicates (R339, R340) -/

/-- A comparison of two words into p[pd]. -/
def compareTo (pd mode cond : Nat) (v : Hart → W32 × W32) (s : State) (x : Hart) : HRes :=
  .next s (pset x pd (predMode mode (pget x pd) (condOf cond (v x).1 (v x).2)))

/-- Mode 0b11 and conditions 0xC–0xF are ILLEGAL (R339). -/
def cmpBad (mode : Fin 4) (cond : Fin 16) : Bool := decide (mode = 3 ∨ 12 ≤ cond.val)

def execCmp (i : Issue) (pd : Fin 8) (mode : Fin 4) (ra rb : Fin 32) (cond : Fin 16) (z : Fin 8) (s : State) : Out :=
  ok (issue s i (encP i.guard 0x0A pd mode ra rb cond z) (cmpBad mode cond || decide (z ≠ 0)) false
    (compareTo pd mode cond (fun x => (gget x ra, gget x rb))))

def execCmpi (i : Issue) (pd : Fin 8) (mode : Fin 4) (ra : Fin 32) (cond : Fin 16) (imm : BitVec 8) (s : State) : Out :=
  ok (issue s i (encPI i.guard 0x0B pd mode ra cond imm.toNat) (cmpBad mode cond) false
    (compareTo pd mode cond (fun x => (gget x ra, sxw 8 imm.toNat))))

/-- PLOG by plop; PNOT requires pb 000 (R340). -/
def plog (s : State) (i : Issue) (op : Nat) (pd pa pb : Fin 8) (z : Fin 1024) : State :=
  issue s i (encPL i.guard 0x0C pd pa pb op z) (decide (z ≠ 0 ∨ (op = 4 ∧ pb ≠ 0))) false
    (fun t x => .next t (pset x pd (plopOf op (pget x pa) (pget x pb))))

def execPand (i : Issue) (pd pa pb : Fin 8) (z : Fin 1024) (s : State) : Out := ok (plog s i 0 pd pa pb z)
def execPor (i : Issue) (pd pa pb : Fin 8) (z : Fin 1024) (s : State) : Out := ok (plog s i 1 pd pa pb z)
def execPxor (i : Issue) (pd pa pb : Fin 8) (z : Fin 1024) (s : State) : Out := ok (plog s i 2 pd pa pb z)
def execPandn (i : Issue) (pd pa pb : Fin 8) (z : Fin 1024) (s : State) : Out := ok (plog s i 3 pd pa pb z)
def execPnot (i : Issue) (pd pa pb : Fin 8) (z : Fin 1024) (s : State) : Out := ok (plog s i 4 pd pa pb z)

end Sys2Proof.Machine
end

