-- ==== Sys2Proof/Machine/Endpoints.lean ====
section
/-! DEFINITION. Host endpoints, rings, completions and MSI-X (chapter 6), and the dirty-log cache (chapter 7). -/

namespace Sys2Proof.Machine

/-! ### Links and configuration (R201–R208, R225, R227) -/

/-- The LTSSM reaches L0: code 0x04 with speed and width, and 0x09 below x4 or 32 GT/s (R207, R229). After PERST# the time
of R206 stands; else configuration requests are answered from now on. -/
def linkUp (s : State) (e speed width : Nat) : State :=
  let x := epOf s e
  if x.linkUp ∨ x.perst ∨ rf s (epCtl e) 0 0 = 0 ∨ speed < 1 ∨ 5 < speed ∨ !(width == 1 || width == 2 || width == 4) then s
  else
    let s := setEp s e { x with linkUp := true, ltssm := 4, speed := speed, width := width,
                                cfgAt := some (x.cfgAt.getD s.now) }
    let s := fnEv s (256 * e) 4 [speed, width]
    if width < 4 ∨ speed < 5 then fnEv s (256 * e) 9 [speed, width] else s

def execEndpointLinkUp (e : Fin 2) (speed width : Fin 8) (s : State) : Out := powered s (linkUp s e speed width)

/-- Data Link Layer link down. -/
def execEndpointLinkDown (e : Fin 2) (s : State) : Out := powered s (epGone s e 0 0)

/-- PERST# asserted (R207). -/
def execPerstAssert (e : Fin 2) (s : State) : Out :=
  let t := epGone s e 1 0
  ok (setEp t e { epOf t e with perst := true, cfgAt := none })

/-- PERST# deasserted: configuration requests are answered once 100 ms have passed since this and control-die power good (R206). -/
def execPerstDeassert (e : Fin 2) (s : State) : Out :=
  let x := epOf s e
  ok (if x.perst then setEp s e { x with perst := false, cfgAt := if s.pw.mainGood then some (s.now + 100000) else none } else s)

/-- A Hot Reset, or Link Disable, received from the host. -/
def execHotReset (e : Fin 2) (disable : Bool) (s : State) : Out := powered s (if (epOf s e).linkUp then epGone s e 2 (if disable then 7 else 9) else s)

/-- HF_EP_CTL.LINK_EN written (R207, R232). -/
def linkEnWrite (s : State) (e : Nat) (v : Bool) : State :=
  let t := rsetf s (epCtl e) 0 0 (b2n v)
  if v then (if (epOf t e).ltssm = 7 then setEp t e { epOf t e with ltssm := 0 } else t) else epGone t e 3 7

def execLinkEnWrite (e : Fin 2) (v : Bool) (s : State) : Out := powered s (linkEnWrite s e v)

/-- HF_EP_CTL.HOST_READY written: READY of every function of the endpoint follows it (R206). -/
def execHostReadyWrite (e : Fin 2) (v : Bool) (s : State) : Out := powered s (rsetf s (epCtl e) 1 1 (b2n v))

/-- TotalVFs of the endpoint (R204). -/
def totalVfs (s : State) (e : Nat) : Nat := rf s (epCtl e) 9 2

/-- A write of the PF's SR-IOV control register: VF Enable, VF Memory Space Enable, ARI Capable Hierarchy, with NumVFs (R205).
ARI Capable Hierarchy is taken while VF Enable is clear. -/
def vfEnableWrite (s : State) (e : Nat) (en vfMse ari : Bool) (numVfs : Nat) : State :=
  let x := epOf s e
  if !cfgOpen s e then s
  else if x.vfEn then
    let s := if en then s else removeVfs s e false
    let s := setEp s e { epOf s e with vfMse := vfMse, ari := if en then x.ari else ari }
    if en then (List.range 255).foldl (fun t i => modFn t (256 * e + 1 + i) (fun y => { y with mse := y.present && vfMse })) s else s
  else
    let s := setEp s e { x with vfMse := vfMse, ari := ari }
    if !en then s
    else if totalVfs s e < numVfs ∨ (7 < numVfs ∧ ari = false) then fnEv s (256 * e) 8 []
    else
      let s := setEp s e { epOf s e with vfEn := true, numVfs := numVfs }
      (List.range numVfs).foldl (fun t i =>
        modFn t (256 * e + 1 + i) (fun y => vfGrant { y with present := true, mse := vfMse })) s

def execVfEnableWrite (e : Fin 2) (en vfMse ari : Bool) (numVfs : Fin 65536) (s : State) : Out :=
  powered s (vfEnableWrite s e en vfMse ari numVfs)

/-- Every vector of a function offered again after its messages could not go. -/
def vecsTry (s : State) (f : Nat) : State := (List.range 64).foldl (fun t v => vecTry t f v) s

/-- DMA channels that hold a hardware pause for function f continue (R419, R421, R426). -/
def dmaRelease (s : State) (f : Nat) : State :=
  (List.range 16).foldl (fun t c =>
    let a := 0x30070000 + 0x100 * c
    if rf t (a + 0x20) 9 9 = 1 ∧ 256 * rf t (a + 0x18) 8 8 + rf t (a + 0x18) 7 0 = f then
      let d := tget (fun _ => {}) t.dma c
      let t := rsetf t (a + 0x20) 9 9 0
      let t := if rf t (a + 0x20) 2 0 = 2 ∧ (d.pauseReq = false ∨ d.resumed) then rsetf t (a + 0x20) 2 0 1 else t
      let t := { t with dma := tput (fun _ => {}) t.dma c { d with resumed := false } }
      raise t (65 + 2 * c) [rf t (a + 0x20) 6 3, rf t (a + 0x2C) 15 0]
    else t) s

/-- The function becomes able to master, or unable: held work goes on, or code 0x0A says that completions are held while
orders are in flight (R225, R228). -/
def masterChange (s : State) (f : Nat) (was : Bool) : State :=
  let x := fnOf s f
  if canMaster x = was then s
  else if canMaster x then dmaRelease (vecsTry s f) f
  else if x.out ≠ 0 ∨ x.compl.isEmpty = false then fnEv s f 0x0A [] else s

/-- A write of the function's Command register: Bus Master Enable, and Memory Space Enable where it is a PF (R211, R225). -/
def execBusMasterChange (f : Fin 512) (bme mse : Bool) (s : State) : Out :=
  let x := fnOf s f
  powered s (if !x.present || !cfgOpen s (f / 256) then s
      else masterChange (setFn s f { x with bme := bme, mse := if f.val % 256 = 0 then mse else x.mse }) f (canMaster x))

/-- The function enters D3hot, or returns to D0 with its ring state kept (R202, R225). -/
def execPowerStateChange (f : Fin 512) (d3 : Bool) (s : State) : Out :=
  let x := fnOf s f
  powered s (if !x.present || !cfgOpen s (f / 256) then s else masterChange (setFn s f { x with d3 := d3 }) f (canMaster x))

/-- A refused BAR access (R17, R211). -/
def execBarAccessRefused (f : Fin 512) (write unassigned : Bool) (s : State) : Out :=
  powered s (if !(fnOf s f).present || !cfgOpen s (f / 256) then s
      else barRefuse s f write (unassigned && (fnOf s f).mse))

/-- A poisoned write to a BAR: discarded (R228). -/
def execPoisonedWrite (f : Fin 512) (s : State) : Out :=
  powered s (if (fnOf s f).present && cfgOpen s (f / 256) then pcieError s f 0 12 else s)

/-- An unexpected completion: discarded (R228). -/
def execUnexpectedCompletion (e : Fin 2) (s : State) : Out :=
  powered s (if (epOf s e).linkUp then pcieError s (256 * e.val) 6 16 else s)

/-- The link error's HF_EP_ERR and AER bits (R228, R232). -/
def tlpErrBits : TlpErr → Nat × Nat
  | .malformed => (4, 18)
  | .ecrc => (5, 19)
  | .overflow => (7, 17)
  | .dlProtocol => (7, 4)

/-- A malformed TLP and its kin: AER and HF_EP_ERR record it and the link retrains or goes down (R228). -/
def execMalformedTlp (e : Fin 2) (x : TlpErr) (down : Bool) (s : State) : Out :=
  powered s (if (epOf s e).linkUp then
        (let t := pcieError s (256 * e.val) (tlpErrBits x).1 (tlpErrBits x).2
         if down then epGone t e 0 0 else t)
      else s)

/-! ### Ring control (R206, R220–R223) -/

/-- READY of a function (R206). -/
def fnReady (s : State) (f : Nat) : Bool := rbit s (epCtl (f / 256)) 1

/-- A write of a function's window refused under R18: code 0x08 (R228). -/
def fnRefuse (s : State) (f : Nat) : State := fnEv s f 8 []

/-- HF_HELLO: the ring ABI negotiated (R223). -/
def ringHello (s : State) (f v : Nat) : State :=
  if !fnReady s f then fnRefuse s f
  else
    let x := fnOf s f
    let y := if x.ring ≠ .disabled then { x with helloStatus := 1, helloValid := true }
             else if v / 256 = 1 then { x with abi := 0x100 + Nat.min (v % 256) 2, helloStatus := 0, helloValid := true }
             else { x with abi := 0, helloStatus := 0x0A, helloValid := true }
    fnEv (setFn s f y) f 2 [y.helloStatus, y.abi]

def execRingHello (f : Fin 512) (v : Fin 65536) (s : State) : Out := powered s (barWrite s f (fun t => ringHello t f v))

/-- k of the order and of the completion ring (R212). -/
def orLog (s : State) (f : Nat) : Nat := rf s (hfWin f + 0x28) 3 0
def crLog (s : State) (f : Nat) : Nat := rf s (hfWin f + 0x28) 11 8
def sizeOk (k : Nat) : Bool := decide (4 ≤ k ∧ k ≤ 12)

/-- EN 1: the ring pair enabled from DISABLED with zeroed counters, or refused (R221, R228, R245). -/
def ringEnable (s : State) (f : Nat) : State :=
  let x := fnOf s f
  if x.ring ≠ .disabled then s
  else if !fnReady s f || x.abi == 0 || !sizeOk (orLog s f) || !sizeOk (crLog s f) || !x.bme || x.ending then fnRefuse s f
  else rset (setFn s f { ringOff x with ring := .enabled, cause := 0, out := 0, raw := [] }) (hfWin f + 0x10) 1

def execRingEnable (f : Fin 512) (s : State) : Out := powered s (barWrite s f (fun t => ringEnable t f))

/-- A quiescing ring with nothing outstanding becomes DISABLED (R221). -/
def quiesceCheck (s : State) (f : Nat) : State :=
  let x := fnOf s f
  if x.ring = .quiescing ∧ x.out = 0 then setFn s f (ringOff x) else s

/-- EN 0 from ENABLED or STOPPED (R221). An order read in flight brings nothing more. -/
def ringQuiesce (s : State) (f : Nat) : State :=
  let x := fnOf s f
  let s := rset s (hfWin f + 0x10) 0
  if x.ring = .enabled ∨ x.ring = .stopped then quiesceCheck (setFn s f { x with ring := .quiescing, reading := 0, recheck := false }) f else s

def execRingQuiesce (f : Fin 512) (s : State) : Out := powered s (barWrite s f (fun t => ringQuiesce t f))

/-- A ring stops with its cause: vector 1 and code 0x01 (R222, R228, R229). -/
def ringStop (s : State) (f cause : Nat) : State :=
  let s := modFn s f (fun x => { x with ring := .stopped, cause := cause, reading := 0, recheck := false })
  fnEv (cinc s (epCtl (f / 256) + 0x70)) f 1 [cause]

/-- The 16-bit distance from a to b (R213). -/
def dist16 (a b : Nat) : Nat := (b + 65536 - a) % 65536

/-- OR_TAIL written (R220, R222). The device checks the value against OR_HEAD. -/
def orTailWrite (s : State) (f v : Nat) : State :=
  let x := fnOf s f
  if x.ring = .disabled then fnRefuse s f
  else if 2 ^ orLog s f < dist16 x.orHead v ∨ dist16 x.orHead v < dist16 x.orHead x.orTail then
    (if x.ring = .enabled then ringStop s f 1 else s)
  else cinc (setFn s f { x with orTail := v }) (epCtl (f / 256) + 0x40)

def execOrTailDoorbell (f : Fin 512) (v : Fin 65536) (s : State) : Out := powered s (barWrite s f (fun t => orTailWrite t f v))

/-- CR_HEAD written (R220, R222). -/
def crHeadWrite (s : State) (f v : Nat) : State :=
  let x := fnOf s f
  if x.ring = .disabled then fnRefuse s f
  else if dist16 x.crHead x.crTail < dist16 x.crHead v then
    (if x.ring = .enabled then ringStop s f 4 else s)
  else setFn s f { x with crHead := v }

def execCrHeadDoorbell (f : Fin 512) (v : Fin 65536) (s : State) : Out := powered s (barWrite s f (fun t => crHeadWrite t f v))

/-! ### Fetching (R214, R215, R218, R222) -/

/-- Entries fetched and not completed over all functions: the device-wide queue (R218). -/
def queueUse (s : State) : Nat := s.host.fns.foldl (fun n p => n + p.2.out + p.2.reading) 0

/-- The 64-bit base that a pair of window registers holds. -/
def ringBase (s : State) (f o : Nat) : Nat := (rget s (hfWin f + o)).toNat + (rget s (hfWin f + o + 4)).toNat * 2 ^ 32

/-- A read of `n` entries may be issued: ENABLED, able to master, no read in flight, the entries made available and in one
stretch of the ring, completion entries and the device-wide queue with room, and below MAX_OUT (R218, R225, R237, R297). -/
def mayFetch (s : State) (f n : Nat) : Bool :=
  let x := fnOf s f
  x.present && x.ring == .enabled && canMaster x && x.reading == 0 && !x.recheck && !s.ord.paused &&
    decide (1 ≤ n ∧ n ≤ 8 ∧ n ≤ dist16 x.orHead x.orTail ∧ x.orHead % 2 ^ orLog s f + n ≤ 2 ^ orLog s f ∧
      dist16 x.crHead x.crTail + x.out + n ≤ 2 ^ crLog s f ∧ queueUse s + n ≤ 4096 ∧ x.out + n ≤ x.maxOut)

/-- The steward issues a read of `n` order entries (R218). -/
def orderFetch (s : State) (f n : Nat) : State :=
  if !mayFetch s f n then s
  else
    let x := fnOf s f
    send (setFn s f { x with reading := n }) (.hostRead f (ringBase s f 0x18 + 64 * (x.orHead % 2 ^ orLog s f)) (64 * n))

def execOrderFetch (f : Fin 512) (n : Fin 9) (s : State) : Out := powered s (orderFetch s f n)

/-- PHASE that the entry at count n carries in a ring of 2^k entries (R214). -/
def phaseOf (k n : Nat) : Nat := (n / 2 ^ k % 2) ^^^ 1

/-- One fetched entry taken: OR_HEAD advances, and it awaits its check (R216, R218). -/
def takeEntry (s : State) (f : Nat) (l : List Byte) : State :=
  let x := fnOf s f
  cinc (setFn s f { x with orHead := (x.orHead + 1) % 65536, out := x.out + 1, raw := x.raw ++ [⟨x.gen, octetsAt l 0 64⟩] })
    (epCtl (f / 256) + 0x48)

/-- PHASE of an entry's octets. -/
def entryPhase (l : List Byte) : Nat := leNat (octetsAt l 0 1) % 2

/-- Entries of a read taken in count order up to the first whose PHASE is wrong, which is to be read again (R222). -/
def takeEntries (s : State) (f : Nat) : List (List Byte) → State
  | [] => s
  | l :: r =>
    if entryPhase l = phaseOf (orLog s f) (fnOf s f).orHead then takeEntries (takeEntry s f l) f r
    else modFn s f (fun x => { x with recheck := true })

/-- The entries of the read in flight arrive, or the read fails (R218, R222, R228). -/
def entriesArrive (s : State) (f : Nat) (ls : List (List Byte)) (err : Option HostErr) : State :=
  let x := fnOf s f
  if x.ring ≠ .enabled ∨ x.reading = 0 then s
  else match err with
    | some e => ringStop (readFailed s f e) f 3
    | none => takeEntries (setFn s f { x with reading := 0 }) f (ls.take x.reading)

def execOrderEntriesArrive (f : Fin 512) (entries : List (List Byte)) (err : Option HostErr) (s : State) : Out :=
  powered s (entriesArrive s f entries err)

/-- The second read of an entry whose PHASE was wrong (R222). -/
def phaseRecheck (s : State) (f : Nat) (l : List Byte) (err : Option HostErr) : State :=
  let x := fnOf s f
  if x.ring ≠ .enabled ∨ !x.recheck then s
  else match err with
    | some e => ringStop (readFailed s f e) f 3
    | none =>
      if entryPhase l = phaseOf (orLog s f) x.orHead then takeEntry (setFn s f { x with recheck := false }) f l
      else ringStop s f 2

def execPhaseRecheck (f : Fin 512) (octets : List Byte) (err : Option HostErr) (s : State) : Out := powered s (phaseRecheck s f octets err)

/-! ### Entries of type NOP and CANCEL (R215, R216) -/

/-- ETYPE and GEN of a fetched entry. -/
def RawEntry.etype (r : RawEntry) : Nat := leNat (octetsAt r.octets 0 1) / 2 % 8
def RawEntry.genField (r : RawEntry) : Nat := leNat (octetsAt r.octets 4 2)

/-- The function's oldest fetched entry leaves those not yet looked at. -/
def popRaw (s : State) (f : Nat) : State := modFn s f (fun x => { x with raw := x.raw.drop 1 })

/-- A NOP entry completes OK, or STALE_GEN (R216). -/
def nopEntry (s : State) (f : Nat) : State :=
  match (fnOf s f).raw with
  | r :: _ =>
    if r.etype ≠ 0 then s
    else completeRaw (popRaw s f) f r (if r.genField ≠ (fnOf s f).gen then 5 else 0)
  | [] => s

def execNopEntry (f : Fin 512) (s : State) : Out := powered s (nopEntry s f)

/-- A CANCEL entry: the oldest order of the function with the TARGET's TAG that no hart has started completes WITHDRAWN and
the CANCEL OK; else NOT_NOW. Without ring ABI 1.2 it completes BAD_ARG (R215, R216). -/
def cancelEntry (s : State) (f : Nat) : State :=
  match (fnOf s f).raw with
  | r :: _ =>
    if r.etype ≠ 2 then s
    else
      let t := popRaw s f
      if r.genField ≠ (fnOf s f).gen then completeRaw t f r 5
      else if (fnOf s f).abi < 0x0102 then completeRaw t f r 3
      else match s.ord.jobs.find? (fun j => j.fn == f && !j.started && j.tag == leNat (octetsAt r.octets 6 2)) with
        | some j => completeRaw (endJob t j 11 0 []) f r 0
        | none => completeRaw t f r 1
  | [] => s

def execCancelEntry (f : Fin 512) (s : State) : Out := powered s (cancelEntry s f)

/-! ### Completions and messages (R217, R219, R224) -/

/-- The octets of a completion entry (R217). -/
def complOctets (s : State) (f : Nat) (c : Compl) : List Byte :=
  let x := fnOf s f
  leBytes 4 (packFields [(phaseOf (crLog s f) x.crTail, 0), (c.status, 8), (c.tag, 16)]) ++ leBytes 2 c.genField ++ leBytes 2 x.orHead ++
    octetsAt c.result 0 24

/-- One completion counted toward the COUNT of vector 0 and its cause set (R219, R224). -/
def vecCompletion (s : State) (f : Nat) : State :=
  vecCause (setVec s f 0 { vecOf s f 0 with compl := (vecOf s f 0).compl + 1 }) f 0

/-- The oldest completion of a function: discarded where its generation is over, held while the function cannot master, else
written with its buffers, CR_TAIL advanced and vector 0 caused (R217, R219, R225). -/
def completionWrite (s : State) (f : Nat) : State :=
  let x := fnOf s f
  match x.compl with
  | [] => s
  | c :: r =>
    if !x.present || c.gen != x.gen then cinc (setFn s f { x with compl := r }) (epCtl (f / 256) + 0x58)
    else if !canMaster x then s
    else
      let s := c.buffers.foldl (fun t b => hostWrite t f b.1 b.2) s
      let s := hostWrite s f (ringBase s f 0x20 + 32 * (x.crTail % 2 ^ crLog s f)) (complOctets s f c)
      let s := modFn s f (fun x => { x with compl := r, crTail := (x.crTail + 1) % 65536, out := x.out - 1 })
      quiesceCheck (vecCompletion (cinc s (epCtl (f / 256) + 0x50)) f) f

def execCompletionWrite (f : Fin 512) (s : State) : Out := powered s (completionWrite s f)

/-- A vector's moderation interval has passed (R224). -/
def execMsixIntervalExpiry (f : Fin 512) (v : Fin 64) (s : State) : Out :=
  powered s (vecTry (setVec s f v { vecOf s f v with running := false }) f v)

/-- A vector's Mask bit cleared in the MSI-X table (R224). -/
def execMsixUnmask (f : Fin 512) (v : Fin 64) (s : State) : Out :=
  powered s (barWrite s f (fun t => vecTry (setVec t f v { vecOf t f v with masked := false }) f v))

/-! ### Generations (R227, R244–R248) -/

/-- A function-level reset (R227). -/
def functionReset (s : State) (f : Nat) : State :=
  if !(fnOf s f).present || !cfgOpen s (f / 256) then s
  else if f % 256 = 0 then
    let t := resetPf s (f / 256)
    fnEv (setEp t (f / 256) { epOf t (f / 256) with ari := false, vfMse := false }) f 3 []
  else fnEv (endFn s f) f 3 []

def execFunctionLevelReset (f : Fin 512) (s : State) : Out := powered s (functionReset s f)

/-- Channels that still carry a transfer of an older generation of function f are ABORTED with GEN_ENDED (R245 step 5, R421). -/
def dmaEndGen (s : State) (f : Nat) : State :=
  (List.range 16).foldl (fun t c =>
    let a := 0x30070000 + 0x100 * c
    let st := rf t (a + 0x20) 2 0
    if (rf t (a + 0x14) 1 0 ≠ 0) ∧ (st = 1 ∨ st = 2) ∧ 256 * rf t (a + 0x18) 8 8 + rf t (a + 0x18) 7 0 = f ∧ rf t (a + 0x18) 31 16 ≠ (fnOf t f).gen then
      let d := tget (fun _ => {}) t.dma c
      let t := { t with dma := tput (fun _ => {}) t.dma c { d with reqs := [], stale := d.stale + d.reqs.length, pauseReq := false, resumed := false } }
      let t := rsetf (rsetf (rsetf (rsetf t (a + 0x20) 2 0 5) (a + 0x20) 6 3 10) (a + 0x20) 13 10 0) (a + 0x20) 9 9 0
      raise t (65 + 2 * c) [10, rf t (a + 0x2C) 15 0]
    else t) s

/-- The last DMA write of the old generation has been issued: ENDING cleared (R245 step 6). -/
def execGenerationEndComplete (f : Fin 512) (s : State) : Out :=
  powered s (if (fnOf s f).ending then modFn (dmaEndGen s f) f (fun x => { x with ending := false }) else s)

/-! ### The dirty-log cache (R252, R255, R261) -/

/-- The read of a missed bitmap word completes, or fails (R252, R255). -/
def logFill (s : State) (f w : Nat) (v : W64) (err : Option HostErr) : State :=
  match s.host.lines.find? (fun x => x.fn == f && x.word == w && x.filling) with
  | none => s
  | some x =>
    match err with
    | some e => logFault (readFailed (setLines s (s.host.lines.erase x)) (256 * (f / 256)) e) f (bmpBase s f x.bitmap + 8 * w)
    | none => setLines s (s.host.lines.map (fun y => if y == x then { x with bits := x.bits ||| v, filling := false } else y))

def execLogLineFill (f : Fin 512) (word : Nat) (v : W64) (err : Option HostErr) (s : State) : Out := powered s (logFill s f word v err)

/-- VF_LOGFLUSH written with GO: the lines of one bitmap of a record written back, or dropped; a write that fails makes the log
FAULTED and sets ERR (R255, R261). Without GO nothing; while a line of it awaits its word the flush waits. -/
def logFlush (s : State) (v : W32) (err : Bool) : State :=
  let i := fld v 8 0
  let b := fld v 9 9
  if fld v 11 11 = 0 ∨ (fld v 10 10 = 0 ∧ s.host.lines.any (fun x => x.fn == i && x.bitmap == b && x.filling)) then s
  else
    let drop := fld v 10 10 == 1
    let bad := err && !drop && s.host.lines.any (fun x => x.fn == i && x.bitmap == b)
    let t := flushLines s i (some b) drop
    let t := { t with host := { t.host with flushErr := bad } }
    if bad then logFault t i (bmpBase s i b) else t

def execLogFlush (v : W32) (err : Bool) (s : State) : Out := powered s (logFlush s v err)

end Sys2Proof.Machine
end

