-- ==== Sys2Proof/Machine/SvcOps.lean ====
section
/-! DEFINITION. The return of a service to its script (R276, R283, R299) and the service table (R272, R288). -/

namespace Sys2Proof.Machine

/-- The minor of the service table from which a service is present; none for a number without a service (R271, R288). -/
def svcMinor (n : Nat) : Option Nat :=
  if n = 0x21 ∨ n = 0x24 ∨ n = 0x25 then some 1
  else if n = 0x34 then some 2
  else if n ≤ 0x04 ∨ (0x10 ≤ n ∧ n ≤ 0x17) ∨ (0x20 ≤ n ∧ n ≤ 0x26) ∨ (0x30 ≤ n ∧ n ≤ 0x34) ∨ n = 0x38 ∨ n = 0x39 ∨ n = 0x40 ∨
    (0x48 ≤ n ∧ n ≤ 0x4A) ∨ n = 0x50 ∨ n = 0x51 ∨ n = 0x58 ∨ n = 0x59 ∨ n = 0x60 ∨ n = 0x61 ∨ (0x68 ≤ n ∧ n ≤ 0x6A) ∨
    (0x70 ≤ n ∧ n ≤ 0x74) ∨ (0x78 ≤ n ∧ n ≤ 0x80) ∨ (0x88 ≤ n ∧ n ≤ 0x8E) then some 0
  else none

/-- The service is in a table of the agreed version `v` = 256·major + minor (R11, R272). -/
def svcPresent (v n : Nat) : Bool :=
  match svcMinor n with
  | some m => decide (m ≤ v % 256)
  | none => false

/-- The registers a service leaves: g1 its status, p7, and g2–g5 its results; a register it lists no result for holds a
free value (R276, log entry 5). -/
def svcRegs (s : State) (x : Hart) (status : Nat) (res : List Nat) : Hart :=
  let y := pset (gset x 1 (w32 status)) 7 (decide (status = 0))
  (List.range 4).foldl (fun y k => gset y (2 + k) (w32 (match res[k]? with
    | some v => v
    | none => Config.freeValue (s.freeCtr + k)))) y

/-- The hart returns from level 1 to the script with PS and PC as SV_PS_1 and SV_PC_1 hold them (R360). -/
def svcEret (x : Hart) : Hart :=
  let ps := (svGet x 1 1).toNat
  { x with pc := svGet x 1 0, level := ps % 4, ie := bitAt ps 2, aw := false, atw := 0, rept := bitAt ps 4, svc := none }

/-- A service returns: NOT_NOW is recorded with code 0x0F, LOCKED with 0x12 (R283, R299). -/
def svcReturn (s : State) (h status : Nat) (res : List Nat) : State :=
  let x := hartOf s h
  let s := match x.job.bind (jobOf s) with
    | some j => if status = 1 then notNowEv s j.fn j.tag j.lastSvc
                else if status = 0x0C then raiseEv s (fnSrc j.fn) 0x12 [j.tag, s.level] else s
    | none => s
  let s := setHart s h (svcEret (svcRegs s x status res))
  { s with freeCtr := s.freeCtr + 4 }

/-- SVC n on hart h at level 0: entry to level 1 with cause SERVICE; a service absent from the function's table returns
VERSION at once (R272, R357, R373). -/
def svcEnter (s : State) (h n : Nat) (x : Hart) : State :=
  let y := advance x
  let s := enter (setHart s h y) h 1 9 0 0 0 y.pc (w32 n)
  let s := setHart s h { hartOf s h with svc := some n }
  match x.job.bind (jobOf s) with
  | some j =>
    let s := modJob s j.id (fun j => { j with lastSvc := n, svcAt := x.pc })
    if svcPresent (fnOf s j.fn).vSvc n then s else svcReturn s h 0x0A []
  | none => s

end Sys2Proof.Machine
end

