-- ==== Sys2Proof/Machine/Transfers.lean ====
section
/-! DEFINITION. Transfers of control, control registers, loops and system instructions of the Rhaby hart (R347–R362). -/

namespace Sys2Proof.Machine

/-! ### Transfers (R347) -/

def execB (i : Issue) (off : BitVec 22) (s : State) : Out :=
  ok (issue s i (encJ i.guard 0x20 off.toNat) false false (fun t x => .jump t { x with pc := jumpAddr x off }))

def execCall (i : Issue) (off : BitVec 22) (s : State) : Out :=
  ok (issue s i (encJ i.guard 0x21 off.toNat) false false (fun t x => .jump t { gset x 31 (x.pc + 4) with pc := jumpAddr x off }))

/-- A jump to a register's value, which must be a multiple of 4 (R347). -/
def jumpReg (ra : Nat) (link : Option Nat) (t : State) (x : Hart) : HRes :=
  let a := gget x ra
  if a.toNat % 4 ≠ 0 then .fault t x 2 a 0 0
  else .jump t { (match link with
    | some rd => gset x rd (x.pc + 4)
    | none => x) with pc := a }

def execJmpr (i : Issue) (rd ra rb : Fin 32) (s : State) : Out :=
  ok (issue s i (encR i.guard 0x22 rd ra rb 0) (decide (rd ≠ 0 ∨ rb ≠ 0)) false (jumpReg ra none))

def execCallr (i : Issue) (rd ra rb : Fin 32) (s : State) : Out :=
  ok (issue s i (encR i.guard 0x22 rd ra rb 1) (decide (rb ≠ 0)) false (jumpReg ra (some rd)))

/-! ### Control registers (R348–R350) -/

/-- Read and write levels of a control register; a write level of none is the dash of R349. -/
def crLevels (c : Nat) : Option (Nat × Option Nat) :=
  if c = 0 then some (0, some 1)
  else if c ≤ 3 then some (0, none)
  else if c = 4 then some (0, some 1)
  else if c = 5 then some (0, some 0)
  else if 0x10 ≤ c ∧ c ≤ 0x1B then some (0, some 0)
  else if c = 0x20 then some (1, none)
  else if 0x100 ≤ c ∧ c ≤ 0x123 ∧ c % 16 ≤ 3 then some ((c - 0x100) / 16 + 1, some ((c - 0x100) / 16 + 1))
  else if 0x140 ≤ c ∧ c ≤ 0x142 then some (c - 0x140 + 1, some (c - 0x140 + 1))
  else if c = 0x200 then some (1, some 3)
  else none

/-- A control register's value, and the state and hart after the read: cycle counts and what is left of a window or budget
are free values (log entry 5); a read of CYCLE_LO latches CYCLE_HI (R349). -/
def crRead (s : State) (h : Nat) (x : Hart) (c : Nat) : State × Hart × W32 :=
  if c = 0 then (s, x, psWord x)
  else if c = 1 then (s, x, w32 h)
  else if c = 2 then (freed s, { x with cycHi := some (w32 (free s / 2 ^ 32)) }, w32 (free s))
  else if c = 3 then
    (match x.cycHi with
     | some v => (s, x, v)
     | none => (freed s, x, w32 (free s / 2 ^ 32)))
  else if c = 4 then (if x.job.isNone || x.budgetPend then (s, x, 0) else (freed s, x, w32 (free s % (x.budget + 1))))
  else if c = 5 then (s, x, predWord x)
  else if c < 0x14 then (s, x, lsGet x (c - 0x10))
  else if c < 0x18 then (s, x, leGet x (c - 0x14))
  else if c < 0x1C then (s, x, lcGet x (c - 0x18))
  else if c = 0x20 then (if x.aw then (freed s, x, w32 (free s % (x.atw + 1))) else (s, x, 0))
  else if c < 0x140 then (s, x, svGet x ((c - 0x100) / 16 + 1) (c % 16))
  else if c < 0x143 then (s, x, tget (fun _ => 0) x.scr (c - 0x140 + 1))
  else (s, x, x.vbase)

/-- A write of PS: IE and LOOPMODE; a change of LOOPMODE while a loop count is not zero has no effect and is recorded (R350). -/
def psWrite (s : State) (h : Nat) (x : Hart) (v : W32) : State × Hart :=
  if bitAt v.toNat 4 ≠ x.rept ∧ x.lc ≠ [] then (raise s (8 * h + 7) [0], x)
  else (s, { x with ie := bitAt v.toNat 2, rept := bitAt v.toNat 4 })

/-- A control register written; read-only fields ignore writes (R348, R374, R382). -/
def crWrite (s : State) (h : Nat) (x : Hart) (c : Nat) (v : W32) : State × Hart :=
  if c = 0 then psWrite s h x v
  else if c = 4 then (s, { x with budget := v.toNat })
  else if c = 5 then (s, predWrite x v)
  else if 0x10 ≤ c ∧ c < 0x14 then (s, { x with ls := tput (fun _ => 0) x.ls (c - 0x10) (v &&& 0xFFFFFFFC) })
  else if 0x14 ≤ c ∧ c < 0x18 then (s, { x with le := tput (fun _ => 0) x.le (c - 0x14) (v &&& 0xFFFFFFFC) })
  else if 0x18 ≤ c ∧ c < 0x1C then (s, lcSet x (c - 0x18) v)
  else if 0x100 ≤ c ∧ c < 0x140 then (s, svSet x ((c - 0x100) / 16 + 1) (c % 16) (if c % 16 = 2 then v &&& 0x0FFF1FFF else v))
  else if 0x140 ≤ c ∧ c < 0x143 then (s, { x with scr := tput (fun _ => 0) x.scr (c - 0x140 + 1) v })
  else if c = 0x200 then (s, { x with vbase := v &&& 0xFFFFFC00 })
  else (s, x)

/-- An access below the level given raises PERMISSION; a register that no level writes is checked as for a read (R348, R349). -/
def crShut (x : Hart) (c : Nat) (write : Bool) : Bool :=
  match crLevels c with
  | some (r, w) => decide (x.level < (if write then w.getD r else r))
  | none => false

/-- The CTL group: reserved bits [14:12] and an unlisted creg are ILLEGAL (R334, R348). -/
def ctl (s : State) (i : Issue) (sub : Nat) (r : Fin 32) (z : Fin 8) (creg : Fin 4096) (op : State → Hart → HRes) : State :=
  issue s i (encC i.guard r sub z creg) (decide (z ≠ 0) || (crLevels creg).isNone) (crShut (issuing s i.h) creg (decide (sub ≠ 0))) op

/-- A control register written from its old value and g[r]. -/
def crModify (h : Nat) (r creg : Nat) (f : W32 → W32 → W32) (t : State) (x : Hart) : HRes :=
  let p := crRead t h x creg
  let q := crWrite p.1 h x creg (f p.2.2 (gget x r))
  .next q.1 q.2

def execMfc (i : Issue) (r : Fin 32) (z : Fin 8) (creg : Fin 4096) (s : State) : Out :=
  ok (ctl s i 0 r z creg (fun t x => let p := crRead t i.h x creg; .next p.1 (gset p.2.1 r p.2.2)))
def execMtc (i : Issue) (r : Fin 32) (z : Fin 8) (creg : Fin 4096) (s : State) : Out :=
  ok (ctl s i 1 r z creg (fun t x => let q := crWrite t i.h x creg (gget x r); .next q.1 q.2))
def execMsc (i : Issue) (r : Fin 32) (z : Fin 8) (creg : Fin 4096) (s : State) : Out :=
  ok (ctl s i 2 r z creg (crModify i.h r creg (fun c v => c ||| v)))
def execMcc (i : Issue) (r : Fin 32) (z : Fin 8) (creg : Fin 4096) (s : State) : Out :=
  ok (ctl s i 3 r z creg (crModify i.h r creg (fun c v => c &&& ~~~v)))

/-! ### Loops (R351, R352) -/

/-- Zero-overhead loop n set up with a length and a count; a count of 0 skips the body. -/
def loopSet (n len : Nat) (count : Hart → W32) (t : State) (x : Hart) : HRes :=
  let last := x.pc + w32 (4 * len)
  let y := lcSet { x with ls := tput (fun _ => 0) x.ls n (x.pc + 4), le := tput (fun _ => 0) x.le n last } n (count x)
  if count x = 0 then .jump t { y with pc := last + 4 } else .next t y

def execLoop (i : Issue) (n : Fin 4) (ra : Fin 32) (len : Fin 32768) (s : State) : Out :=
  ok (issue s i (encLoop i.guard n ra len) ((hartOf s i.h).rept || decide (len = 0)) false (loopSet n len (fun x => gget x ra)))

def execLoopi (i : Issue) (n : Fin 4) (cnt len : Fin 1024) (s : State) : Out :=
  ok (issue s i (encLoopi i.guard n cnt len) ((hartOf s i.h).rept || decide (len = 0 ∨ cnt = 0)) false (loopSet n len (fun _ => w32 cnt)))

/-! ### System instructions (R357–R362) -/

/-- A SYS instruction open from a level. -/
def sys (s : State) (i : Issue) (sub : Nat) (imm : BitVec 16) (illegal : Bool) (level : Nat) (op : State → Hart → HRes) : State :=
  issue s i (encY i.guard sub imm.toNat) illegal (decide ((issuing s i.h).level < level)) op

/-- SVC: above level 0, or with [15:8] not zero, ILLEGAL (R333, R357). -/
def execSvc (i : Issue) (imm : BitVec 16) (s : State) : Out :=
  ok (sys s i 0x00 imm (decide (256 ≤ imm.toNat ∨ (issuing s i.h).level ≠ 0)) 0 (fun t x => .done (svcEnter t i.h imm.toNat x)))

/-- BARRIER completes when the store buffer is empty (R358). -/
def execBarrier (i : Issue) (imm : BitVec 16) (s : State) : Out :=
  ok (sys s i 0x01 imm (decide (imm ≠ 0)) 0 (fun t x => if x.sbuf = [] then .next t x else .stall))

/-- ATOMIC opens a window, unless one is open (R359). -/
def execAtomic (i : Issue) (imm : BitVec 16) (s : State) : Out :=
  ok (sys s i 0x02 imm (decide (256 ≤ imm.toNat)) 1
    (fun t x => .next t (if x.aw then x else { x with aw := true, atw := imm.toNat + 1, atwAt := x.pc })))

def execEndatomic (i : Issue) (imm : BitVec 16) (s : State) : Out :=
  ok (sys s i 0x03 imm (decide (imm ≠ 0)) 1 (fun t x => .next t { x with aw := false, atw := 0 }))

/-- ERET returns from the present level; to a level not below it is ILLEGAL (R360). -/
def eret (t : State) (x : Hart) : HRes :=
  let ps := (svGet x x.level 1).toNat
  .jump t { x with pc := svGet x x.level 0, level := ps % 4, ie := bitAt ps 2, aw := false, atw := 0, rept := bitAt ps 4,
                   svc := if ps % 4 = 0 then none else x.svc }

def eretBad (x : Hart) : Bool := decide (1 ≤ x.level ∧ x.level ≤ (svGet x x.level 1).toNat % 4)

def execEret (i : Issue) (imm : BitVec 16) (s : State) : Out :=
  ok (sys s i 0x04 imm (decide (imm ≠ 0) || eretBad (issuing s i.h)) 1 eret)

/-- A source is pending for hart h at any level (R390). -/
def anyPending (s : State) (h : Nat) : Bool := (selectAt s h true).isSome || (selectAt s h false).isSome

/-- WAIT completes at once with a source pending; else the hart is WAITING, its PC after the WAIT. Inside a window ILLEGAL (R361). -/
def execWait (i : Issue) (imm : BitVec 16) (s : State) : Out :=
  ok (sys s i 0x05 imm (decide (imm ≠ 0) || (hartOf s i.h).aw) 1
    (fun t x => if anyPending t i.h then .next t x else .stay (stateChange t i.h .waiting) (advance x)))

/-- Halting on BRK is enabled: the debug port is open with scope bit 2 (R362, R583). -/
def brkOn (s : State) : Bool := s.lc.dbgOpen && bitAt s.lc.scope 2

/-- BRK halts the hart for the debugger and raises offset 5; else ILLEGAL (R362, R394). -/
def execBrk (i : Issue) (imm : BitVec 16) (s : State) : Out :=
  ok (sys s i 0x06 imm (!brkOn s) 0
    (fun t x => .done (raise (stateChange (setHart t i.h (advance x)) i.h .haltedDebug) (8 * i.h.val + 5) [imm.toNat])))

end Sys2Proof.Machine
end

