-- ==== Sys2Proof/Machine/HartEvents.lean ====
section
/-! DEFINITION. Events at harts: interrupts, waiting causes, halts, claims and routes (R375–R397). -/

namespace Sys2Proof.Machine

/-! ### Windows and entries (R359, R370, R375–R377, R387) -/

/-- ATW reaches 0: the window closes and ATOMIC_OVERRUN is pending at its level; at level 3 it is only recorded (R359, R376). -/
def windowExpiry (s : State) (h : Nat) : State :=
  let x := hartOf s h
  if !x.aw then s
  else
    let s := cinc (setHart s h { x with aw := false, atw := 0, ovr := if x.level = 3 then x.ovr else some (x.level, x.atwAt) }) (htA h + 0x128)
    if x.level = 3 then raise (rsetf s (htA h + 4) 16 16 1) (8 * h + 3) [x.atwAt.toNat] else s

def execAtomicWindowExpiry (h : Fin 8) (s : State) : Out := powered s (windowExpiry s h)

/-- SEQ of the latest recorder record of a source. -/
def lastRecord (s : State) (src : Nat) : Option Nat := (tget (fun _ => none) s.ev.latest src).map (fun r => r.seq)

/-- Low 32 bits of the sequence number of the record made or updated for a raising; one that the recorder has not taken yet has
none, and the value is free (R373, log entry 5). -/
def recordOf (s : State) (src : Nat) : State × W32 :=
  if s.ev.intake.any (fun r => r.src == src) || s.ev.held.any (fun r => r.src == src) then (freed s, w32 (free s))
  else match lastRecord s src with
    | some n => (s, w32 n)
    | none => (freed s, w32 (free s))

/-- The hart is out of service (R389). -/
def stewardHart (s : State) : Nat := rf s 0x30030000 2 0

/-- The script that hart h's entry to level 3 interrupted becomes a waiting script, ready to resume (R277, R641). -/
def parkScript (s : State) (h : Nat) : State :=
  let x := hartOf s h
  match x.job.bind (jobOf s) with
  | some j =>
    if (svGet x 3 1).toNat % 4 = 0 then
      let ps := (svGet x 3 1).toNat
      let y := { x with pc := svGet x 3 0, level := 0, ie := bitAt ps 2, rept := bitAt ps 4 }
      let t := modJob s j.id (fun j => { j with stage := .ready s.ord.readyCtr, ctx := some y })
      releaseHart { t with ord := { t.ord with readyCtr := t.ord.readyCtr + 1 } } h
    else s
  | none => s

/-- A hart's retirement, kept in the steward's flash record (R392, R393). -/
def retireHart (s : State) (h : Nat) : State :=
  let s := setHart s h { hartOf s h with haltReq := false }
  stateChange { s with fl := { s.fl with retired := tput (fun _ => false) s.fl.retired h true } } h .retired

/-- A level-3 handler takes over the steward's role from a halted hart, with source 210 (R389, R641, R651). -/
def takeover (s : State) (h : Nat) : State :=
  if stewardHart s = h ∨ !hartDown s (stewardHart s) then s
  else
    let old := stewardHart s
    let s := raise (rsetf (parkScript s h) 0x30030000 2 0 h) 210 [old, h]
    if hstOf s old = .retired then s else retireHart s old

/-- A pending eligible interrupt is taken (R370, R377, R387). -/
def interruptTake (s : State) (h : Nat) : State :=
  match due s h with
  | some (.int crit src) =>
    if hstOf s h ≠ .running then s
    else
      let p := recordOf (takeSource s h src crit) src
      let m := if crit then 3 else 2
      let t := enter p.1 h m 0x0A 0 0 src (hartOf p.1 h).pc p.2
      if crit then takeover t h else t
  | _ => s

def execInterruptTake (h : Fin 8) (s : State) : Out := powered s (interruptTake s h)

/-- A pending LATE_STORE, ATOMIC_OVERRUN or BUDGET is taken at its level; at level 1 a LATE_STORE ends the order FAULTED and BUDGET
ends it TIMEOUT (R275, R279, R375). -/
def asyncTake (s : State) (h : Nat) : State :=
  if hstOf s h ≠ .running then s
  else
    let x := hartOf s h
    match due s h with
    | some (.late l a) =>
      let t := enter (setHart s h { x with late := x.late.erase (l, a) }) h (l + 1) 8 0 0 0 x.pc (w32 a)
      if l = 0 then endHartJob t h 8 x.pc (w32 a) else t
    | some (.ovr l a) => enter (setHart s h { x with ovr := none }) h (l + 1) 7 0 0 0 x.pc a
    | some .budget =>
      let t := enter (setHart s h { x with budgetPend := false }) h 1 6 0 0 0 x.pc 0
      (match x.job.bind (jobOf t) with
       | some j => endTimeout t j
       | none => t)
    | _ => s

def execAsyncCauseTake (h : Fin 8) (s : State) : Out := powered s (asyncTake s h)

/-- A parity error halts the hart, its store buffer discarded; `unit` as HT_DF_ADDR names it (R376). -/
def parityError (s : State) (h unit : Nat) : State :=
  match hstOf s h with
  | .retired => s
  | .haltedHw => s
  | _ => hartDies (setHart s h { hartOf s h with sbuf := [], haltReq := false }) h .haltedHw 0 0x0C (causeWord 0x0C 0 0 0) (w32 unit)

def execHartParityError (h : Fin 8) (unit : Fin 5) (s : State) : Out := powered s (parityError s h unit)

/-- A source pending for a waiting hart: WAIT completes, and stopped fast PLLs restart with source 152 (R390, R513). -/
def waitWake (s : State) (h : Nat) : State :=
  if hstOf s h = .waiting ∧ anyPending s h then
    let s := cinc (retire (stateChange s h .running) h) 0x30030120
    if s.pw.stopped then raise { s with pw := { s.pw with stopped := false } } 152 [] else s
  else s

def execWaitWake (h : Fin 8) (s : State) : Out := powered s (waitWake s h)

/-! ### HT_CMD (R392) -/

/-- A command that names the writer's own hart, or a state not listed, is refused (R392, R399). -/
def htRefuse (s : State) (h : Nat) : State := refuse s (htA h)

def hartHalt (s : State) (w h : Nat) : State :=
  if w ≠ h ∧ (hstOf s h = .running ∨ hstOf s h = .waiting) then setHart s h { hartOf s h with haltReq := true } else htRefuse s h

def execHartHalt (w h : Fin 8) (s : State) : Out := powered s (hartHalt s w h)

/-- At the next boundary, any window closed and the store buffer drained, the hart halts (R392). -/
def haltComplete (s : State) (h : Nat) : State :=
  let x := hartOf s h
  if x.haltReq ∧ x.aw = false ∧ x.sbuf = [] ∧ (hstOf s h = .running ∨ hstOf s h = .waiting) then
    stateChange (setHart s h { x with haltReq := false }) h .haltedCmd
  else s

def execHaltComplete (h : Fin 8) (s : State) : Out := powered s (haltComplete s h)

def hartResume (s : State) (w h : Nat) : State :=
  if w ≠ h ∧ hstOf s h = .haltedCmd then stateChange s h .running else htRefuse s h

def execHartResume (w h : Fin 8) (s : State) : Out := powered s (hartResume s w h)

/-- A halted hart: RESTART and RETIRE are open to it. -/
def hartHalted (s : State) (h : Nat) : Bool :=
  match hstOf s h with
  | .haltedCmd => true
  | .haltedDouble => true
  | .haltedHw => true
  | .haltedDebug => true
  | _ => false

/-- A halted hart that is not resumed ends its order FAULTED; R378 gives two causes, and which is a free value (log entry 5). -/
def endUnresumed (s : State) (h : Nat) : State :=
  if (hartOf s h).job.isNone then s
  else endHartJob (freed s) h (0x0B + free s % 2) (hartOf s h).pc 0

/-- RESTART: registers, save registers, loop registers and store buffer cleared; level 3 at HT_START. VBASE, the scratch words and
what the router keeps of the hart stand (R392). -/
def hartRestart (s : State) (w h : Nat) : State :=
  if w = h ∨ !hartHalted s h then htRefuse s h
  else
    let s := endUnresumed s h
    let x := hartOf s h
    let y : Hart := { pc := rget s (htA h + 0x0C), vbase := x.vbase, scr := x.scr, cycHi := x.cycHi, last2 := x.last2, last3 := x.last3 }
    stateChange (setHart s h y) h .running

def execHartRestart (w h : Fin 8) (s : State) : Out := powered s (hartRestart s w h)

def hartRetire (s : State) (w h : Nat) : State :=
  if w = h ∨ !hartHalted s h then htRefuse s h else retireHart (endUnresumed s h) h

def execHartRetire (w h : Fin 8) (s : State) : Out := powered s (hartRetire s w h)

/-! ### HT_RAISE, HT_CLAIM, EV_RAISE, EV_ROUTE_s (R385–R388, R395, R397) -/

def hartRaise (s : State) (h : Nat) (v : W32) : State := if bitAt v.toNat 0 then raise s (8 * h + 4) [] else s
def execHartRaise (h : Fin 8) (v : W32) (s : State) : Out := powered s (hartRaise s h v)

/-- A read of HT_CLAIM: SOURCE, LEVEL and VALID of the source taken (R388). -/
def claimSource (s : State) (h : Nat) : State :=
  match selectAt s h true with
  | some src => answer (cinc (takeSource s h src true) 0x30030128) [packFields [(src, 0), (1, 12), (1, 13)]]
  | none => match selectAt s h false with
    | some src => answer (cinc (takeSource s h src false) 0x30030128) [packFields [(src, 0), (1, 13)]]
    | none => answer s [0]

def execHartClaim (h : Fin 8) (s : State) : Out := powered s (claimSource s h)

/-- EV_RAISE takes only sources 208–223 (R397). -/
def evRaise (s : State) (v : W32) : State :=
  if 208 ≤ fld v 11 0 ∧ fld v 11 0 ≤ 223 then raise s (fld v 11 0) [] else refuse s 0x30030008
def execEvRaise (v : W32) (s : State) : Out := powered s (evRaise s v)

/-- A route that the router accepts (R385, R386, R397). -/
def routeOk (s : State) (src : Nat) (v : W32) : Bool :=
  let f := 256 * fld v 14 14 + fld v 13 6
  if 3648 ≤ src ∧ src ≤ 3903 then fld v 1 0 == 1 && fld v 5 5 == 1
  else match fld v 1 0 with
    | 2 => decide (2 ≤ fld v 20 15 ∧ fld v 20 15 ≤ 1 + (fnOf s f).evVecs)
    | 3 => false
    | _ => true

def routeWrite (s : State) (src : Nat) (v : W32) : State :=
  if routeOk s src v then rset s (routeAddr src) (w32 (fld v 20 0)) else refuse s (routeAddr src)
def execRouteWrite (src : Fin 4096) (v : W32) (s : State) : Out := powered s (routeWrite s src v)

end Sys2Proof.Machine
end

