-- ==== Sys2Proof/Machine/LongInt.lean ====
section
/-! DEFINITION. The long-integer and lattice engine (chapter 13) and its clock step (R642). -/

namespace Sys2Proof.Machine

/-! ### Operations (R438) -/

/-- The operations the engine carries out. -/
def liKnown (op : Nat) : Bool :=
  [0x01, 0x02, 0x08, 0x09, 0x0A, 0x0B, 0x10, 0x11, 0x12, 0x13, 0x14, 0x18, 0x19, 0x1A, 0x20, 0x21, 0x22, 0x28, 0x29, 0x30, 0x31].contains op

/-- Verifications and MODEXP_PUB draw no seed (R441). -/
def liSeedless (op : Nat) : Bool := [0x01, 0x0B, 0x14, 0x22].contains op

/-- Operations that take a private key and check their result (R443). -/
def liPrivate (op : Nat) : Bool := [0x02, 0x09, 0x0A, 0x11, 0x13, 0x1A, 0x21, 0x29].contains op

/-- Operations that create a handle. -/
def liCreates (op : Nat) : Bool := [0x08, 0x10, 0x12, 0x18, 0x20, 0x29, 0x30].contains op

/-- Octets of a point, a coordinate, a scalar and a signature half by the EC parameter. -/
def ecPoint (p : Nat) : Nat := nth [65, 97, 133] p 0
def ecCoord (p : Nat) : Nat := nth [32, 48, 66] p 0
def xdhLen (p : Nat) : Nat := nth [32, 56] p 0
def edPk (p : Nat) : Nat := nth [32, 57] p 0
def edSig (p : Nat) : Nat := nth [64, 114] p 0
def kemEk (p : Nat) : Nat := nth [1184, 1568] p 0
def kemCt (p : Nat) : Nat := nth [1088, 1568] p 0
def dsaPk (p : Nat) : Nat := nth [1952, 2592] p 0
def dsaSig (p : Nat) : Nat := nth [3309, 4627] p 0
def rsaLen (p : Nat) : Nat := nth [256, 384, 512] p 0

/-- Octets of the public key of a key type `t` = 16·family + parameter + 1 (R438, R439). -/
def pubLen (t : Nat) : Nat :=
  let p := (t - 1) % 16
  match (t - 1) / 16 with
  | 0 => rsaLen p + 8
  | 1 => ecPoint p
  | 2 => xdhLen p
  | 3 => edPk p
  | 4 => kemEk p
  | _ => dsaPk p

/-- Octets of the output, from operation, parameter, input length, type and length of the key wrapped or used (R438). -/
def liOutLen (op p inLen ktype klen : Nat) : Nat :=
  match op with
  | 0x01 => inLen
  | 0x02 => inLen
  | 0x08 => ecPoint p
  | 0x09 => nth [32, 48, 66] p 0
  | 0x0A => 2 * ecCoord p
  | 0x10 => xdhLen p
  | 0x11 => xdhLen p
  | 0x12 => edPk p
  | 0x13 => edSig p
  | 0x18 => kemEk p
  | 0x19 => kemCt p + 32
  | 0x1A => 32
  | 0x20 => dsaPk p
  | 0x21 => dsaSig p
  | 0x28 => (if p = 2 then 97 else kemCt p) + klen + 8
  | 0x31 => pubLen ktype
  | _ => 0

/-- Type of the key an operation creates, 0 for a symmetric one (R439). -/
def liMadeType (op p : Nat) : Nat :=
  match op with
  | 0x08 => 16 + p + 1
  | 0x10 => 32 + p + 1
  | 0x12 => 48 + p + 1
  | 0x18 => 64 + p + 1
  | 0x20 => 80 + p + 1
  | 0x30 => p + 1
  | _ => 0

/-- The statuses of R437 that an operation's result can have. -/
def liStatus (op n : Nat) : Nat :=
  if n = 1 ∧ (op = 0x0B ∨ op = 0x14 ∨ op = 0x22) then 1
  else if n = 2 then 2
  else if n = 3 ∧ liPrivate op then 3
  else if n = 7 ∧ op = 0x21 then 7
  else 0

/-! ### Key handles (R292, R439) -/

def keyOf (s : State) (n : Nat) : KeyRec := tget (fun _ => {}) s.ord.keys n
def setKey (s : State) (n : Nat) (k : KeyRec) : State := { s with ord := { s.ord with keys := tput (fun _ => {}) s.ord.keys n k } }

/-- An unused handle number from a base on; which one is a free value (log entry 5). -/
def pickHandle (s : State) (base : Nat) : Nat :=
  let k := free s
  ((List.range 32768).find? (fun i => !(keyOf s (base + (k + i) % 32768)).used)).elim base (fun i => base + (k + i) % 32768)

/-- A handle created for a domain (R292, R439). -/
def makeKey (s : State) (dom ptype : Nat) (key : List Byte) (nowrap : Bool) : State × Nat :=
  let n := pickHandle s (if ptype = 0 then 0 else 0x8000)
  (setKey (freed s) n { used := true, dom := dom, len := key.length, key := key, nowrap := nowrap, ptype := ptype }, n)

/-! ### Job records and commands (R434, R441, R445, R451) -/

/-- Word w of a job's record as a number. -/
def liW (s : State) (j w : Nat) : Nat := (rget s (liRec j w)).toNat

/-- A command from a state that does not admit it (R449, R451). -/
def liRefuse (s : State) : State := refuse s (liA + 8)

/-- The least virtual time among the functions of other live jobs (R445). -/
def leastVt (s : State) (i : Nat) : Option Nat :=
  (List.range 272).foldl (fun b j =>
    if (liJob s j).live && liFunc s j != i then some (Nat.min (liVt s (liFunc s j)) (b.getD (liVt s (liFunc s j)))) else b) none

/-- A function with no other job in the table joins at the least virtual time of those that have one (R445). -/
def vtJoin (s : State) (j : Nat) : State :=
  let i := liFunc s j
  if (List.range 272).any (fun k => k != j && (liJob s k).live && liFunc s k == i) then s
  else match leastVt s i with
    | some v => setVt s i (Nat.max (liVt s i) v)
    | none => s

/-- A job admitted with its seed: QUEUED, and selected where the engine is idle (R434, R441, R444). -/
def liAdmit (s : State) (j : Nat) (seed : BitVec 256) : State :=
  let s := setLiJob s j { liJob s j with st := .queued, seed := seed, age := s.li.ageCtr }
  liKick (vtJoin (setLi s { s.li with ageCtr := s.li.ageCtr + 1 }) j)

/-- The entry's job is refused for lack of randomness: ENDED with status RNG, source 99 (R441). -/
def liNoSeed (s : State) (j : Nat) : State := liEnd (raise s 99 [j]) j 6

/-- SUBMIT: from FREE, for an operation of R438; a job that needs a seed waits for the DRBG or ends RNG (R434, R441). -/
def jobSubmit (s : State) (j : Nat) : State :=
  if (liJob s j).st ≠ .free ∨ liKnown (liOpOf s j) = false then liRefuse s
  else if liSeedless (liOpOf s j) then liAdmit s j 0
  else if rngDown s then liNoSeed s j
  else if canDraw s then liAdmit (drewOctets s 32) j (BitVec.ofNat 256 (leNat (drawOctets s 32)))
  else s

def execJobSubmit (j : Fin 272) (s : State) : Out := powered s (jobSubmit s j)

/-- ABORT, from any state but FREE and ENDED: OPERAND_FAULT for a class-1 job that is FAULTED, else WITHDRAWN (R434, R437). -/
def jobAbort (s : State) (j : Nat) : State :=
  let x := liJob s j
  if !x.live then liRefuse s
  else liKick (liEnd s j (if x.st = .faulted ∧ liClass s j = 1 then 5 else 4))

def execJobAbort (j : Fin 272) (s : State) : Out := powered s (jobAbort s j)

/-- The colour of a phase at MPU 24 (R451). -/
def liColour (s : State) (j : Nat) : State := rsetf s (mpA 24 + 0x200) 7 0 (rf s (liRec j 1) 7 0)

/-- RESUME, from FAULTED: the phase again, from the failing access (R434). -/
def jobResume (s : State) (j : Nat) : State :=
  let x := liJob s j
  if x.st ≠ .faulted then liRefuse s
  else
    let t := liColour (setLiJob s j { x with st := if x.side = 0 then .loading else .storing }) j
    if t.li.running.isNone then setLi t { t.li with running := some j } else t

def execJobResume (j : Fin 272) (s : State) : Out := powered s (jobResume s j)

/-- FREE, from ENDED. -/
def jobFree (s : State) (j : Nat) : State := if (liJob s j).st = .ended then setLiJob s j {} else liRefuse s

def execJobFree (j : Fin 272) (s : State) : Out := powered s (jobFree s j)

/-! ### Virtual time (R445) -/

/-- When the least virtual time exceeds 2^31, 2^30 is taken from every one. -/
def vtRebase (s : State) : State :=
  if (List.range 512).all (fun i => decide (2 ^ 31 < liVt s i)) then
    setLi s { s.li with vt := tmap (fun _ => 0) (fun _ v => v - 2 ^ 30) s.li.vt }
  else s

/-- A class-0 job is charged the cycles it ran, × 256 / LI_W; a weight of 0 is charged as 1. -/
def liCharge (s : State) (j cycles : Nat) : State :=
  if liClass s j = 1 then s
  else
    let i := liFunc s j
    vtRebase (setVt s i (liVt s i + cycles * 256 / Nat.max 1 (rf s (liA + 0x7000 + 4 * i) 7 0)))

/-! ### Phases (R432–R434, R443, R449) -/

/-- The offset of the first octet of a range whose lane is uncorrectable. -/
def badOctet (s : State) (a len : Nat) : Option Nat :=
  (s.badLane.find? (fun e => e.2 && decide (8 * e.1 < a + len ∧ a < 8 * e.1 + 8))).map (fun e => 8 * e.1 - a)

/-- Access to a buffer of the engine: the first octet refused, with its cause, or none. `res` is what its first octet finds. -/
def liAccess (s : State) (k : Kind) (a len : Nat) (res : MemRes) : State × Option (Nat × Nat) :=
  if len = 0 then (s, none)
  else
    let t := tagFound s a res
    match bufferFault t 24 k a len with
    | some e => (if e.2 = 4 ∧ tagBad t (a + e.1) then tagEvent t (a + e.1) else t, some e)
    | none =>
      let r := if inSram a then sramLane t a res else if inFlash a then flashRead t a false res else (t, true)
      if !r.2 then (r.1, some (0, 3))
      else match badOctet r.1 a len with
        | some o => ((sramLane r.1 (a + o) .uncorrectable).1, some (o, 3))
        | none => (r.1, none)

/-- A refused operand access: the job is FAULTED and only it stops; of class 0 it is aborted and its order ends FAULTED (R424, R449). -/
def liFault (s : State) (j side a off c access : Nat) : State :=
  let x := liJob s j
  let s := raise (noteRefusal s 24 (a + off) c access 0) 196 [j, (a + off) % 2 ^ 32]
  let s := setLiJob s j { x with st := .faulted, side := side }
  let s := if s.li.running = some j then setLi s { s.li with running := none } else s
  let s := raise (cinc s (liA + 0x8020)) 97 [j]
  if liClass s j = 1 then liKick s
  else
    let t := liKick (liEnd s j 4)
    match x.order.bind (jobOf t) with
    | some o => endFaulted t o c x.svcAt (w32 off)
    | none => t

/-- The running job goes on computing, or another is chosen at its yield point (R433, R444). -/
def liAtYield (s : State) (j : Nat) : State :=
  if s.li.running = some j then liSelect (setLiJob s j { liJob s j with st := .computing })
  else liKick (setLiJob s j { liJob s j with st := .suspended })

/-- The load phase ends: operands, key and symmetric key are in the context (R432). -/
def liLoaded (s : State) (j : Nat) : State :=
  let k := keyOf s (liW s j 6)
  setLiJob s j { liJob s j with inp := bufferRead s (liW s j 2) (liW s j 3), aux := bufferRead s (liW s j 4) (liW s j 5),
                                key := k.key, sym := (keyOf s (liW s j 10)).key }

def loadComplete (s : State) (j cycles : Nat) (res : MemRes) : State :=
  if (liJob s j).st ≠ .loading then s
  else
    let p := liAccess s .load (liW s j 2) (liW s j 3) res
    match p.2 with
    | some e => liFault p.1 j 0 (liW s j 2) e.1 e.2 2
    | none =>
      let q := liAccess p.1 .load (liW s j 4) (liW s j 5) .ok
      match q.2 with
      | some e => liFault q.1 j 0 (liW s j 4) e.1 e.2 2
      | none => liAtYield (liCharge (liLoaded q.1 j) j cycles) j

def execLiLoadComplete (j : Fin 272) (cycles : Nat) (res : MemRes) (s : State) : Out := powered s (loadComplete s j cycles res)

/-- A rise of the engine's step that was waiting takes place: source 211 (R642, R651). -/
def liStepRise (s : State) : State :=
  match s.li.stepTo with
  | some n => raise (rsetf (setLi s { s.li with step := n, stepTo := none }) 0x30000200 6 4 n) 211 [n]
  | none => s

/-- The running job reaches a yield point in its compute phase: charged, the step raised, the next job selected. -/
def liYield (s : State) (cycles : Nat) : State :=
  match s.li.running with
  | some j => if (liJob s j).st = .computing then liSelect (liStepRise (liCharge s j cycles)) else s
  | none => s

def execLiYield (cycles : Fin 1601) (s : State) : Out := powered s (liYield s cycles)

/-- A self-check fails: source 98; three within 60 s raise WARN (R443). -/
def checkFailed (s : State) (j : Nat) : State :=
  let l := (s.now :: s.li.checks).take 3
  let s := raise (setLi s { s.li with checks := l }) 98 [j]
  match l with
  | [_, _, t] => if s.now ≤ t + 60000000 then warn s else s
  | _ => s

/-- The compute phase ends with the operation's status and output; the store phase begins with the job's colour (R432, R443, R451). -/
def computeComplete (s : State) (iter : Nat) : State :=
  match s.li.running with
  | none => s
  | some j =>
    let x := liJob s j
    if x.st ≠ .computing then s
    else
      let op := liOpOf s j
      let key := if op = 0x28 then x.sym else x.key
      let r := Config.liOp op (liParam s j) key x.inp x.aux x.seed
      let st := liStatus op r.1
      let out := if st = 0 then octetsAt r.2 0 (liOutLen op (liParam s j) x.inp.length (keyOf s (liW s j 6)).ptype x.sym.length) else []
      let made := if st = 0 ∧ liCreates op then Config.liKey op (liParam s j) key x.inp x.aux x.seed else []
      let s := setLiJob s j { x with st := .storing, status := st, out := out, made := made,
                                     iter := if op = 0x21 then (if st = 7 then 128 else iter) else 0 }
      liColour (if st = 3 then checkFailed s j else s) j

def execLiComputeComplete (iter : Fin 129) (s : State) : Out := powered s (computeComplete s iter)

/-- The store phase ends: outputs written and a created key given its handle; the job is ENDED (R432, R434, R439). -/
def liStored (s : State) (j cycles : Nat) : State :=
  let x := liJob s j
  let s := memWrite s (liW s j 8) x.out
  let s := if x.status = 0 ∧ liCreates (liOpOf s j) then
      (let k := makeKey s x.dom (liMadeType (liOpOf s j) (liParam s j)) x.made false
       setLiJob k.1 j { x with handle := k.2 })
    else s
  let s := setLiJob s j { liJob s j with written := x.out.length }
  liKick (liEnd (liCharge s j cycles) j x.status)

def storeComplete (s : State) (j cycles : Nat) (res : MemRes) : State :=
  let x := liJob s j
  if x.st ≠ .storing then s
  else
    let p := liAccess s .store (liW s j 8) x.out.length res
    match p.2 with
    | some e => liFault (memWrite p.1 (liW s j 8) (x.out.take e.1)) j 1 (liW s j 8) e.1 e.2 3
    | none => liStored p.1 j cycles

def execLiStoreComplete (j : Fin 272) (cycles : Nat) (res : MemRes) (s : State) : Out := powered s (storeComplete s j cycles res)

/-- Contexts 0–6 have been held for 1 ms: source 101, once (R446). -/
def holdExpiry (s : State) : State :=
  if s.li.fullAt.isSome ∧ s.li.fullTold = false then raise (setLi s { s.li with fullTold := true }) 101 [] else s

def execLiContextHoldExpiry (s : State) : Out := powered s (holdExpiry s)

/-! ### The engine's clock (R642, R652) -/

/-- LI_NEED as reported: above the step, the step rises, at once where the engine is idle; beyond 5 it reads 0xF, the step is 5,
and the steward raises WARN. -/
def liNeed (s : State) (need : Nat) : State :=
  let n := Nat.min need 5
  let s := rsetf s 0x30000200 3 0 (if 5 < need then 0xF else need)
  let s := if s.li.step < n then setLi s { s.li with stepTo := some n } else s
  let s := if s.li.running.isNone then liStepRise s else s
  if 5 < need then warn s else s

def execLiNeedRise (need : Fin 7) (s : State) : Out := powered s (liNeed s need)

/-- PW_LISTEP: a step from LI_NEED to 5 (R642, R652). -/
def liStepSet (s : State) (v : W32) : State :=
  if rf s 0x30000200 3 0 ≤ fld v 2 0 ∧ fld v 2 0 ≤ 5 then liStepRise (setLi s { s.li with stepTo := some (fld v 2 0) })
  else refuse s 0x30000204

def execLiStepSet (v : W32) (s : State) : Out := powered s (liStepSet s v)

end Sys2Proof.Machine
end

