-- ==== Sys2Proof/Machine/Orders.lean ====
section
/-! DEFINITION. Orders: their checks, HELLO, dispatch, budget and waits (R263–R286), and what every service call does around
its own effect (R276–R278, R284). -/

namespace Sys2Proof.Machine

/-! ### The order header (R263–R265) -/

def hdrWord (l : List Byte) (o : Nat) : Nat := leNat (octetsAt l o 4)
def hdrKind (l : List Byte) : Nat := bitsOf (hdrWord l 8) 1 0
def hdrArgbuf (l : List Byte) : Bool := bitAt (hdrWord l 8) 2
def hdrSerial (l : List Byte) : Bool := bitAt (hdrWord l 8) 3
def hdrDomain (l : List Byte) : Nat := bitsOf (hdrWord l 8) 15 4
def hdrResident (l : List Byte) : Nat := bitsOf (hdrWord l 8) 31 16
def hdrBudget (l : List Byte) : Nat := bitsOf (hdrWord l 12) 20 0

/-- BAD_ARG under R264, with the agreed order format `fmt`. -/
def hdrBad (l : List Byte) (fmt : Nat) : Bool :=
  hdrKind l == 3 || bitsOf (hdrWord l 12) 31 21 != 0 || decide (1200000 < hdrBudget l) || decide (0x1FF < hdrResident l) ||
  (hdrResident l != 0 && hdrKind l != 2) || (hdrSerial l && decide (fmt % 256 < 1)) || (hdrKind l == 0 && hdrArgbuf l)

/-- Place of the host buffer descriptor in the entry: after the image descriptor, or first (R265). -/
def bufAt (l : List Byte) : Nat := if hdrKind l = 1 then 32 else 16

/-- A host buffer descriptor that completes BAD_ARG: a length beyond 8,192 or a reserved octet (R265, R267). -/
def bufBad (l : List Byte) : Bool :=
  let o := bufAt l
  decide (8192 < hdrWord l (o + 8)) || decide (8192 < hdrWord l (o + 24)) || hdrWord l (o + 12) != 0 || hdrWord l (o + 28) != 0 ||
  (hdrKind l == 2 && leNat (octetsAt l 48 16) != 0)

/-! ### Script images (R266, R267) -/

def imgHalf (l : List Byte) (o : Nat) : Nat := leNat (octetsAt l o 2)

/-- The status of an image read for an IMAGE order, with the agreed service table `svc`: 0 where it passes. -/
def imageStatus (len : Nat) (l : List Byte) (svc : Nat) : Nat :=
  let n := imgHalf l 4
  if len ≠ 32 + n ∨ imgHalf l 0 ≠ 0x7B1A ∨ imgHalf l 2 / 256 ≠ 1 ∨ n % 4 ≠ 0 ∨ n < 4 ∨ 4096 < n ∨ imgHalf l 6 % 4 ≠ 0 ∨ n ≤ imgHalf l 6 ∨
    leNat (octetsAt l 12 4) ≠ crc32c (octetsAt l 32 n) ∨ leNat (octetsAt l 20 12) ≠ 0 ∨ 2 ≤ imgHalf l 10 ∨ leNat (octetsAt l 16 4) ≠ 0 then 3
  else if imgHalf l 8 / 256 ≠ svc / 256 ∨ svc % 256 < imgHalf l 8 % 256 then 0x0A
  else 0

/-! ### Alarm levels and life-cycle states (R284) -/

/-- Services open outside OWNED, marked LC in R288; MONITOR_CFG in TEST only. -/
def lcService (s : State) (n : Nat) : Bool :=
  [0x00, 0x01, 0x02, 0x03, 0x04, 0x16, 0x38, 0x39, 0x50, 0x58, 0x68, 0x71, 0x78, 0x79, 0x7C, 0x80].contains n || (n == 0x7B && s.lc.state == 1)

/-- The order completes LOCKED at dispatch. Where only the LC services run, an order of domain 0 is a built-in script of one. -/
def orderLocked (s : State) (dom kind res : Nat) : Bool :=
  if dom ≠ 0 then s.lc.state != 3 || decide (2 ≤ s.level)
  else (s.lc.state != 3 || decide (5 ≤ s.level)) && !(kind == 2 && decide (res < 0x100) && lcService s res)

/-- A service returns LOCKED (R284). -/
def svcLocked (s : State) (dom n : Nat) : Bool :=
  ((s.lc.state != 3 || decide (5 ≤ s.level)) && !lcService s n) ||
  (dom != 0 && decide (2 ≤ s.level) && !(n == 0x01 || n == 0x03)) ||
  (dom == 0 && decide (3 ≤ s.level) && [0x13, 0x20, 0x21, 0x22, 0x24, 0x8C].contains n)

/-- The domain is in the function's list; every PF holds domain 0 (R234, R235). -/
def holds (s : State) (f d : Nat) : Bool := if d = 0 then f % 256 == 0 else (fnOf s f).doms.contains d

/-! ### Colours (R410, R411) -/

def colourBound (s : State) (d : Nat) : Nat := tget (fun _ => 0) s.ord.colour d

/-- The domain may be parked: no order dispatched or waiting and no long-integer job of it (R410, R411). -/
def mayPark (s : State) (d : Nat) : Bool :=
  !(s.ord.jobs.any (fun j => j.domain == d && j.started)) && !((List.range 272).any (fun j => (liJob s j).live && (liJob s j).dom == d))

/-- A domain made the most recently used. -/
def touchColour (s : State) (d : Nat) : State := { s with ord := { s.ord with colourLru := s.ord.colourLru.erase d ++ [d] } }

/-- A colour bound to a domain that needs SRAM: its own, a free one, or that of the least recently used domain that may be parked. -/
def bindColour (s : State) (d : Nat) : State :=
  if colourBound s d ≠ 0 then touchColour s d
  else
    let used := s.ord.colour.map (fun e => e.2)
    let s := match (List.range 240).find? (fun i => !used.contains (0x10 + i)) with
      | some i => { s with ord := { s.ord with colour := tput (fun _ => 0) s.ord.colour d (0x10 + i) } }
      | none => match s.ord.colourLru.find? (mayPark s) with
        | some v => { s with ord := { s.ord with colour := tput (fun _ => 0) (tput (fun _ => 0) s.ord.colour v 0) d (colourBound s v),
                                                 colourLru := s.ord.colourLru.erase v } }
        | none => s
    touchColour s d

/-! ### Sandboxes (R415, R416) -/

/-- The lowest sandbox that is free. -/
def freeSandbox (s : State) : Option Nat := (List.range 64).find? (fun k => !(s.ord.jobs.any (fun j => j.sandbox == some k)))

/-- A sandbox assigned to domain d: recoloured, its code and arguments written (R274, R415, R416). -/
def fillSandbox (s : State) (k d : Nat) (code args : List Byte) : State :=
  let c := colourBound s d
  let s := setTags (setTags s (granule (scratchA k)) 256 c) (granule (codeA k)) 64 c
  cadd (memWrite (memWrite s (codeA k) code) (scratchA k) args) 0x30088100 320

/-! ### Checks and queueing (R273) -/

/-- The oldest fetched entry completes with a status and no dispatch; NOT_NOW and LOCKED are recorded (R273, R283, R299). -/
def entryEnds (s : State) (f : Nat) (r : RawEntry) (status : Nat) : State :=
  let tag := leNat (octetsAt r.octets 2 2)
  let s := if status = 1 then notNowEv s f tag 0xFF else if status = 0x0C then raiseEv s (fnSrc f) 0x12 [tag, s.level] else s
  completeRaw (popRaw s f) f r status

/-- The checks of R273 before anything is read: the status of the first that fails. HELLO is exempt from the agreement, the alarm
level and the domain. -/
def entryStatus (s : State) (f : Nat) (r : RawEntry) : Nat :=
  let x := fnOf s f
  let l := r.octets
  if r.genField ≠ x.gen then 5
  else if r.etype ≠ 1 then 3
  else if hdrKind l ≠ 0 ∧ x.vFmt = 0 then 1
  else if hdrBad l x.vFmt then 3
  else if hdrKind l = 0 then 0
  else if orderLocked s (hdrDomain l) (hdrKind l) (hdrResident l) then 0x0C
  else if !holds s f (hdrDomain l) then 2
  else 0

def resOf (s : State) (n : Nat) : ResRec := tget (fun _ => {}) s.ord.res n

/-- The status of a RESIDENT order's script: a built-in of the agreed table, or an owner slot (R268), whose SVC_MIN
is checked as an image's is (R266, R267; DEDUCED, log entry 29). -/
def residentStatus (s : State) (f dom n : Nat) : Nat :=
  if n < 0x100 then (if n ≤ 0x04 ∨ !svcPresent (fnOf s f).vSvc n then 3 else 0)
  else if !(resOf s n).held then 1
  else if (resOf s n).opOnly ∧ dom ≠ 0 then 2
  else if (resOf s n).svcMin / 256 ≠ (fnOf s f).vSvc / 256 ∨ (fnOf s f).vSvc % 256 < (resOf s n).svcMin % 256 then 0x0A
  else 0

/-- A host read that the steward makes for an order. -/
def orderRead (s : State) (f addr len : Nat) (err : Option HostErr) : State :=
  let t := send s (.hostRead f addr len)
  match err with
  | some e => readFailed t f e
  | none => t

/-- The arguments of an order: those of the host buffer, or in line (R265, R274). -/
def orderArgs (l buf : List Byte) : List Byte :=
  if hdrArgbuf l then octetsAt buf 0 (hdrWord l (bufAt l + 8))
  else if hdrKind l = 1 then octetsAt l 32 32 else octetsAt l 16 48

/-- An order that has passed every check joins the queue with its sandbox (R273, R285, R410, R415). -/
def queueOrder (s : State) (f : Nat) (r : RawEntry) (img buf : List Byte) (k : Nat) : State :=
  let l := r.octets
  let kind := hdrKind l
  let n := hdrResident l
  let rec' := resOf s n
  let code := if kind = 1 then octetsAt img 32 (imgHalf img 4) else []
  let o := bufAt l
  let j : Job := {
    id := s.ord.nextId, fn := f, gen := r.gen, tag := leNat (octetsAt l 2 2), genField := r.genField, kind := kind,
    argbuf := hdrArgbuf l, serial := hdrSerial l, domain := hdrDomain l, res := n, budget := if hdrBudget l = 0 then 60000 else hdrBudget l,
    args := orderArgs l buf, resAddr := if hdrArgbuf l then leNat (octetsAt l (o + 16) 8) else 0, resLen := if hdrArgbuf l then hdrWord l (o + 24) else 0,
    code := code, entry := if kind = 1 then imgHalf img 6 else rec'.entry, rept := if kind = 1 then bitAt (imgHalf img 10) 0 else rec'.rept,
    sandbox := some k, argAddr := if hdrArgbuf l then leNat (octetsAt l o 8) else 0, argLen := if hdrArgbuf l then hdrWord l (o + 8) else 0 }
  let old := members s
  let s := fillSandbox (bindColour (popRaw s f) j.domain) k j.domain code j.args
  joinMembers { s with ord := { s.ord with jobs := s.ord.jobs ++ [j], nextId := s.ord.nextId + 1 } } old

/-- The argument buffer is read, and the order is queued (R265, R273). -/
def orderArgCheck (s : State) (f : Nat) (r : RawEntry) (img buf : List Byte) (bufErr : Option HostErr) (k : Nat) : State :=
  let l := r.octets
  if !hdrArgbuf l then queueOrder s f r img buf k
  else
    let t := if hdrWord l (bufAt l + 8) = 0 then s else orderRead s f (leNat (octetsAt l (bufAt l) 8)) (hdrWord l (bufAt l + 8)) bufErr
    if bufErr.isSome ∧ hdrWord l (bufAt l + 8) ≠ 0 then entryEnds t f r 3 else queueOrder t f r img buf k

/-- An ORDER entry other than HELLO checked in the order of R273, then queued or completed; with no sandbox free it waits (R415). -/
def orderEntry (s : State) (f : Nat) (img buf : List Byte) (imgErr bufErr : Option HostErr) : State :=
  match (fnOf s f).raw with
  | [] => s
  | r :: _ =>
    let l := r.octets
    if r.etype = 0 ∨ r.etype = 2 ∨ (r.etype = 1 ∧ hdrKind l = 0) then s
    else if entryStatus s f r ≠ 0 then entryEnds s f r (entryStatus s f r)
    else match freeSandbox s with
      | none => s
      | some k =>
        if hdrKind l = 1 then
          if hdrWord l 28 ≠ 0 ∨ (hdrArgbuf l ∧ bufBad l) then entryEnds s f r 3
          else
            let t := orderRead s f (leNat (octetsAt l 16 8)) (hdrWord l 24) imgErr
            if imgErr.isSome then entryEnds t f r 3
            else
              let st := imageStatus (hdrWord l 24) (octetsAt img 0 (hdrWord l 24)) (fnOf s f).vSvc
              if st ≠ 0 then entryEnds t f r st else orderArgCheck t f r (octetsAt img 0 (hdrWord l 24)) buf bufErr k
        else
          let st := residentStatus s f (hdrDomain l) (hdrResident l)
          if hdrArgbuf l ∧ bufBad l then entryEnds s f r 3
          else if st ≠ 0 then entryEnds s f r st
          else orderArgCheck s f r [] buf bufErr k

def execOrderEntry (f : Fin 512) (img buf : List Byte) (imgErr bufErr : Option HostErr) (s : State) : Out :=
  powered s (orderEntry s f img buf imgErr bufErr)

/-! ### HELLO (R270, R271) -/

/-- Highest version of an interface that the steward image supports. -/
def helloOurs (id : Nat) : Nat := if id = 1 then 0x0101 else if id = 2 then 0x0102 else 0x0100

/-- The (identifier, version) pairs of a HELLO's argument area. -/
def helloPairs (l : List Byte) : List (Nat × Nat) :=
  (List.range (hdrWord l 16 % 256)).map (fun i => (imgHalf l (20 + 4 * i), imgHalf l (22 + 4 * i)))

/-- A HELLO that completes BAD_ARG. -/
def helloBad (l : List Byte) : Bool :=
  let ids := (helloPairs l).map (fun p => p.1)
  let n := hdrWord l 16
  decide (n = 0 ∨ 4 < n) || !ids.contains 1 || !ids.contains 2 || decide (¬ ids.Nodup) || ids.any (fun i => decide (i < 1 ∨ 3 < i))

/-- The version agreed for a pair: the lower of the two minors (R11, R270). -/
def helloAgree (p : Nat × Nat) : Nat := 0x100 + Nat.min (p.2 % 256) (helloOurs p.1 % 256)

/-- A HELLO order: the versions agreed, or BAD_ARG, VERSION, or NOT_NOW while another order is outstanding. -/
def helloOrder (s : State) (f : Nat) : State :=
  match (fnOf s f).raw with
  | [] => s
  | r :: _ =>
    let l := r.octets
    if r.etype ≠ 1 ∨ hdrKind l ≠ 0 then s
    else if entryStatus s f r ≠ 0 then entryEnds s f r (entryStatus s f r)
    else if helloBad l then entryEnds s f r 3
    else if 1 < (fnOf s f).out then entryEnds s f r 1
    else if (helloPairs l).any (fun p => p.2 / 256 != 1) then entryEnds s f r 0x0A
    else
      let ps := (helloPairs l).map (fun p => (p.1, helloAgree p))
      let v := fun id d => ((ps.find? (fun p => p.1 == id)).map (fun p => p.2)).getD d
      let s := modFn (popRaw s f) f (fun x => { x with vFmt := v 1 x.vFmt, vSvc := v 2 x.vSvc, vSheaf := v 3 x.vSheaf })
      complete s f ⟨r.gen, leNat (octetsAt l 2 2), 0, r.genField,
        octetsAt (leBytes 6 0 ++ leBytes 2 0xFFFF ++ ps.flatMap (fun p => leBytes 2 p.1 ++ leBytes 2 p.2)) 0 24, []⟩

def execHello (f : Fin 512) (s : State) : Out := powered s (helloOrder s f)

/-! ### Dispatch (R274, R286, R416) -/

/-- The sandbox harts: all but the steward's and the retired ones; the steward's own where it is the last (R393, R641). -/
def sandboxHarts (s : State) : List Nat :=
  match (List.range 8).filter (fun h => h != stewardHart s && hstOf s h != .retired) with
  | [] => [stewardHart s]
  | l => l

/-- A sandbox hart that serves no order. -/
def hartFree (s : State) (h : Nat) : Bool :=
  (sandboxHarts s).contains h && (hartOf s h).job.isNone && (hartOf s h).level == 1 && (hartOf s h).sbuf.isEmpty &&
  (hstOf s h == .running || hstOf s h == .waiting)

/-- First address and octets of the code an order runs: its sandbox's code region, or the resident script's flash extent (R416). -/
def codeExtent (s : State) (j : Job) (k : Nat) : Nat × Nat :=
  if j.kind = 2 then (sectorA (384 + (j.res - 0x100)), 32 + (resOf s j.res).code.length) else (codeA k, 4096)

/-- Regions 0 and 1 and COLOUR_U of a sandbox hart's MPU (R416). -/
def setSandboxMpu (s : State) (h : Nat) (j : Job) (k : Nat) : State :=
  let e := codeExtent s j k
  let s := rset (rset (rset s (mpA h) (w32 (e.1 / 64 * 64))) (mpA h + 4) (w32 ((e.1 + e.2 - 1) / 64 * 64))) (mpA h + 8) 0x09
  let s := rset (rset (rset s (mpA h + 0x10) (w32 (scratchA k))) (mpA h + 0x14) (w32 (scratchA k + 0x3FC0))) (mpA h + 0x18) 0xB7
  rsetf s (mpA h + 0x200) 7 0 (colourBound s j.domain)

/-- The general registers at entry (R274). -/
def entryRegs (j : Job) (k : Nat) : List (Nat × Nat) :=
  [(1, scratchA k)] ++ (List.range 8).map (fun i => (2 + i, leNat (octetsAt j.args (4 * i) 4))) ++
  [(10, j.args.length), (11, j.domain), (12, j.fn), (13, j.budget)]

/-- The hart as the script of an order starts on it; a built-in script starts inside its service (R268, R274, R350). -/
def scriptHart (s : State) (h : Nat) (j : Job) (k : Nat) : Hart :=
  let x := hartOf s h
  let e := (codeExtent s j k).1 + (if j.kind = 2 then 32 else 0)
  let y := { x with g := [], p := [], ls := [], le := [], lc := [], pc := w32 (e + j.entry), level := 0, ie := true, aw := false, atw := 0, rept := j.rept,
                    budget := j.budget, budgetPend := false, svc := none, job := some j.id }
  let y := (entryRegs j k).foldl (fun z p => gset z p.1 (w32 p.2)) y
  if j.kind = 2 ∧ j.res < 0x100 then { y with level := 1, svc := some j.res } else y

/-- Dispatch of an order on a hart. -/
def startOrder (s : State) (h : Nat) (j : Job) : State :=
  let k := j.sandbox.getD 0
  let builtin := decide (j.kind = 2 ∧ j.res < 0x100)
  let s := modJob s j.id (fun j => { j with stage := .running h, lastSvc := if builtin then j.res else j.lastSvc })
  let s := touchColour (setSandboxMpu s h j k) j.domain
  stateChange (setHart s h (scriptHart s h j k)) h .running

/-- A script is ready to resume. -/
def anyReady (s : State) : Bool := s.ord.jobs.any (fun j => match j.stage with
  | .ready _ => true
  | _ => false)

/-- The PFs whose oldest undispatched order names domain 0. -/
def operatorFns (s : State) (l : List Nat) : List Nat :=
  l.filter (fun f => f % 256 == 0 && (match oldestOrder s f with
    | some j => j.domain == 0
    | none => false))

/-- The highest-numbered sandbox hart prefers the operator (R286, R393). -/
def prefersOperator (s : State) (h : Nat) : Bool := (sandboxHarts s).all (fun g => decide (g ≤ h))

/-- The candidates for hart h: E, or the operator's where the hart prefers it; on the last hart only orders of domain 0 (R286, R641). -/
def candidates (s : State) (h : Nat) : List Nat :=
  let e := members s
  let op := operatorFns s e
  if h = stewardHart s then op
  else if prefersOperator s h ∧ op ≠ [] then op else e

/-- The candidate of least virtual time; on a tie the least. -/
def chosenFn (s : State) (h : Nat) : Option Nat :=
  (candidates s h).foldl (fun b f => match b with
    | none => some f
    | some g => if (fnOf s f).vtime < (fnOf s g).vtime then some f else some g) none

def orderDispatch (s : State) (h : Nat) : State :=
  if !hartFree s h || anyReady s || s.ord.paused then s
  else match (chosenFn s h).bind (oldestOrder s) with
    | some j => startOrder s h j
    | none => s

def execOrderDispatch (h : Fin 8) (s : State) : Out := powered s (orderDispatch s h)

/-- The order becomes ready to resume. -/
def makeReady (s : State) (i : Nat) (w : Wait) : State :=
  let t := modJob s i (fun j => { j with stage := .ready s.ord.readyCtr, resumed := some w })
  { t with ord := { t.ord with readyCtr := t.ord.readyCtr + 1 } }

/-! ### Budget (R275) -/

/-- A budget runs out: a script that executes is ended at once, one inside a service as that completes, one that waits at once; a reclaim
in progress completes YIELDED instead (R243). -/
def budgetExpiry (s : State) (i : Nat) : State :=
  match jobOf s i with
  | none => s
  | some j =>
    match j.stage with
    | .queued => s
    | .running h =>
      let t := setHart s h { hartOf s h with budgetPend := true }
      if due t h = some .budget then asyncTake t h else t
    | .gran h _ => setHart s h { hartOf s h with budgetPend := true }
    | .waiting w => if j.lastSvc = 0x72 ∧ w = .fenceRoom then makeReady s i .timedOut else endTimeout s j
    | .ready _ => endTimeout s j

def execBudgetExpiry (i : Nat) (s : State) : Out := powered s (budgetExpiry s i)

/-! ### Waits (R277, R291, R294) -/

/-- 100 µs since a receive slot's previous install: a waiting install proceeds (R291). -/
def spacingExpiry (s : State) (slot : Nat) : State :=
  let t := { s with ord := { s.ord with installed := tput (fun _ => none) s.ord.installed slot none } }
  match t.ord.jobs.find? (fun j => j.stage == .waiting (.spacing slot)) with
  | some j => makeReady t j.id (.spacing slot)
  | none => t

def execRxSpacingExpiry (slot : Fin 65536) (s : State) : Out := powered s (spacingExpiry s slot)

/-- The wait of FRAME_RECV has run out: the service returns NOT_NOW as its script resumes (R294). -/
def recvTimeout (s : State) (i : Nat) : State :=
  match jobOf s i with
  | some j => if j.stage = .waiting .punt then makeReady s i .timedOut else s
  | none => s

def execFrameRecvTimeout (i : Nat) (s : State) : Out := powered s (recvTimeout s i)

/-! ### What surrounds a service (R276–R278) -/

/-- A service ends: a built-in script ends with it, g1 its status and g2–g5 its result; another script goes on (R268, R276). -/
def svcRet (s : State) (h status : Nat) (res : List Nat) : State :=
  match (hartOf s h).job.bind (jobOf s) with
  | some j =>
    if j.kind = 2 ∧ j.res < 0x100 then
      let y := svcRegs s (hartOf s h) status res
      let t := { s with freeCtr := s.freeCtr + 4 }
      let t := if status = 1 then notNowEv t j.fn j.tag j.lastSvc else if status = 0x0C then raiseEv t (fnSrc j.fn) 0x12 [j.tag, t.level] else t
      if (hartOf s h).budgetPend then endTimeout t j
      else endJob t j status 0 (octetsOf [gget y 2, gget y 3, gget y 4, gget y 5])
    else svcReturn (modJob s j.id (fun j => { j with resumed := none })) h status res
  | none => svcReturn s h status res

/-- A service call of number n on hart h: nothing where the hart is not in it or its stores have not drained; the script ended
where its domain has left the list (R235); then LOCKED, which at THROTTLE refuses later calls only (R298), NO_RIGHT for an operator service,
and the service's own effect (R278). -/
def svcCall (s : State) (h n : Nat) (op : Bool) (body : State → Job → Hart → State) : State :=
  let x := hartOf s h
  if x.svc ≠ some n ∨ x.sbuf ≠ [] ∨ hstOf s h ≠ .running then s
  else match x.job.bind (jobOf s) with
    | none => s
    | some j =>
      if !(j.stage == .running h) then s
      else if !holds s j.fn j.domain then withdrawn (endJob s j 11 0 []) j.fn 1
      else if svcLocked s (if j.resumed.isSome then 0 else j.domain) n then svcRet s h 0x0C []
      else if op && j.domain != 0 then svcRet s h 2 []
      else body s j x

/-- A service that waits releases its hart (R277). -/
def svcWait (s : State) (h : Nat) (j : Job) (w : Wait) : State :=
  let x := hartOf s h
  releaseHart (modJob s j.id (fun j => { j with stage := .waiting w, ctx := some x })) h

/-- The script's argument register g2 … g9. -/
def svcArg (x : Hart) (k : Nat) : Nat := (gget x k).toNat

/-- A buffer lies wholly in scratch (R276). -/
def inScratch (off len : Nat) : Bool := decide (off + len ≤ 0x4000)

def scratchRead (s : State) (j : Job) (off len : Nat) : List Byte := memRead s (scratchA (j.sandbox.getD 0) + off) len
def scratchWrite (s : State) (j : Job) (off : Nat) (l : List Byte) : State := memWrite s (scratchA (j.sandbox.getD 0) + off) l

end Sys2Proof.Machine
end

