-- ==== Sys2Proof/Machine/SvcBasic.lean ====
section
/-! DEFINITION. Services 0x00–0x04 (R279, R288), what services share beyond R278, and the key services (R292, R293). -/

namespace Sys2Proof.Machine

/-! ### What services share -/

/-- A service that crosses the culm waits for a session (R277). -/
def needCulm (s : State) (h : Nat) (j : Job) (body : State → State) : State :=
  if s.culm.session then body s else svcWait s h j .culm

/-- A service that needs `n` random octets: drawn now, refused where the source is down, else waited for (R277, R278 step 8). -/
def needRandom (s : State) (h : Nat) (j : Job) (n : Nat) (body : State → List Byte → State) : State :=
  if canDraw s then body (drewOctets s n) (drawOctets s n)
  else if rngDown s then svcRet s h 7 [] else svcWait s h j .rng

/-- The quotas of a domain. -/
def quotaOf (s : State) (d : Nat) : Quota := tget (fun _ => {}) s.host.quotas d

/-! ### SVC_INFO, EXIT, ARG_READ, RESULT_WRITE, CLOCK -/

/-- The version agreed, and the budget left, a free value no greater than BUDGET (log entry 5). -/
def svcInfo (s : State) (j : Job) (_x : Hart) (h : Nat) : State :=
  svcRet (freed s) h 0 [(fnOf s j.fn).vSvc, free s % (j.budget + 1)]

def execSvcInfo (h : Fin 8) (s : State) : Out := ok (svcCall s h 0x00 false (fun s j x => svcInfo s j x h))

/-- The statuses EXIT may pass (R279). -/
def exitGood (v : Nat) : Bool := [0, 1, 3, 4, 8].contains v || decide (0x80 ≤ v ∧ v ≤ 0xFF)

/-- EXIT ends the order with the script's status and g3–g6, FAULTED for any other value; the spec gives that CAUSE no code (log
entry 5). -/
def svcExit (s : State) (j : Job) (x : Hart) : State :=
  let st := svcArg x 2
  if x.budgetPend then endTimeout s j
  else if exitGood st then endJob s j st 0 (octetsOf [gget x 3, gget x 4, gget x 5, gget x 6])
  else endFaulted (freed s) j (free s % 256) (svGet x 1 0) (svGet x 1 3)

def execExit (h : Fin 8) (s : State) : Out := ok (svcCall s h 0x01 false svcExit)

/-- Octets that ARG_READ copies: those of the argument buffer from the offset on, up to the length. -/
def argCount (j : Job) (off len : Nat) : Nat := if j.argbuf then Nat.min len (j.argLen - off) else 0

/-- ARG_READ reads the host's buffer by DMA, held while the function cannot master (R421); a failed read ends the order FAULTED with
cause 0x03, the SVC's address and the offset of the first octet not moved (R423), which the error leaves free (log entry 5). -/
def svcArgRead (s : State) (j : Job) (x : Hart) (h : Nat) (data : List Byte) (err : Option HostErr) : State :=
  let n := argCount j (svcArg x 2) (svcArg x 4)
  if !inScratch (svcArg x 3) (svcArg x 4) then svcRet s h 3 []
  else if n = 0 then svcRet s h 0 [0]
  else if !canMaster (fnOf s j.fn) then s
  else
    let t := send s (.hostRead j.fn (j.argAddr + svcArg x 2) n)
    match err with
    | some e =>
      let k := free t % n
      let t := scratchWrite (readFailed (freed t) j.fn e) j (svcArg x 3) (octetsAt data 0 k)
      endFaulted t j 3 j.svcAt (w32 k)
    | none => svcRet (scratchWrite t j (svcArg x 3) (octetsAt data 0 n)) h 0 [n]

def execArgRead (h : Fin 8) (data : List Byte) (err : Option HostErr) (s : State) : Out :=
  ok (svcCall s h 0x02 false (fun s j x => svcArgRead s j x h data err))

/-- RESULT_WRITE writes the host's result buffer; what a function that cannot master holds up is written before its completion
(R219, R225). -/
def svcResultWrite (s : State) (j : Job) (x : Hart) (h : Nat) : State :=
  let len := svcArg x 4
  if !inScratch (svcArg x 2) len || !j.argbuf || decide (j.resLen < svcArg x 3 + len) then svcRet s h 3 []
  else
    let l := scratchRead s j (svcArg x 2) len
    let s := if canMaster (fnOf s j.fn) then hostWrite s j.fn (j.resAddr + svcArg x 3) l
             else modJob s j.id (fun j => { j with results := j.results ++ [(svcArg x 3, l)] })
    svcRet s h 0 []

def execResultWrite (h : Fin 8) (s : State) : Out := ok (svcCall s h 0x03 false (fun s j x => svcResultWrite s j x h))

/-- The open minute's epoch; 0 before the first opens. -/
def openMinute (s : State) : Nat := s.mt.minute.getD 0

def execClock (h : Fin 8) (s : State) : Out :=
  ok (svcCall s h 0x04 false (fun s _ _ => svcRet s h 0 [openMinute s, s.now - s.mt.lastSwap]))

/-! ### Symmetric key handles (R292, R293) -/

/-- Handles of a kind in use: of a domain, or of the device. -/
def handlesOf (s : State) (priv : Bool) (d : Option Nat) : Nat :=
  (s.ord.keys.filter (fun e => e.2.used && (decide (e.2.ptype ≠ 0) == priv) && (match d with | some v => e.2.dom == v | none => true))).length

/-- There is room for one more handle: 64 symmetric of a domain and 8,192 of the device, 16 and 1,024 private (R292, R439). -/
def handleRoom (s : State) (priv : Bool) (d : Nat) : Bool :=
  if priv then decide (handlesOf s true (some d) < 16 ∧ handlesOf s true none < 1024)
  else decide (handlesOf s false (some d) < 64 ∧ handlesOf s false none < 8192)

/-- Steps 5 and 6 of R278 for a handle: NO_RIGHT for one another domain created, NOT_NOW for one unused; 0 where it may be used. -/
def handleStatus (s : State) (d n : Nat) : Nat :=
  let k := keyOf s n
  if !k.used then 1 else if d ≠ 0 ∧ k.dom ≠ d then 2 else 0

/-- The handle holds a symmetric key. -/
def isSym (s : State) (n : Nat) : Bool := (keyOf s n).used && (keyOf s n).ptype == 0

/-- A symmetric handle's number as an argument: a private or an impossible one is BAD_ARG. -/
def symArg (s : State) (n : Nat) : Bool := decide (n < 0x8000) && ((keyOf s n).ptype == 0)

/-- A new symmetric handle returned in g2, or NO_ROOM. -/
def newHandle (s : State) (h : Nat) (j : Job) (key : List Byte) (nowrap : Bool) : State :=
  if !handleRoom s false j.domain then svcRet s h 4 []
  else
    let p := makeKey s j.domain 0 key nowrap
    svcRet p.1 h 0 [p.2]

def keyLenGood (n : Nat) : Bool := n == 16 || n == 32

/-- KEY_LOAD: the key's shares take a fresh mask of its length. -/
def svcKeyLoad (s : State) (j : Job) (x : Hart) (h : Nat) : State :=
  let len := svcArg x 3
  if !keyLenGood len || !inScratch (svcArg x 2) len then svcRet s h 3 []
  else if !handleRoom s false j.domain then svcRet s h 4 []
  else needRandom s h j len (fun s _ => newHandle s h j (scratchRead s j (svcArg x 2) len) (bitAt (svcArg x 4) 0))

def execKeyLoad (h : Fin 8) (s : State) : Out := ok (svcCall s h 0x20 false (fun s j x => svcKeyLoad s j x h))

/-- KEY_GEN: a fresh random key. -/
def svcKeyGen (s : State) (j : Job) (x : Hart) (h : Nat) : State :=
  let len := svcArg x 2
  if !keyLenGood len then svcRet s h 3 []
  else if !handleRoom s false j.domain then svcRet s h 4 []
  else needRandom s h j len (fun s l => newHandle s h j l (bitAt (svcArg x 4) 0))

def execKeyGen (h : Fin 8) (s : State) : Out := ok (svcCall s h 0x21 false (fun s j x => svcKeyGen s j x h))

/-- KEY_UNWRAP under a KEK handle (RFC 3394). -/
def svcKeyUnwrap (s : State) (j : Job) (x : Hart) (h : Nat) : State :=
  let kek := svcArg x 2
  let len := svcArg x 4
  if !(len == 24 || len == 40) || !inScratch (svcArg x 3) len || !symArg s kek then svcRet s h 3 []
  else if handleStatus s j.domain kek ≠ 0 then svcRet s h (handleStatus s j.domain kek) []
  else match Config.keyUnwrap (keyOf s kek).key (scratchRead s j (svcArg x 3) len) with
    | none => svcRet s h 3 []
    | some k => newHandle s h j (octetsAt k 0 (len - 8)) false

def execKeyUnwrap (h : Fin 8) (s : State) : Out := ok (svcCall s h 0x22 false (fun s j x => svcKeyUnwrap s j x h))

/-- A handle's key wrapped under a KEK: 8 octets longer than the key. -/
def wrapped (s : State) (kek n : Nat) : List Byte := octetsAt (Config.keyWrap (keyOf s kek).key (keyOf s n).key) 0 ((keyOf s n).len + 8)

/-- KEY_WRAP, refused for a handle created with NOWRAP. -/
def svcKeyWrap (s : State) (j : Job) (x : Hart) (h : Nat) : State :=
  let kek := svcArg x 2
  let n := svcArg x 3
  let d := j.domain
  if !symArg s kek || !symArg s n || !inScratch (svcArg x 4) ((keyOf s n).len + 8) then svcRet s h 3 []
  else if handleStatus s d kek = 2 ∨ handleStatus s d n = 2 ∨ ((keyOf s n).used ∧ (keyOf s n).nowrap) then svcRet s h 2 []
  else if handleStatus s d kek ≠ 0 ∨ handleStatus s d n ≠ 0 then svcRet s h 1 []
  else svcRet (scratchWrite s j (svcArg x 4) (wrapped s kek n)) h 0 [(keyOf s n).len + 8]

def execKeyWrap (h : Fin 8) (s : State) : Out := ok (svcCall s h 0x23 false (fun s j x => svcKeyWrap s j x h))

/-- KEY_DERIVE: the AES-CMAC KDF over the label and context in scratch. -/
def svcKeyDerive (s : State) (j : Job) (x : Hart) (h : Nat) : State :=
  let n := svcArg x 2
  let len := svcArg x 5
  if !keyLenGood len || !inScratch (svcArg x 3) (svcArg x 4) || !symArg s n then svcRet s h 3 []
  else if handleStatus s j.domain n ≠ 0 then svcRet s h (handleStatus s j.domain n) []
  else newHandle s h j (octetsAt (Config.kdf (keyOf s n).key (scratchRead s j (svcArg x 3) (svcArg x 4)) len) 0 len) false

def execKeyDerive (h : Fin 8) (s : State) : Out := ok (svcCall s h 0x24 false (fun s j x => svcKeyDerive s j x h))

/-- CMAC: 16 octets (RFC 4493). -/
def svcCmac (s : State) (j : Job) (x : Hart) (h : Nat) : State :=
  let n := svcArg x 2
  if !inScratch (svcArg x 3) (svcArg x 4) || !inScratch (svcArg x 5) 16 || !symArg s n then svcRet s h 3 []
  else if handleStatus s j.domain n ≠ 0 then svcRet s h (handleStatus s j.domain n) []
  else svcRet (scratchWrite s j (svcArg x 5) (octetsAt (Config.cmac (keyOf s n).key (scratchRead s j (svcArg x 3) (svcArg x 4))) 0 16)) h 0 []

def execCmac (h : Fin 8) (s : State) : Out := ok (svcCall s h 0x25 false (fun s j x => svcCmac s j x h))

/-- KEY_FREE, of a symmetric or a private handle. -/
def svcKeyFree (s : State) (j : Job) (x : Hart) (h : Nat) : State :=
  let n := svcArg x 2
  if 0x10000 ≤ n then svcRet s h 3 []
  else if handleStatus s j.domain n ≠ 0 then svcRet s h (handleStatus s j.domain n) []
  else svcRet (setKey s n {}) h 0 []

def execKeyFree (h : Fin 8) (s : State) : Out := ok (svcCall s h 0x26 false (fun s j x => svcKeyFree s j x h))

/-! ### RANDOM -/

def svcRandom (s : State) (j : Job) (x : Hart) (h : Nat) : State :=
  let len := svcArg x 3
  if len = 0 ∨ 256 < len ∨ !inScratch (svcArg x 2) len then svcRet s h 3 []
  else needRandom s h j len (fun s l => svcRet (scratchWrite s j (svcArg x 2) l) h 0 [])

def execRandom (h : Fin 8) (s : State) : Out := ok (svcCall s h 0x40 false (fun s j x => svcRandom s j x h))

end Sys2Proof.Machine
end

