-- ==== Sys2Proof/Machine/FieldTag.lean ====
section
/-! DEFINITION. The field tag: power, handles, the Type A exchange, application commands and record writes (R589–R611). -/

namespace Sys2Proof.Machine

/-- The base of the TG_ block. -/
def tgA : Nat := 0x300C0000

/-- Main power is present (R502). -/
def mainOn (s : State) : Bool := runs s || s.pw.mode == .dormant

/-- The control die counts and raises for the tag while it is powered (R609). -/
def tagNote (s : State) (src cnt : Nat) (data : List Nat) : State :=
  if runs s then raise (if cnt = 0 then s else cinc s (tgA + cnt)) src data else s

/-! ### Handles (R593, R594) -/

/-- A handle of the own generator, a free value; one that fails its test leaves the handle to the next REQA or WUPA. -/
def ownHandle (s : State) (good : Bool) : State :=
  if good then tagNote (setTagSt (freed s) { s.tag with uid := some (free s % 2 ^ 24), degraded := false }) 173 0x828 []
  else tagNote (setTagSt s { s.tag with uid := none, degraded := true }) 173 0 []

/-- A new handle: from the DRBG while it is RUNNING and USE_DRBG is set, else from the own generator. -/
def drawHandle (s : State) (good : Bool) : State :=
  if runs s && rbit s tgA 1 && canDraw s then
    setTagSt (drewOctets s 3) { s.tag with uid := some (leNat (drawOctets s 3)), degraded := false }
  else ownHandle s good

/-- The handle of a degraded tag: 24 low bits of the carrier cycles at the end of the REQA or WUPA, which the model does not count: a
free value. -/
def lateHandle (s : State) : State :=
  if s.tag.uid.isNone then setTagSt (freed s) { s.tag with uid := some (free s % 2 ^ 24) } else s

/-- The four octets of the UID, and its BCC (R591). -/
def tagUid (s : State) : List Byte := leBytes 1 0x08 ++ leBytes 3 (s.tag.uid.getD 0)
def tagBcc (l : List Byte) : Byte := l.foldl (fun b x => b ^^^ x) 0

/-! ### Power (R589, R603) -/

/-- The write under way is cut; `done` says that the page being written was complete, which counts where it was the copy's last. -/
def tagCut (s : State) (done : Bool) : State :=
  let t := match s.tag.writes with
    | w :: _ => if done && w.page + 1 == tagPages w.kind then setCopy s w.kind (onPrimary w.step) w.copy else s
    | [] => s
  setTagSt t { t.tag with writes := [] }

/-- The session ends with the field. -/
def tagDrop (s : State) : State := setTagSt s { s.tag with field := false, strong := false, iso := .idle, l4 := false, hello := false, stage := [], fsd := 64 }

/-- The tag loses every supply. -/
def tagOff (s : State) (done : Bool) : State :=
  let t := tagDrop (tagCut s done)
  setTagSt t { t.tag with uid := none, degraded := false }

/-- A reader's field rises: IDLE with a handle drawn (R589, R593). -/
def fieldRise (s : State) (strong good : Bool) : State :=
  let s := tagDrop s
  drawHandle (setTagSt s { s.tag with field := true, strong := strong }) good

def execFieldRise (strong ownOk : Bool) (s : State) : Out := ok (fieldRise s strong ownOk)

/-- The field collapses: without main power the tag has no supply (R603). -/
def execFieldCollapse (pageDone : Bool) (s : State) : Out :=
  ok (if !s.tag.field then s else if mainOn s then tagDrop s else tagOff s pageDone)

/-! ### Type A and the block protocol (R590–R593) -/

def tagAnswer (s : State) (l : List Byte) : State := send s (.answer 2 l)

/-- A malformed or unexpected frame: READY and ACTIVE give way to IDLE with a new handle; IDLE and HALT stay (R593, R608). -/
def tagError (s : State) (good : Bool) : State :=
  let s := tagNote s 174 0x830 []
  if s.tag.iso = .ready ∨ s.tag.iso = .active then
    drawHandle (setTagSt s { s.tag with iso := .idle, l4 := false, hello := false }) good
  else s

def execTagProtocolError (ownOk : Bool) (s : State) : Out := ok (if s.tag.field then tagError s ownOk else s)

/-- READY, with ATQA 0x0004. -/
def tagReady (s : State) : State :=
  let t := lateHandle s
  tagAnswer (setTagSt t { t.tag with iso := .ready }) (leBytes 2 4)

/-- REQA brings IDLE to READY; HALT ignores it. -/
def execReqa (ownOk : Bool) (s : State) : Out :=
  ok (if !s.tag.field then s else match s.tag.iso with
    | .idle => tagReady s
    | .halt => s
    | _ => tagError s ownOk)

/-- WUPA brings IDLE and HALT to READY. -/
def execWupa (ownOk : Bool) (s : State) : Out :=
  ok (if !s.tag.field then s else match s.tag.iso with
    | .idle => tagReady s
    | .halt => tagReady s
    | _ => tagError s ownOk)

/-- ANTICOLLISION with the first `n` bits of the UID: a tag they fit answers with the octets from there on. -/
def execAnticollision (n : Fin 33) (v : BitVec 32) (ownOk : Bool) (s : State) : Out :=
  ok (if !s.tag.field then s
      else if s.tag.iso = .ready then
        if leNat (tagUid s) % 2 ^ n.val = v.toNat % 2 ^ n.val then tagAnswer s ((tagUid s ++ [tagBcc (tagUid s)]).drop (n.val / 8)) else s
      else if s.tag.iso = .active then tagError s ownOk else s)

/-- SELECT with a whole UID: ACTIVE and SAK 0x20. -/
def execSelect (v : BitVec 32) (ownOk : Bool) (s : State) : Out :=
  ok (if !s.tag.field then s
      else if s.tag.iso = .ready then
        if leNat (tagUid s) = v.toNat then tagAnswer (tagNote (setTagSt s { s.tag with iso := .active, l4 := false, hello := false }) 168 0x800 []) [0x20] else s
      else if s.tag.iso = .active then tagError s ownOk else s)

/-- HLTA takes ACTIVE to HALT. -/
def execHlta (ownOk : Bool) (s : State) : Out :=
  ok (if !s.tag.field then s
      else if s.tag.iso = .active ∧ s.tag.l4 = false then setTagSt s { s.tag with iso := .halt }
      else tagError s ownOk)

/-- Frame sizes by FSDI, up to 8; the tag sends at most 64 octets (R592). -/
def fsdOf (i : Nat) : Nat := Nat.min 64 (nth [16, 24, 32, 40, 48, 64, 96, 128, 256] i 256)

/-- RATS: the ATS, and a session with a fresh staging buffer (R592, R595). -/
def execRats (fsdi : Fin 16) (ownOk : Bool) (s : State) : Out :=
  ok (if !s.tag.field then s
      else if s.tag.iso = .active ∧ s.tag.l4 = false then
        tagAnswer (setTagSt s { s.tag with l4 := true, hello := false, stage := [], fsd := fsdOf fsdi }) [0x05, 0x75, 0x00, 0x80, 0x00]
      else tagError s ownOk)

/-- PPS: answered, the bit rate kept (R590). -/
def execPps (ownOk : Bool) (s : State) : Out :=
  ok (if !s.tag.field then s else if s.tag.l4 then tagAnswer s [0xD0] else tagError s ownOk)

/-- S(DESELECT): HALT. -/
def execSDeselect (ownOk : Bool) (s : State) : Out :=
  ok (if !s.tag.field then s
      else if s.tag.l4 then tagAnswer (setTagSt s { s.tag with iso := .halt, l4 := false, hello := false }) [0xC2]
      else tagError s ownOk)

/-- A reply would exceed the frame waiting time: S(WTX) with WTXM 1 (R592). -/
def execWtxExpiry (s : State) : Out :=
  ok (if s.tag.l4 && s.tag.writes.any (fun w => w.who == .reader) then tagAnswer s [0xF2, 0x01] else s)

/-! ### Application commands (R595, R596) -/

/-- A reply: status, then data. -/
def tagReply (s : State) (status : Nat) (l : List Byte) : State := tagAnswer s (leBytes 1 status ++ l)

/-- A malformed command, or one before HELLO (R608). -/
def tagWrong (s : State) (status : Nat) : State := tagReply (tagNote s 174 0x830 []) status []

/-- A command of an open session; before HELLO it returns NOT_NOW. -/
def tagCmd (s : State) (body : State → State) : State :=
  if !s.tag.l4 then s else if !s.tag.hello then tagWrong s 1 else body s

/-- HELLO: VERSION for another major. -/
def execTagHello (v : Fin 65536) (s : State) : Out :=
  ok (if !s.tag.l4 then s
      else if v.val / 256 ≠ 1 then tagReply s 0x0A []
      else tagReply (setTagSt s { s.tag with hello := true }) 0 (leBytes 2 0x0100))

/-- IDENTITY. -/
def execIdentity (s : State) : Out :=
  ok (tagCmd s (fun s => tagReply s 0 ((tagPayload s 1).take 8 ++ (tagPayload s 2).take 2 ++ leBytes 2 0x0100 ++
    leBytes 1 (b2n (mainOn s) + 2 * b2n s.tag.degraded + 4 * b2n s.tag.strong + 8 * b2n (tagValue (tagRec s 1)).isNone))))

/-- The live page is served (R606). -/
def tagLive (s : State) : Bool := runs s && rbit s tgA 0 && s.tag.live

/-- SUMMARY: the live page with LIVE set, or the record with LIVE clear (R606). -/
def execSummary (s : State) : Out :=
  ok (tagCmd s (fun s =>
    let put := fun (l : List Byte) (b : Nat) => putOctets l 2 (leBytes 1 ((nth l 2 0).toNat / 8 * 8 + (nth l 2 0).toNat % 4 + 4 * b))
    if tagLive s then tagReply s 0 (leBytes 4 (tagSeq s 3) ++ put (octetsOf (rgets s (tgA + 0x200) 29)) 1)
    else if (tagValue (tagRec s 3)).isNone then tagReply s 1 []
    else tagReply s 0 (leBytes 4 (tagSeq s 3) ++ put (tagPayload s 3) 0)))

/-- COUNTERS. -/
def execCounters (s : State) : Out := ok (tagCmd s (fun s => tagReply s 0 (leBytes 4 (tagSeq s 4) ++ (tagPayload s 4).take 64)))

/-- A reader's write begins only in a life cycle other than SCRAP and, on field power, with WRITE_OK: else its status. -/
def readerWrite (s : State) (kind : Nat) (a : TagAsk) : State :=
  if (tagPayload s 2).head? = some 5 then tagReply s 0x0C []
  else if !mainOn s && !s.tag.strong then tagReply s 1 []
  else tagQueue s { kind := kind, ask := a, who := .reader }

/-- INCREMENT of counter 4–15. -/
def execIncrement (c amount : Fin 256) (s : State) : Out :=
  ok (tagCmd s (fun s =>
    if c.val < 4 ∨ 16 ≤ c.val ∨ amount.val = 0 then tagWrong s 3
    else if tagCounter s c + amount.val < 2 ^ 32 then readerWrite s 4 (.counter c amount)
    else tagReply s 4 []))

/-- INBOX_READ. -/
def execInboxRead (off : Fin 65536) (len : Fin 256) (s : State) : Out :=
  ok (tagCmd s (fun s =>
    if 1024 ≤ off.val ∨ len.val = 0 ∨ 56 < len.val then tagWrong s 3
    else
      let n := leNat ((tagPayload s 5).take 2)
      tagReply s 0 (leBytes 4 (tagSeq s 5) ++ leBytes 2 n ++ octetsAt (tagPayload s 5) (4 + off.val) (Nat.min len.val (n - off.val)))))

/-- The staging buffer, which reads 0 at the start of a session. -/
def tagStage (s : State) : List Byte := octetsAt s.tag.stage 0 1024

/-- INBOX_STAGE. -/
def execInboxStage (off : Fin 65536) (data : List Byte) (s : State) : Out :=
  ok (tagCmd s (fun s =>
    if data.length = 0 ∨ 56 < data.length ∨ 1024 < off.val + data.length then tagWrong s 3
    else tagReply (setTagSt s { s.tag with stage := putOctets (tagStage s) off data }) 0 []))

/-- INBOX_COMMIT: the whole record from the staging buffer. -/
def execInboxCommit (len : Fin 65536) (crc : BitVec 32) (s : State) : Out :=
  ok (tagCmd s (fun s =>
    if 1024 < len.val then tagWrong s 3
    else if crc32c ((tagStage s).take len) ≠ crc.toNat then tagReply s 3 []
    else readerWrite s 5 (.payload (leBytes 2 len ++ leBytes 2 0 ++ tagStage s))))

/-! ### Page writes (R602) -/

/-- The value a reader's write returns: the counter's new value, or the new SEQ. -/
def wroteValue (w : TagWrite) : List Byte :=
  match w.ask with
  | .counter c _ => octetsAt w.copy.payload (4 * c) 4
  | .payload _ => leBytes 4 w.copy.seq

/-- The write ends, with its result: the reader's reply, or TG_RES and source 170, which waits for the next start where the control die is not powered
(R608); the next begins. -/
def tagEnd (s : State) (w : TagWrite) (good : Bool) : State :=
  let cnt := match w.ask with
    | .counter c _ => c
    | .payload _ => 0
  let s := match w.who with
    | .reader =>
      let s := if good then tagNote s 169 0x808 [w.kind, cnt, w.copy.seq] else s
      if s.tag.l4 then (if good then tagReply s 0 (wroteValue w) else tagReply s 1 []) else s
    | .device =>
      let s := setTagSt s { s.tag with code := if good then 0 else 1, repaired := w.repaired, kind := w.kind }
      if runs s then tagNote s 170 (if good then 0x810 else 0) [w.kind] else setTagSt s { s.tag with owed := s.tag.owed ++ [w.kind] }
  let s := if good && runs s then setTagSt s { s.tag with seen := tput (fun _ => 0) s.tag.seen w.kind w.copy.seq } else s
  tagNext s

/-- A copy is complete and verified: the next step (R602). -/
def tagCopyDone (s : State) (w : TagWrite) : State :=
  let s := setCopy s w.kind (onPrimary w.step) w.copy
  let begin := fun (t : State) => tagEnter t { w with step := .writeB, copy := newCopy t w.kind w.ask }
  match w.step with
  | .repairB => begin (tagNote s 171 0x818 [w.kind])
  | .repairP => begin (tagNote s 171 0x818 [w.kind])
  | .writeB => tagEnter s { w with step := .writeP }
  | .writeP => tagEnd s w true

/-- A page is written and verified; a verify that fails repeats its write once, and then ends the write. -/
def pageWritten (s : State) (good : Bool) : State :=
  match s.tag.writes with
  | [] => s
  | w :: r =>
    if good then
      if w.page + 1 < tagPages w.kind then setTagSt s { s.tag with writes := { w with page := w.page + 1, failed := false } :: r }
      else tagCopyDone s w
    else if w.failed then tagEnd (tagNote s 172 0x820 [tagPage w.kind (onPrimary w.step) + w.page]) w false
    else setTagSt s { s.tag with writes := { w with failed := true } :: r }

def execNvmPageWriteComplete (verifyOk : Bool) (s : State) : Out := ok (pageWritten s verifyOk)

/-! ### TG_CMD (R610) -/

/-- A command is refused under R18 while BUSY, and for a KIND that is none. -/
def tgBad (s : State) (kind : Nat) : Bool := !s.tag.writes.isEmpty || kind == 0 || decide (5 < kind)

/-- TG_CMD WRITE: COUNTERS never; IDENT and LIFECYCLE not after step 10 of the start. -/
def execTgWrite (kind : Fin 8) (s : State) : Out :=
  ok (if !runs s then s
      else if tgBad s kind || kind.val == 4 || (kind.val ≤ 2 && decide (10 ≤ s.pw.step)) then refuse s (tgA + 0x0C)
      else tagDevice s kind (.payload (octetsOf (rgets s (tgA + 0x400) 272))))

/-- TG_CMD INCREMENT of counter 0–3. -/
def execTgIncrement (c : Fin 4) (s : State) : Out :=
  ok (if !runs s then s else if !s.tag.writes.isEmpty then refuse s (tgA + 0x0C) else tagDevice s 4 (.counter c 1))

/-- TG_CMD READ: the payload in TG_BUF; ABSENT and source 171 where no copy is valid (R609). -/
def execTgRead (kind : Fin 8) (s : State) : Out :=
  ok (if !runs s then s
      else if tgBad s kind then refuse s (tgA + 0x0C)
      else
        let s := if (tagValue (tagRec s kind)).isNone then raise s 171 [kind] else s
        let s := rsets s (tgA + 0x400) (wordsOf (cdiv (tagLen kind) 4) (tagPayload s kind))
        setTagSt s { s.tag with code := if (tagValue (tagRec s kind)).isNone then 2 else 0, repaired := false, kind := kind })

end Sys2Proof.Machine
end

