-- ==== Sys2Proof/Machine/MeterOps.lean ====
section
/-! DEFINITION. Shared operations of metering: the landing ring and the start of a boundary (R306, R308, R310). -/

namespace Sys2Proof.Machine

def setMt (s : State) (x : MtSt) : State := { s with mt := x }

/-- The bank that is frozen (R300). -/
def frozenBank (s : State) : Nat := 1 - s.bank

/-- Octets of a counter record of a bank (R151, R153), and its landing-ring form: a domain record is followed by zeros. -/
def saRecord (s : State) (bank n : Nat) : List Byte :=
  (List.range 8).flatMap (fun i => leBytes 8 (tget (fun _ => (0 : W64)) s.saCnt ((bank * 65536 + n) * 8 + i)).toNat)
def domRecord (s : State) (bank d : Nat) : List Byte :=
  (List.range 4).flatMap (fun i => leBytes 8 (tget (fun _ => (0 : W64)) s.domCnt ((bank * 4096 + d) * 4 + i)).toNat)
def anyRecord (s : State) (bank k : Nat) : List Byte := if k < 65536 then saRecord s bank k else domRecord s bank (k - 65536) ++ List.replicate 32 0

def recDamaged (s : State) (bank k : Nat) : Bool := tget (fun _ => false) s.mt.damaged (131072 * bank + k)
def recTouched (s : State) (bank k : Nat) : Bool := tget (fun _ => false) s.mt.touched (131072 * bank + k)

/-- A landing-ring entry (R310). -/
def ringEntry (s : State) (k : Nat) : List Byte :=
  leBytes 4 (packFields [(k % 65536, 0), (k / 65536, 17), (b2n (recDamaged s (frozenBank s) k), 18)]) ++ List.replicate 12 0 ++ anyRecord s (frozenBank s) k

/-- One entry delivered to the landing ring through MPU 25; a refused one is not written, with source 197 (R424). -/
def deliverOne (s : State) (k : Nat) : State :=
  let a := rf s (mtA + 0x20) 31 0 + 80 * (s.mt.tail % 512)
  let s' := match bufferFault s 25 .store a 80 with
    | some e => raise (noteRefusal s 25 (a + e.1) e.2 3 0) 197 [a + e.1]
    | none => memWrite s a (ringEntry s k)
  cinc (setMt s' { s'.mt with tail := (s'.mt.tail + 1) % 65536, left := s'.mt.left.tail }) (mtA + 0x108)

/-- Entries of the ring not yet released. -/
def ringHeld (s : State) : Nat := (s.mt.tail + 65536 - rf s (mtA + 0x28) 15 0) % 65536

/-- The engine delivers what the ring has room for, and stalls while it is full (R310). Nothing crosses without a session. -/
def deliver (s : State) : State :=
  if s.mt.frozen ≠ .harvesting ∨ !s.culm.session then s
  else
    let t := (s.mt.left.take (512 - ringHeld s)).foldl deliverOne s
    if t.mt.left = [] then t else setMt t { t.mt with stallAt := some (t.mt.stallAt.getD t.now) }

/-- Step 1 of a boundary: the CLOSE record, so that the next epoch counts as opened (R308, R309). -/
def boundaryStart (s : State) (b : Boundary) : State :=
  setMt s { s.mt with boundary := some b, due := false, highest := s.mt.minute.map (fun m => m + 1) }

/-- A boundary can be placed: the frozen bank is CLEARED and a session is up (R306). -/
def boundaryReady (s : State) : Bool := s.mt.frozen == .cleared && s.culm.session

/-- The timer's boundary begins: TIMER mode, with offset 1 as it is entered (R306, R325). -/
def timerBoundary (s : State) : State :=
  let s := if s.mt.timer then s else raise (setMt s { s.mt with timer := true }) (mtSrc + 1) []
  boundaryStart s { timer := true }

/-- A timer boundary that was waiting begins once it can (R306). -/
def boundaryDue (s : State) : State := if s.mt.due && boundaryReady s && s.mt.boundary.isNone then timerBoundary s else s

end Sys2Proof.Machine
end

