-- ==== Sys2Proof/Machine/PortBlocks.lean ====
section
/-! DEFINITION. Port blocks, lanes and link partners (chapter 1): mode and enables, link state, frames in and out, pauses,
power and wake. -/

namespace Sys2Proof.Machine

/-! ### Modes and enables -/

/-- The defaults that a write of MODE loads into a slot (R43); with no logical port, the reset values. -/
def slotDefaults (s : State) (p m : Nat) : State :=
  let k := (modeSlots m).length
  let pool := if m = 4 then 49152 else 24576
  let cap := pool / k
  let xoff := cap * 2 / 3
  let xon := xoff * 7 / 8
  let icap := pool / 3 / k
  let ixoff := icap / 2
  let ixon := ixoff * 7 / 8
  let a := slotA p
  let th := fun (lo hi : Nat) => w32 (packFields [(lo, 0), (hi, 16)])
  if k = 0 then
    rset (rset (rset (rset (rset (rset s (a + 0x08) 0) (a + 0x0C) 0) (a + 0x10) 0) (a + 0x14) 0) (a + 0x18) 0) (a + 0x1C) 0
  else
    rset (rset (rset (rset (rset (rset s (a + 0x08) (th xoff xon)) (a + 0x0C) (w32 cap)) (a + 0x10) (th ixoff ixon))
      (a + 0x14) (w32 icap)) (a + 0x18) (th (xoff / 4) (xon / 4))) (a + 0x1C) (th 0xFFFF 0x8000)

/-- A MODE value may be written to the block (R27, R35, R55). -/
def modeLegal (s : State) (b m : Nat) : Bool :=
  decide (m ≤ 5) && !anySlotOn s b && !(m == 4 && b % 2 == 1) && !(m == 5 && (b % 2 == 0 || modeOf s (b - 1) != 4))

/-- A write of MODE (R43, R55). -/
def modeWrite (s : State) (b m : Nat) : State :=
  if modeLegal s b m then
    let t := rsetf s (pbA b) 2 0 m
    powerEvent s (slotDefaults (slotDefaults (slotDefaults (slotDefaults t (4 * b) m) (4 * b + 1) m) (4 * b + 2) m) (4 * b + 3) m) b
  else refuse s (pbA b)

/-- One slot enabled: each side enters WAIT_SIGNAL; or disabled: each side enters DISABLED (R32). -/
def slotSet (s : State) (p : Nat) (on : Bool) : State :=
  let st := if on then Link.waitSignal else Link.disabled
  linkTo (linkTo s p .host st) p .line st

/-- A write of SLOT_EN; bits for slots the mode lacks are ignored (R27, R55). -/
def slotEnWrite (s : State) (b mask : Nat) : State :=
  let old := slotEn s b
  let bitIf := fun (i : Nat) => if portExists s (4 * b + i) && mask.testBit i then 2 ^ i else 0
  let new := bitIf 0 + bitIf 1 + bitIf 2 + bitIf 3
  let t := rsetf s (pbA b) 7 4 new
  let t := (List.range 4).foldl (fun t i =>
    if old.testBit i = new.testBit i then t else slotSet t (4 * b + i) (new.testBit i)) t
  let t := if new = 0 then setBlock (if isLead s b then setBlock t (b + 1) {} else t) b {} else t
  powerEvent s t b

def execModeWrite (block : Fin 16) (mode : Fin 8) (s : State) : Out := powered s (modeWrite s block mode)

def execSlotEnableWrite (block : Fin 16) (mask : Fin 16) (s : State) : Out := powered s (slotEnWrite s block mask)

/-- The interface, negotiation and training fields of PB_PCFG_s, which R35 holds while a slot is enabled. -/
def ifMask : Nat := 0x7FF

/-- The settings of PB_PCFG_s that R28, R30, R35 and R56 allow. -/
def pcfgLegal (s : State) (p : Nat) (v : W32) : Bool :=
  decide (fld v 14 13 ≠ 3) && decide (fld v 3 0 ∈ [0, 1, 3]) && decide (fld v 7 4 ≤ 4) &&
    !(bitAt v.toNat 8 && decide (fld v 7 4 ∉ [3, 4])) &&
    !(anySlotOn s (p / 4) && decide (fld v 10 0 ≠ rf s (slotA p) 10 0))

/-- A write to PB_PCFG_s: a change of FC or FC_LINE first releases what the old setting asserts (R35). -/
def pcfgWrite (s : State) (p : Nat) (v : W32) : State :=
  if pcfgLegal s p v then
    let changed := fld v 15 13 != rf s (slotA p) 15 13
    let t := if changed then releasePause (releasePause s p .egress) p .ingress else s
    let t := rset t (slotA p) (v &&& 0x1FFFFFFF)
    let t := if changed then pauseUpdate (pauseUpdate t p .egress) p .ingress else t
    let t := faultUpdate t p
    if fld v 31 29 = 0 then t else refuse t (slotA p)
  else refuse s (slotA p)

def execPortConfigWrite (port : Fin 64) (v : W32) (s : State) : Out := powered s (pcfgWrite s port v)

/-! ### Link state (R32, R33) -/

/-- LT_EN of a side (R684). -/
def ltEn (s : State) (p : Nat) : Side → Bool
  | .host => rbit s (slotA p) 9
  | .line => rbit s (slotA p) 10

/-- The lane event source of a side's i-th lane (R54 offsets 8–15). -/
def laneSrc (q : Nat × Nat) : Nat := pbSrc q.1 + 8 + q.2

/-- Raise the lane events of lanes. -/
def laneEvents (s : State) (l : List (Nat × Nat)) (what : Nat) : State := l.foldl (fun t q => raise t (laneSrc q) [what]) s

/-- The state a side with signal moves to after negotiation: TRAINING or ALIGNING (R32). -/
def afterAn (s : State) (p : Nat) (sd : Side) : State :=
  if ltEn s p sd then linkTo (modLanes s (portLanes s p sd) (fun x => { x with train := 1 })) p sd .training
  else linkTo (modLanes s (portLanes s p sd) (fun x => { x with train := 0 })) p sd .aligning

/-- A side with signal on every lane leaves WAIT_SIGNAL (R32). -/
def signalMove (s : State) (p : Nat) (sd : Side) : State :=
  if (sideOf s p sd).link = .waitSignal then
    if sd = .line ∧ rbit s (slotA p) 8 then linkTo s p sd .an else afterAn s p sd
  else s

/-- The block's side is gated (R51). -/
def gated (s : State) (b : Nat) : Side → Bool
  | .host => (blockOf s b).gatedHost
  | .line => (blockOf s b).gatedLine

/-- Signal on every lane of a side: a gated side powers up first (R32, R52). -/
def signalDetect (s : State) (p : Nat) (sd : Side) : State :=
  if !portOn s p then s
  else
    let l := portLanes s p sd
    let g := gated s (p / 4) sd
    let s := laneEvents (modLanes s l (fun x => { x with sig := true, cdr := if g then x.cdr else true })) l 1
    if g then s else signalMove s p sd

def execLaneSignalDetect (port : Fin 64) (side : Side) (s : State) : Out := powered s (signalDetect s port side)

/-- One lane loses signal or lock: the whole side leaves for WAIT_SIGNAL (R32, R33, R53); a side still aligning starts its
hold afresh on a loss of lock alone. -/
def lockLoss (s : State) (p : Nat) (sd : Side) (lane : Nat) (signal : Bool) : State :=
  match (portLanes s p sd)[lane]? with
  | none => s
  | some q =>
    if !portOn s p then s
    else
      let s := raise (modLanes s [q] (fun x => { x with sig := !signal && x.sig, cdr := false })) (laneSrc q) [if signal then 2 else 3]
      let x := sideOf s p sd
      if sideUp x ∨ x.link = .fault ∨ signal then linkTo s p sd .waitSignal
      else setSide s p sd { x with aligned := false }

def execLaneLockLoss (port : Fin 64) (side : Side) (lane : Fin 8) (signal : Bool) (s : State) : Out :=
  powered s (lockLoss s port side lane signal)

/-- Auto-negotiation ends; without the ability the side stays in AN and raises its link event once (R30). -/
def anDone (s : State) (p : Nat) (ability : Bool) : State :=
  let x := sideOf s p .line
  if x.link ≠ .an then s
  else if ability then afterAn (setSide s p .line { x with anDone := true }) p .line
  else if x.anFail then s
  else raise (setSide s p .line { x with anFail := true }) (linkSrc p .line) [x.link.code, x.link.code]

def execAnComplete (port : Fin 64) (ability : Bool) (s : State) : Out := powered s (anDone s port ability)

/-- The trained coefficients and precoding placed in the lanes' registers (R31, R58). -/
def putTrained : State → List (Nat × Nat) → List W32 → Bool → State
  | s, [], _, _ => s
  | s, q :: r, w, pre =>
    let x := laneOf s q.1 q.2
    let s := setLane s q.1 q.2 { x with train := 2, precTx := pre, precRx := pre }
    putTrained (rset s (laneA q.1 q.2 + 8) (w.headD (rget s (laneA q.1 q.2 + 8)) &&& 0x7FFFFFF)) r w.tail pre

def trainingDone (s : State) (p : Nat) (sd : Side) (txeq : List W32) (pre : Bool) : State :=
  if (sideOf s p sd).link ≠ .training then s
  else
    let l := portLanes s p sd
    linkTo (laneEvents (putTrained s l txeq pre) l 4) p sd .aligning

def execTrainingComplete (port : Fin 64) (side : Side) (txeq : List W32) (precode : Bool) (s : State) : Out :=
  powered s (trainingDone s port side txeq precode)

/-- A failed attempt restarts; its event coalesces by repeat count (R31). -/
def trainingFail (s : State) (p : Nat) (sd : Side) (lane : Nat) : State :=
  match (portLanes s p sd)[lane]? with
  | none => s
  | some q => if (sideOf s p sd).link ≠ .training then s else raise (modLanes s [q] (fun x => { x with train := 1 })) (laneSrc q) [5]

def execTrainingFail (port : Fin 64) (side : Side) (lane : Fin 8) (s : State) : Out := powered s (trainingFail s port side lane)

/-- FEC and alignment lock on all lanes starts UP_HOLD (R32). -/
def alignLock (s : State) (p : Nat) (sd : Side) : State :=
  let x := sideOf s p sd
  if x.link ≠ .aligning then s
  else setSide (modLanes s (portLanes s p sd) (fun y => { y with cdr := true })) p sd { x with aligned := true }

def execAlignmentLock (port : Fin 64) (side : Side) (s : State) : Out := powered s (alignLock s port side)

def execUpHoldExpiry (port : Fin 64) (side : Side) (s : State) : Out :=
  let x := sideOf s port side
  powered s (if x.link = .aligning ∧ x.aligned then linkTo s port side .up else s)

def execFaultReceived (port : Fin 64) (side : Side) (s : State) : Out :=
  powered s (if sideUp (sideOf s port side) then linkTo s port side .fault else s)

def execFaultClearExpiry (port : Fin 64) (side : Side) (s : State) : Out :=
  powered s (if (sideOf s port side).link = .fault then linkTo s port side .up else s)

/-- The degrade source of a side (R54 offsets 16–23). -/
def degSrc (p : Nat) (sd : Side) : Nat := pbSrc (p / 4) + 16 + 4 * sideNum sd + p % 4

/-- An uncorrectable codeword: counted, the frame in reception corrupted, and at UNCORR the side is degraded (R53, R684). -/
def fecUncorr (s : State) (p : Nat) (sd : Side) : State :=
  let x := sideOf s p sd
  if x.link = .disabled then s
  else
    let s := cinc s (slotCnt p (match sd with | .host => 0x1B0 | .line => 0x1C0))
    let s := setSide s p sd { x with uncorr := x.uncorr + 1, recv := x.recv.map (fun r => { r with corrupt := true }) }
    if x.link = .up ∧ rf s (pbA (p / 4) + 0x18) 15 0 ≤ x.uncorr + 1 then
      let s := raise (linkTo s p sd .degraded) (degSrc p sd) [x.uncorr + 1]
      if rbit s (pbA (p / 4) + 0x18) 16 then linkTo s p sd .waitSignal else s
    else s

def execFecUncorrectable (port : Fin 64) (side : Side) (s : State) : Out := powered s (fecUncorr s port side)

/-- The window of one side ends (R684). -/
def windowEnd (s : State) (p : Nat) (sd : Side) : State :=
  let x := sideOf s p sd
  let s := setSide s p sd { x with uncorr := 0 }
  if x.link = .degraded ∧ x.uncorr < rf s (pbA (p / 4) + 0x18) 15 0 then linkTo s p sd .up else s

def execFecWindowEnd (block : Fin 16) (s : State) : Out :=
  powered s ((List.range 4).foldl (fun t i => windowEnd (windowEnd t (4 * block + i) .host) (4 * block + i) .line) s)

/-! ### Frames in and out -/

/-- The LEN_ERR, FCS_ERR or MAC_CTL_OTHER source of a slot (R54 offsets 36–39). -/
def macSrc (p : Nat) : Nat := pbSrc (p / 4) + 36 + p % 4

/-- A frame refused under R42. -/
def poolDrop (s : State) (p : Nat) (d : Dir) : State :=
  raise (cinc s (slotCnt p (match d with | .egress => 0x160 | .ingress => 0x168))) (pbSrc (p / 4) + 32 + p % 4) [dirNum d]

/-- Every block of a port sees an admitted frame; a pool with no free cell raises offset 42 (R51, R54). -/
def admitted (s : State) (p : Nat) (d : Dir) : State :=
  let s := (portBlocks s p).foldl (fun t b => blockAdmit t b) s
  let s := if poolSize s (p / 4) ≤ poolUsed s (p / 4) .egress + poolUsed s (p / 4) .ingress then raise s (pbSrc (p / 4) + 42) [] else s
  pauseUpdate s p d

/-- A frame starts to arrive (R38, R42, R53). -/
def frameArrive (s : State) (p : Nat) (sd : Side) (pcp : Option Nat) : State :=
  let d := dirOf sd
  let x := sideOf s p sd
  if !portExists s p || x.recv.isSome then s
  else if !sideUp x || !sideUp (sideOf s p (otherSide sd)) then cinc s (downDrop p d)
  else
    let n := reserveCells s p
    if hasRoom s p d n then
      let f : Frame := { prio := pcp.getD (rf s (slotA p) 28 26), cells := n }
      let s := setSide s p sd { x with recv := some {} }
      admitted (setFrames s p d (framesOf s p d ++ [f])) p d
    else poolDrop s p d

def execFrameArrival (port : Fin 64) (side : Side) (pcp : Option (Fin 8)) (s : State) : Out :=
  powered s (frameArrive s port side (pcp.map (fun c => c.val)))

/-- A punted frame dropped (R82). -/
def puntDrop (s : State) (p : Nat) (stg : Nat) : State :=
  raise (cinc s (stA stg + 0x130 + 0x40 * (p % 4))) (stSrc stg + 4 + p % 4) []

def puntOf (s : State) (stg : Nat) : List PuntFrame := tget (fun _ => []) s.line.punt stg

def setPunt (s : State) (stg : Nat) (l : List PuntFrame) : State :=
  { s with line := { s.line with punt := tput (fun _ => []) s.line.punt stg l } }

/-- A TO_HOST frame copied into its stage's punt buffer, or dropped; each stage has its own bucket for a slot (R78, R82). -/
def puntFrame (s : State) (p : Nat) (sd : Side) (stg seq : Nat) (octets : List Byte) (dom : Nat) (cookie : W32) : State :=
  let l := puntOf s stg
  let used := (l.map (fun f => f.octets.length)).sum
  let k := 4 * stg + p % 4
  let tok := tget (fun _ => 0) s.line.puntUsed k
  if 1536 < octets.length ∨ 32 ≤ l.length ∨ 32768 < used + octets.length ∨
      rf s (stA stg + 0x104 + 0x40 * (p % 4)) 23 16 ≤ tok then puntDrop s p stg
  else
    let at_ := tget (fun _ => 0) s.line.puntPtr stg
    let s := setPunt s stg (l ++ [⟨octets, p % 4, dirOf sd, dom, cookie, at_, seq⟩])
    let s := { s with line := { s.line with puntPtr := tput (fun _ => 0) s.line.puntPtr stg ((at_ + octets.length) % 32768),
                                            puntUsed := tput (fun _ => 0) s.line.puntUsed k (tok + 1) } }
    raise (cinc s (stA stg + 0x128 + 0x40 * (p % 4))) (stSrc stg + 8) [l.length + 1]

/-- The stage that resolves the frame of a sequence number (R78). -/
def stageOf (s : State) (p seq : Nat) : Nat := if isLead s (p / 4) then p / 4 + seq % 2 else p / 4

/-- Cells a frame keeps once its length is known: those of the longer of its received and its protected form (R41, R42). -/
def keepCells (d : Dir) (f : Frame) : Nat :=
  let grown := match d, f.act with
    | .egress, .protect => f.octets.length + (if f.slot.isNone then 32 else sectagLen (f.entry.sectag == 1) + 16)
    | _, _ => f.octets.length
  Nat.min f.cells (cdiv grown 64)

/-- The last octet of a frame arrives (R38, R39, R53). -/
def frameEnds (s : State) (p : Nat) (sd : Side) (octets : List Byte) (fcsOk : Bool) : State :=
  let d := dirOf sd
  let x := sideOf s p sd
  match x.recv with
  | none => s
  | some r =>
    let lenCnt := slotCnt p (match sd with | .host => 0x190 | .line => 0x198)
    let fcsCnt := slotCnt p (match sd with | .host => 0x180 | .line => 0x188)
    if r.seq = 0 then
      if octets.length < 64 then
        let s := setSide s p sd { x with recv := none }
        if (framesOf s p d).any (fun f => f.seq == 0) then raise (cinc (endFrame s p d 0) lenCnt) (macSrc p) [0] else s
      else s
    else
      let s := setSide s p sd { x with recv := none }
      let long := decide (sideLimit s p sd < octets.length)
      let good := fcsOk && !r.corrupt
      let bad := if long then InBad.long else if good then InBad.none else InBad.fcs
      let s := if long then raise (cinc s lenCnt) (macSrc p) [1] else if good then s else raise (cinc s fcsCnt) (macSrc p) [2]
      let kept := octets.take (sideLimit s p sd)
      let s := match r.punt with
        | some q => if bad = .none then puntFrame s p sd (stageOf s p r.seq) r.seq octets q.1 q.2 else s
        | none => s
      let s := modFrame s p d r.seq (fun f => let g := { f with octets := kept, ended := true, bad := bad }; { g with cells := keepCells d g })
      pauseUpdate (tryVerdict s p d) p d

def execFrameEnd (port : Fin 64) (side : Side) (octets : List Byte) (fcsOk : Bool) (s : State) : Out :=
  powered s (frameEnds s port side octets fcsOk)

/-- The last octet of the head frame leaves: it is sent with the end its fate gives it, its cells return (R41, R147). -/
def txComplete (s : State) (p : Nat) (d : Dir) : State :=
  match headOf s p d with
  | none => s
  | some f =>
    match f.fate with
    | none => s
    | some fate =>
      if !f.started || !(f.ended || f.injected || fate == .stompTrunc) then s
      else
        let o := match fate with
          | .pass => withFcs f.out
          | .stompFull => withStomp f.out
          | .stompTrunc => withStomp (padTo 60 f.out)
        let s := send s (.frame p (outSide d) o fate)
        let s := if f.injected then
            raise (cinc { s with line := { s.line with injWait := tput (fun _ => false) s.line.injWait f.stg false } } (stA f.stg + 0x210))
              (stSrc f.stg + 9) [p % 4]
          else s
        faultUpdate (headRun (endFrame s p d f.seq) p d) p

def execFrameTxComplete (port : Fin 64) (dir : Dir) (s : State) : Out := powered s (txComplete s port dir)

/-! ### Pauses -/

/-- The direction a side's asserted pause guards, and its counter of frames sent. -/
def pauseTxCnt (p : Nat) : Side → Nat
  | .host => slotCnt p 0x140
  | .line => slotCnt p 0x150

/-- The pause frame repeated (R44, R45, R47). -/
def pauseRefresh (s : State) (p : Nat) (sd : Side) : State :=
  let x := sideOf s p sd
  let m := pausedMask s p x
  if m = 0 ∨ rf s (slotA p + 0x1C) 31 16 = 0 ∨ !sideUp x then s
  else cinc (send s (if fcOf s p = 2 then .pfc p sd m m (quantaOf s p) else .pause p sd (quantaOf s p))) (pauseTxCnt p sd)

def execPauseRefreshExpiry (port : Fin 64) (side : Side) (s : State) : Out := powered s (pauseRefresh s port side)

/-- A PAUSE (no class vector) or PFC frame is received (R46). -/
def pauseReceive (s : State) (p : Nat) (sd : Side) (classes : Option Nat) (quanta : Nat) : State :=
  let x := sideOf s p sd
  if !portExists s p then s
  else if !sideUp x then cinc s (downDrop p (dirOf sd))
  else
    let s := cinc s (slotCnt p (match sd with | .host => 0x148 | .line => 0x158))
    if !rbit s (slotA p) (match sd with | .host => 16 | .line => 17) ∨ classes = some 0 then s
    else setSide s p sd { x with stopped := decide (quanta ≠ 0) }

def execPauseReceived (port : Fin 64) (side : Side) (classes : Option (Fin 256)) (quanta : Fin 65536) (s : State) : Out :=
  powered s (pauseReceive s port side (classes.map (fun c => c.val)) quanta)

def execPauseQuantaExpiry (port : Fin 64) (side : Side) (s : State) : Out :=
  powered s (setSide s port side { sideOf s port side with stopped := false })

/-- A MAC control frame of another opcode (R40, R53). -/
def macControl (s : State) (p : Nat) (sd : Side) : State :=
  if !portExists s p then s
  else if !sideUp (sideOf s p sd) then cinc s (downDrop p (dirOf sd))
  else raise (cinc s (slotCnt p 0x1A0)) (macSrc p) [3]

def execMacControlFrame (port : Fin 64) (side : Side) (s : State) : Out := powered s (macControl s port side)

/-! ### Power (R51, R52) -/

/-- No slot of the block has the side UP or DEGRADED, and no lane of it sees signal. -/
def sideQuiet (s : State) (b : Nat) (sd : Side) : Bool :=
  (List.range 4).all (fun i => !sideUp (sideOf s (4 * b + i) sd)) &&
    (List.range 4).all (fun i => !(laneOf s b (4 * sideNum sd + i)).sig)

def gateSide (s : State) (b : Nat) (sd : Side) : State :=
  if rf s (pbA b + 0x10) 31 16 = 0 ∨ !anySlotOn s b ∨ !sideQuiet s b sd then s
  else
    let x := blockOf s b
    powerEvent s (setBlock s b (match sd with | .host => { x with gatedHost := true } | .line => { x with gatedLine := true })) b

def execSideGateExpiry (block : Fin 16) (side : Side) (s : State) : Out := powered s (gateSide s block side)

/-- IDLE_US passes with no admitted frame; 0 keeps the block ACTIVE (R51, R55). -/
def blockIdle (s : State) (b : Nat) : State :=
  if rf s (pbA b + 0x10) 15 0 = 0 then s
  else powerEvent s (setBlock s b { blockOf s b with active := false, tclk := false }) b

def execBlockIdleExpiry (block : Fin 16) (s : State) : Out := powered s (blockIdle s block)

def tillerWake (s : State) (b : Nat) : State :=
  let x := blockOf s b
  if x.wake then raise (setBlock s b { x with wake := false, tclk := true }) (pbSrc b + 41) [] else s

def execTillerWakeComplete (block : Fin 16) (s : State) : Out := powered s (tillerWake s block)

/-- The ports of a block whose lanes lie in it. -/
def blockPorts (s : State) (b : Nat) : List Nat :=
  if modeOf s b = 5 then [4 * (b - 1)] else (modeSlots (modeOf s b)).map (fun i => 4 * b + i)

/-- A gated side is powered and its CDR locked; each of its ports with signal on every lane moves on (R52 step 5). -/
def sidePowered (s : State) (b : Nat) (sd : Side) : State :=
  let x := blockOf s b
  if !gated s b sd then s
  else
    let t := setBlock s b (match sd with | .host => { x with gatedHost := false } | .line => { x with gatedLine := false })
    let t := modLanes t ((List.range 4).map (fun i => (b, 4 * sideNum sd + i))) (fun y => { y with cdr := y.sig })
    powerEvent s ((blockPorts s b).foldl (fun t p =>
      if portOn t p && (portLanes t p sd).all (fun q => (laneOf t q.1 q.2).sig) then signalMove t p sd else t) t) b

def execSidePowerUpComplete (block : Fin 16) (side : Side) (s : State) : Out := powered s (sidePowered s block side)

/-- The errors a lane has counted: those kept, and those since, whose number no rule gives and no command tells (log entry 32). -/
def laneCount (s : State) (b n : Nat) (sym : Bool) : Nat :=
  let x := laneOf s b n
  Nat.min 0xFFFFFFFF ((if sym then x.symErr else x.patErr) + free s)

/-- LN_PATERR_n or LN_SYMERR_n is read and cleared (R58). -/
def laneCleared (s : State) (b n : Nat) (sym : Bool) : State :=
  let x := laneOf s b n
  freed (setLane s b n (if sym then { x with symErr := 0 } else { x with patErr := 0 }))

def execLaneErrorCountRead (block : Fin 16) (lane : Fin 8) (sym : Bool) (s : State) : Out :=
  powered s (answer (laneCleared s block lane sym) [laneCount s block lane sym])

end Sys2Proof.Machine
end

