-- ==== Sys2Proof/Machine/Steering.lean ====
section
/-! DEFINITION. Steering stages (chapter 2): exact match, rules, resolution, admission and the key fetch, punts and
injection. -/

namespace Sys2Proof.Machine

/-! ### Tables -/

/-- The lead stage of a stage's pair, whose tables and ST_SCFG_s serve both (R78). -/
def leadStage (s : State) (b : Nat) : Nat := if modeOf s b = 5 then b - 1 else b

def emEntry (s : State) (b i : Nat) : List W32 := tget (fun _ => []) s.line.em (4096 * b + i)
def ruleEntry (s : State) (b i : Nat) : List W32 := tget (fun _ => []) s.line.rules (256 * b + i)

/-- Word `i` of an entry or rule; an unlisted one is all zeros (R85). -/
def wordAt (l : List W32) (i : Nat) : W32 := l.getD i 0

/-- The key a KTYPE uses, as one number: DIR, SLOT, KTYPE, then its key fields (R66). -/
def keyNum (k dir slot tpo vo tpi vi sci : Nat) : Nat :=
  let fields := match k with
    | 4 => [(sci, 16), (tpo, 80), (vo, 82)]
    | 3 => [(sci, 16)]
    | 2 => [(tpo, 80), (vo, 82), (tpi, 96), (vi, 98)]
    | 1 => [(tpo, 80), (vo, 82)]
    | _ => []
  packFields ([(dir, 0), (slot, 1), (k, 3)] ++ fields)

/-- The key of an entry's words. -/
def emKey (l : List W32) : Nat :=
  let w0 := wordAt l 0
  let w1 := wordAt l 1
  keyNum (fld w0 3 1) (fld w0 4 4) (fld w0 6 5) (fld w1 1 0) (fld w0 19 8) (fld w1 3 2) (fld w0 31 20)
    ((wordAt l 2).toNat + (wordAt l 3).toNat * 2 ^ 32)

/-- ST_SEED. -/
def seedOf (s : State) (b : Nat) : W32 := rget s (stA b + 8)

/-- Entry index `i` is one of the 16 places of a key: its bank's bucket is the one the hash names (R63). -/
def emPlace (s : State) (b key i : Nat) : Bool :=
  fld (Config.emHash key (seedOf s b)) (8 * (i / 1024) + 7) (8 * (i / 1024)) == i / 4 % 256

/-- The lowest valid entry that holds a key, at one of the key's places (R63, R67). -/
def emFind (s : State) (b key : Nat) : Option (List W32) :=
  (s.line.em.find? (fun e => decide (e.1 / 4096 = b) && bitAt (wordAt e.2 0).toNat 0 && emKey e.2 == key &&
    emPlace s b key (e.1 % 4096))).map (fun e => e.2)

/-- The 256-bit rule key of a frame; fields of a tag, SecTAG or SCI that the frame lacks are free (R68; log entry 5). -/
def ruleKey (p : Parse) (dir slot fr : Nat) : Nat :=
  let t0 := p.tags[0]?
  let t1 := p.tags[1]?
  let pick := fun (o : Option VTag) (g : VTag → Nat) (w lsb : Nat) => match o with
    | some t => g t
    | none => bitsOf fr (lsb + w - 1) lsb
  packFields [(p.dst, 0), (leNat p.src, 48), (pick t0 (·.cls) 2 96, 96), (pick t0 (·.vid) 12 98, 98), (pick t0 (·.pcp) 3 110, 110),
    (pick t1 (·.cls) 2 113, 113), (pick t1 (·.vid) 12 115, 115), (p.etype, 127), (b2n p.sec.isSome, 143),
    (if p.sec.isSome then b2n (bitAt p.tci 5) else bitsOf fr 144 144, 144),
    (if p.sec.isSome then p.tci % 4 else bitsOf fr 146 145, 145),
    (if p.hasSci then p.sci else bitsOf fr 210 147, 147), (p.next2, 211), (slot, 227), (dir, 229), (p.tags.length, 230)]

/-- The key and mask of a rule's words. -/
def ruleKeyOf (l : List W32) : Nat := leNat (octetsOf (l.take 8))
def ruleMaskOf (l : List W32) : Nat := leNat (octetsOf ((l.drop 8).take 8))

/-- The lowest-index rule of a class that hits (R68). -/
def ruleFind (s : State) (b cls key : Nat) : Option (List W32) :=
  (s.line.rules.find? (fun e => decide (e.1 / 256 = b) && bitAt (wordAt e.2 16).toNat 0 && fld (wordAt e.2 16) 1 1 == cls &&
    ((key ^^^ ruleKeyOf e.2) &&& ruleMaskOf e.2) == 0)).map (fun e => e.2)

/-! ### Resolution (R70, R71) -/

/-- What resolution yields: the result word (word 4 of R65), the cookie, and whether it is the slot's default. -/
structure Result where
  word : W32
  cookie : W32
  isDefault : Bool := false
deriving DecidableEq, Repr

/-- The key number of a frame for a KTYPE, where it has what the type needs (R61, R66). -/
def frameKey (p : Parse) (d : Dir) (slot k : Nat) : Option Nat :=
  let t0 := p.tags.getD 0 ⟨0, 0, 0⟩
  let t1 := p.tags.getD 1 ⟨0, 0, 0⟩
  let key := keyNum k (dirNum d) slot t0.cls t0.vid t1.cls t1.vid p.sci
  match k with
  | 4 => if d = .ingress ∧ p.hasSci ∧ 1 ≤ p.tags.length then some key else none
  | 3 => if d = .ingress ∧ p.hasSci then some key else none
  | 2 => if 2 ≤ p.tags.length then some key else none
  | 1 => if 1 ≤ p.tags.length then some key else none
  | _ => some key

/-- The most specific selected key type that hits (R66, R70 step 3). -/
def emLookup (s : State) (b : Nat) (p : Parse) (d : Dir) (slot sel : Nat) : Option (List W32) :=
  [4, 3, 2, 1, 0].findSome? (fun k => if sel.testBit k then (frameKey p d slot k).bind (fun key => emFind s b key) else none)

/-- The resolution of R70; none is a frame dropped as BAD_TAG. -/
def resolve (s : State) (lead : Nat) (d : Dir) (slot : Nat) (p : Parse) : Option Result :=
  let key := ruleKey p (dirNum d) slot (free s)
  let cfg := stA lead + 0x100 + 0x40 * slot
  match ruleFind s lead 0 key with
  | some r => some ⟨wordAt r 17, wordAt r 18, false⟩
  | none =>
    if d = .ingress ∧ p.malformed then none
    else match emLookup s lead p d slot (match d with | .egress => rf s cfg 4 0 | .ingress => rf s cfg 9 5) with
      | some e => some ⟨wordAt e 4, wordAt e 5, false⟩
      | none => match ruleFind s lead 1 key with
        | some r => some ⟨wordAt r 17, wordAt r 18, false⟩
        | none => some ⟨w32 (packFields [(match d with | .egress => rf s cfg 11 10 | .ingress => rf s cfg 13 12, 0), (rf s cfg 27 16, 3)]), 0, true⟩

/-- Action code to action (R69). -/
def actOf (n : Nat) : Act :=
  match n with
  | 1 => .bypass
  | 2 => .protect
  | 3 => .validate
  | 4 => .toHost
  | _ => .drop

/-- The fail override: the action after it, and whether it changed (R71). -/
def failOverride (fail : Nat) (control : Bool) (a : Act) : Act :=
  match fail, a with
  | 1, .protect => if control then a else .drop
  | 1, .validate => if control then a else .drop
  | 1, .bypass => if control then a else .drop
  | 2, .protect => .bypass
  | 2, .validate => .bypass
  | _, _ => a

/-- Remove the frame being resolved. -/
def dropUnresolved (s : State) (p : Nat) (sd : Side) (seq : Nat) : State :=
  let s := setSide s p sd { sideOf s p sd with recv := (sideOf s p sd).recv.map (fun r => { r with seq := seq }) }
  endFrame s p (dirOf sd) 0

/-- Slot counters of a stage (R88). -/
def stSlotCnt (stg slot off : Nat) : Nat := stA stg + off + 0x40 * slot

/-- The frame given its result and sent on: to the fetch, or to the verdict stage by the direct lane (R59, R72, R143). -/
def placeResolved (s : State) (p : Nat) (sd : Side) (seq stg : Nat) (octets : List Byte) (q : Parse) (r : Result) : State :=
  let d := dirOf sd
  let slot := p % 4
  let lead := leadStage s (p / 4)
  let a0 := actOf (fld r.word 2 0)
  let a := failOverride (rf s (stA lead + 0x100 + 0x40 * slot) 15 14) (bitAt r.word.toNat 15) a0
  let s := if r.isDefault then cinc s (stSlotCnt stg slot (match d with | .egress => 0x110 | .ingress => 0x118)) else s
  let s := if a = a0 then s else cinc s (stSlotCnt stg slot 0x138)
  let dom := fld r.word 14 3
  let untag := a == .validate && q.sec.isNone
  let fetch := (a == .protect || a == .validate) && !untag
  let s := setSide s p sd { sideOf s p sd with
    recv := (sideOf s p sd).recv.map (fun x => { x with seq := seq, punt := if a = .toHost then some (dom, r.cookie) else none }) }
  let s := modFrame s p d 0 (fun f => { f with
    seq := seq, stg := stg, octets := octets, act := a, domain := dom, sc := fld r.word 28 16,
    stage := if fetch then .fetchWait else .lane, mark := if untag then .untagged else .none,
    hadSectag := q.sec.isSome, hadSci := q.hasSci, cells := if a = .drop ∨ a = .toHost then 0 else f.cells })
  pauseUpdate (headRun s p d) p d

/-- The 64th octet is presented: the frame is parsed and resolved (R59–R73, R84). `tableErr` tells what the table reads
found: an uncorrectable exact-match entry (false) or a rule's parity error (true). -/
def headResolve (s : State) (p : Nat) (sd : Side) (octets : List Byte) (tableErr : Option Bool) : State :=
  let d := dirOf sd
  if (sideOf s p sd).recv.map (fun r => r.seq) ≠ some 0 ∨ !(framesOf s p d).any (fun f => f.seq == 0) then s
  else
    let key := 2 * p + dirNum d
    let seq := tget (fun _ => 1) s.line.seqs key
    let s := { s with line := { s.line with seqs := tput (fun _ => 1) s.line.seqs key (seq + 1) } }
    let stg := stageOf s p seq
    match tableErr with
    | some parity => raise (cinc (dropUnresolved s p sd seq) (stA stg + 0x208)) (stSrc stg + (if parity then 15 else 14)) [p % 4]
    | none =>
      let q := parseFrame s stg octets
      match resolve s (leadStage s (p / 4)) d (p % 4) q with
      | none => raise (cinc (dropUnresolved (freed s) p sd seq) (stSlotCnt stg (p % 4) 0x120)) (stSrc stg + p % 4) []
      | some r => placeResolved (freed s) p sd seq stg octets q r

def execFrameHeadResolve (port : Fin 64) (side : Side) (octets : List Byte) (tableErr : Option Bool) (s : State) : Out :=
  if octets.length = 64 then powered s (headResolve s port side octets tableErr) else .fault .badOperand

/-! ### Admission (R74–R77, R93) -/

/-- The block whose queues serve a port. -/
def queueKey (p : Nat) (d : Dir) : Nat := 2 * (p / 4) + dirNum d

def queueOf (s : State) (k : Nat) : List (Nat × Nat) := tget (fun _ => []) s.line.queues k
def setQueue (s : State) (k : Nat) (l : List (Nat × Nat)) : State :=
  { s with line := { s.line with queues := tput (fun _ => []) s.line.queues k l } }

/-- Entries of a direction queue held and reserved (R93). -/
def queueHeld (s : State) (p : Nat) (d : Dir) : Nat :=
  ((poolPorts (p / 4)).map (fun q => ((framesOf s q d).filter (fun f => f.stage == .granted || f.stage == .queued)).length)).sum

/-- 384, or 768 for the lead queue of an 800 Gbit/s port (R93, R94). -/
def queueLimit (s : State) (p : Nat) : Nat := if isLead s (p / 4) then 768 else 384

/-- The transmit AN of a TX SC (R75). -/
def txAnOf (s : State) (sc : Nat) : Nat := tget (fun _ => 0) s.line.txan sc

/-- The SA slot of R74. -/
def slotFor (s : State) (f : Frame) : Dir → Nat
  | .egress => 4 * f.sc + txAnOf s f.sc
  | .ingress => 32768 + 4 * f.sc + (parseFrame s f.stg f.octets).tci % 4

/-- The entry can serve the frame (R76). -/
def usable (e : SaEntry) (d : Dir) : Bool :=
  e.valid && !e.purging && !(d == .egress && !e.rx && e.exhausted)

/-- The granary grants the oldest waiting fetch of the slot and direction: the admission point (R74, R77, R176). -/
def grantFetch (s : State) (p : Nat) (d : Dir) (ecc : Ecc) : State :=
  match (framesOf s p d).find? (fun f => f.stage == .fetchWait) with
  | none => s
  | some f =>
    if queueLimit s p ≤ queueHeld s p d then s
    else
      let n := slotFor s f d
      let s := if ecc = .corrected then eccCorrected s n else s
      let e := slotOf s n
      let bad := ecc == .uncorrectable
      let pn := match d with
        | .egress => e.nextPn.toNat
        | .ingress => recoverPn e (pnField (parseFrame s f.stg f.octets) f.octets)
      let s := if d = .egress ∧ !bad ∧ usable e .egress ∧ !e.rx then handPn s n else s
      modFrame s p d f.seq (fun g =>
        let h := { g with slot := some n, entry := e, pn := pn, fetchBad := bad, stage := .granted }
        if h.ended then { h with cells := keepCells d h } else h)

def execFetchGrant (port : Fin 64) (dir : Dir) (ecc : Ecc) (s : State) : Out := powered s (grantFetch s port dir ecc)

/-- The positions of a port's direction (R90, R94). -/
def dirPositions (s : State) (p : Nat) (d : Dir) : List Nat :=
  (portBlocks s p).flatMap (fun b => [4 * b + 2 * dirNum d, 4 * b + 2 * dirNum d + 1])

def tillerOf (s : State) (t : Nat) : Tiller := tget tillerInit s.line.tillers t
def setTiller (s : State) (t : Nat) (x : Tiller) : State :=
  { s with line := { s.line with tillers := tput tillerInit s.line.tillers t x } }

/-- Some ACTIVE tiller is attached to the direction (R95). -/
def anyActive (s : State) (p : Nat) (d : Dir) : Bool :=
  (List.range 72).any (fun t => (tillerOf s t).st == .active && (dirPositions s p d).contains (tillerOf s t).pos)

/-- The fetched entry returns and is checked; the frame goes to its queue or is marked (R76, R84, R95). -/
def fetchReturn (s : State) (p : Nat) (d : Dir) : State :=
  match (framesOf s p d).find? (fun f => f.stage == .granted) with
  | none => s
  | some f =>
    let n := f.slot.getD 0
    let lane := fun (m : Mark) (g : Frame) => { g with stage := .lane, mark := m }
    if f.fetchBad then
      let s := raise (cinc (endFrame s p d f.seq) (stA f.stg + 0x220)) (stSrc f.stg + 13) [n]
      headRun (eccErase s n) p d
    else if !usable f.entry d then
      raise (modFrame s p d f.seq (lane .noSa)) (stSrc f.stg + 12) [n]
    else if f.entry.domain ≠ f.domain ∨ f.entry.rx ≠ (d == .ingress) then
      headRun (raise (cinc (endFrame s p d f.seq) (stA f.stg + 0x200)) (stSrc f.stg + 11) [n, f.entry.domain, f.domain]) p d
    else if anyActive s p d then
      let s := modFrame s p d f.seq (fun g => { g with stage := .queued })
      setQueue s (queueKey p d) (queueOf s (queueKey p d) ++ [(p, f.seq)])
    else cinc (modFrame s p d f.seq (lane .noTiller)) (tlArr + 0x228)

def execSaFetchReturn (port : Fin 64) (dir : Dir) (s : State) : Out := powered s (fetchReturn s port dir)

/-- ST_TXAN_SET: the AN of one TX SC in every array at once (R75). -/
def txanSet (s : State) (sc an : Nat) : State :=
  { s with line := { s.line with txan := tput (fun _ => 0) s.line.txan sc an } }

def execTxanSet (sc : Fin 8192) (an : Fin 4) (s : State) : Out := powered s (txanSet s sc an)

/-! ### Table commands (R63–R69, R78, R84) -/

/-- Fields an entry's KTYPE does not use are zero, its TPID classes name a TPID, its result is legal (R65, R69). -/
def emLegal (l : List W32) : Bool :=
  let w0 := wordAt l 0
  let w1 := wordAt l 1
  let k := fld w0 3 1
  let a := fld (wordAt l 4) 2 0
  let outer := k == 1 || k == 2 || k == 4
  let sci := k == 3 || k == 4
  decide (k ≤ 4) && !(sci && fld w0 4 4 == 0) &&
    (if outer then fld w1 1 0 != 3 else fld w0 19 8 == 0 && fld w1 1 0 == 0) &&
    (if k == 2 then fld w1 3 2 != 3 else fld w0 31 20 == 0 && fld w1 3 2 == 0) &&
    (sci || (wordAt l 2 == 0 && wordAt l 3 == 0)) &&
    decide (a ≤ 4) && !(a == 2 && fld w0 4 4 == 1) && !(a == 3 && fld w0 4 4 == 0) &&
    fld w0 7 7 == 0 && fld w1 31 4 == 0 && fld (wordAt l 4) 31 29 == 0 && wordAt l 6 == 0 && wordAt l 7 == 0

/-- Store an entry; one with VALID 0 is stored as all zeros, which the table does not list (R65). -/
def emStore (s : State) (b i : Nat) (l : List W32) : State :=
  { s with line := { s.line with em := tput (fun _ => []) s.line.em (4096 * b + i) (if bitAt (wordAt l 0).toNat 0 then l else []) } }

def ruleStore (s : State) (b i : Nat) (l : List W32) : State :=
  { s with line := { s.line with rules := tput (fun _ => []) s.line.rules (256 * b + i) (if bitAt (wordAt l 16).toNat 0 then l else []) } }

/-- A rule's words are legal: reserved bits zero and unmasked, TPID classes name a TPID, the result fits its DIR (R68, R69). -/
def ruleLegal (l : List W32) : Bool :=
  let k := ruleKeyOf l
  let m := ruleMaskOf l
  let a := fld (wordAt l 17) 2 0
  let bad3 := fun (lsb : Nat) => bitsOf m (lsb + 1) lsb == 3 && bitsOf k (lsb + 1) lsb == 3
  bitsOf m 255 232 == 0 && bitsOf k 255 232 == 0 && !bad3 96 && !bad3 113 && decide (a ≤ 4) &&
    (a != 2 || (bitAt m 229 && !bitAt k 229)) && (a != 3 || (bitAt m 229 && bitAt k 229)) &&
    fld (wordAt l 16) 31 2 == 0 && fld (wordAt l 17) 31 29 == 0 && wordAt l 19 == 0

/-- The stage's writes go to its pair's lead only (R78). -/
def isPairStage (s : State) (b : Nat) : Bool := modeOf s b == 5

def emRead (s : State) (b : Nat) : State :=
  let e := emEntry s (leadStage s b) (rf s (stA b + 0x420) 11 0)
  rsets s (stA b + 0x400) ((List.range 8).map (fun i => wordAt e i))

def execEmRead (stage : Fin 16) (s : State) : Out := powered s (emRead s stage)

/-- ST_EM_CMD WRITE (R65, R73, R78, R84). -/
def emWrite (s : State) (b : Nat) : State :=
  let l := rgets s (stA b + 0x400) 8
  let i := rf s (stA b + 0x420) 11 0
  if isPairStage s b ∨ tget (fun _ => false) s.locks (stA b + 8) = false then refuse s (stA b + 0x424)
  else if bitAt (wordAt l 0).toNat 0 = false ∨ emLegal l then emStore s b i l
  else refuse s (stA b + 0x424)

def execEmWrite (stage : Fin 16) (s : State) : Out := powered s (emWrite s stage)

/-- ST_EM_CMD HASH: the four bucket indices (R63). -/
def execEmHash (stage : Fin 16) (s : State) : Out :=
  let b := stage.val
  powered s (rset s (stA b + 0x428) (Config.emHash (emKey (rgets s (stA b + 0x400) 8)) (seedOf s (leadStage s b))))

def execRuleRead (stage : Fin 16) (s : State) : Out :=
  let b := stage.val
  let r := ruleEntry s (leadStage s b) (rf s (stA b + 0x550) 7 0)
  powered s (rsets s (stA b + 0x500) ((List.range 20).map (fun i => wordAt r i)))

/-- ST_RU_CMD WRITE (R68, R69, R73, R78). -/
def ruleWrite (s : State) (b : Nat) : State :=
  let l := rgets s (stA b + 0x500) 20
  if isPairStage s b then refuse s (stA b + 0x554)
  else if bitAt (wordAt l 16).toNat 0 = false ∨ ruleLegal l then ruleStore s b (rf s (stA b + 0x550) 7 0) l
  else refuse s (stA b + 0x554)

def execRuleWrite (stage : Fin 16) (s : State) : Out := powered s (ruleWrite s stage)

/-! ### Punts and injection (R82, R83) -/

def execPuntAgeExpiry (stage : Fin 16) (s : State) : Out :=
  match puntOf s stage with
  | [] => ok s
  | f :: r => powered s (puntDrop (setPunt s stage r) (4 * stage + f.slot) stage)

def execPuntTokenRefill (port : Fin 64) (s : State) : Out :=
  powered s { s with line := { s.line with puntUsed := tput (fun _ => 0) s.line.puntUsed port (tget (fun _ => 0) s.line.puntUsed port - 1) } }

/-- The EtherTypes of ST_INJ_ETYPE_0 and _1; 0x0000 is unused (R83). -/
def injectAllowed (s : State) (b et : Nat) : Bool :=
  et != 0 && [rf s (stA b + 0x630) 15 0, rf s (stA b + 0x630) 31 16, rf s (stA b + 0x634) 15 0, rf s (stA b + 0x634) 31 16].contains et

/-- The injected frame refused under R83. -/
def injectDrop (s : State) (b : Nat) : State := raise (cinc s (stA b + 0x218)) (stSrc b + 10) []

/-- ST_INJ_CMD GO (R83). -/
def injectGo (s : State) (b slot len : Nat) : State :=
  let p := 4 * b + slot
  if len < 64 ∨ 1536 < len ∨ tget (fun _ => false) s.line.injWait b ∨ !portExists s p then refuse s (stA b + 0x620)
  else
    let octets := (octetsOf (rgets s (stA b + 0x4000) 384)).take len
    if !injectAllowed s b (parseFrame s b octets).etype then injectDrop s b
    else if !sideUp (sideOf s p .line) then cinc s (downDrop p .egress)
    else if !hasRoom s p .egress (reserveCells s p) then injectDrop (poolDrop s p .egress) b
    else
      let key := 2 * p
      let seq := tget (fun _ => 1) s.line.seqs key
      let f : Frame := { seq := seq, stg := b, octets := octets, ended := true, prio := ((parseFrame s b octets).tags.head?.map (·.pcp)).getD (rf s (slotA p) 28 26), cells := cdiv len 64,
                         stage := .lane, act := .bypass, injected := true }
      let l := framesOf s p .egress
      let s := setFrames s p .egress (l.filter (fun g => g.seq != 0) ++ [f] ++ l.filter (fun g => g.seq == 0))
      let s := { s with line := { s.line with seqs := tput (fun _ => 1) s.line.seqs key (seq + 1),
                                              injWait := tput (fun _ => false) s.line.injWait b true } }
      admitted s p .egress

def execInjectGo (stage : Fin 16) (slot : Fin 4) (len : Fin 2048) (s : State) : Out := powered s (injectGo s stage slot len)

end Sys2Proof.Machine
end

