-- ==== Sys2Proof/Machine/Tillers.lean ====
section
/-! DEFINITION. The tiller array (chapter 3): taking and releasing frames, twin mismatches, swaps, tests, rotation, derating. -/

namespace Sys2Proof.Machine

/-! ### States of a tiller -/

/-- A tiller attached to its position (R109). -/
def attached (x : Tiller) : Bool := x.st == .active || x.st == .draining

/-- Move a tiller to a state and position, keeping its time attached, with offset 1 (R109, R127). -/
def tillerTo (s : State) (t : Nat) (st : TState) (pos : Nat) : State :=
  let x := tillerOf s t
  let us := if attached x then x.activeUs + (s.now - x.activeAt) else x.activeUs
  let y := { x with st := st, pos := pos, activeUs := us, activeAt := s.now, patrol := 0 }
  raise (setTiller s t y) (tlSrc t + 1) [st.code, pos]

/-- A tiller joins the pool: it is the newest among the READY (R115). -/
def tillerReady (s : State) (t : Nat) : State :=
  let s := tillerTo s t .ready 0
  let s := setTiller s t { tillerOf s t with since := s.line.readyCtr }
  { s with line := { s.line with readyCtr := s.line.readyCtr + 1 } }

/-- A tiller is retired: WARN, and the steward's record in flash (R114). -/
def tillerRetired (s : State) (t vec : Nat) : State :=
  let s := tillerTo s t .retired 0
  warn { s with line := { s.line with retireRec := s.line.retireRec ++ [(t, vec)] } }

/-- Detached and cleared (R109, R98). -/
def tillerQuarantine (s : State) (t : Nat) : State :=
  let s := tillerTo s t .quarantined 0
  setTiller s t { tillerOf s t with held := [] }

/-- One strike, saturating at 7 (R110). -/
def strike (s : State) (t : Nat) : State :=
  let x := tillerOf s t
  setTiller s t { x with strikes := Nat.min 7 (x.strikes + 1) }

/-- STRIKE_LIMIT. -/
def strikeLimit (s : State) : Nat := rf s tlArr 11 9

/-! ### Reserves and swaps (R106, R107, R111, R115) -/

def swapAt (s : State) (pos : Nat) : Option Swap := s.line.swaps.find? (fun w => w.pos == pos)
def putSwap (s : State) (w : Swap) : State :=
  { s with line := { s.line with swaps := s.line.swaps.map (fun v => if v.pos == w.pos then w else v) } }
def dropSwap (s : State) (pos : Nat) : State := { s with line := { s.line with swaps := s.line.swaps.filter (fun v => v.pos != pos) } }
def addSwap (s : State) (w : Swap) : State := { s with line := { s.line with swaps := s.line.swaps ++ [w] } }

/-- READY and not already chosen for a position. -/
def free? (s : State) (t : Nat) : Bool :=
  (tillerOf s t).st == .ready && !s.line.swaps.any (fun w => w.reserve == t)

/-- The READY tiller that has been READY the longest, the lowest-numbered among equals (R115). -/
def chooseReserve (s : State) : Option Nat :=
  (List.range 72).foldl (fun best t =>
    if free? s t then
      match best with
      | none => some t
      | some b => if (tillerOf s t).since < (tillerOf s b).since then some t else best
    else best) none

/-- The ACTIVE tiller at a position. -/
def activeAt? (s : State) (pos : Nat) : Option Nat :=
  (List.range 72).find? (fun t => (tillerOf s t).st == .active && (tillerOf s t).pos == pos)

/-- A forced swap begins at a position, or offset 4 and WARN where no tiller is READY (R106, R107). -/
def forceSwap (s : State) (pos blame : Nat) : State :=
  match chooseReserve s with
  | some r => addSwap s { pos := pos, reserve := r, planned := false, blame := blame }
  | none => warn (raise s (tlSrc blame + 4) [pos])

/-- Empty positions with no swap are filled, lowest first, while tillers are READY (R107, R114). -/
def fillEmpty (s : State) : State :=
  (List.range 64).foldl (fun t pos =>
    if (activeAt? t pos).isNone && (swapAt t pos).isNone && (chooseReserve t).isSome then forceSwap t pos pos else t) s

/-- A planned swap begins (R111). -/
def planSwap (s : State) (pos reserve : Nat) (retire rotation : Bool) : State :=
  addSwap s { pos := pos, reserve := reserve, planned := true, blame := pos, retire := retire, rotation := rotation }

/-! ### Mismatches (R104–R108) -/

/-- A mismatch counted: MISMATCH, a strike, and the array's filter with MM_LEVEL's response (R108, R110). -/
def mismatchCount (s : State) (t : Nat) : State :=
  let s := strike (cinc s (tlA t + 0x50)) t
  let th := tlArr + 4
  let win := 1000 * rf s th 31 16
  let recent := s.now :: s.line.mmTimes.filter (fun x => decide (s.now ≤ x + win))
  let fires := decide (rf s th 6 0 ≤ recent.length)
  let s := { s with line := { s.line with mmTimes := if fires then [] else recent, mmAll := (s.now :: s.line.mmAll).take 127 } }
  if fires then alarmFree (raise s (tlSrc t + 3) [recent.length]) (rf s tlArr 8 6) else s

/-- TL_MMINFO of a mismatch on a frame (R128). -/
def noteMm (s : State) (t : Nat) (slot blk seq : Nat) (tag ingress patrol : Bool) : State :=
  let x := tillerOf s t
  setTiller s t { x with
    mm0 := w32 (packFields [(slot, 0), (b2n tag, 16), (b2n ingress, 17), (1, 18), (b2n patrol, 19), (blk % 4096, 20)]),
    mm1 := w32 seq }

/-- The direction a position serves (R90). -/
def posDir (pos : Nat) : Dir := if pos % 4 < 2 then .egress else .ingress

/-- The frame of a port, direction and sequence number. -/
def frameAt (s : State) (p : Nat) (d : Dir) (n : Nat) : Option Frame := (framesOf s p d).find? (fun f => f.seq == n)

/-- Every frame a tiller holds is marked TWIN_FAIL and leaves it (R105). -/
def markTwin (s : State) (t : Nat) : State :=
  let x := tillerOf s t
  let d := posDir x.pos
  x.held.foldl (fun u e => modFrame u e.1 d e.2 (fun f => { f with mark := .twinFail, stage := .lane })) (cadd s (tlA t + 0x58) x.held.length)

/-- The verdict stages of the frames listed look again. -/
def verdicts (s : State) (d : Dir) (l : List (Nat × Nat)) : State := l.foldl (fun u e => tryVerdict u e.1 d) s

/-- A mismatch of an attached tiller; the reserve of a planned swap in progress then takes its place under R106 (R105, R106, R111). -/
def twinMismatch (s : State) (t : Nat) (tag : Bool) : State :=
  let x := tillerOf s t
  let d := posDir x.pos
  let f := (x.held.head?.bind (fun e => frameAt s e.1 d e.2)).getD {}
  let s := noteMm s t (f.slot.getD 0) (f.blocks + 1) f.seq tag (d == .ingress) false
  let s := tillerQuarantine (raise (markTwin s t) (tlSrc t) [f.slot.getD 0, f.seq % 2 ^ 32]) t
  let s := if x.st = .active then
      match swapAt s x.pos with
      | some w => putSwap s { w with planned := false, rotation := false, checked := false, failedOnce := false, blame := t }
      | none => forceSwap s x.pos t
    else s
  verdicts (mismatchCount s t) d x.held

/-! ### Frames through a tiller (R92, R100) -/

/-- The lead block of a block's direction queue (R94). -/
def leadBlock (s : State) (b : Nat) : Nat := if modeOf s b = 5 then b - 1 else b

/-- The SCI table's entry `n` (R134). -/
def sciOf (s : State) (n : Nat) : W64 := tget (fun _ => 0) s.line.sci n

/-- An ACTIVE, clocked tiller takes the oldest descriptor of its direction queue (R51, R92, R94, R123). -/
def tillerTakes (s : State) (t : Nat) : State :=
  let x := tillerOf s t
  let d := posDir x.pos
  let b := x.pos / 4
  let k := 2 * leadBlock s b + dirNum d
  if x.st ≠ .active ∨ s.level = 5 ∨ !(blockOf s b).tclk then s
  else match queueOf s k with
    | [] => s
    | e :: r =>
      let s := modFrame (setQueue s k r) e.1 d e.2 (fun f => { f with stage := .inTiller t, sci := sciOf s (match d with | .egress => f.sc | .ingress => 8192 + f.sc) })
      setTiller s t { x with held := x.held ++ [e] }

def execTillerTake (t : Fin 72) (s : State) : Out := powered s (tillerTakes s t)

/-- A DRAINING tiller that holds no frame is detached to TESTING or RETIRED (R109, R111). -/
def drainDone (s : State) (t : Nat) : State :=
  let x := tillerOf s t
  if x.st = .draining ∧ x.held = [] then
    if x.retireNext then tillerRetired s t 0 else tillerTo s t .testing 0
  else s

/-- One output block released; with the last one the frame leaves the tiller (R100, R104). -/
def blockRelease (s : State) (t : Nat) : State :=
  let x := tillerOf s t
  let d := posDir x.pos
  match x.held with
  | [] => s
  | e :: r =>
    match frameAt s e.1 d e.2 with
    | none => drainDone (setTiller s t { x with held := r }) t
    | some f =>
      let last := f.ended && decide (frameBlocks s d f ≤ f.blocks + 1)
      let s := cinc s (tlA t + 0x48)
      if last then
        let s := modFrame (cinc s (tlA t + 0x40)) e.1 d e.2 (fun g => { g with blocks := g.blocks + 1, stage := .lane })
        drainDone (tryVerdict (setTiller s t { x with held := r }) e.1 d) t
      else modFrame s e.1 d e.2 (fun g => { g with blocks := g.blocks + 1 })

def execTillerBlockRelease (t : Fin 72) (miss : Option Bool) (cnt : Ecc) (s : State) : Out :=
  if !attached (tillerOf s t) || (tillerOf s t).held.isEmpty then ok s
  else match miss with
    | some tag => powered s (withEcc s cnt (fun s => twinMismatch s t tag))
    | none => powered s (withEcc s cnt (fun s => blockRelease s t))

/-! ### Derating (R119, R120) -/

/-- The largest NEED among the tillers in READY, ACTIVE and DRAINING. -/
def maxNeed (s : State) : Nat :=
  (List.range 72).foldl (fun m t =>
    let x := tillerOf s t
    if x.st == .ready || attached x then Nat.max m x.need else m) 0

/-- A change of step begins, or waits for the one in progress (R120). -/
def requestStep (s : State) (k : Nat) : State :=
  match s.line.stepTo with
  | some _ => { s with line := { s.line with stepNext := some k } }
  | none => if k = s.line.step then s else { s with line := { s.line with stepTo := some k } }

/-- The step the array runs at once every change under way is complete. -/
def stepTarget (s : State) : Nat := Nat.max ((s.line.stepTo.getD s.line.step)) (s.line.stepNext.getD 0)

/-- What the NEED of a tiller in READY, ACTIVE or DRAINING asks for: a rise of the step, or above 10 the tiller's retirement (R119). -/
def needCheck (s : State) (t : Nat) : State :=
  let x := tillerOf s t
  if !(x.st == .ready || attached x) then s
  else if 10 < x.need then
    let s := raise s (tlSrc t + 5) [x.need]
    match x.st with
    | .ready => if free? s t then tillerRetired s t 0 else s
    | .active =>
      if (swapAt s x.pos).isSome then s
      else match chooseReserve s with
        | some r => planSwap s x.pos r true false
        | none => warn (if stepTarget s < 10 then requestStep s 10 else s)
    | _ => setTiller s t { tillerOf s t with retireNext := true }
  else if stepTarget s < x.need then requestStep (raise s (tlSrc t + 5) [x.need]) x.need else s

/-- A tiller's NEED rises (R119); above 10 it shows 0xF. -/
def needRises (s : State) (t need : Nat) : State :=
  needCheck (setTiller s t { tillerOf s t with need := if 10 < need then 15 else need }) t

/-! ### Swaps carried out -/

/-- The reserve of a swap becomes ACTIVE at the position. -/
def reserveActive (s : State) (w : Swap) : State := needCheck (tillerTo (dropSwap s w.pos) w.reserve .active w.pos) w.reserve

/-- The crossbar link check of a swap's reserve (R106, R111). -/
def linkCheck (s : State) (pos : Nat) (good : Bool) : State :=
  match swapAt s pos with
  | none => s
  | some w =>
    if w.checked then s
    else if good then
      if w.planned then putSwap s { w with checked := true } else cinc (reserveActive s w) (tlArr + 0x210)
    else
      let s := strike s w.reserve
      if !w.failedOnce then putSwap s { w with failedOnce := true }
      else
        let s := tillerQuarantine (dropSwap s pos) w.reserve
        if w.planned then s else forceSwap s pos w.blame

def execReserveLinkCheck (pos : Fin 64) (passed : Bool) (s : State) : Out := powered s (linkCheck s pos passed)

/-- The frame boundary of a planned swap (R111 steps 2 to 4). -/
def swapBoundary (s : State) (pos : Nat) : State :=
  match swapAt s pos with
  | none => s
  | some w =>
    if !w.planned || !w.checked then s
    else
      let s := cinc s (tlArr + 0x218)
      let s := if w.rotation then cinc s (tlArr + 0x200) else s
      match activeAt? s pos with
      | none => reserveActive s w
      | some t =>
        let s := tillerTo s t .draining pos
        let s := setTiller s t { tillerOf s t with retireNext := w.retire }
        drainDone (reserveActive s w) t

def execPlannedSwapBoundary (pos : Fin 64) (s : State) : Out := powered s (swapBoundary s pos)

/-! ### Tests and patrol (R109, R112–R114) -/

def execQuarantineExpiry (t : Fin 72) (s : State) : Out :=
  powered s (if (tillerOf s t).st = .quarantined then tillerTo s t .testing 0 else s)

/-- The start-up tests begin: every tiller enters TESTING (R114, step 9 of R514). -/
def beginStartTest (s : State) : State :=
  let s := { s with line := { s.line with startTest := true } }
  (List.range 72).foldl (fun u t => tillerTo u t .testing 0) s

/-- Once no tiller is under the start-up test, step 9 of R514 is complete and empty positions are filled (R114). -/
def endStartTest (s : State) : State :=
  if s.line.startTest && (List.range 72).all (fun t => (tillerOf s t).st != .testing) then
    fillEmpty (startStep { s with line := { s.line with startTest := false } } 9)
  else s

/-- A known-answer test ends (R112, R114): `failed` is the first failing vector, `mismatch` tells that the twin comparator
found it. -/
def katEnd (s : State) (t : Nat) (failed : Option Nat) (mismatch : Bool) : State :=
  let x := tillerOf s t
  if x.st ≠ .testing then s
  else match failed with
    | some v =>
      let s := setTiller s t { x with kat := 2, katInfo := w32 (v + 32) }
      let s := raise (cinc s (tlA t + 0x70)) (tlSrc t + 2) [v]
      let s := if mismatch then mismatchCount (raise (noteMm s t 0 0 0 false false true) (tlSrc t) []) t else s
      endStartTest (tillerRetired s t v)
    | none =>
      let s := raise (cinc (setTiller s t { x with kat := 1 }) (tlA t + 0x68)) (tlSrc t + 2) []
      if s.line.startTest then endStartTest (needCheck (if t < 64 then tillerTo s t .active t else tillerReady s t) t)
      else if strikeLimit s ≤ x.strikes then tillerRetired s t 0
      else fillEmpty (needCheck (tillerReady s t) t)

def execKatComplete (t : Fin 72) (failed : Option (Fin 32)) (mismatch : Bool) (s : State) : Out :=
  powered s (katEnd s t (failed.map (fun v => v.val)) mismatch)

/-- One patrol vector of a READY tiller (R113): a twin mismatch (true) or a wrong result (false) quarantines it. -/
def patrol (s : State) (t : Nat) (bad : Option Bool) : State :=
  let x := tillerOf s t
  if !free? s t then s
  else match bad with
    | none => setTiller s t { x with patrol := (x.patrol + 1) % 25 }
    | some mm =>
      let s := if mm then mismatchCount (noteMm s t 0 0 0 false false true) t else strike s t
      tillerQuarantine (raise s (tlSrc t) []) t

def execPatrolTick (t : Fin 72) (bad : Option Bool) (s : State) : Out := powered s (patrol s t bad)

/-! ### Rotation and commands (R116–R118) -/

/-- A rotation period ends (R116). -/
def rotate (s : State) : State :=
  if !rbit s tlArr 5 then s
  else
    let p := s.line.rotPtr
    let s := { s with line := { s.line with rotPtr := (p + 1) % 64 } }
    match activeAt? s p, swapAt s p, chooseReserve s with
    | some _, none, some r => planSwap s p r false true
    | a, _, _ => raise (cinc s (tlArr + 0x208)) (tlSrc (a.getD p) + 6) [p]

def execRotationExpiry (s : State) : Out := powered s (rotate s)

/-- No port block is enabled (R114). -/
def noneEnabled (s : State) : Bool := (List.range 16).all (fun b => slotEn s b == 0)

/-- TL_CMD TEST or RETIRE (R118). -/
def tillerCommand (s : State) (t : Nat) (retire : Bool) : State :=
  let x := tillerOf s t
  match x.st with
  | .ready =>
    if !free? s t then refuse s (tlA t)
    else if retire then tillerRetired s t 0 else tillerTo s t .testing 0
  | .active =>
    if (swapAt s x.pos).isSome then refuse s (tlA t)
    else if retire ∧ noneEnabled s then fillEmpty (tillerRetired s t 0)
    else match chooseReserve s with
      | some r => planSwap s x.pos r retire false
      | none => refuse s (tlA t)
  | _ => refuse s (tlA t)

def execTillerTest (t : Fin 72) (s : State) : Out := powered s (tillerCommand s t false)

def execTillerRetire (t : Fin 72) (s : State) : Out := powered s (tillerCommand s t true)

/-- TL_SWAP: 0x7F leaves the choice to R115 (R118, R129). -/
def orderSwap (s : State) (pos t : Nat) : State :=
  let r := if t = 0x7F then chooseReserve s else if t < 72 ∧ free? s t then some t else none
  match r, activeAt? s pos, swapAt s pos with
  | some r, some _, none => planSwap s pos r false false
  | _, _, _ => refuse s (tlArr + 0x10)

def execTillerSwap (pos : Fin 64) (t : Fin 128) (s : State) : Out := powered s (orderSwap s pos t)

/-! ### Steps -/

def execStepSet (k : Fin 16) (s : State) : Out :=
  powered s (if maxNeed s ≤ k.val ∧ k.val ≤ 10 then requestStep s k else refuse s (tlArr + 0x0C))

def execNeedRise (t : Fin 72) (need : Fin 16) (s : State) : Out := powered s (needRises s t need)

/-- A change of step completes (R120). -/
def execStepChangeComplete (s : State) : Out :=
  match s.line.stepTo with
  | none => ok s
  | some k =>
    let n := match s.line.stepNext with
      | some j => if j = k then none else some j
      | none => none
    powered s (cinc { s with line := { s.line with step := k, stepTo := n, stepNext := none } } (tlArr + 0x220))

end Sys2Proof.Machine
end

