-- ==== Sys2Proof/Machine/Verdict.lean ====
section
/-! DEFINITION. The verdict stage (chapter 4): head decisions, starting to send, and the SCI table. -/

namespace Sys2Proof.Machine

/-- A frame dropped at the head for a mark that counts STOMPED (R149 rows 1 to 3). -/
def headStomped (s : State) (p : Nat) (d : Dir) (f : Frame) : State := dropWhole (countStomped s p d f) p d f

/-- The frame's stage has handed it on, so that its head decisions can be taken. -/
def handedOn (f : Frame) : Bool :=
  match f.stage with
  | .queued => true
  | .inTiller _ => true
  | .lane => true
  | _ => false

/-- The frame passes its head decisions; its verdict follows where it is complete. -/
def headPass (s : State) (p : Nat) (d : Dir) (f : Frame) : State :=
  tryVerdict (modFrame s p d f.seq (fun g => { g with headOk := true })) p d

/-- The head decisions on a validated frame with an entry: bad tags, then the replay check (R139, R145, R149). -/
def headRx (s : State) (p : Nat) (f : Frame) : State :=
  let n := f.slot.getD 0
  if badTag s f then
    dropWhole (raise (cinc (recordErr (saAdd s n 7 1) p .ingress f 4) (vdA p + 0x68)) (vdSrc p + 3) (vdData f)) p .ingress f
  else if f.entry.replayProtect ∧ f.pn < lowestFor s f then
    dropWhole (raise (recordErr (saAdd s n 4 1) p .ingress f 1) (vdSrc p + 2) (vdData f)) p .ingress f
  else headPass s p .ingress f

/-- An untagged frame resolved to VALIDATE (R72, R149, R157). -/
def headUntagged (s : State) (p : Nat) (f : Frame) : State :=
  if rbit s (vdA p) 0 then headPass s p .ingress f
  else dropWhole (raise (cinc (recordErr (domAdd s f.domain 2 1) p .ingress f 5) (vdA p + 0x60)) (vdSrc p + 3) (vdData f)) p .ingress f

/-- The head decisions of R145, in the order of R149. -/
def headDecide (s : State) (p : Nat) (d : Dir) : State :=
  match headOf s p d with
  | none => s
  | some f =>
    if f.headOk || !handedOn f then s
    else match f.mark with
      | .purged => headStomped s p d f
      | .twinFail => headStomped s p d f
      | .noTiller => headStomped (match d with | .egress => s | .ingress => cinc s (vdA p + 0x80)) p d f
      | m =>
        if f.bad ≠ .none then headPass s p d f
        else match m with
          | .untagged => headUntagged s p f
          | .noSa => dropWhole (recordErr (saAdd s (f.slot.getD 0) 5 1) p d f 2) p d f
          | _ => if f.act = .validate then headRx s p f else headPass s p d f

def execVerdictHead (port : Fin 64) (dir : Dir) (cnt : Ecc) (s : State) : Out := powered s (withEcc s cnt (fun s => headDecide s port dir))

/-- A port whose rate exceeds the per-datapath rate of 200 Gbit/s × (1 − 0.01k) (R146 condition 3). -/
def overRate (s : State) (p : Nat) : Bool := decide (200 * (100 - s.line.step) < 100 * portRate s p)

/-- The conditions of R146 that the state shows, with the output side able to send (R36, R46, R53); the times of
conditions 2 and 3 are the sender's to keep. -/
def mayStart (s : State) (p : Nat) (d : Dir) (f : Frame) : Bool :=
  let x := sideOf s p (outSide d)
  f.headOk && !f.started && sideUp x && !x.stopped && !x.localFault &&
    (onLane f || decide (1 ≤ f.blocks)) &&
    (!(overRate s p) || f.act == .bypass || f.mark == .untagged || f.ended) &&
    (!(f.act == .validate && f.mark == .none && storeForward s p f) || f.fate.isSome) &&
    (match f.fate with
     | none => true
     | some .pass => true
     | _ => false)

/-- The verdict stage starts sending the head frame (R146). -/
def startSend (s : State) (p : Nat) (d : Dir) : State :=
  match headOf s p d with
  | none => s
  | some f => if mayStart s p d f then modFrame s p d f.seq (fun g => { g with started := true }) else s

def execVerdictStartSend (port : Fin 64) (dir : Dir) (s : State) : Out := powered s (startSend s port dir)

/-! ### The SCI table (R134, R160) -/

def sciIdxA : Nat := 0x43080000

/-- The entry that VD_SCI_IDX names, into LO and HI. -/
def execSciRead (s : State) : Out :=
  let v := (tget (fun _ => (0 : W64)) s.line.sci (rf s sciIdxA 13 0)).toNat
  powered s (rset (rset s (sciIdxA + 4) (w32 v)) (sciIdxA + 8) (w32 (v / 2 ^ 32)))

/-- LO and HI into the entry that VD_SCI_IDX names. -/
def execSciWrite (s : State) : Out :=
  let v := BitVec.ofNat 64 ((rget s (sciIdxA + 4)).toNat + (rget s (sciIdxA + 8)).toNat * 2 ^ 32)
  powered s { s with line := { s.line with sci := tput (fun _ => 0) s.line.sci (rf s sciIdxA 13 0) v } }

end Sys2Proof.Machine
end

