-- ==== Sys2Proof/Machine/Granary.lean ====
section
/-! DEFINITION. The granary's commands and remask walker, and the culm (chapter 5). -/

namespace Sys2Proof.Machine

/-! ### Commands (R174–R188) -/

/-- GR_STAT.BUSY. -/
def grBusy (s : State) : Bool := s.gran.cmd.isSome || s.gran.zeroising

/-- GR_CMD refused under R18: offset 12, with the slot (R195, R196). -/
def grRefuse (s : State) (n : Nat) : State := raise s (grSrc + 12) [n]

/-- A GR_XFER_n word: discarded at SEAL and above at the control-die endpoint, lost without a session, else in the record
(R193, R197, R541). -/
def xferWrite (s : State) (n : Nat) (v : W32) : State :=
  if 3 ≤ s.level then cinc s 0x30020228
  else if !s.culm.session then s
  else { s with gran := { s.gran with xfer := tput (fun _ => 0) s.gran.xfer n v, written := tput (fun _ => false) s.gran.written n true } }

def execXferWordWrite (n : Fin 24) (v : W32) (s : State) : Out := powered s (xferWrite s n v)

/-- Word `n` of the transfer record. -/
def xw (s : State) (n : Nat) : W32 := tget (fun _ => (0 : W32)) s.gran.xfer n

/-- `k` words of the record from word `n`, least significant first. -/
def xwords (s : State) (n k : Nat) : Nat := leNat (octetsOf ((List.range k).map (fun i => xw s (n + i))))

/-- The entry a transfer record describes, before remasking (R163, R197). -/
def recordEntry (s : State) : SaEntry :=
  { keyS0 := BitVec.ofNat 256 (xwords s 0 8), keyS1 := BitVec.ofNat 256 (xwords s 8 8), salt := BitVec.ofNat 96 (xwords s 16 3),
    ssci := xw s 19, nextPn := BitVec.ofNat 64 (xwords s 20 2), window := xw s 22, attr := xw s 23 &&& 0x7FFFFFFF }

/-- The checks of R165 on an entry for a slot. -/
def recordGood (e : SaEntry) (n : Nat) : Bool :=
  e.an == n % 4 && e.rx == decide (32768 ≤ n) &&
    (if e.rx then !e.conf && e.sectag == 0 && e.clearTags == 0
     else !e.storeFwd && !e.strict && !e.replayProtect && e.window == 0) &&
    fld e.attr 23 22 != 3 && e.sectag != 3 && e.clearTags != 3 &&
    !(e.xpn && decide (2 ^ 30 < e.window.toNat)) &&
    e.nextPn != 0 && (e.xpn || decide (e.nextPn.toNat ≤ 0xFFFFFFFF)) &&
    e.valid && !e.purging && !e.epoch &&
    !(e.short && decide (2 ^ 128 ≤ e.key.toNat))

/-- Both words of GR_SCRKEY have been written since reset (R197). -/
def scrkeySet (s : State) : Bool := tget (fun _ => false) s.locks (grA + 8) && tget (fun _ => false) s.locks (grA + 12)

/-- Every word of the record has been written since the previous command (R197). -/
def xferWhole (s : State) : Bool := (List.range 24).all (fun i => tget (fun _ => false) s.gran.written i)

/-- The slot number through the keyed permutation; its bank pair is q[3:0] and its row q[15:4] (R166). -/
def slotQ (s : State) (n : Nat) : Nat :=
  Config.granaryPermute (BitVec.ofNat 64 ((rget s (grA + 8)).toNat + (rget s (grA + 12)).toNat * 2 ^ 32)) n
def slotBank (s : State) (n : Nat) : Nat := slotQ s n % 16

/-- The slot takes no command: it is PURGING, or lies in a row kept out of use until the next start (R174, R195, R509). -/
def slotShut (s : State) (n : Nat) : Bool :=
  (slotOf s n).purging || s.rmLine.excl.any (fun e => e.1 == 3 && e.2.1 % 16 == slotBank s n && e.2.2 == slotQ s n / 16)

/-- GR_CMD INSTALL (R165, R174, R178, R187, R190). -/
def grInstall (s : State) (n : Nat) : State :=
  if 3 ≤ s.level then cinc s 0x30020228
  else if !s.culm.session then s
  else if grBusy s ∨ rbit s grA 0 ∨ s.gran.zeroed ∨ !scrkeySet s ∨ !s.culm.paired ∨ slotShut s n then grRefuse s n
  else
    let e := recordEntry s
    let code := if !xferWhole s then 2 else if recordGood e n then 0 else 1
    { s with gran := { s.gran with cmd := some { op := 1, slot := n, code := code, entry := e } } }

def execInstall (slot : Fin 65536) (s : State) : Out := powered s (grInstall s slot)

/-- The entry as the install core stores it: key shares under a fresh mask, H derived in shared form, EPOCH of a receive
slot inverted (R168, R175). -/
def storedEntry (s : State) (n : Nat) (e : SaEntry) : SaEntry :=
  let m := Config.mask256 (s.gran.seed.getD 0) s.freeCtr
  let h := Config.mask128 (s.gran.seed.getD 0) s.freeCtr
  let ep := e.rx && !(slotOf s n).epoch
  { e with keyS0 := e.keyS0 ^^^ m, keyS1 := e.keyS1 ^^^ m, hS0 := h, hS1 := Config.hashSubkey e.suite e.key ^^^ h,
           attr := e.attr ||| (if ep then 0x40000000 else 0) }

/-- An install whose NEXT_PN already leaves 2^m or fewer PNs raises the margin event (R185). -/
def installMargin (s : State) (n : Nat) (e : SaEntry) : State :=
  let s := setMargin s n false
  if e.remain ≤ marginOf s e then raise (setMargin s n true) (grSrc + (if e.rx then 5 else 3)) [n] else s

/-- The install's entry is written and GR_RESULT updated (R175, R178). -/
def installDone (s : State) : State :=
  match s.gran.cmd with
  | none => s
  | some c =>
    if c.op ≠ 1 then s
    else if c.code ≠ 0 then grComplete s 1 c.slot c.code
    else
      let inUse := (slotOf s c.slot).valid
      let e := storedEntry s c.slot c.entry
      let s := cinc (setSlot (freed s) c.slot e) (grA + (if inUse then 0x208 else 0x200))
      raise (grComplete (installMargin s c.slot e) 1 c.slot 0) grSrc [c.slot]

def execInstallComplete (s : State) : Out := powered s (installDone s)

/-- GR_CMD ERASE_DRAIN (R174, R175, R179). -/
def grDrain (s : State) (n : Nat) : State :=
  let e := slotOf s n
  if !s.culm.session then s
  else if grBusy s ∨ slotShut s n then grRefuse s n
  else if !e.valid then grComplete s 2 n 0
  else if 8 ≤ s.gran.fences.length then grRefuse s n
  else grComplete (cinc (drainSlot s n) (grA + 0x210)) 2 n 0

def execEraseDrain (slot : Fin 65536) (s : State) : Out := powered s (grDrain s slot)

/-- GR_CMD ERASE_PURGE, steps 1 to 4 of R180. -/
def grPurge (s : State) (n : Nat) : State :=
  let e := slotOf s n
  if !s.culm.session then s
  else if grBusy s ∨ slotShut s n then grRefuse s n
  else if !e.valid then grComplete s 3 n 0
  else
    let s := setMargin (setSlot s n { attr := 0x80000 }) n false
    let s := { s with gran := { s.gran with cmd := some { op := 3, slot := n, code := 0 } } }
    cinc (purgeSlot s n) (grA + 0x218)

def execErasePurge (slot : Fin 65536) (s : State) : Out := powered s (grPurge s slot)

/-- The purged slot is EMPTY: offset 2, and a drain fence on it is satisfied (R180 step 6, R195). -/
def purgeEmpty (s : State) (n code : Nat) : State :=
  let s := setSlot s n {}
  let s := { s with gran := { s.gran with fences := s.gran.fences.map (fun f => if f.slot == n then { f with waits := [] } else f) } }
  raise (grComplete s 3 n code) (grSrc + 2) [n]

/-- The read-back of a purge ends. A failure takes one of the bank's 16 spare rows, with WARN; with none left the slot
stays PURGING, and the completion's code is a free value, since the spec gives none (R180, R195). -/
def purgeDone (s : State) (good : Bool) : State :=
  match s.gran.cmd with
  | none => s
  | some c =>
    if c.op ≠ 3 then s
    else if good then purgeEmpty s c.slot 0
    else
      let b := slotBank s c.slot
      let used := tget (fun _ => 0) s.gran.sparesUsed b
      let s := warn (raise s (grSrc + 11) [c.slot])
      if used < 16 then
        purgeEmpty { s with gran := { s.gran with sparesUsed := tput (fun _ => 0) s.gran.sparesUsed b (used + 1) } } c.slot 4
      else grComplete (freed s) 3 c.slot (free s % 8)

def execPurgeComplete (verifyOk : Bool) (s : State) : Out := powered s (purgeDone s verifyOk)

/-- GR_CMD READ (R170). -/
def grRead (s : State) (n : Nat) : State :=
  if !s.culm.session then s
  else if grBusy s then grRefuse s n
  else
    let e := slotOf s n
    let rd := [e.attr, w32 e.nextPn.toNat, w32 (e.nextPn.toNat / 2 ^ 32), e.window, e.ssci]
    grComplete { s with gran := { s.gran with rd := rd } } 4 n 0

def execGranaryRead (slot : Fin 65536) (s : State) : Out := powered s (grRead s slot)

/-- GR_CMD ZEROISE (R188). -/
def grZeroise (s : State) : State :=
  if !s.culm.session then s
  else
    let s := zeroiseStart s
    { s with gran := { s.gran with cmd := some { op := 5, slot := 0, code := 0 } } }

def execZeroise (s : State) : Out := powered s (grZeroise s)

/-- The zeros are written and read back: offset 10, and offset 11 with WARN where a row fails (R188, R195). -/
def zeroiseDone (s : State) (good : Bool) : State :=
  if !s.gran.zeroising then s
  else
    let s := { s with gran := { s.gran with zeroising := false } }
    let s := if good then s else warn (raise s (grSrc + 11) [0xFFFFFFFF])
    let s := raise s (grSrc + 10) []
    match s.gran.cmd with
    | some c => grComplete s c.op c.slot (if good then 0 else 4)
    | none => s

def execZeroiseComplete (verifyOk : Bool) (s : State) : Out := powered s (zeroiseDone s verifyOk)

/-- GR_CMD CLEAR_ZEROED, only when SEAL is also clear (R188). -/
def grClearZeroed (s : State) : State :=
  if !s.culm.session then s
  else if grBusy s ∨ rbit s grA 0 then grRefuse s 0
  else grComplete { s with gran := { s.gran with zeroed := false } } 6 0 0

def execClearZeroed (s : State) : Out := powered s (grClearZeroed s)

/-- A descriptor a fence waits for has left its tiller. -/
def fenceLeft (s : State) (w : Nat × Nat × Nat) : Bool :=
  let d := if w.2.1 = 0 then Dir.egress else Dir.ingress
  match frameAt s w.1 d w.2.2 with
  | none => true
  | some f => onLane f

/-- The oldest fence whose descriptors have all left passes: offset 1 with the slot (R179). -/
def fencePass (s : State) : State :=
  match s.gran.fences.find? (fun f => f.waits.all (fenceLeft s)) with
  | none => s
  | some f => raise { s with gran := { s.gran with fences := s.gran.fences.erase f } } (grSrc + 1) [f.slot]

def execDrainFencePass (s : State) : Out := powered s (fencePass s)

/-! ### The remask walker (R167, R169) -/

/-- REMASK_EN. -/
def remaskEn (s : State) : Bool := rbit s grA 1

/-- A sweep falls due: it takes the fresh seed, or the walker pauses with offset 8, to resume when a seed arrives; the seed of the next is
asked for (R169, R464). -/
def sweepStart (s : State) : State :=
  if !remaskEn s then s
  else
    let s := if s.culm.session then rngRequest s 1 2 else s
    if s.gran.paused then s
    else match s.gran.seedNext with
    | some k => { s with gran := { s.gran with seed := some k, seedNext := none, sweeping := true, ptr := 0 } }
    | none => raise { s with gran := { s.gran with paused := true, sweeping := false } } (grSrc + 8) []

def execRemaskSweepStart (s : State) : Out := powered s (sweepStart s)

/-- Both shares of a valid slot take a fresh mask (R169). -/
def remaskSlot (s : State) (n : Nat) : State :=
  let e := slotOf s n
  if e.valid then
    let m := Config.mask256 (s.gran.seed.getD 0) s.freeCtr
    let h := Config.mask128 (s.gran.seed.getD 0) s.freeCtr
    setSlot (freed s) n { e with keyS0 := e.keyS0 ^^^ m, keyS1 := e.keyS1 ^^^ m, hS0 := e.hS0 ^^^ h, hS1 := e.hS1 ^^^ h }
  else s

/-- The walker visits the next slot: it scrubs, remasks and moves on; the last slot ends the sweep (R169). -/
def slotVisit (s : State) (ecc : Ecc) : State :=
  if !remaskEn s || !s.gran.sweeping then s
  else
    let n := s.gran.ptr
    let s := match ecc with
      | .clean => remaskSlot s n
      | .corrected => remaskSlot (eccCorrected s n) n
      | .uncorrectable => eccErase s n
    if n = 65535 then cinc { s with gran := { s.gran with ptr := 0, sweeping := false } } (grA + 0x230)
    else { s with gran := { s.gran with ptr := n + 1 } }

def execRemaskSlotVisit (ecc : Ecc) (s : State) : Out := powered s (slotVisit s ecc)

/-- A seed arrives over the culm; a paused walker resumes from slot 0 with offset 9 (R169). -/
def seedReceive (s : State) (k : BitVec 256) : State :=
  if !s.culm.session then s
  else if s.gran.paused then
    raise { s with gran := { s.gran with seed := some k, seedNext := none, paused := false, sweeping := true, ptr := 0 } } (grSrc + 9) []
  else { s with gran := { s.gran with seedNext := some k } }

def execRemaskSeedReceive (seed : BitVec 256) (s : State) : Out := powered s (seedReceive s seed)

/-! ### The culm (R189–R194) -/

/-- The counter bases of the line-die and the control-die endpoint (R199, R200). -/
def cuL : Nat := 0x40000000
def cuC : Nat := 0x300E0000

/-- CU_CTL START (control die): refused while a session is up; the nonce crosses (R190, R199). -/
def sessionStart (s : State) (nonce : BitVec 256) : State :=
  if s.culm.session then refuse s cuC
  else send { s with culm := { s.culm with starting := true, nonceC := nonce } } (.flit true 0 nonce.toNat)

def execCulmSessionStart (nonce : BitVec 256) (s : State) : Out := powered s (sessionStart s nonce)

/-- Both endpoints derive the session key (R190): the session is up with its sequence numbers at 0. Line-die firings that waited arrive (R538), and
the steward's parts of a ladder level held meanwhile are applied (R541); a harvest and a boundary that
waited go on (R306, R323); in a start this is step 8 and the tests of step 9 begin (R514). -/
def sessionUp (s : State) (nonce : BitVec 256) : State :=
  if !s.culm.starting || s.pw.pufFail then s
  else
    let s := { s with culm := { s.culm with starting := false, session := true, nonceL := nonce, seqDown := 0, seqUp := 0,
                                            failsDown := 0, failsUp := 0 } }
    let s := raise (raise (cinc (cinc s (cuL + 0x68)) (cuC + 0x68)) (grSrc + 35) []) 185 []
    let s := lateFirings s
    let s := if s.pw.mode = .starting ∧ s.pw.step < 12 then s
             else
               let t := if 3 ≤ s.level then sealPart s else s
               if 4 ≤ t.level then failWrite (if t.gran.zeroed then t else zeroiseStart t) false else t
    let s := boundaryDue (deliver s)
    if s.pw.mode = .starting ∧ s.pw.tested = false then beginStartTest (startStep { s with pw := { s.pw with tested := true } } 8) else s

def execCulmSessionUp (nonce : BitVec 256) (s : State) : Out := powered s (sessionUp s nonce)

/-- The session ends: keys discarded, the transfer record cleared, the walker pauses; the data path carries on (R193, R197). -/
def sessionEnd (s : State) : State :=
  if !s.culm.session then s
  else
    let s := { s with culm := { s.culm with session := false, starting := false, nonceC := 0, nonceL := 0 },
                      gran := { s.gran with xfer := [], written := [] } }
    let s := raise (raise s (grSrc + 36) []) 184 []
    if remaskEn s ∧ !s.gran.paused then raise { s with gran := { s.gran with paused := true, sweeping := false } } (grSrc + 8) [] else s

/-- One flit received, toward the line die (down) or back: accepted in sequence, or discarded with a retransmission; a
fourth failure in a row ends the session (R189, R191). -/
def flitReceive (s : State) (down tagOk : Bool) : State :=
  let rx := if down then cuL else cuC
  let tx := if down then cuC else cuL
  if !s.culm.session || s.culm.halted then s
  else
    let s := cinc s (tx + 0x40)
    if tagOk then
      let s := cinc s (rx + 0x48)
      if down then { s with culm := { s.culm with seqDown := s.culm.seqDown + 1, failsDown := 0 } }
      else { s with culm := { s.culm with seqUp := s.culm.seqUp + 1, failsUp := 0 } }
    else
      let n := if down then s.culm.failsDown + 1 else s.culm.failsUp + 1
      let s := raise (cinc s (rx + 0x50)) (grSrc + 34) [b2n down]
      let s := if down then { s with culm := { s.culm with failsDown := n } } else { s with culm := { s.culm with failsUp := n } }
      if 4 ≤ n then sessionEnd s else cinc s (tx + 0x58)

def execCulmFlitReceive (down : Bool) (tagOk : Bool) (s : State) : Out := powered s (flitReceive s down tagOk)

/-- Lanes taken out of use, among the 34. -/
def lanesFailed (s : State) : Nat := ((List.range 34).filter (fun i => s.culm.failed.testBit i)).length

/-- A lane is taken out of use: a spare takes its place, or half rate, or with fewer than 16 healthy lanes the session ends
(R192, R193). -/
def laneFail (s : State) (i : Nat) : State :=
  if s.culm.failed.testBit i then s
  else
    let s := cinc (cinc { s with culm := { s.culm with failed := s.culm.failed + 2 ^ i } } (cuL + 0x60)) (cuC + 0x60)
    if s.culm.spares < 2 then
      raise { s with culm := { s.culm with spares := s.culm.spares + 1, halted := true } } (grSrc + 32) [i]
    else if 34 - lanesFailed s < 16 then sessionEnd s
    else if s.culm.half then { s with culm := { s.culm with halted := true } }
    else raise { s with culm := { s.culm with half := true, halted := true } } (grSrc + 33) [i]

def execCulmLaneFail (lane : Fin 34) (s : State) : Out := powered s (laneFail s lane)

/-- After 5 µs the culm carries flits again on its new lanes (R192). -/
def execCulmLaneReplaced (s : State) : Out := powered s { s with culm := { s.culm with halted := false } }

/-- Every 100 µs of a session a heartbeat flit leaves the control die (R194). -/
def execCulmHeartbeatExpiry (s : State) : Out :=
  powered s (if s.culm.session ∧ !s.culm.halted then cinc (send s (.flit true 1 0)) (cuC + 0x40) else s)

/-- No authenticated flit for DEADMAN_MS: the line die zeroises on its own, with offset 13 (R194). -/
def execDeadmanExpiry (s : State) : Out := powered s (raise (zeroiseStart s) (grSrc + 13) [])

end Sys2Proof.Machine
end

