-- ==== Sys2Proof/Machine/SvcSa.lean ====
section
/-! DEFINITION. The services for secure channels and associations (R289–R291, R311) and for their counters (R304). -/

namespace Sys2Proof.Machine

/-! ### Secure channels -/

/-- The record of an SC: direction 0 transmit, 1 receive. -/
def scOf (s : State) (dir n : Nat) : ScRec := tget (fun _ => {}) s.ord.scs (8192 * dir + n)
def setSc (s : State) (dir n : Nat) (x : ScRec) : State := { s with ord := { s.ord with scs := tput (fun _ => {}) s.ord.scs (8192 * dir + n) x } }

/-- SCs that a domain holds in a direction. -/
def scsOf (s : State) (dir d : Nat) : List Nat :=
  (s.ord.scs.filter (fun e => decide (e.1 / 8192 = dir) && e.2.held && e.2.dom == d)).map (fun e => e.1 % 8192)

/-- The SC was released in the open minute or in the one before it (R311). -/
def lately (s : State) (x : ScRec) : Bool :=
  match x.released with
  | some m => decide (openMinute s ≤ m + 1)
  | none => false

/-- The domain's quota of SCs in a direction. -/
def scQuota (s : State) (dir d : Nat) : Nat := if dir = 0 then (quotaOf s d).tx else (quotaOf s d).rx

/-- An SC record of R289 in scratch: reserved bits zero, no value that R133 refuses, and only what its direction uses; OFFSET serves
both directions (R133; log entry 24). -/
def scRecGood (dir : Nat) (l : List Byte) : Bool :=
  let a := leNat (octetsAt l 8 1)
  let b := leNat (octetsAt l 9 1)
  leNat (octetsAt l 10 6) == 0 && decide (a < 128) && decide (b < 8) &&
    bitsOf a 2 1 != 3 && bitsOf a 4 3 != 3 && bitsOf a 6 5 != 3 &&
    (if dir = 0 then b == 0 else a % 2 == 0 && bitsOf a 6 3 == 0)

/-- First slot of an SC, and whether one of its slots is VALID. -/
def scSlot (dir n : Nat) : Nat := 32768 * dir + 4 * n
def scValid (s : State) (dir n : Nat) : Bool := (List.range 4).any (fun a => (slotOf s (scSlot dir n + a)).valid)

/-- A result word names the SC: PROTECT a transmit one, VALIDATE a receive one (R65). -/
def namesSc (w : W32) (dir n : Nat) : Bool := fld w 2 0 == 2 + dir && fld w 28 16 == n

/-- A steering entry or rule names the SC. -/
def scSteered (s : State) (dir n : Nat) : Bool :=
  s.line.em.any (fun e => namesSc (wordAt e.2 4) dir n) || s.line.rules.any (fun e => namesSc (wordAt e.2 17) dir n)

/-- The SCI of a record, written into the SCI table (R134), and the record kept. -/
def scWrite (s : State) (dir n : Nat) (l : List Byte) (x : ScRec) : State :=
  let sci := BitVec.ofNat 64 (leNat (octetsAt l 0 8))
  let s := setSc s dir n { x with sci := sci, b8 := leNat (octetsAt l 8 1), b9 := leNat (octetsAt l 9 1) }
  { s with line := { s.line with sci := tput (fun _ => 0) s.line.sci (8192 * dir + n) sci } }

/-- An SC that may be allocated. -/
def scFree (s : State) (dir n : Nat) : Bool := !(scOf s dir n).held && !lately s (scOf s dir n)

/-- The SC given where any is wanted: some free one, from a free starting point (log entry 5). -/
def scPick (s : State) (dir : Nat) : Option Nat :=
  ((List.range 8192).map (fun i => (free s + i) % 8192)).find? (scFree s dir)

/-- SC_ALLOC (R288, R289, R311). -/
def svcScAlloc (s : State) (j : Job) (x : Hart) (h : Nat) : State :=
  let dir := svcArg x 2 % 2
  let want := svcArg x 2 / 65536
  let l := scratchRead s j (svcArg x 3) 16
  let d := j.domain
  if (8192 ≤ want ∧ want ≠ 0xFFFF) ∨ !inScratch (svcArg x 3) 16 ∨ !scRecGood dir l then svcRet s h 3 []
  else if want ≠ 0xFFFF ∧ !scFree s dir want then svcRet s h 1 []
  else if scQuota s dir d ≤ (scsOf s dir d).length then svcRet s h 4 []
  else
    let give := fun (s : State) (n : Nat) => svcRet (scWrite s dir n l { held := true, dom := d, since := openMinute s }) h 0 [n]
    if want ≠ 0xFFFF then needCulm s h j (fun s => give s want)
    else match scPick s dir with
      | some n => needCulm s h j (fun s => give (freed s) n)
      | none => svcRet s h 4 []

def execScAlloc (h : Fin 8) (s : State) : Out := ok (svcCall s h 0x10 false (fun s j x => svcScAlloc s j x h))

/-- Steps 5 and 6 of R278 for an SC. -/
def scStatus (s : State) (d dir n : Nat) : Nat :=
  let x := scOf s dir n
  if d ≠ 0 ∧ ¬(x.held ∧ x.dom = d) then 2 else if !x.held then 1 else 0

/-- An SC released to the pool (R311). -/
def scRelease (s : State) (dir n : Nat) : State := setSc s dir n { scOf s dir n with held := false, released := some (openMinute s) }

/-- SC_FREE. -/
def svcScFree (s : State) (j : Job) (x : Hart) (h : Nat) : State :=
  let dir := svcArg x 2 % 2
  let n := svcArg x 2 / 65536
  if 8192 ≤ n then svcRet s h 3 []
  else if scStatus s j.domain dir n ≠ 0 then svcRet s h (scStatus s j.domain dir n) []
  else if scValid s dir n || scSteered s dir n then svcRet s h 1 []
  else svcRet (scRelease s dir n) h 0 []

def execScFree (h : Fin 8) (s : State) : Out := ok (svcCall s h 0x11 false (fun s j x => svcScFree s j x h))

/-- SC_MODIFY: a new record; the SCI may change only while no slot is VALID (R134). -/
def svcScModify (s : State) (j : Job) (x : Hart) (h : Nat) : State :=
  let dir := svcArg x 2 % 2
  let n := svcArg x 2 / 65536
  let l := scratchRead s j (svcArg x 3) 16
  let y := scOf s dir n
  if 8192 ≤ n ∨ !inScratch (svcArg x 3) 16 ∨ !scRecGood dir l then svcRet s h 3 []
  else if scStatus s j.domain dir n ≠ 0 then svcRet s h (scStatus s j.domain dir n) []
  else if y.sci ≠ BitVec.ofNat 64 (leNat (octetsAt l 0 8)) ∧ scValid s dir n then svcRet s h 1 []
  else needCulm s h j (fun s => svcRet (scWrite s dir n l y) h 0 [])

def execScModify (h : Fin 8) (s : State) : Out := ok (svcCall s h 0x12 false (fun s j x => svcScModify s j x h))

/-! ### SA slots -/

/-- DIR, AN and SC of an SA argument, and the slot it names. -/
def saDir (v : Nat) : Nat := v % 2
def saAn (v : Nat) : Nat := v / 2 % 4
def saSc (v : Nat) : Nat := v / 65536
def saSlot (v : Nat) : Nat := scSlot (saDir v) (saSc v) + saAn v

/-- The slot belongs to the domain (R278). -/
def saRight (s : State) (d v : Nat) : Bool :=
  let c := scOf s (saDir v) (saSc v)
  let e := slotOf s (saSlot v)
  d == 0 || (c.held && c.dom == d && (!e.valid || e.domain == d))

/-- VALID slots of a domain (R239, R291). -/
def saUsed (s : State) (d : Nat) : Nat := (s.gran.slots.filter (fun e => e.2.valid && e.2.domain == d)).length

/-- The slot is the one that transmission uses (R183). -/
def saCurrent (s : State) (v : Nat) : Bool := saDir v == 0 && txAnOf s (saSc v) == saAn v && (slotOf s (saSlot v)).valid

/-- An SA record of R290 for a direction. -/
def saRecGood (dir : Nat) (l : List Byte) : Bool :=
  let suite := leNat (octetsAt l 2 1)
  let pn := leNat (octetsAt l 4 8)
  let win := leNat (octetsAt l 12 4)
  decide (suite < 4) && decide (leNat (octetsAt l 3 1) < 4) && pn != 0 &&
    (decide (2 ≤ suite) || (decide (pn < 2 ^ 32) && leNat (octetsAt l 16 16) == 0)) &&
    (if dir = 0 then win == 0 else decide (suite < 2) || decide (win ≤ 2 ^ 30))

/-- Octets of the key that a suite takes (R131). -/
def suiteKey (suite : Nat) : Nat := if suite % 2 = 0 then 16 else 32

/-- The attribute word of an install: the SA record's fields with the channel's parameters (R164, R289, R290). -/
def saAttr (v : Nat) (l : List Byte) (c : ScRec) : W32 :=
  w32 (packFields [(1, 0), (saDir v, 1), (leNat (octetsAt l 2 1), 2), (saAn v, 4), (c.dom, 6), (leNat (octetsAt l 3 1) % 2, 18),
    (bitsOf c.b9 2 2, 20), (c.b8 % 2, 21), (bitsOf c.b8 2 1, 22), (bitsOf c.b8 4 3, 24), (bitsOf c.b8 6 5, 26), (c.b9 % 2, 28), (bitsOf c.b9 1 1, 29)])

/-- The 24 words of the transfer record: the key in two shares under a fresh mask (R290, R197). -/
def saXfer (v : Nat) (l : List Byte) (c : ScRec) (key mask : List Byte) : List W32 :=
  let k := BitVec.ofNat 256 (leNat key)
  let m := BitVec.ofNat 256 (leNat mask)
  wordsOf 8 (leBytes 32 m.toNat) ++ wordsOf 8 (leBytes 32 (m ^^^ k).toNat) ++ wordsOf 3 (octetsAt l 20 12) ++ wordsOf 1 (octetsAt l 16 4) ++
    wordsOf 2 (octetsAt l 4 8) ++ wordsOf 1 (octetsAt l 12 4) ++ [saAttr v l c]

/-- The words written to the transfer record in order. -/
def xferWords (s : State) (l : List W32) : State := (l.zipIdx).foldl (fun t p => xferWrite t p.2 p.1) s

/-- The order's service waits, on its hart, for its granary command. -/
def granWait (s : State) (h : Nat) (j : Job) (slot : Nat) : State := modJob s j.id (fun j => { j with stage := .gran h slot })

/-- GR_CMD INSTALL is refused in the present state (R165, R187, R188, R190). -/
def installBarred (s : State) : Bool := rbit s grA 0 || s.gran.zeroed || s.gran.zeroising || !scrkeySet s || !s.culm.paired

/-- The install's words and command go out; the spacing of the receive slot starts (R142, R291). -/
def saIssue (s : State) (h : Nat) (j : Job) (v : Nat) (l : List Byte) (mask : List Byte) : State :=
  let s := xferWords s (saXfer v l (scOf s (saDir v) (saSc v)) (keyOf s (leNat (octetsAt l 0 2))).key mask)
  let s := grInstall s (saSlot v)
  let s := if saDir v = 1 then { s with ord := { s.ord with installed := tput (fun _ => none) s.ord.installed (saSlot v) (some s.now) } } else s
  granWait s h j (saSlot v)

/-- SA_INSTALL (R290, R291, R183). -/
def svcSaInstall (s : State) (j : Job) (x : Hart) (h : Nat) : State :=
  let v := svcArg x 2
  let l := scratchRead s j (svcArg x 3) 32
  let n := leNat (octetsAt l 0 2)
  let c := scOf s (saDir v) (saSc v)
  let e := slotOf s (saSlot v)
  if 8192 ≤ saSc v ∨ !inScratch (svcArg x 3) 32 ∨ !saRecGood (saDir v) l ∨ !symArg s n ∨
    ((keyOf s n).used ∧ (keyOf s n).len ≠ suiteKey (leNat (octetsAt l 2 1))) then svcRet s h 3 []
  else if !saRight s j.domain v ∨ handleStatus s j.domain n = 2 then svcRet s h 2 []
  else if !c.held ∨ handleStatus s j.domain n ≠ 0 ∨ slotShut s (saSlot v) ∨ installBarred s ∨ (saCurrent s v ∧ !bitAt (leNat (octetsAt l 3 1)) 1) then svcRet s h 1 []
  else if !e.valid ∧ (quotaOf s c.dom).sa ≤ saUsed s c.dom then svcRet s h 4 []
  else if saDir v = 1 ∧ (tget (fun _ => none) s.ord.installed (saSlot v)).isSome then svcWait s h j (.spacing (saSlot v))
  else needCulm s h j (fun s =>
    if grBusy s then s else needRandom s h j 32 (fun s mask => saIssue s h j v l mask))

def execSaInstall (h : Fin 8) (s : State) : Out := ok (svcCall s h 0x13 false (fun s j x => svcSaInstall s j x h))

/-- The wrapped copy of an installed slot's key, kept where it may be exported, in the colour of its domain (R171, R410). -/
def keepCopy (s : State) (n : Nat) : State :=
  let e := slotOf s n
  if e.noExport then { s with ord := { s.ord with copies := tput (fun _ => []) s.ord.copies n [] } }
  else
    let s := bindColour s e.domain
    { s with ord := { s.ord with copies := tput (fun _ => []) s.ord.copies n (leBytes (suiteKey e.suite) e.key.toNat) } }

/-- An erased slot's wrapped copy goes with it (R171). -/
def dropCopy (s : State) (n : Nat) : State := { s with ord := { s.ord with copies := tput (fun _ => []) s.ord.copies n [] } }

/-- SA_ERASE (R174, R179, R180, R291). -/
def svcSaErase (s : State) (j : Job) (x : Hart) (h : Nat) : State :=
  let v := svcArg x 2
  let fl := svcArg x 3
  let n := saSlot v
  if 8192 ≤ saSc v then svcRet s h 3 []
  else if !saRight s j.domain v then svcRet s h 2 []
  else if slotShut s n ∨ (saCurrent s v ∧ !bitAt fl 2) then svcRet s h 1 []
  else if !(slotOf s n).valid then svcRet s h 0 []
  else needCulm s h j (fun s =>
    if grBusy s then s
    else if bitAt fl 0 then granWait (grPurge (dropCopy s n) n) h j n
    else if 8 ≤ s.gran.fences.length then svcWait s h j .fenceRoom
    else
      let s := grDrain (dropCopy s n) n
      if bitAt fl 1 then svcWait s h j (.fence n) else svcRet s h 0 [])

def execSaErase (h : Fin 8) (s : State) : Out := ok (svcCall s h 0x14 false (fun s j x => svcSaErase s j x h))

/-- SA_SWITCH: ST_TXAN_SET is written once the AN's slot is VALID (R75, R183). -/
def svcSaSwitch (s : State) (j : Job) (x : Hart) (h : Nat) : State :=
  let sc := svcArg x 2
  let an := svcArg x 3
  let v := 65536 * sc + 2 * an
  if 8192 ≤ sc ∨ 4 ≤ an then svcRet s h 3 []
  else if !saRight s j.domain v then svcRet s h 2 []
  else if !(slotOf s (saSlot v)).valid then svcRet s h 1 []
  else needCulm s h j (fun s => svcRet (txanSet s sc an) h 0 [txAnOf s sc])

def execSaSwitch (h : Fin 8) (s : State) : Out := ok (svcCall s h 0x15 false (fun s j x => svcSaSwitch s j x h))

/-- SA_READ (R170). -/
def svcSaRead (s : State) (j : Job) (x : Hart) (h : Nat) : State :=
  let v := svcArg x 2
  let e := slotOf s (saSlot v)
  if 8192 ≤ saSc v then svcRet s h 3 []
  else if !saRight s j.domain v then svcRet s h 2 []
  else if slotShut s (saSlot v) then svcRet s h 1 []
  else needCulm s h j (fun s =>
    if grBusy s then s
    else svcRet (grRead s (saSlot v)) h 0 [e.attr.toNat, e.nextPn.toNat % 2 ^ 32, e.nextPn.toNat / 2 ^ 32, e.window.toNat])

def execSaRead (h : Fin 8) (s : State) : Out := ok (svcCall s h 0x16 false (fun s j x => svcSaRead s j x h))

def copyOf (s : State) (n : Nat) : List Byte := tget (fun _ => []) s.ord.copies n

/-- SA_EXPORT: the copy kept of a key, wrapped under a handle (R171). -/
def svcSaExport (s : State) (j : Job) (x : Hart) (h : Nat) : State :=
  let v := svcArg x 2
  let kek := svcArg x 3
  let e := slotOf s (saSlot v)
  let c := copyOf s (saSlot v)
  if 8192 ≤ saSc v ∨ !symArg s kek ∨ !inScratch (svcArg x 4) (c.length + 8) then svcRet s h 3 []
  else if !saRight s j.domain v ∨ handleStatus s j.domain kek = 2 ∨ (e.valid ∧ e.noExport) then svcRet s h 2 []
  else if handleStatus s j.domain kek ≠ 0 ∨ slotShut s (saSlot v) ∨ c = [] then svcRet s h 1 []
  else svcRet (scratchWrite s j (svcArg x 4) (octetsAt (Config.keyWrap (keyOf s kek).key c) 0 (c.length + 8))) h 0 [c.length + 8]

def execSaExport (h : Fin 8) (s : State) : Out := ok (svcCall s h 0x17 false (fun s j x => svcSaExport s j x h))

/-- The granary command of a service has completed: OK with the copy of an exportable key kept (R171), LOCKED where ZEROISE aborted it
(R298), and the slot as g2 of an install. A record that R165 refuses is BAD_ARG. -/
def granDone (s : State) (h : Nat) (j : Job) (slot : Nat) : State :=
  let s := modJob s j.id (fun j => { j with stage := .running h })
  if s.gran.resSlot ≠ slot then svcRet s h 1 []
  else if s.gran.resCode = 3 then svcRet s h 0x0C []
  else if s.gran.resOp = 1 then
    if s.gran.resCode ≠ 0 then svcRet s h 3 []
    else svcRet (keepCopy s slot) h 0 [slot]
  else svcRet s h 0 []

/-! ### Counters -/

def svcCntRead (s : State) (j : Job) (x : Hart) (h : Nat) : State :=
  let v := svcArg x 2
  if 8192 ≤ saSc v ∨ !inScratch (svcArg x 3) 64 then svcRet s h 3 []
  else if !saRight s j.domain v then svcRet s h 2 []
  else needCulm s h j (fun s => svcRet (scratchWrite s j (svcArg x 3) (saRecord s s.bank (saSlot v))) h 0 [])

def execCntRead (h : Fin 8) (s : State) : Out := ok (svcCall s h 0x38 false (fun s j x => svcCntRead s j x h))

def svcDomCntRead (s : State) (j : Job) (x : Hart) (h : Nat) : State :=
  if !inScratch (svcArg x 3) 32 then svcRet s h 3 []
  else needCulm s h j (fun s => svcRet (scratchWrite s j (svcArg x 3) (domRecord s s.bank j.domain)) h 0 [])

def execDomCntRead (h : Fin 8) (s : State) : Out := ok (svcCall s h 0x39 false (fun s j x => svcDomCntRead s j x h))

end Sys2Proof.Machine
end

