-- ==== Sys2Proof/Machine/SvcSteer.lean ====
section
/-! DEFINITION. The services for steering, frames and grants of slots (R63–R69, R81, R288, R294), and the popping of punted frames. -/

namespace Sys2Proof.Machine

/-! ### Grants of slots (R81, R288) -/

/-- Grants of a domain on a slot of a stage. -/
def grantsOn (s : State) (d b slot : Nat) : List SteerGrant := s.ord.grants.filter (fun g => g.dom == d && g.stage == b && g.slot == slot)

/-- The domain holds the port: some grant on its slot; domain 0 holds every port (R278). -/
def holdsPort (s : State) (d p : Nat) : Bool := d == 0 || !(grantsOn s d (p / 4) (p % 4)).isEmpty

/-- A key that fixes a slot, with an outer VID or an SCI or both, is granted to the domain. -/
def keyGranted (s : State) (d b slot : Nat) (vid : Option (Nat × Nat)) (sci : Option W64) : Bool :=
  (grantsOn s d b slot).any (fun g => match g.key with
    | .vid c v => vid == some (c, v)
    | .sci w => sci == some w)

/-- What R81 asks of a result word: it names the caller's domain, and an SC that the caller holds. -/
def resultRight (s : State) (d : Nat) (w : W32) : Bool :=
  let a := fld w 2 0
  fld w 14 3 == d && (if a = 2 ∨ a = 3 then (let c := scOf s (a - 2) (fld w 28 16); c.held && c.dom == d) else true)

/-- R81 for an exact-match entry. -/
def emRight (s : State) (d b : Nat) (l : List W32) : Bool :=
  let w0 := wordAt l 0
  let k := fld w0 3 1
  let vid := if k = 1 ∨ k = 2 ∨ k = 4 then some (fld (wordAt l 1) 1 0, fld w0 19 8) else none
  let sci := if k = 3 ∨ k = 4 then some (BitVec.ofNat 64 ((wordAt l 2).toNat + (wordAt l 3).toNat * 2 ^ 32)) else none
  d == 0 || (resultRight s d (wordAt l 4) && keyGranted s d b (fld w0 6 5) vid sci)

/-- R81 for a rule: the slot, and the outer tag's class and VID or the SCI, are fixed by the mask. -/
def ruleRight (s : State) (d b : Nat) (l : List W32) : Bool :=
  let k := ruleKeyOf l
  let m := ruleMaskOf l
  let vid := if bitsOf m 109 96 = 2 ^ 14 - 1 then some (bitsOf k 97 96, bitsOf k 109 98) else none
  let sci := if bitsOf m 210 147 = 2 ^ 64 - 1 then some (BitVec.ofNat 64 (bitsOf k 210 147)) else none
  d == 0 || (resultRight s d (wordAt l 17) && bitsOf m 228 227 == 3 && keyGranted s d b (bitsOf k 228 227) vid sci)

/-! ### Exact-match entries (R63–R67) -/

/-- Entries of a stage's slice, and those that name a domain, over all stages. -/
def emCount (s : State) (b : Nat) : Nat := (s.line.em.filter (fun e => decide (e.1 / 4096 = b))).length
def emUsed (s : State) (d : Nat) : Nat := (s.line.em.filter (fun e => fld (wordAt e.2 4) 14 3 == d)).length

/-- The index of a stage's valid entry that holds a key. -/
def emIndex (s : State) (b key : Nat) : Option Nat :=
  (s.line.em.find? (fun e => decide (e.1 / 4096 = b) && emKey e.2 == key)).map (fun e => e.1 % 4096)

/-- A place of a key that holds no entry. -/
def emVacant (s : State) (b key : Nat) : Option Nat :=
  (List.range 4096).find? (fun i => (emEntry s b i).isEmpty && emPlace s b key i)

/-- An entry at one of a key's places that can move to a vacant place of its own: its index and the new one. -/
def emMove (s : State) (b key : Nat) : Option (Nat × Nat) :=
  (List.range 4096).findSome? (fun i =>
    if !(emEntry s b i).isEmpty && emPlace s b key i then (emVacant s b (emKey (emEntry s b i))).map (fun k => (i, k)) else none)

/-- The steward's placement: a vacant place, else one made vacant by a relocation, the new copy first (R63, R64; log entry 25). -/
def emInsert (s : State) (b : Nat) (l : List W32) : Option (State × Nat) :=
  match emVacant s b (emKey l) with
  | some i => some (emStore s b i l, i)
  | none => match emMove s b (emKey l) with
    | some (i, k) => some (emStore (emStore s b k (emEntry s b i)) b i l, i)
    | none => none

/-- A stage argument whose tables may be changed: the lead of a pair (R288). -/
def stageOk (s : State) (b : Nat) : Bool := decide (b < 16) && !isPairStage s b

/-- EM_ADD. -/
def svcEmAdd (s : State) (j : Job) (x : Hart) (h : Nat) : State :=
  let b := svcArg x 2
  let l := wordsOf 8 (scratchRead s j (svcArg x 3) 32)
  let d := fld (wordAt l 4) 14 3
  if !stageOk s b ∨ !inScratch (svcArg x 3) 32 ∨ !bitAt (wordAt l 0).toNat 0 ∨ !emLegal l then svcRet s h 3 []
  else if !emRight s j.domain b l then svcRet s h 2 []
  else if (emIndex s b (emKey l)).isSome ∨ tget (fun _ => false) s.locks (stA b + 8) = false then svcRet s h 1 []
  else if 3584 ≤ emCount s b ∨ (quotaOf s d).em ≤ emUsed s d then svcRet s h 4 []
  else needCulm s h j (fun s => match emInsert s b l with
    | some p => svcRet p.1 h 0 [p.2]
    | none => svcRet s h 4 [])

def execEmAdd (h : Fin 8) (s : State) : Out := ok (svcCall s h 0x30 false (fun s j x => svcEmAdd s j x h))

/-- EM_DEL. -/
def svcEmDel (s : State) (j : Job) (x : Hart) (h : Nat) : State :=
  let b := svcArg x 2
  let i := svcArg x 3
  let l := emEntry s b i
  if !stageOk s b ∨ 4096 ≤ i then svcRet s h 3 []
  else if l ≠ [] ∧ j.domain ≠ 0 ∧ fld (wordAt l 4) 14 3 ≠ j.domain then svcRet s h 2 []
  else if l = [] then svcRet s h 1 []
  else needCulm s h j (fun s => svcRet (emStore s b i []) h 0 [])

def execEmDel (h : Fin 8) (s : State) : Out := ok (svcCall s h 0x31 false (fun s j x => svcEmDel s j x h))

/-- STEER_QUERY: the key of an entry in scratch; the entry found is written to the output (log entry 25). -/
def svcSteerQuery (s : State) (j : Job) (x : Hart) (h : Nat) : State :=
  let b := svcArg x 2
  let l := wordsOf 8 (scratchRead s j (svcArg x 3) 32)
  if 16 ≤ b ∨ !inScratch (svcArg x 3) 32 ∨ !inScratch (svcArg x 4) 32 ∨ 4 < fld (wordAt l 0) 3 1 then svcRet s h 3 []
  else match emIndex s (leadStage s b) (emKey l) with
    | none => needCulm s h j (fun s => svcRet s h 0 [0xFFFFFFFF])
    | some i =>
      let e := emEntry s (leadStage s b) i
      if j.domain ≠ 0 ∧ fld (wordAt e 4) 14 3 ≠ j.domain then svcRet s h 2 []
      else needCulm s h j (fun s => svcRet (scratchWrite s j (svcArg x 4) (octetsOf e)) h 0 [i])

def execSteerQuery (h : Fin 8) (s : State) : Out := ok (svcCall s h 0x34 false (fun s j x => svcSteerQuery s j x h))

/-! ### Rules (R68, R69) -/

/-- Rules at indices 16–255 that name a domain, over all stages. -/
def ruleUsed (s : State) (d : Nat) : Nat :=
  (s.line.rules.filter (fun e => decide (16 ≤ e.1 % 256) && fld (wordAt e.2 17) 14 3 == d)).length

/-- The lowest free index for scripts. -/
def ruleVacant (s : State) (b : Nat) : Option Nat :=
  ((List.range 240).map (fun i => 16 + i)).find? (fun i => (ruleEntry s b i).isEmpty)

/-- RULE_ADD. -/
def svcRuleAdd (s : State) (j : Job) (x : Hart) (h : Nat) : State :=
  let b := svcArg x 2
  let l := wordsOf 20 (scratchRead s j (svcArg x 3) 80)
  let i := svcArg x 4
  let d := fld (wordAt l 17) 14 3
  if !stageOk s b ∨ !inScratch (svcArg x 3) 80 ∨ !bitAt (wordAt l 16).toNat 0 ∨ !ruleLegal l ∨ i < 16 ∨ 255 < i then svcRet s h 3 []
  else if !ruleRight s j.domain b l then svcRet s h 2 []
  else if i ≠ 0xFF ∧ ruleEntry s b i ≠ [] then svcRet s h 1 []
  else if (quotaOf s d).rule ≤ ruleUsed s d then svcRet s h 4 []
  else match (if i = 0xFF then ruleVacant s b else some i) with
    | none => svcRet s h 4 []
    | some k => needCulm s h j (fun s => svcRet (ruleStore s b k l) h 0 [k])

def execRuleAdd (h : Fin 8) (s : State) : Out := ok (svcCall s h 0x32 false (fun s j x => svcRuleAdd s j x h))

/-- RULE_DEL, of an index for scripts. -/
def svcRuleDel (s : State) (j : Job) (x : Hart) (h : Nat) : State :=
  let b := svcArg x 2
  let i := svcArg x 3
  let l := ruleEntry s b i
  if !stageOk s b ∨ i < 16 ∨ 256 ≤ i then svcRet s h 3 []
  else if l ≠ [] ∧ j.domain ≠ 0 ∧ fld (wordAt l 17) 14 3 ≠ j.domain then svcRet s h 2 []
  else if l = [] then svcRet s h 1 []
  else needCulm s h j (fun s => svcRet (ruleStore s b i []) h 0 [])

def execRuleDel (h : Fin 8) (s : State) : Out := ok (svcCall s h 0x33 false (fun s j x => svcRuleDel s j x h))

/-! ### STEER_GRANT (R81, R288) -/

/-- The grant record: stage, slot, kind (0 an outer TPID class and VID, 1 an SCI), class, VID in two octets, two zero octets and
the SCI in eight (log entry 25). -/
def grantRecord (l : List Byte) (d : Nat) : Option SteerGrant :=
  let o := fun i n => leNat (octetsAt l i n)
  if 16 ≤ o 0 1 ∨ 4 ≤ o 1 1 ∨ 2 ≤ o 2 1 ∨ o 6 2 ≠ 0 then none
  else if o 2 1 = 0 then (if 3 ≤ o 3 1 ∨ 4096 ≤ o 4 2 ∨ o 8 8 ≠ 0 then none else some ⟨d, o 0 1, o 1 1, .vid (o 3 1) (o 4 2)⟩)
  else if o 3 1 ≠ 0 ∨ o 4 2 ≠ 0 then none else some ⟨d, o 0 1, o 1 1, .sci (BitVec.ofNat 64 (o 8 8))⟩

def svcSteerGrant (s : State) (j : Job) (x : Hart) (h : Nat) : State :=
  let d := svcArg x 2
  if 4096 ≤ d ∨ !inScratch (svcArg x 3) 16 then svcRet s h 3 []
  else match grantRecord (scratchRead s j (svcArg x 3) 16) d with
    | none => svcRet s h 3 []
    | some g =>
      if s.ord.grants.any (fun k => k.stage == g.stage && k.slot == g.slot && k.key == g.key && k.dom != d) then svcRet s h 1 []
      else
        let l := s.ord.grants.filter (fun k => k != g)
        svcRet { s with ord := { s.ord with grants := if bitAt (svcArg x 4) 0 then l else l ++ [g] } } h 0 []

def execSteerGrant (h : Fin 8) (s : State) : Out := ok (svcCall s h 0x74 true (fun s j x => svcSteerGrant s j x h))

/-! ### Frames (R83, R294) -/

/-- The grants of a domain let it send the frame on a slot: one that fixes an outer VID needs it on the outermost tag. -/
def sendRight (s : State) (d b slot : Nat) (q : Parse) : Bool :=
  d == 0 || (grantsOn s d b slot).any (fun g => match g.key with
    | .vid c v => (match q.tags with
      | t :: _ => t.cls == c && t.vid == v
      | [] => false)
    | .sci _ => true)

/-- FRAME_SEND: the frame goes into ST_INJ_DATA, and ST_INJ_CMD is written. -/
def svcFrameSend (s : State) (j : Job) (x : Hart) (h : Nat) : State :=
  let b := svcArg x 2 % 256
  let slot := svcArg x 2 / 256 % 4
  let len := svcArg x 4
  let l := scratchRead s j (svcArg x 3) len
  if 16 ≤ b ∨ len < 64 ∨ 1536 < len ∨ !inScratch (svcArg x 3) len ∨ !injectAllowed s b (parseFrame s b l).etype then svcRet s h 3 []
  else if !sendRight s j.domain b slot (parseFrame s b l) then svcRet s h 2 []
  else if tget (fun _ => false) s.line.injWait b ∨ !portExists s (4 * b + slot) then svcRet s h 1 []
  else needCulm s h j (fun s => svcRet (injectGo (rsets s (stA b + 0x4000) (wordsOf (cdiv len 4) l)) b slot len) h 0 [])

def execFrameSend (h : Fin 8) (s : State) : Out := ok (svcCall s h 0x60 false (fun s j x => svcFrameSend s j x h))

def puntsOf (s : State) (d : Nat) : List PuntFrame := tget (fun _ => []) s.ord.punts d
def setPunts (s : State) (d : Nat) (l : List PuntFrame) : State := { s with ord := { s.ord with punts := tput (fun _ => []) s.ord.punts d l } }

/-- Stage, slot and DIR of a punted frame, packed as FRAME_SEND's g2 with DIR in bit 10 (log entry 25). -/
def puntWord (f : PuntFrame) : Nat := packFields [(f.slot / 4, 0), (f.slot % 4, 8), (dirNum f.dir, 10)]

/-- FRAME_RECV: the oldest queued frame; else a wait, from service table 1.2 on, and NOT_NOW at its end. -/
def svcFrameRecv (s : State) (j : Job) (x : Hart) (h : Nat) : State :=
  match puntsOf s j.domain with
  | f :: r =>
    if !inScratch (svcArg x 2) f.octets.length then svcRet s h 3 []
    else svcRet (setPunts (scratchWrite s j (svcArg x 2) f.octets) j.domain r) h 0 [f.octets.length, f.cookie.toNat, puntWord f]
  | [] =>
    if !inScratch (svcArg x 2) 0 then svcRet s h 3 []
    else if j.resumed = some .timedOut ∨ svcArg x 3 = 0 ∨ (fnOf s j.fn).vSvc % 256 < 2 then svcRet s h 1 []
    else svcWait s h j .punt

def execFrameRecv (h : Fin 8) (s : State) : Out := ok (svcCall s h 0x61 false (fun s j x => svcFrameRecv s j x h))

/-- Some function holds the domain. -/
def domHeld (s : State) (d : Nat) : Bool := d == 0 || s.host.fns.any (fun e => e.2.present && e.2.doms.contains d)

/-- A popped frame joins its domain's queue of 16, the oldest dropped and counted when it is full; a waiting FRAME_RECV goes on. One of
a domain that no function holds is dropped (R294). The queue takes a colour for the domain (R410). -/
def puntQueue (s : State) (b : Nat) (f : PuntFrame) : State :=
  if !domHeld s f.domain then s
  else
    let s := bindColour s f.domain
    let l := puntsOf s f.domain
    let g := { f with slot := 4 * b + f.slot }
    let s := match l with
      | o :: r => if 16 ≤ l.length then puntDrop (setPunts s f.domain (r ++ [g])) o.slot (o.slot / 4) else setPunts s f.domain (l ++ [g])
      | [] => setPunts s f.domain [g]
    match s.ord.jobs.find? (fun j => j.stage == .waiting .punt && j.domain == f.domain) with
    | some j => makeReady s j.id .punt
    | none => s

/-- ST_PUNT_CMD: the steward takes the oldest frame of a punt buffer (R82, R294). -/
def puntPop (s : State) (b : Nat) : State :=
  match puntOf s b with
  | [] => s
  | f :: r => puntQueue (setPunt s b r) b f

def execPuntPop (stage : Fin 16) (s : State) : Out := ok (puntPop s stage)

end Sys2Proof.Machine
end

