-- ==== Sys2Proof/Machine/SvcGrant.lean ====
section
/-! DEFINITION. The grant services: FN_GRANT, FN_QUERY, DOM_QUOTA with the HARD reclaim, and FN_LOG (R237–R243, R251–R253). -/

namespace Sys2Proof.Machine

/-! ### FN_GRANT and FN_QUERY (R237, R238, R242) -/

/-- A grant as the 48-octet record. -/
def grantOctets (f : Nat) (x : FnSt) : List Byte :=
  leBytes 1 (f % 256) ++ leBytes 1 x.doms.length ++ leBytes 2 0 ++ octetsAt (x.doms.flatMap (fun d => leBytes 2 d)) 0 32 ++
    leBytes 1 x.hartW ++ leBytes 1 x.liW ++ leBytes 1 x.evVecs ++ leBytes 1 0 ++ leBytes 2 x.maxOut ++ leBytes 6 0

/-- Domain n of a grant record. -/
def grantDom (l : List Byte) (n : Nat) : Nat := leNat (octetsAt l (4 + 2 * n) 2)

/-- A grant record that R238 accepts, for a function that exists. -/
def grantGood (l : List Byte) : Bool :=
  let o := fun i n => leNat (octetsAt l i n)
  let nd := o 1 1
  let ds := (List.range nd).map (grantDom l)
  decide (nd ≤ 16) && o 2 2 == 0 && o 39 1 == 0 && o 42 6 == 0 && ds.all (fun d => decide (1 ≤ d ∧ d < 4096)) && decide ds.Nodup &&
    (List.range 16).all (fun i => decide (i < nd) || grantDom l i == 0) && o 36 1 != 0 &&
    decide (o 38 1 ≤ (if o 0 1 = 0 then 62 else 2)) && decide (1 ≤ o 40 2 ∧ o 40 2 ≤ 4096)

/-- Orders of domain d that function f has fetched and that are not dispatched complete WITHDRAWN (R242); answers their number. -/
def withdrawDomain (s : State) (f d : Nat) : State × Nat :=
  let mine := s.ord.jobs.filter (fun j => j.fn == f && j.domain == d && !j.started)
  let raws := (fnOf s f).raw.filter (fun r => r.etype == 1 && hdrKind r.octets != 0 && hdrDomain r.octets == d)
  let s := mine.foldl (fun t j => endJob t j 11 0 []) s
  let s := modFn s f (fun x => { x with raw := x.raw.filter (fun r => !raws.contains r) })
  (raws.foldl (fun t r => completeRaw t f r 11) s, mine.length + raws.length)

/-- Every domain of a list withdrawn from a function, with one record of their count. -/
def withdrawDomains (s : State) (f : Nat) (ds : List Nat) : State :=
  let p := ds.foldl (fun (p : State × Nat) d => let q := withdrawDomain p.1 f d; (q.1, p.2 + q.2)) (s, 0)
  withdrawn p.1 f p.2

/-- The new grant of function f at its grant point (R241, R242): code 0x0B with the grant point's number. -/
def applyGrant (s : State) (f : Nat) (l : List Byte) : State :=
  let o := fun i n => leNat (octetsAt l i n)
  let old := fnOf s f
  let ds := (List.range (o 1 1)).map (grantDom l)
  let s := setFn s f { old with doms := ds, hartW := o 36 1, liW := o 37 1, evVecs := o 38 1, maxOut := o 40 2 }
  let s := liWeight s f (o 37 1)
  let s := withdrawDomains s f (old.doms.filter (fun d => !ds.contains d))
  let s := if o 38 1 < old.evVecs then dropRoutes s f (fun v => decide (1 + o 38 1 < v)) else s
  let s := cinc s 0x300B8128
  raiseEv s (fnSrc f) 0x0B [(cget s 0x300B8128).toNat]

/-- FN_GRANT: the record as applied is written back over the argument (log entry 26). -/
def svcFnGrant (s : State) (j : Job) (x : Hart) (h : Nat) : State :=
  let l := scratchRead s j (svcArg x 2) 48
  let f := 256 * (j.fn / 256) + leNat (octetsAt l 0 1)
  if !inScratch (svcArg x 2) 48 ∨ !(fnOf s f).present ∨ !grantGood l then svcRet s h 3 []
  else
    let s := applyGrant s f l
    svcRet (scratchWrite s j (svcArg x 2) (grantOctets f (fnOf s f))) h 0 []

def execFnGrant (h : Fin 8) (s : State) : Out := ok (svcCall s h 0x70 true (fun s j x => svcFnGrant s j x h))

def svcFnQuery (s : State) (j : Job) (x : Hart) (h : Nat) : State :=
  let f := 256 * (j.fn / 256) + svcArg x 2
  if 256 ≤ svcArg x 2 ∨ !inScratch (svcArg x 3) 48 ∨ !(fnOf s f).present then svcRet s h 3 []
  else svcRet (scratchWrite s j (svcArg x 3) (grantOctets f (fnOf s f))) h 0 []

def execFnQuery (h : Fin 8) (s : State) : Out := ok (svcCall s h 0x71 true (fun s j x => svcFnQuery s j x h))

/-! ### DOM_QUOTA (R239, R241, R243) -/

/-- A quota record's quotas. -/
def quotaRec (l : List Byte) : Quota :=
  let o := fun i n => leNat (octetsAt l i n)
  { hard := o 2 1 == 1, tx := o 4 2, rx := o 6 2, sa := o 8 4, em := o 12 2, rule := o 14 2 }

def quotaGood (l : List Byte) : Bool :=
  let q := quotaRec l
  decide (leNat (octetsAt l 0 2) < 4096 ∧ leNat (octetsAt l 2 1) ≤ 1) && leNat (octetsAt l 3 1) == 0 &&
    decide (q.tx ≤ 8192 ∧ q.rx ≤ 8192 ∧ q.sa ≤ 65536 ∧ q.em ≤ 57344 ∧ q.rule ≤ 3840)

def quotaPut (s : State) (d : Nat) (q : Quota) : State := { s with host := { s.host with quotas := tput (fun _ => {}) s.host.quotas d q } }

/-- What the quotas of all domains reserve: TX SCs, RX SCs and SA slots. -/
def reserved (s : State) (g : Quota → Nat) : Nat := (s.host.quotas.map (fun e => g e.2)).sum

/-- The quotas as octets, then VF_POOL_0 and VF_POOL_1 (R239, R260). -/
def quotaOctets (s : State) (d : Nat) : List Byte :=
  let q := quotaOf s d
  leBytes 2 d ++ leBytes 1 (b2n q.hard) ++ leBytes 1 0 ++ leBytes 2 q.tx ++ leBytes 2 q.rx ++ leBytes 4 q.sa ++ leBytes 2 q.em ++ leBytes 2 q.rule ++
    leBytes 4 (packFields [(8192 - reserved s (fun q => q.tx), 0), (8192 - reserved s (fun q => q.rx), 16)]) ++ leBytes 4 (65536 - reserved s (fun q => q.sa))

/-- A step of the HARD reclaim. -/
inductive Reclaim where
  | drain (slot : Nat)
  | release (dir n : Nat)
  | em (key : Nat)
  | rule (key : Nat)
deriving DecidableEq, Repr

def maxOf (l : List Nat) : Option Nat := l.foldl (fun b n => some (Nat.max n (b.getD n))) none

/-- The SC that a direction's quota takes next: first its VALID slots, then the channel itself. -/
def reclaimSc (s : State) (d dir : Nat) : Option Reclaim :=
  let l := scsOf s dir d
  if l.length ≤ scQuota s dir d then none
  else (maxOf l).map (fun n =>
    match (List.range 4).find? (fun a => (slotOf s (scSlot dir n + a)).valid) with
    | some a => .drain (scSlot dir n + a)
    | none => .release dir n)

/-- The slot that SA_MAX takes next: receive slots, then transmit slots that transmission does not use, then the rest, the highest
of its group first. -/
def reclaimSa (s : State) (d : Nat) : Option Reclaim :=
  let l := (s.gran.slots.filter (fun e => e.2.valid && e.2.domain == d)).map (fun e => e.1)
  let used := fun n => txAnOf s (n / 4) == n % 4
  if l.length ≤ (quotaOf s d).sa then none
  else match maxOf (l.filter (fun n => decide (32768 ≤ n))) with
    | some n => some (.drain n)
    | none => match maxOf (l.filter (fun n => !used n)) with
      | some n => some (.drain n)
      | none => (maxOf l).map .drain

/-- Of keys `width`·stage + index, the one with the highest index; of equal ones the highest stage (log entry 26). -/
def topIndex (width : Nat) (l : List Nat) : Option Nat :=
  (maxOf (l.map (fun k => (k % width) * 16 + k / width))).map (fun m => width * (m % 16) + m / 16)

def reclaimTables (s : State) (d : Nat) : Option Reclaim :=
  if (quotaOf s d).em < emUsed s d then
    (topIndex 4096 ((s.line.em.filter (fun e => fld (wordAt e.2 4) 14 3 == d)).map (fun e => e.1))).map .em
  else if (quotaOf s d).rule < ruleUsed s d then
    (topIndex 256 ((s.line.rules.filter (fun e => decide (16 ≤ e.1 % 256) && fld (wordAt e.2 17) 14 3 == d)).map (fun e => e.1))).map .rule
  else none

/-- The next step of the reclaim (R243). -/
def reclaimNext (s : State) (d : Nat) : Option Reclaim :=
  match reclaimSc s d 0 with
  | some r => some r
  | none => match reclaimSc s d 1 with
    | some r => some r
    | none => match reclaimSa s d with
      | some r => some r
      | none => reclaimTables s d

/-- A channel released: entries and rules that name it removed, and the SC back in the pool. -/
def reclaimRelease (s : State) (dir n : Nat) : State :=
  let s := { s with line := { s.line with em := s.line.em.filter (fun e => !namesSc (wordAt e.2 4) dir n),
                                          rules := s.line.rules.filter (fun e => !namesSc (wordAt e.2 17) dir n) } }
  scRelease s dir n

/-- The reclaim as far as the eight drain fences let it go; true where it is done. `k` bounds its steps. -/
def reclaim : Nat → State → Nat → State × Bool
  | 0, s, _ => (s, false)
  | k + 1, s, d =>
    match reclaimNext s d with
    | none => (s, true)
    | some (.drain n) => if 8 ≤ s.gran.fences.length then (s, false) else reclaim k (grDrain (dropCopy s n) n) d
    | some (.release dir n) => reclaim k (reclaimRelease s dir n) d
    | some (.em i) => reclaim k (emStore s (i / 4096) (i % 4096) []) d
    | some (.rule i) => reclaim k (ruleStore s (i / 256) (i % 256) []) d

/-- More steps than any reclaim takes. -/
def RECLAIM_STEPS : Nat := 200000

/-- The quotas applied at the grant point; one resumed has been applied. -/
def quotaApply (s : State) (j : Job) (d : Nat) (q : Quota) : State :=
  if j.resumed = some .fenceRoom ∨ j.resumed = some .timedOut then s else cinc (quotaPut s d q) 0x300B8128

/-- The reclaim of a DOM_QUOTA: OK when done, YIELDED where the budget has run out, else a wait for a drain fence. -/
def quotaReclaim (s : State) (j : Job) (h d off : Nat) : State :=
  let p := reclaim RECLAIM_STEPS s d
  let t := scratchWrite p.1 j off (quotaOctets p.1 d)
  if p.2 then svcRet t h 0 []
  else if j.resumed = some .timedOut then svcRet t h 8 []
  else svcWait p.1 h j .fenceRoom

/-- DOM_QUOTA: quotas as applied and the free counts of the pools are written back over the argument (log entry 26). -/
def svcDomQuota (s : State) (j : Job) (x : Hart) (h : Nat) : State :=
  let l := scratchRead s j (svcArg x 2) 16
  let d := leNat (octetsAt l 0 2)
  let q := quotaRec l
  let t := quotaPut s d q
  if !inScratch (svcArg x 2) 24 ∨ !quotaGood l then svcRet s h 3 []
  else if 8192 < reserved t (fun q => q.tx) ∨ 8192 < reserved t (fun q => q.rx) ∨ 65536 < reserved t (fun q => q.sa) then svcRet s h 4 []
  else if !q.hard then
    let s := quotaApply s j d q
    svcRet (scratchWrite s j (svcArg x 2) (quotaOctets s d)) h 0 []
  else if s.culm.session && grBusy s then s
  else needCulm s h j (fun s => quotaReclaim (quotaApply s j d q) j h d (svcArg x 2))

def execDomQuota (h : Fin 8) (s : State) : Out := ok (svcCall s h 0x72 true (fun s j x => svcDomQuota s j x h))

/-! ### FN_LOG (R250–R253, R261) -/

/-- The log of function record i is RUNNING or FAULTED; else OFF. -/
def logOn (s : State) (i : Nat) : Bool := rbit s (logA i) 0
def logBad (s : State) (i : Nat) : Bool := rbit s (logA i) 7

/-- A START record whose PAGES_LOG2, RANGE and bases R250 accepts. -/
def logStartGood (l : List Byte) : Bool :=
  let o := fun i n => leNat (octetsAt l i n)
  decide (15 ≤ o 2 1 ∧ o 2 1 ≤ 24) && o 8 8 % 4096 == 0 && o 16 8 % 4096 == 0 && o 24 8 % 4096 == 0

/-- START: bitmap 0 active, OUT_OF_RANGE and EPOCH cleared, RUNNING. -/
def logStart (s : State) (i : Nat) (l : List Byte) : State :=
  let w := fun o => w32 (leNat (octetsAt l o 4))
  let s := rsets s (0x300B0008 + 0x40 * i) [w 8, w 12, w 16, w 20, w 24, w 28]
  let s := rset s (logA i) (w32 (packFields [(1, 0), (leNat (octetsAt l 2 1), 2)]))
  modFn s i (fun x => { x with logEpoch := 0 })

/-- A bitmap retired: its lines written back and dropped; answers the retired bitmap, EPOCH, OUT_OF_RANGE and whether it was FAULTED. -/
def logRetire (s : State) (i : Nat) : State × List Nat :=
  let b := rf s (logA i) 1 1
  let res := [b, (fnOf s i).logEpoch, rf s (logA i) 8 8, rf s (logA i) 7 7]
  (flushLines s i (some b) false, res)

/-- HARVEST: the other bitmap active, EPOCH one more, and OUT_OF_RANGE cleared for the new epoch (R253, R259). -/
def logHarvest (s : State) (i : Nat) : State × List Nat :=
  let s := modFn s i (fun x => { x with logEpoch := (x.logEpoch + 1) % 65536 })
  let p := logRetire s i
  (rsetf (rsetf p.1 (logA i) 1 1 (1 - rf s (logA i) 1 1)) (logA i) 8 8 0, p.2)

/-- STOP: as HARVEST with no bitmap made active; OFF. -/
def logStop (s : State) (i : Nat) : State × List Nat :=
  let p := logRetire s i
  (logOff p.1 i (logBad s i), p.2)

/-- A word of the function's log is being read. -/
def logFilling (s : State) (i : Nat) : Bool := s.host.lines.any (fun y => y.fn == i && y.filling)

/-- FN_LOG for the operation `op` of a row: another row's operation is not this one's; an operation of none is BAD_ARG. A harvest
waits for reads of bitmap words in flight. -/
def svcFnLog (op : Nat) (s : State) (j : Job) (x : Hart) (h : Nat) : State :=
  let l := scratchRead s j (svcArg x 2) 32
  let o := leNat (octetsAt l 0 1)
  let i := 256 * (j.fn / 256) + leNat (octetsAt l 1 1)
  if !inScratch (svcArg x 2) 32 ∨ o = 0 ∨ 3 < o then svcRet s h 3 []
  else if o ≠ op then s
  else if i % 256 = 0 ∨ !(fnOf s i).present ∨ leNat (octetsAt l 3 5) ≠ 0 ∨ (op = 1 ∧ !logStartGood l) then svcRet s h 3 []
  else if op = 1 then (if logOn s i then svcRet s h 1 [] else svcRet (logStart s i l) h 0 [])
  else if !logOn s i ∨ (op = 2 ∧ logBad s i) then svcRet s h 1 []
  else if logFilling s i then s
  else
    let p := if op = 2 then logHarvest s i else logStop s i
    svcRet p.1 h 0 p.2

def execFnLogStart (h : Fin 8) (s : State) : Out := ok (svcCall s h 0x73 true (fun s j x => svcFnLog 1 s j x h))
def execFnLogHarvest (h : Fin 8) (s : State) : Out := ok (svcCall s h 0x73 true (fun s j x => svcFnLog 2 s j x h))
def execFnLogStop (h : Fin 8) (s : State) : Out := ok (svcCall s h 0x73 true (fun s j x => svcFnLog 3 s j x h))

end Sys2Proof.Machine
end

