-- ==== Sys2Proof/Machine/Metering.lean ====
section
/-! DEFINITION. Metering (chapter 9): the counter banks' commands, minutes, sheaves and stooks. -/

namespace Sys2Proof.Machine

/-! ### Merkle trees (R315) -/

def hash48 (l : List Byte) : List Byte := octetsAt (Config.sha384 l) 0 48
def leafHash (sheaf : List Byte) : List Byte := hash48 ((0 : Byte) :: sheaf)
def nodeHash (a b : List Byte) : List Byte := hash48 ((1 : Byte) :: (a ++ b))

/-- The largest power of two below n, for n from 2 to 4,096. -/
def splitAt (n : Nat) : Nat := ((List.range 12).map (fun i => 2 ^ i)).foldl (fun b k => if k < n then k else b) 1

/-- The Merkle Tree Hash of leaf hashes; the first argument bounds the tree's height. -/
def treeHash : Nat → List (List Byte) → List Byte
  | 0, l => l.headD []
  | _ + 1, [] => hash48 []
  | _ + 1, [x] => x
  | k + 1, l => nodeHash (treeHash k (l.take (splitAt l.length))) (treeHash k (l.drop (splitAt l.length)))

/-- The audit path of leaf i, from the leaf upward. -/
def auditPath : Nat → Nat → List (List Byte) → List (List Byte)
  | 0, _, _ => []
  | _ + 1, _, [] => []
  | _ + 1, _, [_] => []
  | k + 1, i, l =>
    let n := splitAt l.length
    if i < n then auditPath k i (l.take n) ++ [treeHash 13 (l.drop n)] else auditPath k (i - n) (l.drop n) ++ [treeHash 13 (l.take n)]

/-! ### Sheaves (R311–R314) -/

/-- The channel counts for domain d in minute m: held during it, or counted on after its release in the minute before (R311). -/
def scInMinute (s : State) (m d : Nat) (dir n : Nat) (c : ScRec) : Bool :=
  let touched := (List.range 4).any (fun a => recTouched s (frozenBank s) (scSlot dir n + a))
  c.dom == d && decide (c.since ≤ m) && (c.held || (match c.released with
    | some r => decide (m ≤ r) || (decide (m ≤ r + 1) && touched)
    | none => false))

/-- Domains that have a sheaf, in rising order (R312). -/
def sheafDomains (s : State) (x : Minute) : List Nat :=
  let sc := x.scs.filterMap (fun e => if scInMinute s x.epoch e.2.dom (e.1 / 8192) (e.1 % 8192) e.2 then some e.2.dom else none)
  let named := sc ++ x.present
  (List.range 4096).filter (fun d => d == 0 || recTouched s (frozenBank s) (65536 + d) || named.contains d)

/-- The sum of one class over a channel's four slots. -/
def scTotal (s : State) (dir n i : Nat) : Nat :=
  ((List.range 4).map (fun a => (tget (fun _ => (0 : W64)) s.saCnt ((frozenBank s * 65536 + scSlot dir n + a) * 8 + i)).toNat)).sum

/-- An SC entry (R314). -/
def scEntry (s : State) (m dir n : Nat) (c : ScRec) : List Byte :=
  let slots := List.range 4
  let mask := (slots.map (fun a => if recTouched s (frozenBank s) (scSlot dir n + a) then 2 ^ a else 0)).sum
  let dmg := slots.any (fun a => recDamaged s (frozenBank s) (scSlot dir n + a))
  let part := decide (m ≤ c.since) || (match c.released with
    | some r => decide (r ≤ m)
    | none => false)
  leBytes 2 n ++ leBytes 1 (packFields [(dir, 0), (mask, 1), (b2n dmg, 5), (b2n part, 6)]) ++ leBytes 5 0 ++
    (List.range 8).flatMap (fun i => leBytes 8 (scTotal s dir n i))

/-- A domain's channels in minute order: transmit first, each in rising order. -/
def sheafScs (s : State) (x : Minute) (d : Nat) : List (Nat × ScRec) :=
  x.scs.filter (fun e => scInMinute s x.epoch d (e.1 / 8192) (e.1 % 8192) e.2)

/-- Some record of the sheaf is damaged. -/
def sheafDamaged (s : State) (d : Nat) (l : List (Nat × ScRec)) : Bool :=
  recDamaged s (frozenBank s) (65536 + d) ||
    l.any (fun e => (List.range 4).any (fun a => recDamaged s (frozenBank s) (scSlot (e.1 / 8192) (e.1 % 8192) + a)))

def prevSheaf (s : State) (d : Nat) : Option (Nat × List Byte) := tget (fun _ => none) s.mt.prev d

/-- The sheaf of a domain (R313). -/
def sheafOf (s : State) (x : Minute) (d : Nat) : List Byte :=
  let l := sheafScs s x d
  let p := prevSheaf s d
  let flags := packFields [(b2n p.isNone, 0), (b2n (x.stamp != 0), 1), (b2n x.backward, 2), (b2n (sheafDamaged s d l), 3)]
  leBytes 2 0x53F1 ++ leBytes 2 0x0100 ++ leBytes 4 (128 + 72 * l.length) ++ leBytes 2 d ++ leBytes 1 (b2n x.timer) ++ leBytes 1 flags ++
    leBytes 4 x.epoch ++ leBytes 4 x.start ++ leBytes 4 (match p with | some q => q.1 | none => 0xFFFFFFFF) ++ leBytes 4 x.us ++
    leBytes 2 l.length ++ leBytes 2 0 ++ leBytes 8 x.stamp ++ (match p with | some q => q.2 | none => List.replicate 48 0) ++
    domRecord s (frozenBank s) d ++ leBytes 8 0 ++ l.flatMap (fun e => scEntry s x.epoch (e.1 / 8192) (e.1 % 8192) e.2)

/-! ### The sheaf store (R321) -/

def Minute.size (x : Minute) : Nat := (x.sheaves.map (fun e => e.2.length)).sum + 48 * x.leaves.length + 648 + x.sign.length

/-- The store holds the minutes: 2 MiB, and 16 minutes with sheaves. -/
def storeFits (l : List Minute) : Bool :=
  decide ((l.map Minute.size).sum ≤ 2097152) && decide ((l.filter (fun x => x.built && !x.evicted)).length ≤ 16)

/-- One eviction: the oldest signed minute, else the sheaves of the oldest unsigned one, whose epoch is answered. -/
def evictOne (l : List Minute) : List Minute × Option Nat :=
  match l.find? (fun x => x.sign != []) with
  | some x => (l.filter (fun y => y.epoch != x.epoch), none)
  | none => match l.find? (fun x => x.built && !x.evicted) with
    | some x => (l.map (fun y => if y.epoch = x.epoch then { y with sheaves := [], evicted := true } else y), some x.epoch)
    | none => (l, none)

/-- The minutes held without the newest, until all fit with it; `k` bounds the evictions. -/
def storeEvict : Nat → State → Minute → State
  | 0, s, _ => s
  | k + 1, s, x =>
    if storeFits (s.mt.minutes ++ [x]) then s
    else
      let p := evictOne s.mt.minutes
      let t := setMt s { s.mt with minutes := p.1 }
      storeEvict k (match p.2 with | some e => raise t (mtSrc + 7) [e] | none => t) x

/-! ### Harvest (R302, R303, R310, R313) -/

/-- A command in the wrong state: offset 11 (R303, R325). -/
def mtRefuse (s : State) : State := refuse s mtA

/-- The minute that a boundary closes joins the steward's list, and the next opens (R305, R306). -/
def closeMinute (s : State) (b : Boundary) (m : Nat) : State :=
  let held := s.host.fns.flatMap (fun e => if e.2.present then e.2.doms else [])
  let x : Minute := { epoch := m, start := s.mt.start, timer := b.timer, stamp := b.stamp, backward := b.stamp != 0 && decide (b.stamp < s.mt.lastStamp),
                      us := s.now - s.mt.lastSwap, closed := s.now, present := held, scs := s.ord.scs }
  let s := setMt s { s.mt with boundary := none, minute := some (m + 1), lastSwap := s.now, minutes := s.mt.minutes ++ [x],
                               lastStamp := if b.stamp = 0 then s.mt.lastStamp else b.stamp }
  raise (tagRefresh s (m + 1) false) mtSrc [m, b2n b.timer]

/-- MT_CMD SWAP (R302, R303). The boundary it places closes its minute, and a waiting MINUTE_TICK returns (R308). MT_SWAPTIME is a
free value: no other rule counts the line die's cycles (log entry 5). -/
def swapBanks (s : State) : State :=
  if !s.culm.session then s
  else if s.mt.frozen ≠ .cleared then mtRefuse s
  else
    let t := setMt { s with bank := 1 - s.bank } { s.mt with frozen := .frozen, swapSeq := (s.mt.swapSeq + 1) % 2 ^ 32, swapTime := free s }
    let t := freed t
    match t.mt.boundary, t.mt.minute with
    | some b, some m =>
      let t := closeMinute t b m
      match b.order.bind (jobOf t) with
      | some j => (match j.stage with
        | .running h => svcRet t h 0 [m]
        | _ => t)
      | none => t
    | _, _ => t

def execSwap (s : State) : Out := powered s (swapBanks s)

/-- Touched records of the frozen bank: SA records in slot order, then domain records. -/
def touchedList (s : State) : List Nat :=
  (s.mt.touched.filter (fun e => decide (e.1 / 131072 = frozenBank s))).map (fun e => e.1 % 131072)

/-- MT_CMD HARVEST. -/
def harvestStart (s : State) : State :=
  if !s.culm.session then s
  else if s.mt.frozen ≠ .frozen then mtRefuse s
  else deliver (setMt s { s.mt with frozen := .harvesting, left := touchedList s })

def execHarvest (s : State) : Out := powered s (harvestStart s)

/-- The minute whose bank is frozen. -/
def unbuilt (s : State) : Option Minute := s.mt.minutes.find? (fun x => !x.built)

/-- The sheaves and the root of a minute are built and stored; the signing of the oldest unsigned one begins (R313–R317, R321). -/
def sheafBuild (s : State) : State :=
  match unbuilt s with
  | none => s
  | some x =>
    let doms := sheafDomains s x
    let sheaves := doms.map (fun d => (d, sheafOf s x d))
    let leaves := sheaves.map (fun e => (e.1, leafHash e.2))
    let y := { x with built := true, scs := [], sheaves := sheaves, leaves := leaves, first := !s.mt.anyStook, root := treeHash 13 (leaves.map (fun e => e.2)) }
    let s := setMt s { s.mt with anyStook := true, minutes := s.mt.minutes.filter (fun z => z.epoch != x.epoch),
                                 prev := leaves.foldl (fun t e => tput (fun _ => none) t e.1 (some (x.epoch, e.2))) s.mt.prev }
    let idle := s.mt.minutes.all (fun z => z.sign != [])
    let s := storeEvict 64 s y
    setMt s { s.mt with minutes := s.mt.minutes ++ [y], signAt := if idle then s.now else s.mt.signAt }

/-- The last touched record has been delivered (R303, R308). -/
def harvestEnd (s : State) : State :=
  if s.mt.frozen ≠ .harvesting ∨ s.mt.left ≠ [] ∨ !s.culm.session then s
  else
    let n := (touchedList s).length
    sheafBuild (raise (setMt s { s.mt with frozen := .harvested }) (mtSrc + 3) [n])

def execHarvestComplete (s : State) : Out := powered s (harvestEnd s)

/-- MT_CMD CLEAR. -/
def clearStart (s : State) : State :=
  if !s.culm.session then s
  else if s.mt.frozen ≠ .harvested ∨ s.mt.clearing then mtRefuse s
  else setMt s { s.mt with clearing := true }

def execClear (s : State) : Out := powered s (clearStart s)

/-- The frozen bank's touched records and its maps are zero: CLEARED, and a timer boundary that waited begins (R303, R306). -/
def clearEnd (s : State) : State :=
  if !s.mt.clearing then s
  else
    let b := frozenBank s
    let out := fun e : Nat × Bool => !(decide (e.1 / 131072 = b))
    let s := { s with saCnt := s.saCnt.filter (fun e => !(decide (e.1 / 524288 = b))), domCnt := s.domCnt.filter (fun e => !(decide (e.1 / 16384 = b))) }
    let s := setMt s { s.mt with frozen := .cleared, clearing := false, touched := s.mt.touched.filter out, damaged := s.mt.damaged.filter out }
    boundaryDue (raise s (mtSrc + 4) [])

def execClearComplete (s : State) : Out := powered s (clearEnd s)

/-- MT_HV_HEAD written: entries released, and a stalled engine goes on (R310). -/
def headWrite (s : State) (v : Nat) : State :=
  if !s.culm.session then s
  else
    let t := rset s (mtA + 0x28) (w32 (v % 65536))
    match t.mt.stallAt with
    | some a => if ringHeld t < 512 then deliver (setMt (cadd t (mtA + 0x120) (t.now - a)) { t.mt with stallAt := none }) else t
    | none => deliver t

def execHvHeadWrite (v : Fin 65536) (s : State) : Out := powered s (headWrite s v)

/-- The engine has stalled for more than 1 ms: offset 10. -/
def execHarvestStall (s : State) : Out := powered s (if s.mt.stallAt.isSome then raise s (mtSrc + 10) [] else s)

/-- MT_RD_CMD GO: the record that MT_RD_IDX names; a number that names none reads free values (R326, log entry 5). -/
def recordRead (s : State) : State :=
  let i := rf s (mtA + 0x30) 16 0
  let kind := rf s (mtA + 0x30) 17 17
  let b := if rbit s (mtA + 0x30) 18 then frozenBank s else s.bank
  if !s.culm.session then s
  else if (if kind = 0 then 65536 else 4096) ≤ i then
    { setMt s { s.mt with rd := (List.range 16).map (fun n => w32 (Config.freeValue (s.freeCtr + n))) } with freeCtr := s.freeCtr + 16 }
  else
    let k := 65536 * kind + i
    let l := wordsOf 16 (anyRecord s b k)
    let top := nth l 15 0 ||| (if kind = 0 ∧ recDamaged s b k then 0x80000000 else 0)
    setMt s { s.mt with rd := setNth l 15 top }

def execCounterRecordRead (s : State) : Out := powered s (recordRead s)

/-! ### Minutes (R305–R308) -/

/-- The fallback timer expires: a boundary, or one that waits for the bank and the session (R306). -/
def fallback (s : State) : State :=
  if s.mt.minute.isNone ∨ s.mt.boundary.isSome then s
  else if boundaryReady s then timerBoundary s else setMt s { s.mt with due := true }

def execMinuteFallbackExpiry (s : State) : Out := powered s (fallback s)

/-- Microseconds after the previous boundary from which a tick is accepted. -/
def tickFrom (s : State) : Nat := if s.mt.timer then 10000000 else 50000000

/-- MINUTE_TICK (R306, R307): it returns once its SWAP has been carried out. -/
def svcMinuteTick (s : State) (j : Job) (x : Hart) (h : Nat) : State :=
  let stamp := svcArg x 2 + svcArg x 3 * 2 ^ 32
  if s.mt.boundary.map (fun b => b.order) = some (some j.id) then s
  else if 999999 < stamp % 2 ^ 20 then svcRet s h 3 []
  else if s.mt.minute.isNone ∨ s.now < s.mt.lastSwap + tickFrom s ∨ s.mt.boundary.isSome ∨ !boundaryReady s then svcRet s h 1 []
  else
    let s := if s.mt.timer then raise (setMt s { s.mt with timer := false }) (mtSrc + 2) [] else s
    boundaryStart s { timer := false, stamp := stamp, order := some j.id }

def execMinuteTick (h : Fin 8) (s : State) : Out := ok (svcCall s h 0x51 true (fun s j x => svcMinuteTick s j x h))

/-! ### Stooks (R316, R317, R322) -/

/-- The oldest minute built and not signed: signatures are made in epoch order. -/
def toSign (s : State) : Option Minute := s.mt.minutes.find? (fun x => x.built && x.sign == [])

/-- Octet i of PRESENT. -/
def presentOctet (x : Minute) (i : Nat) : Byte :=
  BitVec.ofNat 8 ((List.range 8).map (fun b => if x.leaves.any (fun e => e.1 == 8 * i + b) then 2 ^ b else 0)).sum

/-- The root record of a minute as it is signed now (R316). -/
def rootRecord (s : State) (x : Minute) : List Byte :=
  let flags := packFields [(b2n x.first, 0), (b2n (x.stamp != 0), 1), (b2n x.backward, 2)]
  leBytes 2 0x57C0 ++ leBytes 2 0x0100 ++ leBytes 4 x.epoch ++ leBytes 4 x.start ++ leBytes 2 x.leaves.length ++ leBytes 1 (b2n x.timer) ++
    leBytes 1 flags ++ leBytes 8 x.stamp ++ leBytes 4 x.us ++ leBytes 4 ((s.mt.signAt - x.closed) / 1000) ++ x.root ++
    (match s.mt.lastRoot with | some p => p.2 | none => List.replicate 48 0) ++
    leBytes 4 (match s.mt.lastRoot with | some p => p.1 | none => 0xFFFFFFFF) ++ leBytes 1 s.lc.ownAlg ++ leBytes 3 0 ++
    (List.range 512).map (presentOctet x)

/-- Octets of a signature of the metering key (R317). -/
def signLen (alg : Nat) : Nat := if alg = 0 then 96 else 3309

/-- Signing is barred: at LOCKDOWN, outside OWNED, or before the metering key exists (R317, R323, R579). -/
def signBarred (s : State) : Bool := decide (5 ≤ s.level) || s.lc.state != 3 || !s.lc.metKey

/-- Code 0x13 to every function that holds a domain with a leaf; every PF holds domain 0 (R322, R324). -/
def sheafDelivery (s : State) (x : Minute) : State :=
  ((List.range 512).filter (fun f => let y := fnOf s f; y.present && !y.ending && (f % 256 == 0 || y.doms.any (fun d => x.leaves.any (fun e => e.1 == d))))).foldl
    (fun t f => raiseEv t (fnSrc f) 0x13 [x.epoch]) s

/-- The signing job of the oldest unsigned minute ends with a job status of R437: the minute is sealed, or the job is retried (R317). -/
def stookSigned (s : State) (status : Nat) : State :=
  match toSign s with
  | none => s
  | some x =>
    if s.mt.retry then s
    else if status ≠ 0 ∨ signBarred s then raise (setMt s { s.mt with retry := true }) (mtSrc + 6) [x.epoch, status]
    else
      let rec' := rootRecord s x
      let sig := octetsAt (Config.sign s.lc.ownAlg (Config.meteringKey s.lc.ownAlg) rec') 0 (signLen s.lc.ownAlg)
      let s := setMt s { s.mt with minutes := s.mt.minutes.map (fun y => if y.epoch = x.epoch then { y with record := rec', sign := sig } else y),
                                   lastRoot := some (x.epoch, x.root), signAt := s.now }
      sheafDelivery (raise s (mtSrc + 5) [x.epoch]) x

def execStookSigned (status : Fin 8) (s : State) : Out := powered s (stookSigned s status)

/-- The retry of a failed signing job begins. -/
def execSignRetryExpiry (s : State) : Out := powered s (if s.mt.retry then setMt s { s.mt with retry := false, signAt := s.now } else s)

/-! ### SHEAF_GET (R319, R320) -/

/-- The package of a domain, or the stook package for 0xFFFF. -/
def packageOf (x : Minute) (d : Nat) : List Byte :=
  let tail := x.record ++ x.sign
  let body := if d = 0xFFFF then x.leaves.flatMap (fun e => e.2) else
    match x.sheaves.find? (fun e => e.1 == d) with
    | some e =>
      let i := (x.leaves.filter (fun k => decide (k.1 < d))).length
      let path := auditPath 13 i (x.leaves.map (fun k => k.2))
      e.2 ++ path.flatMap (fun p => p)
    | none => []
  let i := (x.leaves.filter (fun k => decide (k.1 < d))).length
  let leaf := x.sheaves.find? (fun e => e.1 == d)
  let head := match (if d = 0xFFFF then none else leaf) with
    | some e => leBytes 4 e.2.length ++ leBytes 2 (auditPath 13 i (x.leaves.map (fun k => k.2))).length ++ leBytes 2 i
    | none => leBytes 8 0
  leBytes 4 (16 + body.length + tail.length) ++ head ++ leBytes 2 x.sign.length ++ leBytes 2 0 ++ body ++ tail

/-- The signed minute of an epoch whose package is held: its sheaves too, but for the stook package (R319, R321). -/
def heldMinute (s : State) (m d : Nat) : Option Minute :=
  s.mt.minutes.find? (fun x => x.epoch == m && x.sign != [] && (!x.evicted || d == 0xFFFF))

def svcSheafGet (s : State) (j : Job) (x : Hart) (h : Nat) : State :=
  let d := svcArg x 5
  let len := svcArg x 4 % 2 ^ 14
  let off := svcArg x 4 / 2 ^ 14 * 64
  if !inScratch (svcArg x 3) len ∨ ¬(d < 4096 ∨ d = 0xFFFF) then svcRet s h 3 []
  else if j.domain ≠ 0 ∧ d ≠ j.domain then svcRet s h 2 []
  else match heldMinute s (svcArg x 2) d with
    | none => svcRet s h 1 []
    | some y =>
      let l := ((packageOf y d).drop off).take len
      svcRet (scratchWrite s j (svcArg x 3) l) h 0 [l.length]

def execSheafGet (h : Fin 8) (s : State) : Out := ok (svcCall s h 0x50 false (fun s j x => svcSheafGet s j x h))

end Sys2Proof.Machine
end

