-- ==== Sys2Proof/Machine/JournalOps.lean ====
section
/-! DEFINITION. The steward's own flash operations, each between an INTENT and a DONE entry of the write journal, and its daily check (R488–R491,
R496). -/

namespace Sys2Proof.Machine

/-- An ERASE and a PROGRAM that complete OK; their pulses are free values within R486. -/
def stewardErase (s : State) (x : Nat) : State := flashDone (flErase (flStart (freed s) 2 (sectorA x) []) (2 + free s % 19) true)
def stewardProgram (s : State) (a : Nat) (ws : List W32) : State := flashDone (flProgram (flStart (freed s) 1 a ws) (3 + free s % 14) true)

/-- The journal's ring of 64 sectors, 2,048 pages of one entry each (R489, R497). -/
def jPageA (n : Nat) : Nat := 0x10E20000 + 256 * (n % 2048)

/-- An entry: KIND 1 INTENT, 2 DONE, 3 FAILED, 4 SETTLE (R489). -/
def jBytes (kind op seq addr pages ref : Nat) : List Byte :=
  let l := leBytes 2 0x4A1C ++ leBytes 1 kind ++ leBytes 1 op ++ leBytes 4 seq ++ leBytes 4 addr ++ leBytes 2 pages ++ leBytes 2 0 ++ leBytes 4 ref ++ leBytes 8 0
  l ++ leBytes 4 (crc32c l)

/-- A page of one codeword, its other octets left erased. -/
def pageOf (l : List Byte) : List W32 := wordsOf 64 (l ++ List.replicate (256 - l.length) 0xFF)

/-- An entry programmed into the ring's next free page; the ring's next sector is erased as it is reached. -/
def jEntry (s : State) (kind op addr pages ref : Nat) : State :=
  let a := jPageA s.fl.jpage
  let s := if s.fl.jpage % 32 = 0 then stewardErase s (sectorOf a) else s
  let s := stewardProgram s a (pageOf (jBytes kind op s.fl.jseq addr pages ref))
  setFl s { s.fl with jpage := (s.fl.jpage + 1) % 2048, jseq := s.fl.jseq + 1 }

/-- An operation between its INTENT and its DONE (R488). -/
def journaled (s : State) (op addr pages : Nat) (g : State → State) : State :=
  let n := s.fl.jseq
  jEntry (g (jEntry s 1 op addr pages 0)) 2 op addr pages n

/-- A sector erased, and up to eight pages programmed, through the journal. -/
def jErase (s : State) (x : Nat) : State := journaled s 2 (sectorA x) 0 (fun t => stewardErase t x)
def jProgram (s : State) (a : Nat) (l : List Byte) : State :=
  let pages := cdiv l.length 256
  journaled s 1 a pages (fun t => stewardProgram t a (wordsOf (64 * pages) (l ++ List.replicate (256 * pages - l.length) 0xFF)))

/-- Octets programmed from a page address on, eight pages at a time. -/
def jPrograms (s : State) (a : Nat) (l : List Byte) : State :=
  (List.range (cdiv l.length 2048)).foldl (fun t i => jProgram t (a + 2048 * i) ((l.drop (2048 * i)).take 2048)) s

/-- `n` sectors erased from sector x on, then octets programmed from its start. -/
def jStore (s : State) (x n : Nat) (l : List Byte) : State :=
  jPrograms ((List.range n).foldl (fun t i => jErase t (x + i)) s) (sectorA x) l

/-- The controller is free for the steward's operations. -/
def flashFree (s : State) : Bool := s.fl.op.isNone && s.fl.seq == 0

/-- The journal settled at a start (R490): the next sector erased and a SETTLE entry programmed. -/
def jSettle (s : State) : State :=
  let s := setFl s { s.fl with jpage := (s.fl.jpage + 31) / 32 * 32 % 2048 }
  jEntry s 4 0 0 0 (s.fl.jseq - 1)

/-! ### Retention (R496) -/

/-- A sector rewritten in place through the journal: erased, and its written pages programmed again. An undefined page holds no record (R490)
and stays erased. -/
def rewriteSector (s : State) (x : Nat) : State :=
  (List.range 32).foldl (fun t i =>
    let a := sectorA x + 256 * i
    let l := tgets (fun _ => 0xFF) s.fl.data a 256
    if pageUndef s a || l.all (fun b => b == 0xFF) then t else jProgram t a l) (jErase s x)

/-- A sector due for refresh is moved; without a spare a data-class one is rewritten in place, and a code-class one waits
with WARN (R496). -/
def refreshSector (s : State) (x : Nat) : State :=
  let due := match sectAge s x with
    | some d => decide (3652 ≤ d)
    | none => true
  if !due || !programmed s x then s
  else
    let p := moveSector s x
    if p.2 then cinc p.1 (flA + 0x310)
    else if dataClass x then rewriteSector p.1 x
    else warn p.1

/-- The steward's daily check of every sector (R496). -/
def execRetentionDailyCheck (s : State) : Out :=
  powered s (if s.fl.op.isSome then s else (List.range 2048).foldl refreshSector s)

end Sys2Proof.Machine
end

