-- ==== Sys2Proof/Machine/Recorder.lean ====
section
/-! DEFINITION. The event recorder (R553–R561): its areas in SRAM, coalescing, losses, the flash mirror and the tokens. -/

namespace Sys2Proof.Machine

/-! ### Areas and records (R553, R554) -/

/-- First address and records of a class's area. -/
def areaA (k : Nat) : Nat := nth [0x20440000, 0x20442000, 0x20444000, 0x20448000] k 0
def areaLen (k : Nat) : Nat := nth [256, 256, 512, 1024] k 0
def recSlotA (k i : Nat) : Nat := areaA k + 32 * i

/-- A record's octets with its CRC. -/
def recBytes (seq src code rep : Nat) (data : List Nat) : List Byte :=
  let l := leBytes 6 seq ++ leBytes 2 (src % 4096 + 4096 * evClass src) ++ leBytes 1 code ++ leBytes 1 0 ++ leBytes 2 rep ++
    octetsAt (data.flatMap (fun v => leBytes 4 v)) 0 16
  l ++ leBytes 4 (crc32c l)

/-- A record's octets with REPEAT rewritten, and its CRC. -/
def recRepeat (l : List Byte) (rep : Nat) : List Byte :=
  let b := putOctets (l.take 28) 10 (leBytes 2 rep)
  b ++ leBytes 4 (crc32c b)

def setEv (s : State) (x : EvSt) : State := { s with ev := x }
def areaHead (s : State) (k : Nat) : Nat := tget (fun _ => 0) s.ev.heads k
def filledOf (s : State) (k : Nat) : Nat := tget (fun _ => 0) s.ev.filled k

/-- The quarter holding slot i of class k is closed and waits for its mirror. -/
def waitsMirror (s : State) (k i : Nat) : Bool := s.ev.quarters.contains (k, i / 256)

/-- A waiting quarter about to be overwritten, counted in UNMIRRORED_k; an ALARM quarter has waited until now (R559). -/
def overwriteQuarter (s : State) (k : Nat) : State :=
  let q := (k, areaHead s k / 256)
  if k ≠ 0 ∧ s.ev.quarters.contains q then
    cadd (setEv s { s.ev with quarters := s.ev.quarters.filter (fun x => x != q) }) (0x30038120 + 8 * k) 256
  else s

/-- A record added to the class's area: SEQ rises, the head moves on, and a quarter that is full closes (R553–R555). -/
def addRecord (s : State) (k src code rep : Nat) (data : List Nat) : State :=
  let s := overwriteQuarter s k
  let i := areaHead s k
  let n := s.ev.seq
  let s := memWrite s (recSlotA k i) (recBytes n src code rep data)
  let j := (i + 1) % areaLen k
  setEv s { s.ev with
    seq := (n + 1) % 2 ^ 48, heads := tput (fun _ => 0) s.ev.heads k j,
    filled := tput (fun _ => 0) s.ev.filled k (Nat.min (areaLen k) (filledOf s k + 1)),
    latest := tput (fun _ => none) s.ev.latest src (some ⟨i, n, code, rep⟩),
    quarters := if (i + 1) % 256 = 0 then s.ev.quarters ++ [(k, i / 256)] else s.ev.quarters }

/-- The latest record of a source lies in the open quarter, not yet overwritten, and has the code (R555). -/
def openRecord (s : State) (k src code : Nat) : Option EvLast :=
  match tget (fun _ => none) s.ev.latest src with
  | some r => if r.code = code ∧ r.slot / 256 = areaHead s k / 256 ∧ r.slot < areaHead s k ∧ leNat (memRead s (recSlotA k r.slot) 6) = r.seq then some r else none
  | none => none

/-- A raising recorded: added to REPEAT, with a new record for what would pass 0xFFFF, or as a new record (R555). -/
def putRaising (s : State) (k : Nat) (r : Raising) : State :=
  match openRecord s k r.src r.code with
  | some l =>
    let rep := Nat.min 0xFFFF (l.rep + r.count)
    let rest := l.rep + r.count - rep
    let s := memWrite s (recSlotA k l.slot) (recRepeat (memRead s (recSlotA k l.slot) 32) rep)
    let s := cadd (setEv s { s.ev with latest := tput (fun _ => none) s.ev.latest r.src (some { l with rep := rep }) }) 0x30038140 (r.count - Nat.min 1 rest)
    if rest = 0 then s else addRecord s k r.src r.code (rest - 1) r.data
  | none => cadd (addRecord s k r.src r.code (r.count - 1) r.data) 0x30038140 (r.count - 1)

/-- A gap record before the next raising of a class that has lost some (R557). -/
def gapRecord (s : State) (k : Nat) : State :=
  if tget (fun _ => false) s.ev.gapped k then
    let n := tget (fun _ => 0) s.ev.gapLoss k
    let s := cinc (addRecord s k 200 0xFE 0 [n]) 0x30038148
    setEv s { s.ev with gapped := tput (fun _ => false) s.ev.gapped k false, gapLoss := tput (fun _ => 0) s.ev.gapLoss k 0 }
  else s

/-- Raisings held by their blocks enter the intake as places become free (R556, R557). -/
def refill (s : State) : Nat → State
  | 0 => s
  | n + 1 =>
    match s.ev.held.find? (fun r => intakeRoom s.ev.intake (evClass r.src)) with
    | some r => refill (setEv s { s.ev with held := s.ev.held.erase r, intake := s.ev.intake ++ [r] }) n
    | none => s

/-- The raising that the recorder takes: the oldest in the intake that no TAMPER hold keeps back (R557, R559). -/
def nextRaising (s : State) : Option Raising :=
  s.ev.intake.find? (fun r => !(evClass r.src == 0 && waitsMirror s 0 (areaHead s 0)))

/-- One raising taken. A write that MPU 26 refuses loses it, or returns a TAMPER raising to its block, with source 197 (R424, R558). -/
def recorderAccept (s : State) : State :=
  match nextRaising s with
  | none => s
  | some r =>
    let k := evClass r.src
    let s := setEv s { s.ev with intake := s.ev.intake.erase r }
    let s := match bufferFault s 26 .store (recSlotA k (areaHead s k)) 32 with
      | some e =>
        let t := raise (noteRefusal s 26 (recSlotA k (areaHead s k) + e.1) e.2 3 0) 197 [recSlotA k (areaHead s k)]
        if k = 0 then raise (setEv t { t.ev with held := t.ev.held ++ [r] }) 203 [0]
        else
          let p := loseEv t k r.count
          if p.2 then raise p.1 201 [k] else p.1
      | none => putRaising (gapRecord s k) k r
    refill s s.ev.held.length

def execRecorderAccept (s : State) : Out := ok (if runs s then recorderAccept s else s)

/-! ### The mirror (R559) -/

/-- The octets of a quarter. -/
def quarterBytes (s : State) (q : Nat × Nat) : List Byte := memRead s (recSlotA q.1 (256 * q.2)) 8192

/-- A quarter mirrored into the flash ring's next segment: a token drawn, QUARTERS and source 202. -/
def mirrorQuarter (s : State) (q : Nat × Nat) : State :=
  let s := jStore s (1024 + 848 + s.ev.mirSeg) 1 (quarterBytes s q)
  let s := setEv s { s.ev with quarters := s.ev.quarters.filter (fun x => x != q), recTok := s.ev.recTok - 1, mirSeg := (s.ev.mirSeg + 1) % 64 }
  raise (cinc s 0x30038150) 202 [q.1, q.2]

/-- A quarter given up: its records counted in UNMIRRORED_k. -/
def dropQuarter (s : State) (q : Nat × Nat) : State :=
  cadd (setEv s { s.ev with quarters := s.ev.quarters.filter (fun x => x != q) }) (0x30038120 + 8 * q.1) 256

/-- One waiting quarter: TAMPER overdraws the bucket to −16 and beyond that is held; ALARM waits for a token; the others, or any but
TAMPER with MIRROR_EN clear, are counted. An empty bucket raises source 204. -/
def quarterStep (s : State) (q : Nat × Nat) : State :=
  if q.1 ≠ 0 ∧ !rbit s 0x30038000 0 then dropQuarter s q
  else if 0 < s.ev.recTok then mirrorQuarter s q
  else
    let s := raise s 204 [q.1]
    if q.1 = 0 then (if -16 < s.ev.recTok then mirrorQuarter s q else raise s 203 [0])
    else if q.1 = 1 then s
    else dropQuarter s q

/-- The quarter of highest class that waits, the oldest of its class. -/
def execRecorderQuarterMirror (s : State) : Out :=
  ok (if !runs s || !flashFree s then s else
    match (List.range 4).findSome? (fun k => s.ev.quarters.find? (fun q => q.1 == k && (k != 1 || decide (0 < s.ev.recTok) || !rbit s 0x30038000 0 ||
      !(s.ev.quarters.any (fun p => decide (1 < p.1)))))) with
    | some q => quarterStep s q
    | none => s)

/-- Every 20 minutes a token, to 16. -/
def execRecorderTokenRefill (s : State) : Out := ok (if s.ev.recTok < 16 then setEv s { s.ev with recTok := s.ev.recTok + 1 } else s)

/-- A token for a vector's bucket; a message held is sent (R561). -/
def execMsixTokenRefill (f : Fin 512) (v : Fin 64) (s : State) : Out :=
  ok (let x := vecOf s f v
      vecTry (setVec s f v { x with used := x.used - 1 }) f v)

/-! ### Reading (R295, R560) -/

/-- The slots of an area that hold records, oldest first. -/
def areaSlots (s : State) (k : Nat) : List Nat :=
  (List.range (filledOf s k)).map (fun i => (areaHead s k + areaLen k - filledOf s k + i) % areaLen k)

/-- Every record held, with whether its CRC is right, and its SEQ and octets. -/
def heldRecords (s : State) : List (Bool × Nat × List Byte) :=
  (List.range 4).flatMap (fun k => (areaSlots s k).map (fun i =>
    let l := memRead s (recSlotA k i) 32
    (leNat (octetsAt l 28 4) == crc32c (l.take 28), leNat (l.take 6), l)))

/-- A record inserted in SEQ order. -/
def insSeq (r : Nat × List Byte) : List (Nat × List Byte) → List (Nat × List Byte)
  | [] => [r]
  | x :: t => if r.1 < x.1 then r :: x :: t else x :: insSeq r t

/-- Good records from a SEQ on, in SEQ order. -/
def recordsFrom (s : State) (first : Nat) : List (Nat × List Byte) :=
  (heldRecords s).foldl (fun l r => if r.1 && decide (first ≤ r.2.1) then insSeq r.2 l else l) []

/-- Records whose CRC fails are skipped, counted, and raise source 205. -/
def crcErrors (s : State) : State :=
  let n := ((heldRecords s).filter (fun r => !r.1)).length
  if n = 0 then s else raise (cadd s 0x30038160 n) 205 [n]

/-- Source and data words of a record. -/
def recSrc (l : List Byte) : Nat := leNat (octetsAt l 6 2) % 4096
def recData (l : List Byte) (i : Nat) : Nat := leNat (octetsAt l (12 + 4 * i) 4)

end Sys2Proof.Machine
end

