-- ==== Sys2Proof/Machine/Tamper.lean ====
section
/-! DEFINITION. Monitors, the alarm ladder's commands, the tamper log and the services of alarms and event records (R533–R552, R560). -/

namespace Sys2Proof.Machine

/-- Numbers below `n` whose bits are set in a mask. -/
def bitsSet (n m : Nat) : List Nat := (List.range n).filter (fun i => bitAt m i)

/-- Every loop pair sampled: `bad` has the pairs whose input reads the wrong level (R536). -/
def execLoopSample (bad : Fin 256) (s : State) : Out := ok (monitorEvents s (bitsSet 8 bad) [] 0)

/-- Monitors that detect an event in one always-on cycle. Bit 21 is the zeroise decision, whose disagreement carries it out with WARN;
monitor 19 fires at a start only, and monitor 20 has its own command (R534, R548). -/
def monitorTrip (s : State) (ms : Nat) : State :=
  let zero := bitAt ms 21 && runs s
  let s := if zero then zeroiseStart (cinc s 0x30020218) else s
  monitorEvents s ((bitsSet 22 ms).filter (fun m => m != 19 && m != 20 && (m != 21 || zero))) [] 1

def execMonitorTrip (ms : Fin 4194304) (s : State) : Out := ok (monitorTrip s ms)

/-- W ms after a monitor's last event ASSERTED clears, unless the condition holds then (R535). -/
def execAssertedClearExpiry (m : Fin 22) (cond : Bool) (s : State) : Out :=
  ok (if cond then s else setMon s m { monOf s m with asserted := false })

/-- A write of TM_RAISE; 0b110 and 0b111 are refused (R544, R564). -/
def execAlarmRaise (level : Fin 8) (reason : Fin 65536) (s : State) : Out :=
  ok (if !runs s then s else if 6 ≤ level.val then refuse s 0x30020008 else alarmRaise s level reason)

/-- The registers that R547 shadows. -/
def shadowed (a : Nat) : Bool :=
  match regAt a with
  | none => false
  | some d =>
    let held := d.mask (fun c => c == .rw || c == .wo || c == .rwl) != 0
    (held && (decide (a / 0x10000 = 0x3000 ∨ a / 0x10000 = 0x3001 ∨ a / 0x10000 = 0x3002))) ||
    a == 0x45000000 || a == 0x40000000 || a == 0x42080000 || a == 0x42080004 || (decide (0x30060020 ≤ a ∧ a ≤ 0x3006002C)) ||
    a == 0x30090000 || a == 0x300A0000 || a == 0x30040000 || a == 0x3004000C || d.base == 0x44000100 || d.base == 0x43000000 ||
    d.base == 0x30080008 || d.base == 0x30080200 || (decide (routeAddr 3648 ≤ a ∧ a ≤ routeAddr 3903)) || a == 0x30020004 || a == 0x30010000

/-- A shadowed register differs from its copy: an event of monitor 20 with the address; the unit acts on the true copy (R547). -/
def execShadowMismatch (a : BitVec 32) (s : State) : Out :=
  ok (if shadowed a.toNat && runs s then monitorEvent (cinc s 0x30020210) 20 [a.toNat] else s)

/-! ### The tamper log (R549–R552) -/

/-- A record appended: the first 64 stay, the rest form the ring of 448; the first loss raises source 3778 (R549, R550). -/
def logAppend (s : State) : State :=
  match s.tm.logPend with
  | [] => s
  | r :: rest =>
    let x := s.tm
    let r := { r with lseq := x.lseq }
    let full := decide (448 ≤ x.ring.length)
    let y := if x.first.length < 64 then { x with first := x.first ++ [r] }
             else { x with ring := (if full then x.ring.tail else x.ring) ++ [r] }
    let s' := { s with tm := { y with logPend := rest, lseq := x.lseq + 1, dirty := true } }
    if full && x.lseq == 512 && runs s then raise s' 3778 [] else s'

def execTamperLogAppend (s : State) : Out := ok (if s.pw.mode = .off then s else logAppend s)

/-- The 32 octets of a record. -/
def logBytes (r : LogRec) : List Byte :=
  let l := leBytes 4 r.lseq ++ leBytes 6 r.tsc ++ leBytes 1 r.kind ++ leBytes 1 r.monitor ++ leBytes 1 r.level ++ leBytes 1 r.flags ++
    leBytes 2 r.count ++ octetsAt (leBytes (if r.kind = 1 then 6 else 4) (nth r.data 0 0) ++ r.data.tail.flatMap (fun v => leBytes 4 v)) 0 12
  l ++ leBytes 4 (crc32c l)

/-- Slots 0–511 as they lie in the log's SRAM and its copies. -/
def logSlots (s : State) : List Byte := (s.tm.first ++ s.tm.ring).flatMap logBytes

/-- Records lost (R550), and the OVERFLOW record computed from the ring's oldest LSEQ. -/
def logLost (s : State) : Nat := s.tm.lseq - 512
def overflowRec (s : State) : List Byte :=
  let l := leBytes 4 0xFFFFFFFF ++ leBytes 6 0 ++ leBytes 1 4 ++ leBytes 1 0xFF ++ leBytes 4 0 ++
    leBytes 4 64 ++ leBytes 4 (63 + logLost s) ++ leBytes 4 (logLost s)
  l ++ leBytes 4 (crc32c l)

/-- The positions of R550 at TM_LOG. -/
def logView (s : State) : List Byte :=
  if logLost s = 0 then logSlots s else s.tm.first.flatMap logBytes ++ overflowRec s ++ s.tm.ring.flatMap logBytes

/-- The two copies' first sectors (R497). -/
def copySector (b : Bool) : Nat := if b then 1024 + 914 else 1024 + 912

/-- A copy written whole, alternating, through the journal: a token, LOG_MIRRORS and source 3779 (R551). -/
def mirrorLog (s : State) : State :=
  let s := jStore s (copySector s.tm.nextB) 2 (logSlots s)
  let s := { s with tm := { s.tm with nextB := !s.tm.nextB, dirty := false }, ev := { s.ev with logTok := s.ev.logTok - 1 } }
  raise (cinc s 0x30020220) 3779 []

def execTamperMirrorUpdate (s : State) : Out :=
  ok (if runs s && s.tm.dirty && decide (0 < s.ev.logTok) && flashFree s then mirrorLog s else s)

/-- Every 4 hours a token, to 8. -/
def execLogTokenRefill (s : State) : Out := ok (if s.ev.logTok < 8 then setEv s { s.ev with logTok := s.ev.logTok + 1 } else s)

/-! ### Services 0x78–0x7C (R534, R543–R546, R468) -/

/-- TM_ASSERTED. -/
def assertedMask (s : State) : Nat := (List.range 22).foldl (fun n m => if (monOf s m).asserted then n + 2 ^ m else n) 0

/-- LSEQ of the newest record. -/
def newestLseq (s : State) : Nat := (s.tm.lseq + 2 ^ 32 - 1) % 2 ^ 32

/-- The 64 octets of R546. -/
def alarmStatus (s : State) : List Byte :=
  let ex := b2n s.tm.latch + 2 * b2n s.tm.backupLost + 4 * b2n (exercising s)
  leBytes 1 s.level ++ leBytes 1 ex ++ leBytes 2 0 ++ leBytes 4 (assertedMask s) ++ leBytes 4 s.tm.fired ++ leBytes 4 (newestLseq s) ++
  leBytes 4 s.tm.clearSeq ++ leBytes 6 (tscOf s) ++ leBytes 6 0 ++
  (List.range 4).flatMap (fun k => leBytes 4 (Nat.min (cget s (0x30038100 + 8 * k)).toNat 0xFFFFFFFF)) ++
  leBytes 6 s.ev.seq ++ leBytes 2 0 ++ leBytes 8 Config.identity.toNat

def svcAlarmStatus (s : State) (j : Job) (x : Hart) (h : Nat) : State :=
  if !inScratch (svcArg x 2) 64 then svcRet s h 3 [] else svcRet (scratchWrite s j (svcArg x 2) (alarmStatus s)) h 0 []

def execAlarmStatus (h : Fin 8) (s : State) : Out := ok (svcCall s h 0x78 true (fun s j x => svcAlarmStatus s j x h))

/-- The clearance record is well formed, names this device, and its signature under the owner key is right (R545). -/
def clearGood (s : State) (l sig : List Byte) : Bool :=
  let f := fun o n => leNat (octetsAt l o n)
  f 0 2 == 0xC1EA && f 2 2 == 0x0100 && f 4 8 == Config.identity.toNat && decide (f 20 1 ≤ 4) && decide (f 21 1 ≤ 1) &&
  f 22 2 == (if f 21 1 = 0 then 96 else 3309) && f 24 8 == 0 && f 21 1 == s.lc.ownAlg && !s.lc.ownKey.isEmpty && Config.verify s.lc.ownAlg s.lc.ownKey l sig

/-- The highest response of a monitor that is ASSERTED. -/
def assertedFloor (s : State) : Nat :=
  (bitsSet 22 (assertedMask s)).foldl (fun n m => Nat.max n (response s m (monOf s m).lastResp)) 0

/-- The clearance is current and lowers the level without hiding an alarm; a record still to be appended makes it stale (R545). -/
def clearCurrent (s : State) (l : List Byte) : Bool :=
  let f := fun o n => leNat (octetsAt l o n)
  f 12 4 == (s.tm.clearSeq + 1) % 2 ^ 32 && f 16 4 == newestLseq s && s.tm.logPend.isEmpty && decide (f 20 1 < s.level) && decide (assertedFloor s ≤ f 20 1)

/-- A clearance applied: the level, CLEAR and LADDER records, source 3777, and the steward's parts undone (R540, R545). SEAL clears, then
CLEAR_ZEROED is written, which R188 takes only without SEAL. -/
def clearApply (s : State) (target : Nat) : State :=
  let old := s.level
  let s := { s with level := target, tm := { s.tm with fired := 0, clearSeq := s.tm.clearSeq + 1, latch := false } }
  let s := raise (logPut (logPut s 3 0xFF target 0 false []) 2 0xFF target 0 false [old]) 3777 [old, target]
  let s := if target < 3 ∧ s.culm.session then
      let t := rsetf s grA 0 0 0
      if t.gran.zeroed then grClearZeroed t else t
    else s
  if target < 4 ∧ 4 ≤ old ∧ s.culm.session then failWrite s true else s

/-- Octets of the record and its signature. -/
def clearLen (l : List Byte) : Nat := if leNat (octetsAt l 21 1) = 0 then 96 else 3309

def svcAlarmClear (s : State) (j : Job) (x : Hart) (h : Nat) : State :=
  let o := svcArg x 2
  if !inScratch o 32 then svcRet (raise s 3783 []) h 3 []
  else
    let l := scratchRead s j o 32
    if !inScratch o (32 + clearLen l) || !clearGood s l (scratchRead s j (o + 32) (clearLen l)) then svcRet (raise s 3783 []) h 3 []
    else if !clearCurrent s l then svcRet (raise s 3783 []) h 1 []
    else
      let body := fun s => svcRet (clearApply s (leNat (octetsAt l 20 1))) h 0 []
      if s.level < 3 then body s else if grBusy s then s else needCulm s h j body

def execAlarmClear (h : Fin 8) (s : State) : Out := ok (svcCall s h 0x79 true (fun s j x => svcAlarmClear s j x h))

/-- FAIL_POLICY; at PURGE and above it takes effect at once (R543). -/
def svcFailPolicy (s : State) (j : Job) (x : Hart) (h : Nat) : State :=
  let p := svcArg x 2
  if 64 ≤ p ∨ 2 ≤ svcArg x 3 then svcRet s h 3 []
  else
    let put := fun t : State => rsetf t (0x30020028 + 4 * (p / 32)) (p % 32) (p % 32) (svcArg x 3)
    if 4 ≤ s.level ∧ portOn s p then needCulm s h j (fun s => svcRet (failWrite (put s) false) h 0 []) else svcRet (put s) h 0 []

def execFailPolicy (h : Fin 8) (s : State) : Out := ok (svcCall s h 0x7A true (fun s j x => svcFailPolicy s j x h))

/-- The ranges of R534: highest N, lowest and highest W, lowest and highest LEVEL; none for monitors that cannot be set. -/
def monRange (m : Nat) : Option (Nat × Nat × Nat × Nat × Nat) :=
  if m ≤ 7 then some (8, 1, 1000, 1, 5)
  else if m = 8 ∨ m = 13 then some (16, 1, 100, 0, 5)
  else if m = 9 ∨ m = 14 then some (16, 10, 10000, 0, 4)
  else if m = 10 ∨ m = 15 then some (4, 1, 100, 1, 5)
  else if m = 11 ∨ m = 16 then some (2, 1, 1, 1, 5)
  else if m = 12 ∨ m = 17 then some (2, 1, 1, 3, 5)
  else if m = 18 then some (4, 100, 10000, 1, 4)
  else if m = 19 then some (1, 1, 1, 1, 5)
  else if m = 20 then some (4, 1, 100, 1, 5)
  else none

/-- MODE, N, W and LEVEL may be set for monitor m: STATIC_NC for pairs only, and only LEVEL of monitor 19 (R534, R564). -/
def mcfgGood (m mode n w level : Nat) : Bool :=
  match monRange m with
  | none => false
  | some r => decide (1 ≤ n ∧ n ≤ r.1 ∧ r.2.1 ≤ w ∧ w ≤ r.2.2.1 ∧ r.2.2.2.1 ≤ level ∧ level ≤ r.2.2.2.2) && decide (mode ≤ 2) &&
      (mode != 2 || decide (m ≤ 7)) && (m != 19 || mode == 1)

/-- A refused MONITOR_CFG raises its monitor's offset 2 (R563). -/
def svcMonitorCfg (s : State) (x : Hart) (h : Nat) : State :=
  let m := svcArg x 2
  let mode := svcArg x 5 % 4
  let level := svcArg x 5 / 4 % 8
  if mcfgGood m mode (svcArg x 3) (svcArg x 4) level then
    svcRet (rset s (mcfgA m) (w32 (packFields [(mode, 0), (svcArg x 3, 2), (svcArg x 4, 7), (level, 21)]))) h 0 []
  else svcRet (if m < 32 then raise s (monSrc m + 2) [] else s) h 3 []

def execMonitorCfg (h : Fin 8) (s : State) : Out := ok (svcCall s h 0x7B true (fun s _ x => svcMonitorCfg s x h))

/-- RNG_ENABLE: the history cleared and ENABLE written to a DISABLED source, else NOT_NOW (R468). -/
def execRngEnable (h : Fin 8) (s : State) : Out :=
  ok (svcCall s h 0x7C true (fun s _ _ => if s.rng.st = .disabled then svcRet (rgEnable s) h 0 [] else svcRet s h 1 []))

/-! ### EV_READ and EV_STEER (R295, R386, R560) -/

/-- An SA slot of a domain: its SC is held and, where the slot is VALID, names the domain (R278). -/
def ownsSlot (s : State) (d n : Nat) : Bool :=
  let c := if n < 32768 then scOf s 0 (n / 4) else scOf s 1 ((n - 32768) / 4)
  decide (n < 65536) && c.held && c.dom == d && (!(slotOf s n).valid || (slotOf s n).domain == d)

/-- The slot that a lane of a block belongs to under its MODE (R25, R54): its port. -/
def lanePort (s : State) (b lane : Nat) : Option Nat :=
  match modeOf s b with
  | 1 => some (4 * b)
  | 2 => some (4 * b + lane / 2 * 2)
  | 3 => some (4 * b + lane)
  | 4 => some (4 * b)
  | 5 => some (4 * (b - 1))
  | _ => none

/-- The port of a port-block source; none for the offsets of the block as a whole (R54). -/
def srcPort (s : State) (src : Nat) : Option Nat :=
  let b := (src - 256) / 64
  let o := (src - 256) % 64
  if 40 ≤ o then none
  else if 8 ≤ o ∧ o < 16 then lanePort s b (o % 4)
  else some (4 * b + o % 4)

/-- A domain may read and steer a function's or a port block's source (R295). -/
def maySteerSrc (s : State) (d src : Nat) : Bool :=
  if 1856 ≤ src ∧ src < 2368 then d == 0 || holds s (src - 1856) d
  else if 256 ≤ src ∧ src < 1280 then d == 0 || (match srcPort s src with
    | some p => holdsPort s d p
    | none => false)
  else false

/-- Granary, steering and verdict sources whose data names an SA slot. -/
def namesSlot (src : Nat) : Bool :=
  if 3392 ≤ src ∧ src < 3456 then [0, 1, 2, 3, 4, 5, 6, 7, 11, 12].contains (src - 3392)
  else if 2368 ≤ src ∧ src < 2880 then [11, 12, 13].contains ((src - 2368) % 32)
  else decide (2880 ≤ src ∧ src < 3392) && decide ((src - 2880) % 8 < 7)

/-- A record is visible to a domain (R295). -/
def visible (s : State) (d : Nat) (l : List Byte) : Bool :=
  d == 0 || maySteerSrc s d (recSrc l) || (namesSlot (recSrc l) && ownsSlot s d (recData l 0))

/-- Records returned, and the next sequence number: after the last returned at the limit, else the recorder's next (R560). -/
def svcEvRead (s : State) (j : Job) (x : Hart) (h : Nat) : State :=
  let first := svcArg x 2 + svcArg x 3 * 2 ^ 32
  let lim := svcArg x 5
  if !inScratch (svcArg x 4) (32 * lim) then svcRet s h 3 []
  else
    let all := (recordsFrom s first).filter (fun r => visible s j.domain r.2)
    let out := all.take lim
    let next := if all.length ≤ lim then s.ev.seq else (match out.getLast? with
      | some r => r.1 + 1
      | none => first)
    svcRet (scratchWrite (crcErrors s) j (svcArg x 4) (out.flatMap (fun r => r.2))) h 0 [out.length, next % 2 ^ 32, next / 2 ^ 32]

def execEvRead (h : Fin 8) (s : State) : Out := ok (svcCall s h 0x58 false (fun s j x => svcEvRead s j x h))

/-- EV_STEER routes a source to a vector of the order's function, or to the recorder (R386, R295). -/
def svcEvSteer (s : State) (j : Job) (x : Hart) (h : Nat) : State :=
  let src := svcArg x 2
  let v := svcArg x 3
  if !((1856 ≤ src ∧ src < 2368) ∨ (256 ≤ src ∧ src < 1280)) ∨ (v ≠ 0xFF ∧ 64 ≤ v) then svcRet s h 3 []
  else if !maySteerSrc s j.domain src then svcRet s h 2 []
  else if v = 0xFF then svcRet (rset s (routeAddr src) (putFld (rget s (routeAddr src)) 1 0 0)) h 0 []
  else if v < 2 ∨ 1 + (fnOf s j.fn).evVecs < v then svcRet s h 4 []
  else svcRet (rset s (routeAddr src) (w32 (packFields [(2, 0), (j.fn % 256, 6), (j.fn / 256, 14), (v, 15)]))) h 0 []

def execEvSteer (h : Fin 8) (s : State) : Out := ok (svcCall s h 0x59 false (fun s j x => svcEvSteer s j x h))

end Sys2Proof.Machine
end

