-- ==== Sys2Proof/Machine/StartOps.lean ====
section
/-! DEFINITION. What a reset leaves, the restore of the backup domain, the beginning of a start and the entry into DORMANT (R502–R508, R512,
R522, R533, R552). -/

namespace Sys2Proof.Machine

def setPw (s : State) (x : PwSt) : State := { s with pw := x }
def setLc (s : State) (x : LcSt) : State := { s with lc := x }

/-! ### What survives (R507) -/

/-- An OTP word with the bits of a burn that an interruption cut short: any of them may have burned (R576). -/
def cutBurn (s : State) : State :=
  match s.lc.burn with
  | none => s
  | some (k, r, v) =>
    let got := v &&& w32 (free s)
    let rec' := tget (fun _ => {}) s.lc.recs r
    let put := fun (x : OtpRec) => setLc (freed s) { s.lc with burn := none, recs := tput (fun _ => {}) s.lc.recs r x }
    match k with
    | 1 => put { rec' with intent := rec'.intent ||| got }
    | 2 => put { rec' with commit := rec'.commit ||| got }
    | 3 => put { rec' with void := rec'.void ||| got }
    | 5 => setLc (freed s) { s.lc with burn := none, tokens := tput (fun _ => 0) s.lc.tokens r (tget (fun _ => 0) s.lc.tokens r ||| got) }
    | _ => setLc (freed s) { s.lc with burn := none, paired := s.lc.paired || free s % 2 == 1 }

/-- Registers of the backup domain: the monitor configuration and the fail policy (R531). -/
def backupReg (a : Nat) : Bool := (decide (0x30020100 ≤ a ∧ a < 0x30020180)) || a == 0x30020028 || a == 0x3002002C

/-- Flash as it is found again: its data, metadata and the steward's records in it (R487, R507). -/
def keptFlash (s : State) : FlSt :=
  let x := (flashCut s).fl
  { data := x.data, undef := x.undef, sects := x.sects, spares := x.spares, retired := x.retired, jpage := x.jpage, jseq := x.jseq,
    moveCut := s.fl.moveCut || (match s.fl.op with
      | some o => decide (o.op = 3) && !o.done
      | none => false) }

/-- OTP and the life-cycle records of flash. -/
def keptLc (s : State) : LcSt :=
  let x := (cutBurn s).lc
  { state := x.state, recs := x.recs, tokens := x.tokens, ownKey := x.ownKey, ownAlg := x.ownAlg, flashKey := x.flashKey, flashAlg := x.flashAlg,
    ownHash := x.ownHash, paired := x.paired, metKey := x.metKey }

/-- The random source's state of the backup domain; blocks already drawn are never drawn again (R458, R466). -/
def keptRng (s : State) : RngSt :=
  { st := if s.rng.st = .disabled then .disabled else .starting, oscEn := s.rng.oscEn, hist := s.rng.hist, inst := s.rng.inst + 1 }

/-- The tamper part of the backup domain. Of the filters, only those that run without main power keep their events. -/
def keptTm (s : State) : TmSt :=
  { s.tm with mons := s.tm.mons.filter (fun e => decide (e.1 ≤ 7) || e.1 == 18), late := [], backupLost := false, dirty := false, nextB := s.tm.nextB }

/-- What minutes leave in flash: START, the journal's highest epoch and its last SEAL. -/
def keptMt (s : State) : MtSt := { start := s.mt.start, highest := s.mt.highest, lastRoot := s.mt.lastRoot }

/-- Power inputs and pins as they stand, whatever the dies do. -/
def keptPw (s : State) (m : Mode) : PwSt :=
  { mode := m, cause := s.pw.cause, vbatOk := s.pw.vbatOk, vbatLow := s.pw.vbatLow, mainGood := s.pw.mainGood,
    lastMain := s.pw.lastMain, helperN := s.pw.helperN, holdLow := s.pw.holdLow, pllLost := s.pw.pllLost, commitFail := s.pw.commitFail }

/-- The tag: its NVM and its exchange, which no reset of the dies touches; what the steward keeps in flash. -/
def keptTag (s : State) : TagSt := { s.tag with live := false, code := 0, kind := 0, repaired := false, sumAt := none }

/-- Both dies at their Reset values and every memory wiped, with what survives (R507, R508), in mode m. -/
def coldState (s : State) (m : Mode) : State :=
  { now := s.now, freeCtr := (cutBurn s).freeCtr, sent := s.sent, reply := s.reply, pending := s.pending, level := s.level,
    regs := s.regs.filter (fun e => backupReg e.1), tm := keptTm s, fl := keptFlash s, lc := keptLc s, rng := keptRng s, mt := keptMt s,
    pw := keptPw s m, tag := keptTag s,
    line := { retireRec := s.line.retireRec }, ord := { res := s.ord.res, resSeq := s.ord.resSeq }, ev := { mirSeg := s.ev.mirSeg },
    host := { eps := tmap (fun _ => {}) (fun _ x => { perst := x.perst }) s.host.eps },
    cs := { cd := s.cs.cd, wp := s.cs.wp }, upd := { slot := s.upd.slot, fallback := s.upd.fallback || s.upd.st == 2 || s.upd.switching.isSome } }

/-! ### The backup domain restored (R533, R552) -/

/-- A record of 32 octets, where its CRC and LSEQ are valid. -/
def logParse (l : List Byte) : Option LogRec :=
  let kind := leNat (octetsAt l 10 1)
  let seq := leNat (octetsAt l 0 4)
  if leNat (octetsAt l 28 4) ≠ crc32c (octetsAt l 0 28) ∨ seq = 0xFFFFFFFF ∨ kind = 0 then none
  else some { lseq := seq, tsc := leNat (octetsAt l 4 6), kind := kind, monitor := leNat (octetsAt l 11 1), level := leNat (octetsAt l 12 1),
              flags := leNat (octetsAt l 13 1), count := leNat (octetsAt l 14 2),
              data := if kind = 1 then [leNat (octetsAt l 16 6)] else [leNat (octetsAt l 16 4), leNat (octetsAt l 20 4), leNat (octetsAt l 24 4)] }

/-- Records of both copies, by LSEQ. -/
def copiesRead (s : State) : Tbl LogRec :=
  [false, true].foldl (fun t b => (List.range 512).foldl (fun t i =>
    match logParse (tgets (fun _ => 0xFF) s.fl.data (sectorA (copySector b) + 32 * i) 32) with
    | some r => tput (fun _ => ⟨0, 0, 0, 0, 0, 0, 0, []⟩) t r.lseq r
    | none => t) t) []

/-- The level that the restored log leaves: the highest LADDER level after the last CLEAR (R542). -/
def logLevel (l : List LogRec) : Nat :=
  l.foldl (fun n r => if r.kind = 3 then 0 else if r.kind = 2 then Nat.max n (Nat.min 5 r.level) else n) 0

/-- The restore: BACKUP_LOST, the log, the counter one above its highest stamp (a free value where the log is empty), the level, a
BACKUP_LOST record, sources 3780 and 3781, and monitor 19. What the domain held besides is at its defaults. -/
def backupRestore (s : State) : State :=
  let recs := (copiesRead s).map (fun e => e.2)
  let low := recs.filter (fun r => decide (r.lseq < 64))
  let high := recs.filter (fun r => decide (64 ≤ r.lseq))
  let lvl := logLevel recs
  let top := recs.foldl (fun n (r : LogRec) => Nat.max n r.tsc) 0
  let want := if recs.isEmpty then free s else top + 1
  let t := if recs.isEmpty then freed s else s
  let t := { t with level := lvl, regs := t.regs.filter (fun e => !backupReg e.1), rng := { t.rng with st := .starting, oscEn := 0xFF, hist := [] },
                    tm := { latch := decide (lvl = 5), backupLost := true, first := low, ring := high.drop (high.length - 448),
                            lseq := recs.foldl (fun n (r : LogRec) => Nat.max n (r.lseq + 1)) 0,
                            tscBase := (want + 2 ^ 48 - t.now * 4096 / 125000 % 2 ^ 48) % 2 ^ 48, nextB := t.tm.nextB } }
  let t := logPut { t with pw := { t.pw with lostFound := true } } 5 0xFF lvl 0 false []
  monitorEvent (raise (raise t 3780 []) 3781 []) 19 []

/-! ### The start (R505, R514) -/

/-- Control-die power good has risen: an endpoint whose PERST# is deasserted answers configuration requests 100 ms from now (R206). -/
def epsPowered (s : State) : State :=
  { s with host := { s.host with eps := tmap (fun _ => {}) (fun _ x => if x.perst then x else { x with cfgAt := some (s.now + 100000) }) s.host.eps } }

/-- Step 1: the flash metadata settled. A MOVE that was cut short may have left a repair to make, a free value: source 135. At a power-up, source
138 where a sector's stamp lies ahead of the counter (R495, R496). -/
def flashSettle (s : State) (powerUp : Bool) : State :=
  let t := if s.fl.moveCut then
      let u := { freed s with fl := { s.fl with moveCut := false } }
      if free s % 2 = 1 then raise u 135 [] else u
    else s
  if powerUp && t.fl.sects.any (fun e => decide (tscOf t < e.2.stamp)) then raise t 138 [] else t

/-- A start with its cause: everything of the run before is lost but for R507, and step 1 is made: the backup domain on main supply, the
random source's start-up begun. The debug port closes (R585). HOLD_N still low asks for DORMANT (R521; DEDUCED, log entry 28). -/
def newStart (s : State) (cause : Nat) : State :=
  let s := dbgClose s
  let s := coldState s .starting
  let s := if cause = 2 ∨ cause = 3 then s else epsPowered s
  let s := setPw s { s.pw with cause := cause, startAt := s.now, step := 1, lockLatch := s.tm.latch, mainGood := true, dormantWait := s.pw.holdLow, pllLost := false, commitFail := false }
  flashSettle (if s.tm.sigOk then s else backupRestore s) (cause != 2 && cause != 3)

/-! ### DORMANT (R502, R512, R522) -/

/-- Steps 6 and 7: the dies wiped and without power. -/
def enterDormant (s : State) : State := coldState (dbgClose s) .dormant

/-- Step 5: the mirrors of the recorder and the tamper log flushed to flash. -/
def flushMirrors (s : State) : State :=
  let s := (List.range 4).foldl (fun t k => (List.range (areaLen k / 256)).foldl (fun t q =>
    if t.ev.quarters.contains (k, q) || (decide (areaHead t k / 256 = q) && decide (0 < areaHead t k % 256)) then mirrorQuarter t (k, q) else t) t) s
  if s.tm.dirty then mirrorLog s else s

/-- DORMANT from step 5 of R522, with a hart to flush the mirrors or without one. -/
def dormantFrom5 (s : State) (flush : Bool) : State := enterDormant (if flush then flushMirrors s else s)

end Sys2Proof.Machine
end

