-- ==== Sys2Proof/Machine/ImageOps.lean ====
section
/-! DEFINITION. Steward images, their markers and acceptance (R643–R645, R580), helper generations (R518), and row spares (R509, R639, R640). -/

namespace Sys2Proof.Machine

/-! ### Steward images (R643, R644) -/

/-- Octets of a slot. -/
def slotOctets (s : State) (b o n : Nat) : List Byte := tgets (fun _ => 0xFF) s.fl.data (slotBase b + o) n

/-- No octet of the slot has been programmed since its last erase. -/
def slotBlank (s : State) (b : Nat) : Bool := s.fl.data.all (fun e => !(decide (slotBase b ≤ e.1 ∧ e.1 < slotBase b + 383 * 8192)))

/-- Header, digest and signature are right (R643). -/
def imageOk (h code sig : List Byte) : Bool :=
  leNat (octetsAt h 0 2) == 0x57D5 && leNat (octetsAt h 2 2) == 0x0100 && leNat (octetsAt h 6 2) == 0 && leNat (octetsAt h 38 26) == 0 &&
  leNat (octetsAt h 112 144) == 0 && decide (code.length % 256 = 0 ∧ code.length ≤ 3132416) &&
  leNat (octetsAt h 16 4) == code.length && octetsAt h 64 48 == octetsAt (Config.sha384 code) 0 48 &&
  Config.verify 2 Config.vendorKey (h ++ code) sig

/-- The slot holds a good image. -/
def imageGood (s : State) (b : Nat) : Bool :=
  let n := slotNat s b 16 4
  decide (n ≤ 3132416) && imageOk (slotOctets s b 0 256) (slotOctets s b 256 n) (slotOctets s b (256 + n) 4627)

/-- Octets that are a good image as it is staged. -/
def imageWhole (l : List Byte) : Bool :=
  decide (256 + 4627 ≤ l.length) && imageOk (l.take 256) ((l.drop 256).take (l.length - 4883)) (l.drop (l.length - 4627))

def imageSeq (s : State) (b : Nat) : Nat := slotNat s b 8 4
def imageFloor (s : State) (b : Nat) : Nat := slotNat s b 12 4
def imageEntry (s : State) (b : Nat) : Nat := slotBase b + 256 + slotNat s b 20 4

/-- VERSIONS: 0 ring ABI, 1 order format, 2 service table, 3 sheaf, 4 custody volume, 5 tag command set, 6 hand-over state. -/
def imageVersion (s : State) (b i : Nat) : Nat := slotNat s b (24 + 2 * i) 2

/-- The marker of kind 1 TRIAL or 2 COMMIT in sector 383 of a slot holds the SEQ. -/
def markerBytes (kind seq : Nat) : List Byte :=
  let l := leBytes 2 0x6D4B ++ leBytes 2 kind ++ leBytes 4 seq ++ leBytes 20 0
  l ++ leBytes 4 (crc32c l)
def markerA (b kind : Nat) : Nat := slotBase b + 383 * 8192 + 256 * (kind - 1)
def hasMarker (s : State) (b kind seq : Nat) : Bool := tgets (fun _ => 0xFF) s.fl.data (markerA b kind) 32 == markerBytes kind seq
def putMarker (s : State) (b kind : Nat) : State := jProgram s (markerA b kind) (markerBytes kind (imageSeq s b))

/-- The slot is acceptable: a valid image with a COMMIT marker of its SEQ; in TEST any image that the vendor signed (R644, R568). -/
def slotGood (s : State) (b : Nat) : Bool := imageGood s b && (hasMarker s b 2 (imageSeq s b) || s.lc.state == 1)

/-- The slot that the boot ROM accepts: of those the flash shows acceptable, the one of highest SEQ; else a slot that the model's flash holds
no octet of, if the command names it (log entry 27). -/
def slotChosen (s : State) (said : Option Nat) : Option Nat :=
  match slotGood s 0, slotGood s 1 with
  | true, true => some (if imageSeq s 0 < imageSeq s 1 then 1 else 0)
  | true, false => some 0
  | false, true => some 1
  | false, false => match said with
    | some b => if slotBlank s b then some b else none
    | none => none

/-- The execute-only region of a slot covers sectors 0–382 of it: FL_XO_0 for slot A, FL_XO_1 for slot B. -/
def xoA (b : Nat) : Nat := flA + 0x20 + 4 * b
def enableRegion (s : State) (b : Nat) : State := rset s (xoA b) (w32 (packFields [(1024 * b, 0), (1024 * b + 382, 16), (1, 31)]))

/-! ### Helper generations (R518) -/

def helperA (g : Nat) : Nat := sectorA (1948 + 4 * g)

/-- No octet of the generation's sectors has been programmed. -/
def helperBlank (s : State) (g : Nat) : Bool := s.fl.data.all (fun e => !(decide (helperA g ≤ e.1 ∧ e.1 < helperA g + 32768)))

def helperHead (s : State) (g : Nat) : List Byte := tgets (fun _ => 0xFF) s.fl.data (helperA g + 3 * 8192) 96

/-- The header reads whole with a correct CRC over itself and the helper data. -/
def helperValid (s : State) (g : Nat) : Bool :=
  let h := helperHead s g
  leNat (octetsAt h 0 2) == 0x9F0E && leNat (octetsAt h 2 2) == 0x0100 &&
    leNat (octetsAt h 92 4) == crc32c (octetsAt h 0 92 ++ tgets (fun _ => 0xFF) s.fl.data (helperA g) 16384)

def helperSeq (s : State) (g : Nat) : Nat := leNat (octetsAt (helperHead s g) 4 4)
def helperEpoch (s : State) (g : Nat) : Nat := leNat (octetsAt (helperHead s g) 8 4)

/-- A generation written: 16 KiB of helper data, then its header, through the write journal (R520). -/
def writeHelper (s : State) (g gseq n : Nat) : State :=
  let data := (List.range 16384).map (fun i => Config.pufHelper n i)
  let h := leBytes 2 0x9F0E ++ leBytes 2 0x0100 ++ leBytes 4 gseq ++ leBytes 4 (s.mt.minute.getD 0) ++ leBytes 4 s.mt.start ++
    octetsAt (Config.helperCheck n) 0 48 ++ leBytes 28 0
  let s := jStore s (1948 + 4 * g) 4 data
  jProgram s (helperA g + 3 * 8192) (h ++ leBytes 4 (crc32c (h ++ data)))

/-! ### Spare rows (R509, R639, R640) -/

/-- Spare rows per unit and the units of a line-die memory; the control SRAM's 24 banks have 16 each. -/
def lineSpares (mem : Nat) : Nat := nth [32, 64, 8, 16, 8, 16] mem 0
def lineUnits (mem : Nat) : Nat := nth [16, 2, 2, 32, 16, 1] mem 0

/-- Spares used in a unit of the line die; purges of the granary use those of their bank pair. -/
def lineUsed (s : State) (mem unit : Nat) : Nat :=
  tget (fun _ => 0) s.rmLine.used (64 * mem + unit) + (if mem = 3 then tget (fun _ => 0) s.gran.sparesUsed (unit % 16) else 0)
def sramUsed (s : State) (bank : Nat) : Nat := tget (fun _ => 0) s.rmSram.used bank

def lineLeft (s : State) (mem unit : Nat) : Nat := lineSpares mem - lineUsed s mem unit
def sramLeft (s : State) (bank : Nat) : Nat := 16 - sramUsed s bank

def useLine (s : State) (mem unit : Nat) : State :=
  { s with rmLine := { s.rmLine with used := tput (fun _ => 0) s.rmLine.used (64 * mem + unit) (tget (fun _ => 0) s.rmLine.used (64 * mem + unit) + 1) } }
def useSram (s : State) (bank : Nat) : State := { s with rmSram := { s.rmSram with used := tput (fun _ => 0) s.rmSram.used bank (sramUsed s bank + 1) } }

/-- Fewest spares left in any bank, and in any unit of a line-die memory (R653, R654). -/
def sramLeast (s : State) : Nat := (List.range 24).foldl (fun n b => Nat.min n (sramLeft s b)) 16
def lineLeast (s : State) (mem : Nat) : Nat := (List.range (lineUnits mem)).foldl (fun n u => Nat.min n (lineLeft s mem u)) (lineSpares mem)

end Sys2Proof.Machine
end

