-- ==== Sys2Proof/Machine/Protection.lean ====
section
/-! DEFINITION. The recolour engine (R412, R413, R428) and the DMA channels (R417–R423, R429). -/

namespace Sys2Proof.Machine

/-! ### The recolour engine -/

def rcBase (s : State) : Nat := rf s 0x30088000 31 6
def rcCount (s : State) : Nat := rf s 0x30088004 16 0
def rcOld (s : State) : Nat := rf s 0x30088008 7 0
def rcNew (s : State) : Nat := rf s 0x30088008 15 8

/-- First granule of the command's range, where the range lies in SRAM (R412). -/
def rcRange (s : State) : Option Nat :=
  if 0x800000 ≤ rcBase s ∧ 1 ≤ rcCount s ∧ rcBase s - 0x800000 + rcCount s ≤ 98304 then some (rcBase s - 0x800000) else none

/-- Granules of a range whose stored tag is OLD. -/
def rcMatches (s : State) (g n old : Nat) : List Nat := ((List.range n).map (fun i => g + i)).filter (fun j => tagOf s j == old)

/-- A command of the engine: refused while BUSY or beyond SRAM; else its whole effect, BUSY until it completes (R412). -/
def rcCommand (s : State) (op : Nat) : State :=
  match (if s.rc.busy then none else rcRange s) with
  | none => refuse s 0x3008800C
  | some g =>
    let n := rcCount s
    let s := { s with rc := { busy := true, done := n } }
    if op = 1 then cadd (setTags s g n (rcNew s)) 0x30088100 n
    else if op = 2 then
      let l := rcMatches s g n (rcOld s)
      cadd (l.foldl (fun t j => setTag t j (rcNew s)) s) 0x30088100 l.length
    else cadd (wipeTags s g n (rcNew s)) 0x30088108 n

def execRecolourAll (s : State) : Out := powered s (rcCommand s 1)
def execRecolourIf (s : State) : Out := powered s (rcCommand s 2)
def execWipe (s : State) : Out := powered s (rcCommand s 3)

/-- The command in progress completes: source 192 (R426). -/
def rcComplete (s : State) : State := if s.rc.busy then raise { s with rc := { s.rc with busy := false } } 192 [] else s
def execRecolourComplete (s : State) : Out := powered s (rcComplete s)

/-! ### DMA channels: registers (R429) -/

def dmA (c : Nat) : Nat := 0x30070000 + 0x100 * c
def dmaOf (s : State) (c : Nat) : DmaSt := tget (fun _ => {}) s.dma c
def setDma (s : State) (c : Nat) (x : DmaSt) : State := { s with dma := tput (fun _ => {}) s.dma c x }

def dmSrc (s : State) (c : Nat) : Nat := (rget s (dmA c)).toNat + (if rbit s (dmA c + 0x14) 0 then (rget s (dmA c + 4)).toNat * 2 ^ 32 else 0)
def dmDst (s : State) (c : Nat) : Nat := (rget s (dmA c + 8)).toNat + (if rbit s (dmA c + 0x14) 1 then (rget s (dmA c + 0xC)).toNat * 2 ^ 32 else 0)
def dmLen (s : State) (c : Nat) : Nat := rf s (dmA c + 0x10) 23 0
def dmSrcHost (s : State) (c : Nat) : Bool := rbit s (dmA c + 0x14) 0
def dmDstHost (s : State) (c : Nat) : Bool := rbit s (dmA c + 0x14) 1
def dmFill (s : State) (c : Nat) : Bool := rbit s (dmA c + 0x14) 2
def dmFn (s : State) (c : Nat) : Nat := 256 * rf s (dmA c + 0x18) 8 8 + rf s (dmA c + 0x18) 7 0
def dmGen (s : State) (c : Nat) : Nat := rf s (dmA c + 0x18) 31 16
/-- STATE: 0 IDLE, 1 RUNNING, 2 PAUSED, 3 FAULTED, 4 DONE, 5 ABORTED. -/
def dmState (s : State) (c : Nat) : Nat := rf s (dmA c + 0x20) 2 0
def setDmState (s : State) (c v : Nat) : State := rsetf s (dmA c + 0x20) 2 0 v

/-- Offset 1 of the channel's sources, with CAUSE and DM_XFER (R426). -/
def dmEvent (s : State) (c : Nat) : State := raise s (65 + 2 * c) [rf s (dmA c + 0x20) 6 3, rf s (dmA c + 0x2C) 15 0]

def dmRefuse (s : State) (c : Nat) : State := dmEvent s c

/-- The function of a host side exists and is of the transfer's generation (R419, R421). -/
def dmGenOk (s : State) (c : Nat) : Bool := (fnOf s (dmFn s c)).present && (fnOf s (dmFn s c)).gen == dmGen s c

/-- Requests that the channel still has room for: 8 outstanding, at most 512 octets each (R418). Nothing beyond a failed one. -/
def dmRequest (c : Nat) : Nat → State → State
  | 0, s => s
  | n + 1, s =>
    let d := dmaOf s c
    let last := dmSrc s c + dmLen s c
    if !dmSrcHost s c || decide (8 ≤ d.reqs.length) || decide (last ≤ d.nextReq) || d.reqs.any (fun r => r.err != 0) then s
    else
      let k := Nat.min 512 (last - d.nextReq)
      dmRequest c n (send (setDma s c { d with reqs := d.reqs ++ [⟨d.nextReq, k, none, 0⟩], nextReq := d.nextReq + k }) (.hostRead (dmFn s c) d.nextReq k))

/-- Requests of the transfer given up: those answered are discarded and counted, the others' completions are still to come (R420). -/
def dmDrop (s : State) (c : Nat) (keep : Bool) : State :=
  let d := dmaOf s c
  let l := if keep then d.reqs.drop 1 else d.reqs
  let open' := (l.filter (fun r => r.data.isNone && r.err == 0)).length
  let held := (l.filter (fun r => r.data.isSome)).length
  cadd (setDma s c { d with reqs := if keep then d.reqs.take 1 else [], stale := d.stale + open' }) (dmA c + 0x60) held

/-- The transfer ends ABORTED with a cause; its event (R419, R421). -/
def dmAbort (s : State) (c cause : Nat) : State :=
  let s := dmDrop s c false
  let s := setDma s c { dmaOf s c with pauseReq := false, resumed := false }
  dmEvent (rsetf (rsetf (setDmState s c 5) (dmA c + 0x20) 6 3 cause) (dmA c + 0x20) 9 9 0) c

/-- FAULTED with CAUSE, SIDE, REPAIRABLE and the failing address (R420). -/
def dmFault (s : State) (c cause side addr : Nat) (keep : Bool) : State :=
  let s := dmDrop s c keep
  let st := putFld (putFld (putFld (putFld (rget s (dmA c + 0x20)) 2 0 3) 6 3 cause) 7 7 side) 8 8 (b2n (cause == 1 || cause == 2))
  let s := rset (rset (rset s (dmA c + 0x20) st) (dmA c + 0x24) (w32 (addr % 2 ^ 32))) (dmA c + 0x28) (w32 (addr / 2 ^ 32))
  dmEvent (cinc s (dmA c + 0x50)) c

/-- The oldest request has failed and everything below it is written: FAULTED (R420). -/
def dmHead (s : State) (c : Nat) : State :=
  match (dmaOf s c).reqs.head? with
  | some r => if r.err ≠ 0 ∧ dmState s c = 1 then dmFault s c r.err 0 r.addr false else s
  | none => s

/-! ### Commands of DM_CTL (R419, R422) -/

/-- GO is refused in these cases beyond the state's own (R419). -/
def dmBadGo (s : State) (c : Nat) : Bool :=
  (dmSrcHost s c && dmDstHost s c) || (dmFill s c && dmSrcHost s c) || dmLen s c == 0 ||
  ((dmSrcHost s c || dmDstHost s c) && !dmGenOk s c)

def dmaGo (s : State) (c : Nat) : State :=
  if (dmState s c = 0 ∨ 4 ≤ dmState s c) ∧ dmBadGo s c = false then
    let s := rsetf s (dmA c + 0x2C) 15 0 (rf s (dmA c + 0x2C) 15 0 + 1)
    let s := rset s (dmA c + 0x20) 1
    let s := setDma s c { dmaOf s c with reqs := [], nextReq := dmSrc s c, pauseReq := false, resumed := false }
    dmRequest c 8 s
  else dmRefuse s c

def execDmaGo (c : Fin 16) (s : State) : Out := powered s (dmaGo s c)

def dmaPause (s : State) (c : Nat) : State :=
  match dmState s c with
  | 1 => setDmState (setDma s c { dmaOf s c with pauseReq := true, resumed := false }) c 2
  | 2 => s
  | 3 => s
  | _ => dmRefuse s c

def execDmaPause (c : Fin 16) (s : State) : Out := powered s (dmaPause s c)

/-- The transfer runs on: requests that no longer match DM_SRC are given up, and new ones issued. -/
def dmContinue (s : State) (c : Nat) : State :=
  let s := cinc (rsetf (rsetf (setDmState s c 1) (dmA c + 0x20) 6 3 0) (dmA c + 0x20) 8 8 0) (dmA c + 0x58)
  let fits := match (dmaOf s c).reqs.head? with
    | some r => r.addr == dmSrc s c
    | none => false
  let s := if fits then s else dmDrop s c false
  let d := dmaOf s c
  dmRequest c 8 (setDma s c { d with nextReq := match d.reqs.getLast? with
    | some r => r.addr + r.len
    | none => dmSrc s c })

def dmaResume (s : State) (c : Nat) : State :=
  match dmState s c with
  | 1 => s
  | 2 => if rbit s (dmA c + 0x20) 9 then setDma s c { dmaOf s c with resumed := true } else dmContinue s c
  | 3 => if rbit s (dmA c + 0x20) 8 then dmContinue s c else dmRefuse s c
  | _ => dmRefuse s c

def execDmaResume (c : Fin 16) (s : State) : Out := powered s (dmaResume s c)

def dmaAbort (s : State) (c : Nat) : State :=
  match dmState s c with
  | 1 => dmAbort s c 0
  | 2 => dmAbort s c 0
  | 3 => dmAbort s c (rf s (dmA c + 0x20) 6 3)
  | _ => s

def execDmaAbort (c : Fin 16) (s : State) : Out := powered s (dmaAbort s c)

/-! ### Beats (R418, R420, R421) -/

/-- DM_STAT cause of an MPU check's cause code (R423, R429). -/
def dmCause (c : Nat) : Nat := if c = 5 then 1 else if c = 4 then 2 else 3

/-- A beat's check at MPU c + 8, with the record of a refusal: the state and the DM_STAT cause. -/
def dmCheck (s : State) (c : Nat) (k : Kind) (a : Nat) (res : MemRes) : State × Option Nat :=
  let t := tagFound s a res
  match dmaCheck t (c + 8) k a with
  | some e => (noteRefusal (if e = 4 ∧ tagBad t a then tagEvent t a else t) (c + 8) a e k.code 0, some (dmCause e))
  | none => (t, none)

/-- The source octets of a beat of `n`: FILL repeats SRC_LO by the destination's place, a host source gives what has arrived. -/
def beatSource (s : State) (c n : Nat) (res : MemRes) : State × Option (List Byte) × Nat :=
  if dmFill s c then (s, some ((List.range n).map (fun i => BitVec.ofNat 8 ((rget s (dmA c)).toNat >>> (8 * ((dmDst s c + i) % 4))))), 0)
  else if dmSrcHost s c then
    (s, ((dmaOf s c).reqs.head?.bind (fun r => r.data)).map (fun l => l.take n), 0)
  else
    let p := dmCheck s c .load (dmSrc s c) res
    match p.2 with
    | some e => (p.1, none, e)
    | none =>
      let r := busRead p.1 (dmSrc s c) n false res
      (r.1, r.2, if inSram (dmSrc s c) then 4 else 5)

/-- A lane of SRAM touched by octets `a … a+n-1` is covered in part and holds an uncorrectable error (R409). -/
def laneBad (s : State) (a n l : Nat) : Bool :=
  decide (8 * l < a ∨ a + n < 8 * l + 8) && tget (fun _ => false) s.badLane l

/-- A beat's octets written to SRAM: a lane covered in part is read first and may fail; one covered whole is replaced (R409). -/
def beatSram (s : State) (a : Nat) (l : List Byte) (res : MemRes) : State × Bool :=
  let lanes := (List.range ((a + l.length - 1) / 8 + 1 - a / 8)).map (fun i => a / 8 + i)
  let part := lanes.filter (fun x => decide (8 * x < a ∨ a + l.length < 8 * x + 8))
  let p := match part.head? with
    | some _ => (match part.find? (laneBad s a l.length) with
      | some x => sramLane s (8 * x) .uncorrectable
      | none => sramLane s (8 * part.headD 0) res)
    | none => (s, true)
  if p.2 then
    let t := memWrite p.1 a l
    ({ t with badLane := (lanes.filter (fun x => !part.contains x)).foldl (fun b x => tput (fun _ => false) b x false) t.badLane }, true)
  else (p.1, false)

/-- The octets a beat may move: within one aligned 16-octet block of each Rhaby side, a request's data, and a 4 KiB block of a
host destination. -/
def beatSize (s : State) (c : Nat) : Nat :=
  let a := if dmFill s c || dmSrcHost s c then 16 else 16 - dmSrc s c % 16
  let b := if dmDstHost s c then 4096 - dmDst s c % 4096 else 16 - dmDst s c % 16
  let d := if dmSrcHost s c then (match (dmaOf s c).reqs.head? with
    | some r => r.len
    | none => 0) else 16
  Nat.min (Nat.min a b) (Nat.min d (dmLen s c))

/-- DM_SRC, DM_DST and DM_LEN advance past `n` octets; at the end DONE (R418, R419). -/
def beatDone (s : State) (c n : Nat) : State :=
  let src := dmSrc s c + n
  let dst := dmDst s c + n
  let s := if dmFill s c then s else
    let t := rset s (dmA c) (w32 src)
    if dmSrcHost s c then rset t (dmA c + 4) (w32 (src / 2 ^ 32)) else t
  let s := rset s (dmA c + 8) (w32 dst)
  let s := if dmDstHost s c then rset s (dmA c + 0xC) (w32 (dst / 2 ^ 32)) else s
  let s := rsetf s (dmA c + 0x10) 23 0 (dmLen s c - n)
  let d := dmaOf s c
  let s := match d.reqs with
    | r :: l => if !dmSrcHost s c then s
      else if r.len = n then setDma s c { d with reqs := l }
      else setDma s c { d with reqs := { r with addr := r.addr + n, len := r.len - n, data := r.data.map (fun x => x.drop n) } :: l }
    | [] => s
  let s := cadd s (dmA c + 0x40) n
  if dmLen s c = 0 then cinc (raise (setDmState s c 4) (64 + 2 * c) [0, rf s (dmA c + 0x2C) 15 0]) (dmA c + 0x48)
  else dmHead (dmRequest c 8 s) c

/-- One beat of a RUNNING channel; with nothing yet arrived from the host it waits. A host side is first checked under R421. -/
def dmaBeat (s : State) (c : Nat) (src dst : MemRes) : State :=
  if dmState s c ≠ 1 then s
  else if (dmSrcHost s c || dmDstHost s c) && !dmGenOk s c then dmAbort s c 0xA
  else if (dmSrcHost s c || dmDstHost s c) && !canMaster (fnOf s (dmFn s c)) then
    dmEvent (rsetf (setDmState (setDma s c { dmaOf s c with pauseReq := false, resumed := false }) c 2) (dmA c + 0x20) 9 9 1) c
  else if dmSrcHost s c && ((dmaOf s c).reqs.head?.bind (fun r => r.data)).isNone then s
  else
    let n := beatSize s c
    match beatSource s c n src with
    | (t, none, e) => dmFault t c e 0 (dmSrc s c) true
    | (t, some l, _) =>
      if dmDstHost s c then beatDone (hostWrite t (dmFn s c) (dmDst s c) l) c n
      else
        let p := dmCheck t c .store (dmDst s c) dst
        match p.2 with
        | some e => dmFault p.1 c e 1 (dmDst s c) true
        | none =>
          let r := beatSram p.1 (dmDst s c) l dst
          if r.2 then beatDone r.1 c n else dmFault r.1 c 4 1 (dmDst s c) true

def execDmaBeat (c : Fin 16) (src dst : MemRes) (s : State) : Out := powered s (dmaBeat s c src dst)

/-- DM_STAT cause of a failed host read (R429). -/
def hostCause : HostErr → Nat
  | .ur => 6 | .ca => 7 | .poison => 8 | .timeout => 9

/-- The completion of the channel's k-th outstanding request, or of one whose transfer has ended, which is discarded (R418, R420). -/
def dmaCompletion (s : State) (c k : Nat) (stale : Bool) (data : List Byte) (err : Option HostErr) : State :=
  let d := dmaOf s c
  if stale then
    (if d.stale = 0 then s else cinc (setDma s c { d with stale := d.stale - 1 }) (dmA c + 0x60))
  else match d.reqs[k]? with
    | none => s
    | some r =>
      if r.data.isSome || r.err != 0 then s
      else match err with
        | some e => dmHead (readFailed (setDma s c { d with reqs := setNth d.reqs k { r with err := hostCause e } }) (dmFn s c) e) c
        | none => setDma s c { d with reqs := setNth d.reqs k { r with data := some (octetsAt data 0 r.len) } }

def execDmaHostCompletion (c : Fin 16) (k : Fin 8) (stale : Bool) (data : List Byte) (err : Option HostErr) (s : State) : Out :=
  powered s (dmaCompletion s c k stale data err)

/-- The oldest request of a channel that awaits its completion. -/
def oldestOpen (l : List DmaReq) : Nat := (l.takeWhile (fun r => r.data.isSome || r.err != 0)).length

/-- A read request of the device is not completed in time (R228). -/
def execCompletionTimeout (x : HostRead) (s : State) : Out :=
  powered s (match x with
    | .ring f => entriesArrive s f [] (some .timeout)
    | .chan c => dmaCompletion s c (oldestOpen (dmaOf s c).reqs) false [] (some .timeout)
    | .log f w => logFill s f w 0 (some .timeout))

end Sys2Proof.Machine
end

