-- ==== Sys2Proof/Machine/Power.lean ====
section
/-! DEFINITION. Power, clocks, modes, the PUF's refresh and the SMBus target (R502–R530, R663). -/

namespace Sys2Proof.Machine

def pwA : Nat := 0x30000000

/-! ### Power good and resets (R502, R505, R506) -/

/-- Power good rises: a start, or DORMANT with HOLD_N low; the tag, if it had no supply, draws a handle (R502, R593). -/
def powerGoodRise (s : State) (ownOk : Bool) : State :=
  if s.pw.mainGood then s
  else
    let cause := if s.tm.sigOk && decide (s.now < s.pw.lastMain + 1000000) then 1 else 0
    let fresh := !s.tag.field
    let t := if s.pw.holdLow then setPw s { s.pw with mainGood := true, mode := .dormant } else newStart s cause
    if fresh then drawHandle t ownOk else t

def execPowerGoodRise (ownOk : Bool) (s : State) : Out := ok (powerGoodRise s ownOk)

/-- Power good falls: everything but the backup domain loses power at once, and that too where VBAT is absent (R502, R533). Without a field the
tag loses its supply; `pageDone` as in R603. -/
def powerGoodFall (s : State) (pageDone : Bool) : State :=
  if !s.pw.mainGood then s
  else
    let t := if s.tag.field then s else tagOff s pageDone
    let t := coldState t (if s.pw.vbatOk then .backup else .off)
    { t with pw := { t.pw with mainGood := false, lastMain := s.now, pllLost := false, commitFail := false },
             tm := { t.tm with sigOk := t.tm.sigOk && s.pw.vbatOk } }

def execPowerGoodFall (pageDone : Bool) (s : State) : Out := ok (powerGoodFall s pageDone)

/-- A recognised RESET_N pulse, in any mode with main power (R504, R505). -/
def execResetPin (s : State) : Out := ok (if mainOn s then newStart s 2 else s)

/-- PW_CMD RESET (R506). -/
def execResetCommand (s : State) : Out := ok (if runs s then newStart s 3 else s)

/-! ### DORMANT (R504, R521, R522) -/

/-- Orders fetched and not dispatched complete WITHDRAWN (R522 step 2). -/
def withdrawQueued (s : State) : State :=
  let t := (s.host.fns.map (fun e => e.1)).foldl (fun t f =>
    let raw := (fnOf t f).raw
    raw.foldl (fun u r => completeRaw u f r 11) (modFn t f (fun x => { x with raw := [] }))) s
  (t.ord.jobs.filter (fun j => !j.started)).foldl (fun u j => endJob u j 11 0 []) t

/-- Step 3: every port block OFF, queued frames discarded, ZEROISE. -/
def portsOff (s : State) : State :=
  let t := (List.range 16).foldl (fun t b => if slotEn t b = 0 then t else slotEnWrite t b 0) s
  (List.range 16).foldl (fun t b => if modeOf t (15 - b) = 0 then t else modeWrite t (15 - b) 0) t

/-- Steps 3 and 4, once the running scripts have ended. -/
def dormantGo (s : State) : State :=
  if s.pw.dormantStep ≠ 1 ∨ s.ord.jobs.any (fun j => j.started) then s
  else
    let t := grZeroise (portsOff (setPw s { s.pw with dormantStep := 4 }))
    if t.mt.minute.isNone ∨ t.mt.boundary.isSome then t
    else if boundaryReady t then timerBoundary t else setMt t { t.mt with due := true }

/-- A DORMANT request by requester 0 HOLD_N, 1 SMBus or 2 the steward: step 1, and at once what it lets begin. During STARTING it waits for
step 12, and the sequence then begins at step 5 (R504, R522). -/
def dormantRequest (s : State) (who : Nat) : State :=
  if s.pw.mode = .starting then
    if 12 ≤ s.pw.step then setPw s { s.pw with dormantStep := 5 } else setPw s { s.pw with dormantWait := true }
  else if !runs s ∨ s.pw.dormantStep ≠ 0 then s
  else dormantGo (withdrawQueued (raise { csAbandon s with pw := { s.pw with dormantStep := 1 }, ord := { s.ord with paused := true } } 154 [who]))

def execDormantCommand (s : State) : Out := ok (dormantRequest s 2)
def execHoldNLow (s : State) : Out := ok (dormantRequest (setPw s { s.pw with holdLow := true }) 0)

/-- HOLD_N rises: a wake from DORMANT (R502). -/
def execHoldNHigh (s : State) : Out :=
  let t := setPw s { s.pw with holdLow := false }
  ok (if s.pw.mode = .dormant then newStart t 4 else t)

/-- No minute is still to be sealed. -/
def minutesSealed (s : State) : Bool := s.mt.boundary.isNone && !s.mt.due && s.mt.minutes.all (fun x => x.sign != [])

/-- The seal is abandoned at 2 s, and that minute is lost. -/
def execDormantSealTimeout (s : State) : Out :=
  ok (if s.pw.dormantStep = 1 ∨ s.pw.dormantStep = 4 then setPw s { s.pw with dormantStep := 5 } else s)

/-- Steps 5 to 7: the SUMMARY record and the mirrors written, the wipe, the power-down (R522, R606). -/
def dormantEntry (s : State) : State :=
  let t := dormantGo s
  if !runs s then s
  else if t.pw.dormantStep = 5 ∨ (t.pw.dormantStep = 4 ∧ minutesSealed t) then dormantFrom5 (tagSummary t 3 true) true
  else t

def execDormantEntry (s : State) : Out := ok (dormantEntry s)

/-! ### PLLs (R511–R513) -/

def pllOf (s : State) (d : Nat) : Pll := nth s.pw.plls d {}
def setPll (s : State) (d : Nat) (x : Pll) : State := setPw s { s.pw with plls := setNth s.pw.plls d x }

/-- Both PLLs of the control fast (0) or line system (1) domain are lost: source 151 and DORMANT; no hart flushes where the control fast
domain has no clock (R512). -/
def bothLost (s : State) (d : Nat) (harts : Bool) : State :=
  let t := dormantFrom5 (raise s 151 [d]) harts
  setPw t { t.pw with pllLost := true }

/-- The fast PLLs lock during a start; `a` and `b` tell which PLL A and PLL B of each domain lock (R511, R514). The state after reset, with
STEP 0, has step 1 completed with it (log entry 34). -/
def startPllLocked (s : State) (a b : Nat) : State :=
  if s.pw.mode ≠ .starting ∨ 1 < s.pw.step then s
  else
    let t := setPw s { s.pw with plls := (List.range 3).map (fun d =>
      let la := bitAt a d
      let lb := bitAt b d
      { activeB := !la && lb, lockA := la, lockB := lb, failed := !(la && lb) }) }
    match [0, 1].find? (fun d => !bitAt a d && !bitAt b d) with
    | some d => bothLost t d false
    | none => startStep (if s.pw.step = 0 then startStep t 1 else t) 2

def execStartPllLocked (a b : Fin 8) (s : State) : Out := ok (startPllLocked s a b)

/-- The PLL not in use may take over: it is locked, and where a retry locked it, for a second (R512). -/
def partnerGood (s : State) (x : Pll) : Bool :=
  (if x.activeB then x.lockA else x.lockB) && (match x.relock with
    | some t => decide (t + 1000000 ≤ s.now)
    | none => true)

/-- The active PLL of a domain loses lock: the partner takes over, or the domain has none. -/
def pllLoss (s : State) (d : Nat) : State :=
  let x := pllOf s d
  if !runs s || s.pw.step < 2 then s
  else
    let y := if x.activeB then { x with lockB := false } else { x with lockA := false }
    if partnerGood s x then cinc (raise (setPll s d { y with activeB := !x.activeB, relock := none }) 150 [d]) 0x30000100
    else if d = 2 then setPll s d y
    else bothLost (setPll s d y) d (decide (d = 1) && decide (11 ≤ s.pw.step))

def execPllLockLoss (d : Fin 3) (s : State) : Out := ok (pllLoss s d)

/-- A failed PLL is tried again. -/
def pllRetry (s : State) (d : Nat) (locked : Bool) : State :=
  let x := pllOf s d
  if !runs s || (if x.activeB then x.lockA else x.lockB) then s
  else if locked then setPll s d (if x.activeB then { x with lockA := true, failed := false, relock := some s.now } else { x with lockB := true, failed := false, relock := some s.now })
  else setPll s d { x with failed := true }

def execPllRetryExpiry (d : Fin 3) (locked : Bool) (s : State) : Out := ok (pllRetry s d locked)

/-- The conditions of R390 under which the fast PLLs may stop: every hart in service is WAITING, and no DMA channel, host engine or
long-integer job is active. -/
def allQuiet (s : State) : Bool :=
  (List.range 8).all (fun h => match hstOf s h with
    | .running => false
    | .haltedDebug => false
    | _ => true) &&
  (List.range 16).all (fun c => !(dmState s c == 1)) &&
  s.host.fns.all (fun e => e.2.reading == 0 && e.2.compl.isEmpty) && s.host.lines.all (fun x => !x.filling) && !(s.mt.frozen == .harvesting) &&
  s.li.running.isNone && s.li.jobs.all (fun e => !e.2.live)

def execPllIdleStop (s : State) : Out :=
  ok (if runs s && !s.pw.stopped && rbit s 0x3000000C 0 && allQuiet s then cinc (setPw s { s.pw with stopped := true }) 0x30000108 else s)

/-! ### The PUF's helper data (R517–R520) -/

/-- PW_PUF_CTL REFRESH; refused while BUSY (R529). -/
def execPufRefresh (s : State) : Out :=
  ok (if !runs s then s else if s.pw.pufBusy ≠ 0 ∨ s.pw.rootOk = false then refuse s 0x30000018 else setPw s { s.pw with pufBusy := 1 })

def execPufRefreshComplete (s : State) : Out :=
  ok (if s.pw.pufBusy = 1 then setPw s { s.pw with pufBusy := 0, refreshed := true, helperN := s.pw.helperN + 1 } else s)

/-- PW_PUF_CTL CHECK; refused until a REFRESH has completed. -/
def execPufCheck (s : State) : Out :=
  ok (if !runs s then s else if s.pw.pufBusy ≠ 0 ∨ s.pw.refreshed = false then refuse s 0x30000018 else setPw s { s.pw with pufBusy := 2 })

/-- The generation that a refresh replaces: the one that is not valid, or the older (R518, R520). -/
def olderGen (s : State) : Nat :=
  match helperValid s 0, helperValid s 1 with
  | true, true => if helperSeq s 0 < helperSeq s 1 then 0 else 1
  | true, false => 1
  | false, true => 0
  | false, false => 1 - s.pw.gen

/-- GSEQ of the newer generation; a free value where the model's flash holds none (log entry 27). -/
def newerSeq (s : State) : State × Nat :=
  let g := 1 - olderGen s
  if helperValid s g then (s, helperSeq s g) else (freed s, free s % 2 ^ 32)

/-- The trial ends: it passes with the same root and WORST below REFRESH_AT, and the steward then commits the generation; else source 147. -/
def pufChecked (s : State) (worst : Nat) (same : Bool) : State :=
  if s.pw.pufBusy ≠ 2 then s
  else
    let good := same && decide (worst < rf s 0x30000018 8 4)
    let s := setPw s { s.pw with pufBusy := 0, pufRes := if good then 1 else 2, pufResWorst := worst }
    if !good then raise s 147 []
    else
      let g := olderGen s
      let p := newerSeq s
      let s := writeHelper p.1 g ((p.2 + 1) % 2 ^ 32) p.1.pw.helperN
      raise (cinc (setPw s { s.pw with committed := true, otherValid := true }) 0x30000118) 148 [(p.2 + 1) % 2 ^ 32]

def execPufCheckComplete (worst : Fin 32) (same : Bool) (s : State) : Out := ok (pufChecked s worst same)

/-- A refresh is due: five years of minutes beyond the EPOCH of the generation in use, or WORST at REFRESH_AT (R520). -/
def refreshDue (s : State) : Bool :=
  let g := if s.pw.committed then 1 - olderGen s else s.pw.gen
  s.pw.rootOk && (!s.pw.committed && decide (rf s 0x30000018 8 4 ≤ s.pw.worst) ||
    (helperValid s g && decide (helperEpoch s g + 2629800 ≤ s.mt.minute.getD 0)))

/-! ### The SMBus target (R524) -/

/-- The target answers in every mode with main power. -/
def smbus (s : State) (l : List Byte) : State := if mainOn s then send s (.answer 0 l) else s

def execSmbusVersion (s : State) : Out := ok (smbus s (leBytes 2 0x0100))
def execSmbusMode (s : State) : Out := ok (smbus s (leBytes 1 (modeCode s + 8 * s.pw.step)))

/-- PW_CAUSE as a word (R529). -/
def causeReg (s : State) : Nat :=
  packFields [(s.pw.cause, 0), (b2n s.pw.lcPending, 3), (b2n s.pw.lockLatch, 4), (b2n s.pw.lostFound, 5)]

/-- CAUSE: bit 7 in DORMANT after a PLL failure; how it records a COMMIT that would not burn is not stated, a free value (R512, R576). -/
def smbusCause (s : State) : State :=
  if s.pw.commitFail ∧ s.pw.mode = .dormant then smbus (freed s) (leBytes 1 (free s % 256))
  else smbus s (leBytes 1 (causeReg s % 128 + (if s.pw.pllLost ∧ s.pw.mode = .dormant then 128 else 0)))

def execSmbusCause (s : State) : Out := ok (smbusCause s)

/-- TEMP: the hottest sensor of each die as measured now; nothing is measured where the dies are off. -/
def smbusTemp (s : State) (l c : Nat) : State :=
  let t := if runs s then setPw s { s.pw with tempL := l, tempC := c } else setPw s { s.pw with tempL := 255, tempC := 255 }
  smbus t (leBytes 1 t.pw.tempL ++ leBytes 1 t.pw.tempC)

def execSmbusTemp (line ctl : Fin 256) (s : State) : Out := ok (smbusTemp s line ctl)

/-- DORMANT_REQ with data 0xA5, while SMBUS_DORMANT_EN is set. -/
def execDormantReq (data : Fin 256) (s : State) : Out := ok (if data = 0xA5 ∧ rbit s 0x3000000C 11 then dormantRequest s 1 else s)

/-- WAKE with data 0x5A. -/
def execWake (data : Fin 256) (s : State) : Out := ok (if data = 0x5A ∧ s.pw.mode = .dormant then newStart s 4 else s)

/-! ### The cell (R648, R649, R663) -/

/-- VBAT falls below its warning level. -/
def execVbatLow (s : State) : Out :=
  ok (if !s.pw.vbatOk || s.pw.vbatLow then s
      else let t := setPw s { s.pw with vbatLow := true }; if runs s then raise t 153 [] else t)

/-- The cell removed or fitted: without main power, the backup domain goes or returns with it, and its signature is lost (R533, R649). -/
def vbatChange (s : State) (v : Bool) : State :=
  let t := setPw s { s.pw with vbatOk := v, vbatLow := false }
  if s.pw.mainGood then t
  else if v then setPw t { t.pw with mode := .backup }
  else { t with pw := { t.pw with mode := .off }, tm := { t.tm with sigOk := false } }

def execVbatOkChange (v : Bool) (s : State) : Out := ok (vbatChange s v)

end Sys2Proof.Machine
end

