-- ==== Sys2Proof/Machine/LifeCycle.lean ====
section
/-! DEFINITION. The life cycle: its fuses, its decode and transitions, LC_REQUEST, and the debug port (R568–R588). -/

namespace Sys2Proof.Machine

/-! ### The state in fuses (R569, R570, R572) -/

/-- The code of a target state. -/
def lcCode (t : Nat) : W32 := nth [0, 0x0000FFFF, 0xFFFF0000, 0x00FFFF00, 0xFF0000FF, 0x0F0FF0F0] t 0
def lcStateOf (w : W32) : Option Nat := [1, 2, 3, 4, 5].find? (fun t => lcCode t == w)

/-- The transitions of R572. -/
def lcTrans (a b : Nat) : Bool := (b == 5 && decide (a ≤ 4)) || [(0, 1), (1, 2), (2, 3), (2, 4), (3, 4)].contains (a, b)

def otpRec (s : State) (r : Nat) : OtpRec := tget (fun _ => {}) s.lc.recs r
def setRec (s : State) (r : Nat) (x : OtpRec) : State := setLc s { s.lc with recs := tput (fun _ => {}) s.lc.recs r x }
def tokenOf (s : State) (i : Nat) : W32 := tget (fun _ => 0) s.lc.tokens i
def freeRecs (s : State) : List Nat := (List.range 8).filter (fun r => (otpRec s r).intent == 0 && (otpRec s r).void == 0)
def tokensLeft (s : State) : List Nat := (List.range 16).filter (fun i => tokenOf s i == 0)

/-- What the scan of the records comes to: a record to be voided, or a state with a pending target and its record. -/
inductive Scan where
  | bad (r : Nat)
  | state (st : Nat) (pending : Option (Nat × Nat))
deriving DecidableEq, Repr

/-- The decode of R570 over records from r on. -/
def lcScan (s : State) : List Nat → Nat → Scan
  | [], st => .state st none
  | r :: rest, st =>
    let x := otpRec s r
    if x.void ≠ 0 ∨ x.intent = 0 then lcScan s rest st
    else match lcStateOf x.intent with
      | none => .bad r
      | some t =>
        if !lcTrans st t then .bad r
        else if x.commit = x.intent then lcScan s rest t
        else if x.commit &&& ~~~x.intent = 0 then .state st (some (t, r))
        else .bad r

/-! ### Wipes (R571, R572) -/

/-- The sectors of set O, without 932–939 of bank 1 where the owner key record is kept. -/
def setO (keepKey : Bool) : List Nat :=
  let run := fun (a n : Nat) => (List.range n).map (fun i => a + i)
  run 384 256 ++ run 768 256 ++ run 1792 144 ++ run 1940 8 ++ (if keepKey then [] else run 1956 8) ++ run 1964 84

/-- Sectors erased by the boot ROM without the write journal; its pulses are a free value within R486. -/
def romErase (s : State) (l : List Nat) : State :=
  l.foldl (fun t x => eraseSector t x (2 + free s % 19) true) (freed s)

/-- Set O, with every record of the steward's that lies in it. -/
def wipeO (s : State) (keepKey : Bool) : State :=
  let t := romErase s (setO keepKey)
  { t with ord := { t.ord with res := [], resSeq := [] }, line := { t.line with retireRec := [] }, ev := { t.ev with mirSeg := 0 },
           fl := { t.fl with retired := [], jpage := 0, jseq := 0 }, mt := { t.mt with start := 0, highest := none, lastRoot := none },
           tag := { t.tag with seen := [], refreshed := none },
           lc := { t.lc with metKey := false, flashKey := if keepKey then t.lc.flashKey else [] } }

def wipeH (s : State) : State := romErase s ((List.range 8).map (fun i => 1948 + i))

/-- Everything: every sector, the tokens, the hash and the VOID words of unused records. -/
def wipeAll (s : State) : State :=
  let t := wipeO (romErase s (List.range 2048)) false
  let t := (freeRecs t).foldl (fun u r => setRec u r { otpRec u r with void := 0xFFFFFFFF }) t
  setLc t { t.lc with tokens := (List.range 16).map (fun i => (i, 0xFFFFFFFF)), ownHash := List.replicate 48 0xFF }

/-- The wipes of a transition; the hash of an enrolment is burned with them, from the record kept (R572, R579). -/
def lcWipe (s : State) (target : Nat) : State :=
  match target with
  | 2 => wipeO s false
  | 3 => let t := wipeO s true
         setLc t { t.lc with ownHash := octetsAt (Config.sha384 t.lc.flashKey) 0 48, ownAlg := t.lc.flashAlg }
  | 4 => wipeH (wipeO s false)
  | 5 => wipeAll s
  | _ => s

/-! ### Step 6 of the start (R514, R568, R576, R577) -/

/-- The state is decoded: the owner key is used where it matches the hash, the pairing shows but in RETURN, the tag's records follow, step 6
is complete, and SCRAP goes to DORMANT. -/
def lcEnter (s : State) : State :=
  let x := s.lc
  let s := setLc s { x with pending := none, ownKey := if octetsAt (Config.sha384 x.flashKey) 0 48 = x.ownHash then x.flashKey else [] }
  let s := { s with culm := { s.culm with paired := x.paired && x.state != 4 } }
  let s := startStep (tagBoot (setPw s { s.pw with decoded := true })) 6
  if x.state = 5 then enterDormant s else s

/-- The decode can be made: step 5 is complete, or the source is DISABLED; a delay is at hand; no burn is in progress. -/
def decodeReady (s : State) : Bool :=
  s.pw.mode == .starting && !s.pw.decoded && s.lc.burn.isNone && s.lc.voiding.isNone && !s.lc.wiped &&
    (if s.rng.st == .disabled then decide (4 ≤ s.pw.step) else decide (5 ≤ s.pw.step) && s.rng.st == .running && decide (s.rng.dd ≠ 0))

/-- The double decision; `dis` is how many of its evaluations disagreed: one is repeated, a second ends the start in DORMANT (R548). -/
def lcDecode (s : State) (dis : Nat) : State :=
  if !decodeReady s then s
  else
    let s := ddTake s
    let s := if dis = 0 then s else ddTake (disagree s 5)
    if dis = 2 then enterDormant (disagree s 5)
    else match lcScan s (List.range 8) 0 with
      | .bad r => setLc s { s.lc with voiding := some r }
      | .state st none => lcEnter (raise (setLc s { s.lc with state := st }) 160 [st, 0xFF])
      | .state st (some (t, _)) =>
        let s := raise (setLc s { s.lc with state := st, pending := some t }) 160 [st, t]
        let s := lcWipe (setPw s { s.pw with lcPending := true }) t
        setLc s { s.lc with wiped := true }

def execLcDecode (dis : Fin 3) (s : State) : Out := ok (lcDecode s dis)

/-- A committed transition (R577, R572, R601). -/
def lcCommitted (s : State) (t : Nat) : State :=
  let old := s.lc.state
  let s := { s with regs := s.regs.filter (fun e => !backupReg e.1), tm := { s.tm with latch := false, mons := [] },
                    rng := { s.rng with oscEn := 0xFF, hist := [] } }
  let s := if s.rng.st = .disabled then rngStart s else s
  let s := if s.level = 0 then s else logPut { s with level := 0 } 2 0xFF 0 0 false [s.level]
  let s := raise (lifeRecord s 2 old t 0xFF []) 162 [t]
  let s := if t = 2 then setLc s { s.lc with tokens := (List.range 16).map (fun i => (i, if tokenOf s i = 0 then 0xFFFFFFFF else tokenOf s i)) } else s
  lcEnter (tagCount (setLc s { s.lc with state := t }) 3)

/-! ### LC_CMD (R576, R587) -/

def lcRefuse (s : State) : State := refuse s 0x30010020
def startBurn (s : State) (k r : Nat) (v : W32) : State := setLc s { s.lc with burn := some (k, r, v) }

/-- The boot ROM runs: before the steward is accepted. -/
def bootRom (s : State) : Bool := s.pw.mode == .starting && decide (4 ≤ s.pw.step ∧ s.pw.step < 10)

/-- A transition to t may have its INTENT burned now. -/
def mayIntend (s : State) (t : Nat) : Bool :=
  s.lc.pending.isNone && s.lc.burn.isNone && lcTrans s.lc.state t && decide (0 < (freeRecs s).length) && (decide (1 < (freeRecs s).length) || t == 5)

def lcIntent (s : State) (t : Nat) : State :=
  if mayIntend s t then startBurn s 1 ((freeRecs s).headD 0) (lcCode t) else lcRefuse s

def execLcIntent (t : Fin 8) (s : State) : Out := ok (if runs s then lcIntent s t else s)

/-- COMMIT of the pending record, by the boot ROM after the wipes. -/
def lcCommit (s : State) : State :=
  match lcScan s (List.range 8) 0 with
  | .state _ (some (t, r)) => if bootRom s ∧ s.lc.wiped ∧ s.lc.burn.isNone then startBurn s 2 r (lcCode t) else lcRefuse s
  | _ => lcRefuse s

def execLcCommit (s : State) : Out := ok (if runs s then lcCommit s else s)

/-- VOID of the record that the decode found bad, by the boot ROM. -/
def lcVoid (s : State) : State :=
  match s.lc.voiding with
  | some r => if bootRom s ∧ s.lc.burn.isNone then startBurn s 3 r 0xFFFFFFFF else lcRefuse s
  | none => lcRefuse s

def execLcVoid (s : State) : Out := ok (if runs s then lcVoid s else s)

/-- PAIR, in TEST with scope PROVISION open, from the root (R578). -/
def lcPair (s : State) : State :=
  if s.lc.state = 1 ∧ s.lc.dbgOpen ∧ bitAt s.lc.scope 4 ∧ s.pw.rootOk ∧ s.lc.burn.isNone then startBurn s 4 0 0xFFFFFFFF else lcRefuse s

def execLcPair (s : State) : Out := ok (if runs s then lcPair s else s)

/-- The key that signs transitions from the present state: the owner's in OWNED, else the vendor's; its ALG and its signature's length. -/
def lcSigner (s : State) : List Byte × Nat × Nat :=
  if s.lc.state = 3 then (s.lc.ownKey, s.lc.ownAlg, if s.lc.ownAlg = 0 then 96 else 3309) else (Config.vendorKey, 2, 4627)

/-- A refused request or debug response: source 166, REFUSED. -/
def lcRefused (s : State) : State := raise (cinc s 0x30010108) 166 []

/-- An LC_REQUEST that was checked returns. -/
def lcReturn (s : State) (h status : Nat) (res : List Nat) : State :=
  let s := cinc s 0x30010100
  svcRet (if status = 0 then s else lcRefused s) h status res

/-- The unlock takes effect: source 164, DBG_OPENS, a DEBUG_OPEN record, after a TOKEN record where a token was burned (R584). -/
def dbgUnlocked (s : State) (scope token : Nat) : State :=
  let key := (lcSigner s).1
  let s := if token = 0xFF then s else lifeRecord s 6 s.lc.state scope token key
  let s := lifeRecord (setLc s { s.lc with dbgOpen := true, scope := scope, unlock := none }) 4 s.lc.state scope token key
  raise (cinc s 0x30010110) 164 [scope, token]

/-- What a burn that has ended brings about. -/
def burnEnds (s : State) (k r : Nat) (good : Bool) : State :=
  match k with
  | 1 =>
    let t := (lcStateOf (otpRec s r).intent).getD 0
    let key := if s.lc.waitHart.isSome then (lcSigner s).1 else []
    let u := if good then raise (lifeRecord (setLc s { s.lc with pending := some t, waitHart := none }) 1 s.lc.state t 0xFF key) 161 []
             else setLc s { s.lc with waitHart := none }
    (match s.lc.waitHart with
     | some (h, _) => if (hartOf s h).svc = some 0x80 then lcReturn u h (if good then 0 else 1) [] else u
     | none => u)
  | 2 =>
    if good then lcCommitted s ((lcStateOf (otpRec s r).intent).getD 0)
    else
      let u := setLc s { s.lc with burnTry := s.lc.burnTry + 1 }
      if 3 ≤ u.lc.burnTry then (let v := enterDormant u; setPw v { v.pw with commitFail := true }) else u
  | 3 => if (otpRec s r).void = 0 then s else raise (lifeRecord (setLc s { s.lc with voiding := none }) 3 s.lc.state ((lcStateOf (otpRec s r).intent).getD 0xFF) 0xFF []) 163 [r]
  | 4 => if good then { s with lc := { s.lc with paired := true }, culm := { s.culm with paired := true } } else s
  | _ => (match s.lc.unlock with
    | some (sc, tk) => if tokenOf s r = 0 then setLc s { s.lc with unlock := none } else dbgUnlocked s sc tk
    | none => s)

/-- A burn ends; `got` has the bits that burned (R576, R587). -/
def burnComplete (s : State) (got : W32) : State :=
  match s.lc.burn with
  | none => s
  | some (k, r, v) =>
    let x := otpRec s r
    let s := match k with
      | 1 => setRec s r { x with intent := x.intent ||| (v &&& got) }
      | 2 => setRec s r { x with commit := x.commit ||| (v &&& got) }
      | 3 => setRec s r { x with void := x.void ||| (v &&& got) }
      | 5 => setLc s { s.lc with tokens := tput (fun _ => 0) s.lc.tokens r (tokenOf s r ||| (v &&& got)) }
      | _ => s
    let good := match k with
      | 1 => (otpRec s r).intent == v
      | 2 => (otpRec s r).commit == v
      | 3 => (otpRec s r).void == v
      | 5 => tokenOf s r == v
      | _ => got == v
    burnEnds (setLc s { s.lc with burn := none, burnRes := if good then 1 else 2 }) k r good

def execOtpBurnComplete (got : BitVec 32) (s : State) : Out := ok (if runs s then burnComplete s got else s)

/-! ### LC_REQUEST (R573–R576) -/

def lcOp (l : List Byte) : Nat := leNat (octetsAt l 4 1)
def lcTarget (l : List Byte) : Nat := leNat (octetsAt l 5 1)
def lcSigLen (l : List Byte) : Nat := leNat (octetsAt l 6 2)
def lcPayLen (l : List Byte) : Nat := leNat (octetsAt l 32 4)
def lcNonce (l : List Byte) : Nat := leNat (octetsAt l 16 16)

/-- The payload of an operation is well formed (R574). -/
def lcPayGood (l : List Byte) : Bool :=
  let n := lcPayLen l
  if lcOp l = 3 ∧ lcTarget l = 3 then
    let alg := leNat (octetsAt l 40 1)
    decide (alg ≤ 1) && leNat (octetsAt l 41 3) == 0 && n == 4 + (if alg = 0 then 97 else 1952)
  else if lcOp l = 4 then n == 1 && decide (leNat (octetsAt l 40 1) ≤ 1)
  else n == 0

/-- The record is well formed, with the unit's identity and a known OP and TARGET, and its signature passes (R575 step 1). -/
def lcGood (s : State) (l : List Byte) : Bool :=
  let k := lcSigner s
  let n := 40 + lcPayLen l
  decide (40 ≤ l.length) && leNat (octetsAt l 0 2) == 0x1C5E && leNat (octetsAt l 2 2) == 0x0100 && leNat (octetsAt l 36 4) == 0 &&
  leNat (octetsAt l 8 8) == Config.identity.toNat && decide (1 ≤ lcOp l ∧ lcOp l ≤ 5) && l.length == n + lcSigLen l && lcPayGood l &&
  (if lcOp l = 3 then
     decide (1 ≤ lcTarget l ∧ lcTarget l ≤ 5) && lcSigLen l == k.2.2 && k.1 != [] && Config.verify k.2.1 k.1 (octetsAt l 0 n) (octetsAt l n (lcSigLen l))
   else lcTarget l == 0 && lcSigLen l == 0 && lcNonce l == 0)

/-- LC_REQUEST for operation `op`. A record of another known operation is another command's; a malformed one is any command's to refuse. -/
def svcLc (op : Nat) (s : State) (x : Hart) (h : Nat) (j : Job) (body : State → List Byte → State) : State :=
  let l := scratchRead s j (svcArg x 2) (svcArg x 3)
  if s.lc.waitHart.isSome then s
  else if !inScratch (svcArg x 2) (svcArg x 3) then lcReturn s h 3 []
  else if 40 ≤ l.length ∧ lcOp l ≠ op ∧ 1 ≤ lcOp l ∧ lcOp l ≤ 5 then s
  else if !lcGood s l then
    lcReturn (if lcOp l = 3 ∧ (s.lc.nonce.map (fun v => v.toNat)) = some (lcNonce l) then setLc s { s.lc with nonce := none } else s) h 3 []
  else body s l

/-- The output goes to scratch at g4. -/
def lcOutput (s : State) (j : Job) (x : Hart) (h : Nat) (l : List Byte) : State :=
  if !inScratch (svcArg x 4) l.length then lcReturn s h 3 [] else lcReturn (scratchWrite s j (svcArg x 4) l) h 0 []

/-- STATUS. -/
def lcStatus (s : State) : List Byte :=
  leBytes 1 s.lc.state ++ leBytes 1 (s.lc.pending.getD 0xFF) ++ leBytes 1 (tokensLeft s).length ++ leBytes 1 (freeRecs s).length ++
  leBytes 1 (if s.lc.ownHash = [] then 0xFF else s.lc.ownAlg) ++ leBytes 1 s.lc.scope ++ leBytes 2 0 ++ leBytes 8 Config.identity.toNat ++ octetsAt s.lc.ownHash 0 48

def execLcStatus (h : Fin 8) (s : State) : Out :=
  ok (svcCall s h 0x80 true (fun s j x => svcLc 1 s x h j (fun s _ => lcOutput s j x h (lcStatus s))))

/-- CHALLENGE: a nonce from the DRBG. -/
def execLcChallenge (h : Fin 8) (s : State) : Out :=
  ok (svcCall s h 0x80 true (fun s j x => svcLc 2 s x h j (fun s _ =>
    if canDraw s then
      let l := drawOctets s 16
      lcOutput (setLc (drewOctets s 16) { s.lc with nonce := some (BitVec.ofNat 128 (leNat l)) }) j x h l
    else if rngDown s then lcReturn s h 7 [] else svcWait s h j .rng)))

/-- TRANSITION: the checks of R575, the owner key record of an enrolment, and the INTENT's burn, with which it returns (R576). -/
def lcTransition (s : State) (l : List Byte) (h : Nat) : State :=
  let t := lcTarget l
  let fresh := (s.lc.nonce.map (fun v => v.toNat)) = some (lcNonce l)
  let s := if fresh then setLc s { s.lc with nonce := none } else s
  if !fresh || !mayIntend s t || (decide (t = 2) && !s.lc.paired) then lcReturn s h 1 []
  else if t = 3 ∧ !flashFree s then s
  else
    let key := octetsAt l 44 (lcPayLen l - 4)
    let alg := leNat (octetsAt l 40 1)
    let s := if t = 3 then (let u := jStore s 1956 1 (leBytes 4 alg ++ key); setLc u { u.lc with flashKey := key, flashAlg := alg }) else s
    startBurn (setLc s { s.lc with waitHart := some (h, t) }) 1 ((freeRecs s).headD 0) (lcCode t)

def execLcTransition (h : Fin 8) (s : State) : Out :=
  ok (svcCall s h 0x80 true (fun s j x => svcLc 3 s x h j (fun s l => lcTransition s l h)))

/-- EXERCISE, in TEST. -/
def execLcExercise (h : Fin 8) (s : State) : Out :=
  ok (svcCall s h 0x80 true (fun s j x => svcLc 4 s x h j (fun s l =>
    if s.lc.state ≠ 1 then lcReturn s h 1 [] else lcReturn (rsetf s 0x30020000 0 0 (leNat (octetsAt l 40 1))) h 0 [])))

/-- KEYS, in OWNED: the metering public key, signed by the device key. -/
def lcKeys (s : State) : List Byte :=
  let l := leBytes 1 s.lc.ownAlg ++ octetsAt (Config.meteringPub s.lc.ownAlg) 0 (if s.lc.ownAlg = 0 then 97 else 1952)
  l ++ octetsAt (Config.sign 0 Config.deviceKey l) 0 96

def execLcKeys (h : Fin 8) (s : State) : Out :=
  ok (svcCall s h 0x80 true (fun s j x => svcLc 5 s x h j (fun s _ =>
    if s.lc.state ≠ 3 ∨ s.lc.metKey = false then lcReturn s h 1 [] else lcOutput s j x h (lcKeys s))))

/-! ### The debug port (R581–R585) -/

def jtag (s : State) (l : List Byte) : State := send s (.answer 1 l)
def setIr (s : State) (v : Nat) : State := setLc s { s.lc with ir := v }

/-- The scope open now: full in BLANK without authorisation (R568). -/
def dbgScope (s : State) : Nat := if s.lc.state = 0 then 0x1F else if s.lc.dbgOpen then s.lc.scope else 0

def execExtest (s : State) : Out :=
  ok (if mainOn s then setIr s (if s.lc.state = 0 ∨ ((s.lc.state = 1 ∨ s.lc.state = 4) ∧ bitAt (dbgScope s) 3) then 0x00 else 0xFF) else s)

def execSamplePreload (s : State) : Out := ok (if mainOn s then setIr s (if s.lc.state = 5 then 0xFF else 0x01) else s)

def execIdcode (s : State) : Out := ok (if mainOn s then jtag (setIr s 0x02) (leBytes 4 0x164004F7) else s)

def execBypass (s : State) : Out := ok (if mainOn s then setIr s 0xFF else s)

/-- DBG_CHAL and DBG_RESP are open in TEST, OWNED and RETURN. -/
def dbgMay (s : State) : Bool := runs s && (s.lc.state == 1 || s.lc.state == 3 || s.lc.state == 4)

/-- DBG_CHAL: the identity, a nonce of the DRBG, the state and the lowest unused token (R582). Without the DRBG nothing is shifted out. -/
def dbgChal (s : State) : State :=
  if !dbgMay s then setIr s 0xFF
  else if !canDraw s then setIr s 0x10
  else
    let n := drawOctets s 16
    let tok := if s.lc.state = 1 then (tokensLeft s).headD 0xFF else 0xFF
    let s := setLc (drewOctets s 16) { s.lc with ir := 0x10, dbgNonce := some (BitVec.ofNat 128 (leNat n)) }
    jtag s (leBytes 8 Config.identity.toNat ++ n ++ leBytes 1 s.lc.state ++ leBytes 1 tok ++ leBytes 6 0)

def execDbgChal (s : State) : Out := ok (if mainOn s then dbgChal s else s)

/-- Scope bits that a state allows (R583). -/
def scopeAllowed (st : Nat) : Nat := if st = 1 then 0x1F else if st = 4 then 0x0F else if st = 3 then 0x05 else 0

/-- A response that passes (R582). -/
def dbgGood (s : State) (l : List Byte) : Bool :=
  let k := lcSigner s
  let sc := leNat (octetsAt l 0 2)
  let tok := leNat (octetsAt l 2 1)
  decide (sc ||| scopeAllowed s.lc.state = scopeAllowed s.lc.state) && (if s.lc.state = 1 then (tokensLeft s).head? == some tok else tok == 0xFF) &&
  leNat (octetsAt l 3 1) == 0 && (s.lc.dbgNonce.map (fun v => v.toNat)) == some (leNat (octetsAt l 4 16)) &&
  leNat (octetsAt l 20 2) == k.2.2 && l.length == 22 + k.2.2 && k.1 != [] && Config.verify k.2.1 k.1 (octetsAt l 0 22) (octetsAt l 22 k.2.2)

/-- A refused unlock; four close DBG_RESP until the next reset. -/
def dbgRefuse (s : State) : State := lcRefused (setLc s { s.lc with dbgRefused := s.lc.dbgRefused + 1, dbgNonce := none })

/-- DBG_RESP: an unlock by double decision; in TEST the token burns first (R582, R584, R548). -/
def dbgResp (s : State) (l : List Byte) (agree : Bool) : State :=
  if !dbgMay s then setIr s 0xFF
  else if s.lc.burn.isSome || !ddReady s then setIr s 0x11
  else
    let s := setIr s 0x11
    if 4 ≤ s.lc.dbgRefused ∨ !dbgGood s l then dbgRefuse s
    else
      let s := ddTake s
      if !agree then disagree (dbgRefuse s) 4
      else
        let sc := leNat (octetsAt l 0 2)
        let tok := leNat (octetsAt l 2 1)
        let s := setLc s { s.lc with dbgNonce := none, unlock := some (sc, tok) }
        if s.lc.state = 1 then startBurn s 5 tok 0xFFFFFFFF else dbgUnlocked s sc tok

def execDbgResp (octets : List Byte) (agree : Bool) (s : State) : Out := ok (if mainOn s then dbgResp s octets agree else s)

/-- DBG_LOCK. -/
def execDbgLock (s : State) : Out := ok (if mainOn s then dbgClose (setIr s 0x13) else s)

/-- The debugger may halt and feed the hart: in OWNED only one that serves a script (R583). -/
def dbgHart (s : State) (h : Nat) : Bool := bitAt (dbgScope s) 0 && (s.lc.state != 3 || (hartOf s h).job.isSome)

/-- A debug command within the open scope (R583): a halt, a resume, an instruction fed to a halted hart at a level, a page of the vendor area,
or in BLANK a transition (R572). -/
def dbgCmd (s : State) (c : DbgCmd) : State :=
  match c with
  | .halt h => if dbgHart s h && (hstOf s h == .running || hstOf s h == .waiting) then stateChange s h .haltedDebug else s
  | .resume h => if bitAt (dbgScope s) 0 && hstOf s h == .haltedDebug then stateChange (setHart s h { hartOf s h with fed := none }) h .running else s
  | .feed h lv => if dbgHart s h && hstOf s h == .haltedDebug && (bitAt (dbgScope s) 1 || lv == 0) then setHart s h { hartOf s h with fed := some lv.val } else s
  | .vendor a l =>
    if bitAt (dbgScope s) 4 && flashFree s && decide (640 ≤ sectorOf a.toNat ∧ sectorOf a.toNat ≤ 767 ∧ a.toNat % 256 = 0 ∧ l.length = 256) && inFlash a.toNat then
      stewardProgram s a.toNat (wordsOf 64 l) else s
  | .transition t => if s.lc.state = 0 ∧ (t = 1 ∨ t = 5) ∧ mayIntend s t then lcIntent s t else s

def execDbgCmd (c : DbgCmd) (s : State) : Out := ok (if runs s then dbgCmd (setIr s 0x12) c else s)

end Sys2Proof.Machine
end

