-- ==== Sys2Proof/Machine/SvcLi.lean ====
section
/-! DEFINITION. The long-integer services (R435–R441, R449). -/

namespace Sys2Proof.Machine

/-! ### The job descriptor (R435, R438) -/

/-- A field of the descriptor. -/
def liD (l : List Byte) (o n : Nat) : Nat := leNat (octetsAt l o n)

/-- Operations whose KEY names a private handle. -/
def liUsesKey (op : Nat) : Bool := [0x02, 0x09, 0x0A, 0x11, 0x13, 0x1A, 0x21, 0x29, 0x31].contains op

/-- Parameter sets of each family of R438. -/
def famParams : List Nat := [3, 3, 2, 2, 2, 2]

/-- PARAM is one that R438 lists for the operation. -/
def liParamOk (op p : Nat) : Bool :=
  match op with
  | 0x01 => p == 0
  | 0x02 => p == 0
  | 0x31 => p == 0
  | 0x08 => decide (p < 3)
  | 0x09 => decide (p < 3)
  | 0x0A => decide (p < 3)
  | 0x0B => decide (p < 3)
  | 0x28 => decide (p < 3)
  | 0x29 => decide (p < 3)
  | 0x30 => decide (p / 16 < 6) && decide (p % 16 < nth famParams (p / 16) 0)
  | _ => decide (p < 2)

/-- The private key's type suits the operation and PARAM. -/
def liKeyOk (op p t : Nat) : Bool :=
  match op with
  | 0x02 => decide (1 ≤ t ∧ t ≤ 3)
  | 0x09 => t == 17 + p
  | 0x0A => t == 17 + p
  | 0x11 => t == 33 + p
  | 0x13 => t == 49 + p
  | 0x1A => t == 65 + p
  | 0x21 => t == 81 + p
  | 0x29 => t == (if p = 2 then 18 else 65 + p)
  | 0x31 => t != 0
  | _ => true

/-- Octets of a private key in its standard's encoding, by family and parameter (R436, R438). -/
def privLen (fam p : Nat) : Nat :=
  match fam with
  | 0 => 5 * (rsaLen p / 2)
  | 1 => ecCoord p
  | 2 => xdhLen p
  | 3 => edPk p
  | 4 => nth [2400, 3168] p 0
  | _ => nth [4032, 4896] p 0

/-- Octets of a context: 0–255, and none for Ed25519. -/
def ctxOk (ed25519 : Bool) (n : Nat) : Bool := if ed25519 then n == 0 else decide (n < 256)

/-- The lengths of input and auxiliary input are those of R438, with `t` the private key's type. -/
def liLensOk (op p t i a : Nat) : Bool :=
  match op with
  | 0x01 => decide (136 ≤ a ∧ a ≤ 1032) && a % 8 == 0 && i == a - 8
  | 0x02 => i == rsaLen (t - 1) && a == 0
  | 0x09 => i == ecPoint p && a == 0
  | 0x0A => decide (32 ≤ i ∧ i ≤ 64) && a == 0
  | 0x0B => decide (32 ≤ i ∧ i ≤ 64) && a == ecPoint p + 2 * ecCoord p
  | 0x11 => i == xdhLen p && a == 0
  | 0x13 => decide (i ≤ 8192) && ctxOk (p == 0) a
  | 0x14 => decide (i ≤ 8192 ∧ edPk p + edSig p ≤ a) && ctxOk (p == 0) (a - (edPk p + edSig p))
  | 0x19 => i == 0 && a == kemEk p
  | 0x1A => i == kemCt p && a == 0
  | 0x21 => decide (i ≤ 8192) && decide (a < 256)
  | 0x22 => decide (i ≤ 8192 ∧ dsaPk p + dsaSig p ≤ a ∧ a < dsaPk p + dsaSig p + 256)
  | 0x28 => i == 0 && a == (if p = 2 then 97 else kemEk p)
  | 0x29 => (let c := if p = 2 then 97 else kemCt p; i == c + 24 || i == c + 40) && a == 0
  | 0x30 => i == privLen (p / 16) (p % 16) && a == (if p / 16 = 0 then rsaLen (p % 16) + 8 else 0)
  | _ => i == 0 && a == 0

/-- The descriptor keeps every rule of R435 and R438. -/
def liDescGood (s : State) (l : List Byte) : Bool :=
  let op := liD l 0 2
  let p := liD l 2 1
  let k := keyOf s (liD l 4 2)
  let y := keyOf s (liD l 6 2)
  liKnown op && liParamOk op p && liD l 3 1 == 0 && liD l 26 6 == 0 &&
    (if liUsesKey op then !k.used || liKeyOk op p k.ptype else liD l 4 2 == 0) &&
    (if op = 0x28 then symArg s (liD l 6 2) else liD l 6 2 == 0) &&
    ((liUsesKey op && !k.used) || liLensOk op p k.ptype (liD l 12 2) (liD l 14 2)) &&
    decide (liOutLen op p (liD l 12 2) k.ptype y.len ≤ liD l 24 2) &&
    inScratch (liD l 8 4) (liD l 12 2) && inScratch (liD l 16 4) (liD l 14 2) && inScratch (liD l 20 4) (liD l 24 2)

/-- Steps 5 and 6 of R278 for the handles of a descriptor, with LI_W 0 and a NOWRAP handle as NO_RIGHT (R288, R438). -/
def liDescStatus (s : State) (j : Job) (l : List Byte) : Nat :=
  let op := liD l 0 2
  let a := if liUsesKey op then handleStatus s j.domain (liD l 4 2) else 0
  let b := if op = 0x28 then handleStatus s j.domain (liD l 6 2) else 0
  if (fnOf s j.fn).liW = 0 ∨ a = 2 ∨ b = 2 ∨ (op = 0x28 ∧ b = 0 ∧ (keyOf s (liD l 6 2)).nowrap) then 2
  else if a ≠ 0 ∨ b ≠ 0 then 1 else 0

/-! ### Submission -/

/-- Jobs of an order still in the table, by entry. -/
def liOfOrder (s : State) (i : Nat) : List Nat := (List.range 256).filter (fun e => (liJob s e).st != .free && (liJob s e).order == some i)

/-- The lowest free entry for orders. -/
def liEntry (s : State) : Option Nat := (List.range 256).find? (fun e => (liJob s e).st == .free)

/-- The record of a validated descriptor (R451). -/
def liFill (s : State) (j : Job) (e : Nat) (l : List Byte) : State :=
  let base := scratchA (j.sandbox.getD 0)
  let key := liD l 4 2
  let sym := liD l 6 2
  rsets s (liRec e 0)
    [w32 (packFields [(liD l 0 2, 0), (liD l 2 1, 7), (j.fn, 16)]), w32 (colourBound s j.domain), w32 (base + liD l 8 4), w32 (liD l 12 2),
     w32 (base + liD l 16 4), w32 (liD l 14 2), w32 key, w32 (keyOf s key).len, w32 (base + liD l 20 4), w32 (liD l 24 2), w32 sym, w32 (keyOf s sym).len]

/-- The lowest number 0–3 that no job of the order has. -/
def liNumber (s : State) (i : Nat) : Nat :=
  ((List.range 4).find? (fun n => !((liOfOrder s i).any (fun e => (liJob s e).num == n)))).getD 0

/-- A job of the order enters the table and is submitted. -/
def liPlace (s : State) (j : Job) (e : Nat) (l : List Byte) : State :=
  let n := liNumber s j.id
  let t := liFill s j e l
  jobSubmit (setLiJob t e { liJob t e with order := some j.id, num := n, dom := j.domain, svcAt := j.svcAt }) e

/-- What LI_RUN and LI_SUBMIT do alike: the checks, a wait for an entry or for randomness, then the submission. -/
def liSubmitWith (s : State) (j : Job) (x : Hart) (h : Nat) (four : Bool) (k : State → Nat → State) : State :=
  let l := scratchRead s j (svcArg x 2) 32
  let op := liD l 0 2
  if !inScratch (svcArg x 2) 32 ∨ !liDescGood s l then svcRet s h 3 []
  else if liDescStatus s j l ≠ 0 then svcRet s h (liDescStatus s j l) []
  else if (four ∧ 4 ≤ (liOfOrder s j.id).length) ∨ (liCreates op ∧ !handleRoom s (decide (op ≠ 0x29)) j.domain) then svcRet s h 4 []
  else match liEntry s with
    | none => svcWait s h j .liRoom
    | some e =>
      if !liSeedless op && !canDraw s && !rngDown s then svcWait s h j .rng
      else k (liPlace s j e l) e

/-! ### Results (R437) -/

/-- The status in g1 that follows from a job status; a job withdrawn at PURGE leaves the service LOCKED (R284, R449). -/
def liG1 (st : Nat) : Nat :=
  match st with
  | 0 => 0
  | 1 => 0
  | 2 => 3
  | 3 => 1
  | 6 => 7
  | 7 => 1
  | _ => 0x0C

/-- The result of an ENDED job, whose entry the steward frees. -/
def liResult (s : State) (h e : Nat) : State :=
  let y := liJob s e
  svcRet (jobFree s e) h (liG1 y.status) [y.status, y.written, y.handle]

/-- The service returns a job's result, or waits for its end. -/
def liAwait (s : State) (j : Job) (h e : Nat) : State :=
  if (liJob s e).st = .ended then liResult s h e else svcWait s h j (.li e)

/-- LI_RUN submits a job and waits for it. -/
def svcLiRun (s : State) (j : Job) (x : Hart) (h : Nat) : State :=
  match j.resumed with
  | some (.li e) => liAwait s j h e
  | _ => liSubmitWith s j x h false (fun s e => liAwait s j h e)

def execLiRun (h : Fin 8) (s : State) : Out := ok (svcCall s h 0x48 false (fun s j x => svcLiRun s j x h))

/-- LI_SUBMIT returns the job's number; one that could not draw its seed is refused (R441). -/
def svcLiSubmit (s : State) (j : Job) (x : Hart) (h : Nat) : State :=
  liSubmitWith s j x h true (fun s e =>
    if (liJob s e).st = .ended ∧ (liJob s e).status = 6 then svcRet (jobFree s e) h 7 [] else svcRet s h 0 [(liJob s e).num])

def execLiSubmit (h : Fin 8) (s : State) : Out := ok (svcCall s h 0x49 false (fun s j x => svcLiSubmit s j x h))

/-- LI_WAIT waits for a job of the order and frees its number. -/
def svcLiWait (s : State) (j : Job) (x : Hart) (h : Nat) : State :=
  if 4 ≤ svcArg x 2 then svcRet s h 3 []
  else match (liOfOrder s j.id).find? (fun e => (liJob s e).num == svcArg x 2) with
    | none => svcRet s h 1 []
    | some e => liAwait s j h e

def execLiWait (h : Fin 8) (s : State) : Out := ok (svcCall s h 0x4A false (fun s j x => svcLiWait s j x h))

end Sys2Proof.Machine
end

