-- ==== Sys2Proof/Machine/Custody.lean ====
section
/-! DEFINITION. The custody slot: the SD host, the steward's initialisation and volumes, and the services 0x88–0x8E (R612–R632). -/

namespace Sys2Proof.Machine

/-! ### The host (R612, R616, R631) -/

/-- A block's address as the card takes it: octets on SDSC. -/
def sdAddr (s : State) (lba : Nat) : Nat := if s.cs.ctype = 0 then lba * 512 else lba

def rcaArg (s : State) : Nat := s.cs.rca * 65536

/-- A command leaves for the card; data toward it pass through CS_BUF. -/
def sdIssue (s : State) (c : SdCmd) : State :=
  let t := setCs s { s.cs with cmd := some c }
  match c with
  | .plain i a => send t (.sd i (w32 a) [])
  | .read lba n => send t (.sd (if n = 1 then 17 else 18) (w32 (sdAddr s lba)) [])
  | .write lba l => send (rsets t (csA + 0x8000) (wordsOf (l.length / 4) l)) (.sd (if l.length ≤ 512 then 24 else 25) (w32 (sdAddr s lba)) l)
  | .raw i _ d w => send t (.sd i (rget s (csA + 8)) (if d && w then octetsOf (rgets s (csA + 0x8000) (128 * rf s (csA + 0x10) 4 0)) else []))

/-- Indices of R612. -/
def sdIndices : List Nat := [0, 2, 3, 6, 7, 8, 9, 12, 13, 16, 17, 18, 24, 25, 55, 41, 51]

/-- CS_CMD GO: refused for an index outside R612, while BUSY and while CD is 0. -/
def sdRaw (s : State) (i r : Nat) (d w : Bool) : State :=
  if !sdIndices.contains i || s.cs.cmd.isSome || !s.cs.cd then refuse s csA else sdIssue s (.raw i r d w)

def execSdCommand (index : Fin 64) (resp : Fin 8) (data toCard : Bool) (s : State) : Out :=
  ok (if runs s then sdRaw s index resp data toCard else s)

/-- Blocks read from the card, sixteen at a time; more than one end with CMD12. -/
def readOps (lba n : Nat) : List SdCmd :=
  (List.range (cdiv n 16)).flatMap (fun i =>
    let k := Nat.min 16 (n - 16 * i)
    .read (lba + 16 * i) k :: (if 1 < k then [.plain 12 0] else []))

/-- Octets written to the card as whole blocks; each write is followed by CMD13 once the card's busy has ended (R616). -/
def writeOps (s : State) (lba : Nat) (l : List Byte) : List SdCmd :=
  let n := cdiv l.length 512
  (List.range (cdiv n 16)).flatMap (fun i =>
    let k := Nat.min 16 (n - 16 * i)
    .write (lba + 16 * i) (octetsAt l (8192 * i) (512 * k)) :: (if 1 < k then [.plain 12 0, .plain 13 (rcaArg s)] else [.plain 13 (rcaArg s)]))

/-! ### The volume (R618–R621) -/

def withCrc (l : List Byte) : List Byte := l ++ leBytes 4 (crc32c l)
def crcGood (l : List Byte) : Bool := leNat (octetsAt l 508 4) == crc32c (octetsAt l 0 508)

/-- A directory entry's octets, and a directory's 32 KiB. -/
def dirEntBytes (e : DirEnt) : List Byte :=
  leBytes 1 e.kind ++ leBytes 1 e.flags ++ leBytes 2 0 ++ leBytes 4 e.lba ++ leBytes 4 e.nblk ++ leBytes 4 e.len ++ leBytes 4 e.minute ++
  octetsAt e.name 0 12 ++ octetsAt e.digest 0 32
def dirBytes (d : Tbl (Option DirEnt)) : List Byte :=
  (List.range 512).flatMap (fun i => match tget (fun _ => none) d i with
    | some e => dirEntBytes e
    | none => List.replicate 64 0)

def dirEntOf (l : List Byte) : Option DirEnt :=
  let f := fun (o n : Nat) => leNat (octetsAt l o n)
  if f 0 1 = 0 then none else some ⟨f 0 1, f 1 1, f 4 4, f 8 4, f 12 4, f 16 4, octetsAt l 20 12, octetsAt l 32 32⟩
def dirOf? (l : List Byte) : Tbl (Option DirEnt) :=
  (List.range 512).foldl (fun t i => tput (fun _ => none) t i (dirEntOf (octetsAt l (64 * i) 64))) []

/-- A superblock's octets. -/
def superBytes (b : SuperBlk) : List Byte :=
  withCrc (octetsAt (leBytes 2 0x5C4B ++ leBytes 2 (0x0100 + b.minor) ++ leBytes 4 b.sseq ++ octetsAt b.vol 0 16 ++ leBytes 8 b.creator ++ leBytes 4 b.blocks ++
    leBytes 4 b.txn ++ leBytes 2 b.head ++ leBytes 1 b.dir ++ leBytes 1 0 ++ leBytes 4 b.dirCrc) 0 508)

/-- A superblock read from copy c. -/
def superOf (c : Nat) (l : List Byte) : SuperBlk :=
  let f := fun (o n : Nat) => leNat (octetsAt l o n)
  ⟨f 2 1, f 4 4, octetsAt l 8 16, f 24 8, f 32 4, f 36 4, f 40 2, f 42 1, f 44 4, c⟩

/-- A copy's MAGIC, its FORMAT major, and whether it is valid with the directory that it names (R619). -/
def superMagic (l : List Byte) : Bool := leNat (octetsAt l 0 2) == 0x5C4B
def superMajor (l : List Byte) : Nat := leNat (octetsAt l 3 1)
def superValid (l dirs : List Byte) : Bool :=
  superMagic l && superMajor l == 1 && crcGood l &&
    crc32c (octetsAt dirs (32768 * leNat (octetsAt l 42 1)) 32768) == leNat (octetsAt l 44 4)

/-- A journal record's octets (R621), and whether a block holds one of a kind and transaction. -/
def journalBytes (kind op txn lba nblk : Nat) (name : List Byte) : List Byte :=
  withCrc (octetsAt (leBytes 2 0x4A52 ++ leBytes 1 kind ++ leBytes 1 op ++ leBytes 4 txn ++ leBytes 4 lba ++ leBytes 4 nblk ++ octetsAt name 0 12) 0 508)
def journalIs (l : List Byte) (kind txn : Nat) : Bool :=
  leNat (octetsAt l 0 2) == 0x4A52 && leNat (octetsAt l 2 1) == kind && leNat (octetsAt l 4 4) == txn && crcGood l

def ringBlock (h : Nat) : Nat := 2 + h % 256
def entries (s : State) : List DirEnt := s.cs.dir.filterMap (fun e => e.2)
def entryOf (s : State) (name : List Byte) : Option DirEnt := (entries s).find? (fun e => e.name == name)

/-- The first extent of n blocks that no entry covers (R620). -/
def firstFit (s : State) (n : Nat) : Option Nat :=
  let free := fun a => decide (a + n ≤ s.cs.sb.blocks) && (entries s).all (fun e => decide (a + n ≤ e.lba ∨ e.lba + e.nblk ≤ a))
  (386 :: (entries s).map (fun e => e.lba + e.nblk)).foldl (fun b a =>
    if 386 ≤ a && free a && (match b with
      | some c => decide (a < c)
      | none => true) then some a else b) none

def freeEntry (s : State) : Option Nat := (List.range 512).find? (fun i => (tget (fun _ => none) s.cs.dir i).isNone)

/-! ### Initialisation (R614, R615, R617) -/

/-- The commands of initialisation by number; 15 is the pause before ACMD41 is repeated. -/
def initCmd (s : State) (k : Nat) : SdCmd :=
  match k with
  | 0 => .plain 0 0
  | 1 => .plain 8 0x1AA
  | 2 => .plain 55 0
  | 3 => .plain 41 (0x00300000 + (if s.cs.v2 then 2 ^ 30 else 0))
  | 4 => .plain 2 0
  | 5 => .plain 3 0
  | 6 => .plain 9 (rcaArg s)
  | 7 => .plain 7 (rcaArg s)
  | 8 => .plain 16 512
  | 9 => .plain 55 (rcaArg s)
  | 10 => .plain 51 0
  | 11 => .plain 55 (rcaArg s)
  | 12 => .plain 6 2
  | 13 => .plain 6 0x00FFFFF1
  | _ => .plain 6 0x80FFFFF1

def goInit (s : State) (k : Nat) : State := setCs s { s.cs with phase := .init k, plan := [initCmd s k] }

/-- Power on at 400 kHz, and step 2 of R614. -/
def cardInit (s : State) (slow boot : Bool) : State :=
  goInit (setCs (rset s csA 3) { s.cs with card := 1, v2 := false, rca := 0, wide := false, fast := false, acmd := 0, retry := 0, slowed := slow, boot := boot }) 0

/-- The step of R614 that a command belongs to. -/
def initStepNo (k : Nat) : Nat := nth [2, 3, 4, 4, 5, 5, 6, 7, 8, 9, 9] k 9

/-- The boot ROM finds no image on a card: source 156, and DORMANT (R527). -/
def bootNone (s : State) : State := enterDormant (raise s 156 [10])

/-- The card is FAILED or locked: source 179 with the step, where it is one of R614, and the cause, whose code is not stated (R617). -/
def cardOut (s : State) (card : Nat) : State :=
  let step := match s.cs.phase with
    | .init k => initStepNo k
    | _ => free s % 2 ^ 32
  let boot := s.cs.boot
  let t := raise (freed (freed s)) 179 [step, free (freed s) % 2 ^ 32]
  let t := csOff (csEnd (setCs t { t.cs with card := card, vol := 0 }) 9)
  if boot then bootNone t else t

def cardFail (s : State) : State := cardOut s 3

/-- What the CSD says: type, blocks, write protection; none where its structure is not supported (R614, R617). -/
def csdOf (v2 : Bool) (r : Nat) : Option (Nat × Nat × Bool) :=
  let wp := bitAt r 13 || bitAt r 12
  match bitsOf r 127 126 with
  | 0 => some (0, (bitsOf r 73 62 + 1) * 2 ^ (bitsOf r 49 47 + 2) * 2 ^ bitsOf r 83 80 / 512, wp)
  | 1 => if v2 then some (if 0xFFFF ≤ bitsOf r 69 48 then 2 else 1, Nat.min ((bitsOf r 69 48 + 1) * 1024) (2 ^ 32), wp) else none
  | _ => none

def startMount (s : State) : State := setCs s { s.cs with phase := .supers, plan := readOps 0 2, got := [] }

/-- The card is READY: source 178, write protection (182), and either what a reinitialisation interrupted or the mount (R615, R623). -/
def initDone (s : State) : State :=
  let s := setCs (rset (rset s csA (w32 (1 + 2 * (if s.cs.fast then 3 else 2) + 8 * b2n s.cs.wide))) (csA + 0x34) (if s.cs.ctype = 2 then 500 else 250)) { s.cs with card := 2 }
  let s := raise s 178 [s.cs.ctype, b2n s.cs.wide, b2n s.cs.fast, s.cs.blocks]
  let s := if s.cs.ro ∨ s.cs.wp then raise s 182 [] else s
  match s.cs.resume with
  | some (p, l, g) => setCs s { s.cs with resume := none, phase := p, plan := l, got := g }
  | none => startMount s

/-- Speed is negotiated, but not on a card reinitialised at 25 MHz. -/
def speedStep (s : State) : State := if s.cs.slowed then initDone s else goInit s 13

/-- A width or speed step fails: the bus stays as it is, with source 178 and the outcome, whose form is not stated (R615). -/
def negotiateFail (s : State) (k : Nat) : State :=
  let t := raise (freed s) 178 [free s % 2 ^ 32]
  if k ≤ 12 then speedStep t else initDone t

/-- A command of initialisation that the card answers. -/
def initGood (s : State) (k : Nat) (r : List W32) (l : List Byte) : State :=
  let r0 := (nth r 0 0).toNat
  match k with
  | 0 => goInit s 1
  | 1 => if r0 % 4096 = 0x1AA then goInit (setCs s { s.cs with v2 := true }) 2 else cardFail s
  | 2 => goInit s 3
  | 3 =>
    if !(bitAt r0 20 && bitAt r0 21) then cardFail s
    else if bitAt r0 31 then goInit s 4
    else if 100 ≤ s.cs.acmd then cardFail s
    else setCs s { s.cs with phase := .init 15, plan := [] }
  | 4 => goInit s 5
  | 5 => goInit (setCs s { s.cs with rca := r0 / 65536 }) 6
  | 6 =>
    (match csdOf s.cs.v2 ((r.take 4).foldr (fun w n => w.toNat + 2 ^ 32 * n) 0) with
     | some (t, n, wp) => goInit (setCs s { s.cs with ctype := t, blocks := n, ro := wp }) 7
     | none => cardFail s)
  | 7 => if bitAt r0 25 then cardOut s 4 else goInit s (if s.cs.ctype = 0 then 8 else 9)
  | 8 => goInit s 9
  | 9 => goInit s 10
  | 10 => if bitAt (leNat (octetsAt l 1 1)) 2 then goInit s 11 else speedStep s
  | 11 => goInit s 12
  | 12 => speedStep (setCs s { s.cs with wide := true })
  | 13 => if bitAt (leNat (octetsAt l 13 1)) 1 then goInit s 14 else initDone s
  | _ => initDone (setCs s { s.cs with fast := leNat (octetsAt l 16 1) % 16 == 1 })

/-! ### Mounting and settling (R619, R623) -/

/-- A mount has ended; so has a CS_MOUNT. -/
def mountEnd (s : State) (vol status : Nat) : State :=
  let t := setCs s { s.cs with phase := .idle, plan := [], got := [], vol := vol }
  match t.cs.op with
  | some o => if o.op = 1 then csEnd t status else t
  | none => t

/-- An empty volume as one transaction (R626): the superblock that it starts from has no directory in force. -/
def startFormat (s : State) (o : CsOp) (b : SuperBlk) : State :=
  let op := { o with txn := b.txn + 1, head := b.head }
  setCs s { s.cs with sb := { b with minor := 0, vol := o.obj, creator := Config.identity.toNat, blocks := s.cs.blocks }, dir := [], op := some op,
                      phase := .begin, plan := writeOps s (ringBlock (b.head + 1)) (journalBytes 1 o.op op.txn 0 0 []), got := [] }

/-- The boot entries of a directory. -/
def bootEntries (s : State) : List DirEnt := (entries s).filter (fun e => e.kind == 3 && bitAt e.flags 0)

/-- Both superblocks and both directories have been read. -/
def dirsRead (s : State) : State :=
  let a := octetsAt s.cs.got 0 512
  let b := octetsAt s.cs.got 512 512
  let dirs := octetsAt s.cs.got 1024 65536
  let va := superValid a dirs
  let vb := superValid b dirs
  let pick : Option SuperBlk :=
    if va && (!vb || decide (leNat (octetsAt b 4 4) ≤ leNat (octetsAt a 4 4))) then some (superOf 0 a) else if vb then some (superOf 1 b) else none
  let other := fun l => superMagic l && crcGood l && superMajor l != 1
  let format := (s.cs.op.map (fun o => o.format)).getD false
  let fresh : SuperBlk := { head := 255, dir := 1, copy := 1 }
  match s.cs.op, pick with
  | some o, p => if o.op = 1 ∧ format then (if s.cs.ro ∨ s.cs.wp then mountEnd s 0 1 else startFormat s o (p.getD fresh))
    else (match p with
      | some x => setCs s { s.cs with sb := x, dir := dirOf? (octetsAt dirs (32768 * x.dir) 32768), got := [], phase := .slots,
                                      plan := readOps (ringBlock (x.head + 255)) 1 ++ readOps (ringBlock x.head) 1 ++ readOps (ringBlock (x.head + 1)) 1 }
      | none => if superMagic a || superMagic b then mountEnd (raise s 181 []) 3 (if other a || other b then 10 else 0) else mountEnd s 0 0)
  | none, some x =>
    let t := setCs s { s.cs with sb := x, dir := dirOf? (octetsAt dirs (32768 * x.dir) 32768), got := [] }
    if s.cs.boot then
      (if bootEntries t = [] then bootNone t else setCs t { t.cs with phase := .bootHeads, plan := (bootEntries t).flatMap (fun e => readOps e.lba 1) })
    else setCs t { t.cs with phase := .slots, plan := readOps (ringBlock (x.head + 255)) 1 ++ readOps (ringBlock x.head) 1 ++ readOps (ringBlock (x.head + 1)) 1 }
  | none, none =>
    if s.cs.boot then bootNone s
    else if superMagic a || superMagic b then mountEnd (raise s 181 []) 3 0 else mountEnd s 0 0

/-- The volume may not be written: write protection, a minor above 0, or READ_ONLY asked for (R617, R618). -/
def volReadOnly (s : State) : Bool :=
  s.cs.ro || s.cs.wp || decide (0 < s.cs.sb.minor) || (s.cs.op.map (fun o => o.op == 1 && o.readOnly)).getD false || s.cs.vol == 2

/-- The superblock after an ABORT. -/
def abortSuper (b : SuperBlk) : SuperBlk := { b with sseq := b.sseq + 1, txn := b.txn + 1, head := (b.head + 2) % 256, copy := 1 - b.copy }

/-- The journal's records before, at and after JOURNAL_HEAD have been read. OP of a COMMIT whose BEGIN is gone is a free value. -/
def slotsRead (s : State) : State :=
  let x := s.cs.sb
  let before := octetsAt s.cs.got 0 512
  let after := octetsAt s.cs.got 1024 512
  let commit := !journalIs (octetsAt s.cs.got 512 512) 2 x.txn
  let abort := journalIs after 1 (x.txn + 1)
  if volReadOnly s then mountEnd s 2 0
  else
    let known := journalIs before 1 x.txn
    let op := if known then leNat (octetsAt before 3 1) else free s % 256
    let s := if commit && !known then freed s else s
    setCs s { s.cs with phase := .settling, got := [if commit then 1 else 0, if abort then 1 else 0],
                        plan := (if commit then writeOps s (ringBlock x.head) (journalBytes 2 op x.txn 0 0 []) else []) ++
              (if abort then writeOps s (ringBlock (x.head + 2)) (journalBytes 3 (leNat (octetsAt after 3 1)) (x.txn + 1) 0 0 []) ++
                             writeOps s (1 - x.copy) (superBytes (abortSuper x)) else []) }

def settled (s : State) : State :=
  let a := nth s.cs.got 1 0 == 1
  let t := if a then cinc (setCs s { s.cs with sb := abortSuper s.cs.sb }) (csA + 0x120) else s
  mountEnd (raise t 180 [(nth s.cs.got 0 0).toNat, b2n a]) 1 0

/-! ### Transactions (R622) -/

/-- The directory with the operation's entry in it, as it is to be written. -/
def newDir (s : State) (o : CsOp) : Tbl (Option DirEnt) :=
  match o.ent, freeEntry s with
  | some e, some i => tput (fun _ => none) s.cs.dir i (some e)
  | _, _ => s.cs.dir

/-- The superblock of the commit point. -/
def newSuper (s : State) (o : CsOp) : SuperBlk :=
  let x := s.cs.sb
  { x with sseq := x.sseq + 1, txn := o.txn, head := (o.head + 2) % 256, dir := 1 - x.dir, dirCrc := crc32c (dirBytes (newDir s o)), copy := 1 - x.copy }

/-- An operation that writes an object begins its transaction, if the volume lets it (R626). -/
def startWrite (s : State) (o : CsOp) (kind flags : Nat) : State :=
  let n := cdiv o.obj.length 512
  if s.cs.phase ≠ .idle ∨ s.cs.vol ≠ 1 ∨ (entryOf s o.name).isSome then csEnd s 1
  else match firstFit s n, freeEntry s with
    | some a, some _ =>
      let x := s.cs.sb
      let e : DirEnt := ⟨kind, flags, a, n, o.obj.length, openMinute s, o.name, octetsAt (Config.sha384 o.obj) 0 32⟩
      setCs s { s.cs with op := some { o with ent := some e, txn := x.txn + 1, head := x.head }, phase := .begin, got := [],
                          plan := writeOps s (ringBlock (x.head + 1)) (journalBytes 1 o.op (x.txn + 1) a n o.name) }
    | _, _ => csEnd s 4

/-! ### Reading operations (R624, R626) -/

def sigLen (alg : Nat) : Nat := if alg = 0 then 96 else 3309

/-- KEYS outputs that are well formed (R574). -/
def keysGood (l : List Byte) : Bool :=
  let a := leNat (octetsAt l 0 1)
  decide (a ≤ 1) && l.length == 1 + (if a = 0 then 97 else 1952) + 96

/-- The archive's keys as its entries unwrap, where every one does. -/
def archiveKeys (kek : List Byte) (l : List Byte) : Nat → Option (List (List Byte))
  | 0 => some []
  | n + 1 =>
    let k := leNat (octetsAt l 0 1)
    if !(keyLenGood k) || leNat (octetsAt l 1 7) != 0 || leNat (octetsAt l (8 + k + 8) (32 - k)) != 0 then none
    else match Config.keyUnwrap kek (octetsAt l 8 (k + 8)), archiveKeys kek (l.drop 48) n with
      | some v, some r => if v.length = k then some (v :: r) else none
      | _, _ => none

/-- The fetched object has its digest. -/
def digestGood (o : CsOp) (l : List Byte) : Bool := (o.ent.map (fun e => octetsAt (Config.sha384 l) 0 32 == e.digest)).getD false

/-- An archive checked: its keys, or none where it or its signature is not right. -/
def archiveOpen (s : State) (o : CsOp) (l : List Byte) : Option (List (List Byte)) :=
  let f := fun (a n : Nat) => leNat (octetsAt l a n)
  let p := f 6 1
  let n := f 7 1
  let ct := f 8 2
  let body := 16 + ct + 48 * n
  let priv := keyOf s o.handle
  let sig := match o.keys with
    | some k =>
      let a := leNat (octetsAt k 0 1)
      keysGood k && l.length == body + sigLen a &&
        Config.verify a (octetsAt k 1 (if a = 0 then 97 else 1952)) (l.take body) (l.drop body)
    | none => decide (body ≤ l.length)
  if (o.ent.map (fun e => e.kind)).getD 0 = 1 && digestGood o l && f 0 2 == 0x4B41 && f 2 2 == 0x0100 && decide (p ≤ 2) && decide (1 ≤ n ∧ n ≤ 64) &&
      f 10 6 == 0 && ct == nth [1088, 1568, 97] p 0 && sig && priv.used && liKeyOk 0x29 p priv.ptype then
    archiveKeys (Config.kemDecap p priv.key (octetsAt l 16 ct)) (l.drop (16 + ct)) n
  else none

/-- CS_RESTORE with its archive read: the handles are created at one step, in the colour of their domain (R410). -/
def restoreEnd (s : State) (o : CsOp) (l : List Byte) : State :=
  let s := setCs s { s.cs with phase := .idle, got := [] }
  if 3 ≤ s.level then csEnd s 12
  else match archiveOpen s o l with
    | none => csEnd s 3
    | some ks =>
      if 64 < handlesOf s false (some o.dom) + ks.length ∨ 8192 < handlesOf s false none + ks.length then csEnd s 4
      else
        let p := ks.foldl (fun (p : State × List Nat) k => let q := makeKey p.1 o.dom 0 k false; (q.1, p.2 ++ [q.2])) (s, [])
        csEnd (setCs (bindColour p.1 o.dom) { p.1.cs with handles := p.2, unsigned := o.keys.isNone }) 0

/-- The slot not running, cleared and written through the journal as CLEAR and WRITE would (R645). -/
def stageSlot (s : State) (l : List Byte) : State :=
  let b := 1 - s.upd.slot
  let s := rset s (xoA b) 0
  let s := (List.range 384).foldl (fun t i => jErase t (1024 * b + i)) s
  let s := jPrograms s (slotBase b) l
  { s with upd := { s.upd with st := 0, cleared := true, clearing := 384, written := (List.range (cdiv l.length 256)).foldl (fun t i => tput (fun _ => false) t i true) [] } }

/-- CS_STAGE_IMAGE with its image read; it waits for the flash controller. -/
def stageEnd (s : State) (o : CsOp) (l : List Byte) : State :=
  if !flashFree s then s
  else
    let s := setCs s { s.cs with phase := .idle, got := [] }
    if s.upd.st = 2 then csEnd s 1
    else if (o.ent.map (fun e => e.kind)).getD 0 ≠ 3 ∨ !digestGood o l ∨ !imageWhole l then csEnd s 3
    else csEnd (stageSlot s l) 0

/-- An operation that reads an object of the volume fetches it. -/
def startFetch (s : State) (o : CsOp) : State :=
  if s.cs.phase ≠ .idle ∨ (s.cs.vol ≠ 1 ∧ s.cs.vol ≠ 2) then csEnd s 1
  else match entryOf s o.name with
    | none => csEnd s 1
    | some e => setCs s { s.cs with op := some { o with ent := some e }, phase := .fetch, plan := readOps e.lba e.nblk, got := [] }

/-! ### The boot ROM's recovery (R629) -/

/-- The headers have been read: the image of highest SEQ, and of these the lowest entry. -/
def bootHeads (s : State) : State :=
  let l := (List.range (bootEntries s).length).map (fun i => (leNat (octetsAt s.cs.got (512 * i + 8) 4), (bootEntries s).getD i ⟨0, 0, 0, 0, 0, 0, [], []⟩))
  let best := l.foldl (fun (b : Option (Nat × DirEnt)) x => match b with
    | some y => if y.1 < x.1 then some x else some y
    | none => some x) none
  match best with
  | some x => setCs s { s.cs with op := some { num := 0, op := 0, ent := some x.2 }, phase := .bootFetch, plan := readOps x.2.lba x.2.nblk, got := [] }
  | none => bootNone s

/-- The image is copied into slot A with its COMMIT marker; acceptance goes on (R644). -/
def bootFetched (s : State) : State :=
  match s.cs.op with
  | none => bootNone s
  | some o =>
    let l := s.cs.got.take ((o.ent.map (fun e => e.len)).getD 0)
    if !digestGood o l ∨ !imageWhole l then bootNone (setCs s { s.cs with op := none })
    else
      let s := csOff (setCs s { s.cs with op := none, card := 1 })
      let s := (List.range 384).foldl (fun t i => stewardErase t i) s
      let s := (List.range (cdiv l.length 2048)).foldl (fun t i =>
        stewardProgram t (slotBase 0 + 2048 * i) (wordsOf 512 (octetsAt (l ++ List.replicate 2048 0xFF) (2048 * i) 2048))) s
      stewardProgram s (markerA 0 2) (pageOf (markerBytes 2 (leNat (octetsAt l 8 4))))

/-! ### The program -/

/-- The plan of a phase has been carried out. -/
def phaseDone (s : State) : State :=
  let next := fun (p : CsPhase) (l : List SdCmd) => setCs s { s.cs with phase := p, plan := l, got := [] }
  match s.cs.phase, s.cs.op with
  | .supers, _ => if s.cs.got = [] then startMount s else setCs s { s.cs with phase := .dirs, plan := readOps 258 128 }
  | .dirs, _ => dirsRead s
  | .slots, _ => slotsRead s
  | .settling, _ => settled s
  | .begin, some o =>
    if o.format then next .directory (writeOps s (258 + 64 * (1 - s.cs.sb.dir)) (dirBytes []))
    else next .object (writeOps s ((o.ent.map (fun e => e.lba)).getD 0) o.obj)
  | .object, some o => next .readBack (readOps ((o.ent.map (fun e => e.lba)).getD 0) (cdiv o.obj.length 512))
  | .readBack, some o =>
    if digestGood o (s.cs.got.take o.obj.length) then next .directory (writeOps s (258 + 64 * (1 - s.cs.sb.dir)) (dirBytes (newDir s o)))
    else csEnd (freed s) (1 + free s % 12)
  | .directory, some o => next .super (writeOps s (1 - s.cs.sb.copy) (superBytes (newSuper s o)))
  | .super, some o =>
    let t := setCs s { s.cs with sb := newSuper s o, dir := newDir s o, vol := 1 }
    setCs t { t.cs with phase := .commit, plan := writeOps t (ringBlock (o.head + 2)) (journalBytes 2 o.op o.txn 0 0 []), got := [] }
  | .commit, _ => let t := csEnd s 0; setCs t { t.cs with phase := .idle, got := [] }
  | .fetch, some o =>
    let l := s.cs.got.take ((o.ent.map (fun e => e.len)).getD 0)
    if o.op = 4 then restoreEnd s o l else stageEnd s o l
  | .bootHeads, _ => bootHeads s
  | .bootFetch, _ => bootFetched s
  | _, _ => s

/-- The program goes on while it waits for nothing: the next command of the plan, or what follows a phase. -/
def csRun : Nat → State → State
  | 0, s => s
  | n + 1, s =>
    if s.cs.cmd.isSome || s.cs.dat0 then s
    else match s.cs.plan, s.cs.phase with
      | c :: r, _ => sdIssue (setCs s { s.cs with plan := r }) c
      | [], .idle => s
      | [], .init _ => s
      | [], _ => csRun n (phaseDone s)

/-- At most eight phases follow each other without a command. -/
def csGo (s : State) : State := csRun 8 s

/-! ### What the card does (R613, R616) -/

/-- Removal: clock and lines off, power off; the operation ends (R613, R628). -/
def cardRemove (s : State) : State :=
  if !s.cs.cd then s
  else
    let boot := s.cs.boot
    let t := cinc (raise s 177 []) (csA + 0x118)
    let t := csOff (csEnd t 11)
    let t := setCs t { t.cs with cd := false, card := 0, vol := 0 }
    if boot then bootNone t else t

def execCardRemoval (s : State) : Out := ok (if runs s then cardRemove s else setCs s { s.cs with cd := false })

/-- Insertion; in SERVICE the steward initialises the card (R613, R614). -/
def cardInsert (s : State) (wp : Bool) : State :=
  if s.cs.cd then s
  else
    let t := setCs s { s.cs with cd := true, wp := wp }
    if !runs s then t
    else
      let t := raise t 177 []
      if t.pw.mode = .service then csGo (cardInit t false false) else t

def execCardInsert (wp : Bool) (s : State) : Out := ok (cardInsert s wp)

/-- Error bits of the card status. -/
def statusBad (r : Nat) : Bool := r &&& 0xFDF98008 != 0

/-- A command of the program that ended well. -/
def sdGood (s : State) (c : SdCmd) (r : List W32) (l : List Byte) : State :=
  let s := setCs s { s.cs with retry := 0 }
  let r0 := (nth r 0 0).toNat
  match s.cs.phase, c with
  | .init k, _ => initGood s k r l
  | _, .read _ n => setCs s { s.cs with got := s.cs.got ++ octetsAt l 0 (512 * n) }
  | _, .write _ _ => setCs s { s.cs with dat0 := true }
  | _, .plain i _ => if i = 13 ∧ bitAt r0 25 then cardOut s 4 else if i = 13 ∧ statusBad r0 then cardFail s else s
  | _, .raw _ _ _ _ => s

/-- A command of the program that failed: repeated at most three times where a CRC failed; at 50 MHz a third failure of a transfer has the card
initialised again at 25 MHz; else the card is FAILED (R614–R617). -/
def sdBad (s : State) (c : SdCmd) (code : Nat) : State :=
  let again := code == 2 || code == 6 || code == 7
  let xfer := match c with
    | .read _ _ => true
    | .write _ _ => true
    | _ => false
  if again && xfer && decide (2 ≤ s.cs.retry) && s.cs.fast && !s.cs.slowed then
    cardInit (setCs s { s.cs with resume := some (s.cs.phase, c :: s.cs.plan, s.cs.got) }) true s.cs.boot
  else if again && decide (s.cs.retry < 3) then
    cinc (setCs s { s.cs with retry := s.cs.retry + 1, plan := c :: s.cs.plan }) (csA + 0x110)
  else match s.cs.phase with
    | .init k =>
      if k = 1 ∧ code = 1 then goInit s 2
      else if 11 ≤ k then negotiateFail (setCs s { s.cs with retry := 0 }) k
      else cardFail s
    | _ => cardFail s

/-- A command or transfer ends with its result code; `done` blocks of a data phase are complete (R616, R631). -/
def sdComplete (s : State) (code done : Nat) (r : List W32) (l : List Byte) : State :=
  match s.cs.cmd with
  | none => s
  | some c =>
    let s := setCs s { s.cs with cmd := none, code := code, done := done, resp := r.take 4 }
    let way : Option Bool := match c with
      | .read _ _ => some false
      | .write _ _ => some true
      | .raw _ _ d w => if d then some w else none
      | .plain _ _ => none
    let s := match way with
      | some false => cadd (rsets s (csA + 0x8000) (wordsOf (128 * Nat.min 16 done) (octetsAt l 0 (512 * done)))) (csA + 0x100) done
      | some true => cadd s (csA + 0x108) done
      | none => s
    if code = 0xA then cardRemove s
    else match c with
      | .raw _ resp d w => csGo (if code = 0 ∧ (resp = 2 ∨ (d && w)) then setCs s { s.cs with dat0 := true } else s)
      | _ => csGo (if code = 0 then sdGood s c r l else sdBad s c code)

def execSdCommandComplete (code : Fin 11) (blocks : Fin 17) (resp : List (BitVec 32)) (octets : List Byte) (s : State) : Out :=
  ok (if runs s then sdComplete s code blocks resp octets else s)

def execSdBusyEnd (s : State) : Out := ok (if runs s && s.cs.dat0 then csGo (setCs s { s.cs with dat0 := false }) else s)

/-- Busy beyond the limit: the steward's card is FAILED (R617). -/
def busyTimeout (s : State) : State :=
  if !s.cs.dat0 then s
  else
    let t := setCs s { s.cs with dat0 := false, code := 9 }
    if t.cs.phase = .idle then t else cardFail t

def execSdBusyTimeout (s : State) : Out := ok (if runs s then busyTimeout s else s)

/-- The 10 ms between two ACMD41 are over. -/
def execAcmd41RetryExpiry (s : State) : Out :=
  ok (if runs s ∧ s.cs.phase = .init 15 then csGo (goInit (setCs s { s.cs with acmd := s.cs.acmd + 1 }) 2) else s)

/-! ### The services (R625–R627) -/

/-- An operation starts, and its service returns its number. `begin'` carries it on. -/
def csStart (s : State) (h : Nat) (o : CsOp) (begin' : State → CsOp → State) : State :=
  if s.cs.op.isSome then svcRet s h 1 []
  else
    let n := (s.cs.opNum + 1) % 65536
    let o := { o with num := n }
    let s := svcRet (setCs s { s.cs with op := some o, opNum := n, opState := 1, outcome := 0, handles := [] }) h 0 [n]
    csGo (begin' s o)

/-- The 64 octets of R627 and the handles of a completed restore. -/
def csStatus (s : State) (num : Nat) : List Byte :=
  let mine := num = 0xFFFF ∨ num = s.cs.opNum
  let hs := if mine ∧ s.cs.opState = 2 ∧ s.cs.outcome = 0 then s.cs.handles else []
  let mounted := s.cs.vol = 1 ∨ s.cs.vol = 2
  let used := ((entries s).map (fun e => e.nblk)).sum
  leBytes 1 s.cs.card ++ leBytes 1 s.cs.vol ++
  leBytes 1 (packFields [(b2n s.cs.wide, 0), (b2n s.cs.fast, 1), (b2n (s.cs.ro || s.cs.wp), 2), (b2n s.cs.unsigned, 3)]) ++ leBytes 1 s.cs.ctype ++
  leBytes 4 (if mounted then s.cs.sb.blocks else 0) ++ leBytes 4 (if mounted then s.cs.sb.blocks - 386 - used else 0) ++
  leBytes 2 (if mounted then (entries s).length else 0) ++ leBytes 2 (if num = 0xFFFF then s.cs.opNum else num) ++
  leBytes 1 (if mine then s.cs.opState else 0) ++ leBytes 1 (if mine then s.cs.outcome else 0) ++ leBytes 2 hs.length ++
  leBytes 4 (if mounted then s.cs.sb.sseq else 0) ++ leBytes 8 (if mounted then s.cs.sb.creator else 0) ++ leBytes 32 0 ++ hs.flatMap (fun n => leBytes 2 n)

def svcCsStatus (s : State) (j : Job) (x : Hart) (h : Nat) : State :=
  let l := csStatus s (svcArg x 3 % 65536)
  if 0xFFFF < svcArg x 3 ∨ !inScratch (svcArg x 2) l.length then svcRet s h 3 [] else svcRet (scratchWrite s j (svcArg x 2) l) h 0 []

def execCsStatus (h : Fin 8) (s : State) : Out := ok (svcCall s h 0x88 true (fun s j x => svcCsStatus s j x h))

/-- CS_MOUNT goes on: a card that is not READY and powered is initialised first. -/
def mountBegin (s : State) (o : CsOp) : State :=
  if !s.cs.cd ∨ s.cs.card = 3 ∨ s.cs.card = 4 ∨ s.pw.mode ≠ .service ∨ (o.format && (s.cs.wp || o.readOnly)) then csEnd s 1
  else if s.cs.card = 2 ∧ rbit s csA 0 then
    (if o.format && s.cs.ro then csEnd s 1 else if s.cs.phase = .idle then startMount (setCs s { s.cs with vol := 0 }) else s)
  else if s.cs.phase = .idle then cardInit (setCs s { s.cs with vol := 0 }) false false
  else s

/-- A FORMAT draws its VOLUME_ID. -/
def svcCsMount (s : State) (j : Job) (x : Hart) (h : Nat) : State :=
  let f := bitAt (svcArg x 2) 0
  let o : CsOp := { num := 0, op := 1, format := f, readOnly := bitAt (svcArg x 2) 1 }
  if s.cs.op.isSome then svcRet s h 1 []
  else if f then needRandom s h j 16 (fun s l => csStart s h { o with obj := l } mountBegin)
  else csStart s h o mountBegin

def execCsMount (h : Fin 8) (s : State) : Out := ok (svcCall s h 0x89 true (fun s j x => svcCsMount s j x h))

/-- CS_UNMOUNT releases the volume and removes card power. -/
def unmountBegin (s : State) (_o : CsOp) : State := let t := csOff (csEnd s 0); setCs t { t.cs with vol := 4, dir := [] }

def execCsUnmount (h : Fin 8) (s : State) : Out :=
  ok (svcCall s h 0x8A true (fun s _ _ => csStart s h { num := 0, op := 2 } unmountBegin))

/-- The metering key's signature after an object's octets. -/
def signed (s : State) (l : List Byte) : List Byte :=
  l ++ octetsAt (Config.sign s.lc.ownAlg (Config.meteringKey s.lc.ownAlg) l) 0 (sigLen s.lc.ownAlg)

/-- A KEY_ARCHIVE of handles for a recipient (R624). -/
def archiveOf (s : State) (dom p : Nat) (hs : List Nat) (pub : List Byte) (seed : BitVec 256) : List Byte :=
  let c := Config.kemEncap p pub seed
  let ct := nth [1088, 1568, 97] p 0
  signed s (leBytes 2 0x4B41 ++ leBytes 2 0x0100 ++ leBytes 2 dom ++ leBytes 1 p ++ leBytes 1 hs.length ++ leBytes 2 ct ++ leBytes 6 0 ++ octetsAt c.1 0 ct ++
    hs.flatMap (fun n => let k := keyOf s n
      leBytes 1 k.len ++ leBytes 7 0 ++ octetsAt (octetsAt (Config.keyWrap c.2 k.key) 0 (k.len + 8)) 0 40))

/-- CS_ARCHIVE; its record's handles are looked at as the operation starts. -/
def svcCsArchive (s : State) (j : Job) (x : Hart) (h : Nat) : State :=
  let l := scratchRead s j (svcArg x 2) (svcArg x 3)
  let f := fun (a n : Nat) => leNat (octetsAt l a n)
  let dom := f 12 2
  let p := f 14 1
  let n := f 15 1
  let hs := (List.range n).map (fun i => f (16 + 2 * i) 2)
  let pub := l.drop (16 + 2 * n)
  if !inScratch (svcArg x 2) (svcArg x 3) || decide (4095 < dom) || decide (2 < p) || decide (n = 0 ∨ 64 < n) || pub.length != nth [1184, 1568, 97] p 0 ||
      !hs.all (fun v => decide (v < 0x8000)) then svcRet s h 3 []
  else if s.cs.op.isSome then svcRet s h 1 []
  else needRandom s h j 32 (fun s r => csStart s h { num := 0, op := 3, name := octetsAt l 0 12, dom := dom } (fun s o =>
    if !hs.all (fun v => (keyOf s v).used && (keyOf s v).dom == dom && !(keyOf s v).nowrap) then csEnd s 2
    else if !s.lc.metKey then csEnd s 1
    else startWrite s { o with obj := archiveOf s dom p hs pub (BitVec.ofNat 256 (leNat r)) } 1 0))

def execCsArchive (h : Fin 8) (s : State) : Out := ok (svcCall s h 0x8B true (fun s j x => svcCsArchive s j x h))

/-- CS_RESTORE. -/
def svcCsRestore (s : State) (j : Job) (x : Hart) (h : Nat) : State :=
  let ko := svcArg x 5
  let alg := leNat (scratchRead s j ko 1)
  let klen := 1 + (if alg = 0 then 97 else 1952) + 96
  let keys := if ko = 0xFFFFFFFF then none else some (scratchRead s j ko klen)
  if !inScratch (svcArg x 2) 12 || decide (4095 < svcArg x 4) || !(decide (0x8000 ≤ svcArg x 3 ∧ svcArg x 3 < 0x10000)) ||
      (keys.isSome && !(inScratch ko 1 && inScratch ko klen)) then svcRet s h 3 []
  else if !(keyOf s (svcArg x 3)).used then svcRet s h 1 []
  else csStart s h { num := 0, op := 4, name := scratchRead s j (svcArg x 2) 12, handle := svcArg x 3, dom := svcArg x 4, keys := keys }
    (fun s o => if (keys.map keysGood).getD true then startFetch s o else csEnd s 3)

def execCsRestore (h : Fin 8) (s : State) : Out := ok (svcCall s h 0x8C true (fun s j x => svcCsRestore s j x h))

/-- An EVENT_EXPORT (R624); without a record its first and last SEQ are free values. -/
def exportOf (s : State) (first limit : Nat) : List Byte :=
  let rs := (recordsFrom s first).take limit
  let a := if rs = [] then free s % 2 ^ 48 else (rs.head?.map (fun r => r.1)).getD 0
  let b := if rs = [] then free (freed s) % 2 ^ 48 else (rs.getLast?.map (fun r => r.1)).getD 0
  signed s (leBytes 2 0x4545 ++ leBytes 2 0x0100 ++ leBytes 8 Config.identity.toNat ++ leBytes 6 a ++ leBytes 6 b ++ leBytes 4 rs.length ++ leBytes 4 0 ++
    rs.flatMap (fun r => r.2) ++ octetsAt (logView s) 0 (513 * 32))

/-- CS_EXPORT_EVENTS. -/
def svcCsExport (s : State) (j : Job) (x : Hart) (h : Nat) : State :=
  let first := svcArg x 3 + svcArg x 4 * 2 ^ 32
  let n := svcArg x 5
  if !inScratch (svcArg x 2) 12 || decide (2 ^ 48 ≤ first) || !(decide (1 ≤ n ∧ n ≤ 2048)) then svcRet s h 3 []
  else csStart s h { num := 0, op := 5, name := scratchRead s j (svcArg x 2) 12 } (fun s o =>
    if !s.lc.metKey then csEnd s 1
    else
      let s := crcErrors s
      startWrite (freed (freed s)) { o with obj := exportOf s first n } 2 0)

def execCsExportEvents (h : Fin 8) (s : State) : Out := ok (svcCall s h 0x8D true (fun s j x => svcCsExport s j x h))

/-- CS_STAGE_IMAGE. -/
def svcCsStage (s : State) (j : Job) (x : Hart) (h : Nat) : State :=
  if !inScratch (svcArg x 2) 12 then svcRet s h 3 []
  else csStart s h { num := 0, op := 6, name := scratchRead s j (svcArg x 2) 12 } startFetch

def execCsStageImage (h : Fin 8) (s : State) : Out := ok (svcCall s h 0x8E true (fun s j x => svcCsStage s j x h))

end Sys2Proof.Machine
end

