-- ==== Sys2Proof/Machine/ServiceLife.lean ====
section
/-! DEFINITION. Owner scripts, steward updates, probation and row remaps (R269, R639, R640, R643–R647, R652–R654). -/

namespace Sys2Proof.Machine

/-! ### Owner scripts (R269) -/

/-- The signed image of a RES_LOAD is well formed. -/
def resGood (s : State) (l : List Byte) : Bool :=
  let n := imgHalf l 4
  decide (32 + n < l.length) && imgHalf l 0 == 0x7B1A && imgHalf l 2 / 256 == 1 && n % 4 == 0 && decide (4 ≤ n ∧ n ≤ 4096) && imgHalf l 6 % 4 == 0 &&
  decide (imgHalf l 6 < n) && leNat (octetsAt l 12 4) == crc32c (octetsAt l 32 n) && leNat (octetsAt l 20 12) == 0 && decide (imgHalf l 10 < 4) &&
  l.length == 32 + n + sigLen s.lc.ownAlg && s.lc.ownKey != [] && Config.verify s.lc.ownAlg s.lc.ownKey (octetsAt l 0 (32 + n)) (octetsAt l (32 + n) (sigLen s.lc.ownAlg))

def resSeqOf (s : State) (k : Nat) : Nat := tget (fun _ => 0) s.ord.resSeq k

/-- RES_LOAD: the script into its slot's sector, through the journal; it waits for the flash controller. -/
def svcResLoad (s : State) (j : Job) (x : Hart) (h : Nat) : State :=
  let n := svcArg x 2
  let l := scratchRead s j (svcArg x 3) (svcArg x 4)
  let seq := leNat (octetsAt l 16 4)
  if !(decide (0x100 ≤ n ∧ n < 0x200)) || !inScratch (svcArg x 3) (svcArg x 4) || !resGood s l then svcRet s h 3 []
  else if seq + 1 ≤ resSeqOf s n then svcRet s h 1 []
  else if !flashFree s then s
  else
    let r : ResRec := { code := octetsAt l 32 (imgHalf l 4), entry := imgHalf l 6, rept := bitAt (imgHalf l 10) 0, opOnly := bitAt (imgHalf l 10) 1,
                        svcMin := imgHalf l 8, seq := seq, held := true }
    let s := jStore s (384 + (n - 0x100)) 1 l
    svcRet { s with ord := { s.ord with res := tput (fun _ => {}) s.ord.res n r, resSeq := tput (fun _ => 0) s.ord.resSeq n (seq + 1) } } h 0 []

def execResLoad (h : Fin 8) (s : State) : Out := ok (svcCall s h 0x7D true (fun s j x => svcResLoad s j x h))

/-- RES_DELETE; the slot's highest SEQ stays. -/
def svcResDelete (s : State) (x : Hart) (h : Nat) : State :=
  let n := svcArg x 2
  if !(decide (0x100 ≤ n ∧ n < 0x200)) then svcRet s h 3 []
  else if !(resOf s n).held then svcRet s h 1 []
  else if !flashFree s then s
  else
    let s := jErase s (384 + (n - 0x100))
    svcRet { s with ord := { s.ord with res := tput (fun _ => {}) s.ord.res n {} } } h 0 []

def execResDelete (h : Fin 8) (s : State) : Out := ok (svcCall s h 0x7E true (fun s _ x => svcResDelete s x h))

/-! ### STEWARD_UPDATE (R645, R646) -/

def setUpd (s : State) (x : UpdSt) : State := { s with upd := x }

/-- STEWARD_UPDATE for a step: another known step is another command's, an unknown one is BAD_ARG. -/
def updCall (s : State) (h step : Nat) (body : State → Job → Hart → State) : State :=
  svcCall s h 0x7F true (fun s j x =>
    let n := svcArg x 2 % 256
    if n = 0 ∨ 5 < n then svcRet s h 3 [] else if n ≠ step then s else body s j x)

/-- The slot that does not run. -/
def otherSlot (s : State) : Nat := 1 - s.upd.slot

/-- RELEASE of a slot's region through the journal. -/
def releaseSlot (s : State) (b : Nat) : State :=
  journaled s 4 (slotBase b) 0 (fun t => flashDone (flRelease (flStart (freed t) 4 b []) (2 + free t % 19) none))

/-- CLEAR: the region released, then sectors erased, of which one call does a number that is not stated, until all are. -/
def updClear (s : State) (h : Nat) : State :=
  let b := otherSlot s
  if s.upd.st = 2 then svcRet s h 1 []
  else if !flashFree s then s
  else
    let s := if s.upd.cleared then setUpd s { s.upd with cleared := false, clearing := 0 } else s
    let s := setUpd s { s.upd with st := 0, written := [] }
    let s := if rbit s (xoA b) 31 then (let t := releaseSlot s b; setUpd t { t.upd with clearing := Nat.max t.upd.clearing 383 }) else s
    let n := Nat.min (384 - s.upd.clearing) (1 + free s % 384)
    let t := (List.range n).foldl (fun t i => jErase t (1024 * b + s.upd.clearing + i)) (freed s)
    let k := s.upd.clearing + n
    if k = 384 then svcRet (setUpd t { t.upd with cleared := true, clearing := 0 }) h 0 []
    else svcRet (setUpd t { t.upd with clearing := k }) h 8 []

def execUpdateClear (h : Fin 8) (s : State) : Out := ok (updCall s h 1 (fun s _ _ => updClear s h))

/-- WRITE: pages programmed through the journal. -/
def updWrite (s : State) (j : Job) (x : Hart) (h : Nat) : State :=
  let o := svcArg x 3
  let n := svcArg x 5
  let pages := (List.range (n / 256)).map (fun i => o / 256 + i)
  if o % 256 ≠ 0 ∨ n % 256 ≠ 0 ∨ n < 256 ∨ 8192 < n ∨ 383 * 8192 < o + n ∨ !inScratch (svcArg x 4) n then svcRet s h 3 []
  else if !s.upd.cleared ∨ pages.any (fun p => tget (fun _ => false) s.upd.written p) then svcRet s h 1 []
  else if !flashFree s then s
  else
    let l := scratchRead s j (svcArg x 4) n
    let b := otherSlot s
    let s := (List.range (n / 256)).foldl (fun t i => jProgram t (slotBase b + o + 256 * i) (octetsAt l (256 * i) 256)) s
    svcRet (setUpd s { s.upd with written := pages.foldl (fun t p => tput (fun _ => false) t p true) s.upd.written }) h 0 []

def execUpdateWrite (h : Fin 8) (s : State) : Out := ok (updCall s h 2 (fun s j x => updWrite s j x h))

/-- FLOOR and the hand-over version of the running image; of an image that the model's flash does not hold they are free values (log entry 27). -/
def runningFloor (s : State) : State × Nat :=
  if slotBlank s s.upd.slot then (freed s, free s % 2 ^ 32) else (s, imageFloor s s.upd.slot)
def runningMajor (s : State) : State × Nat :=
  if slotBlank s s.upd.slot then (freed s, free s % 256) else (s, imageVersion s s.upd.slot 6 / 256)

/-- VERIFY: the checks, and acceptance by double decision (R548); `agree` tells whether its evaluations agree. Probation goes on where it runs. -/
def updVerify (s : State) (h : Nat) (agree : Bool) : State :=
  let b := otherSlot s
  if slotBlank s b then svcRet s h 1 []
  else if !ddReady s then s
  else
    let p := runningFloor s
    let s := p.1
    if !imageGood s b ∨ imageSeq s b < p.2 then svcRet s h 3 []
    else
      let q := runningMajor s
      let s := q.1
      if imageVersion s b 6 / 256 ≠ q.2 then svcRet s h 0x0A []
      else
        let s := ddTake s
        if !agree then svcRet (disagree s 3) h 3 []
        else svcRet (setUpd (enableRegion s b) { s.upd with st := if s.upd.st = 2 then 2 else 1 }) h 0 []

def execUpdateVerify (h : Fin 8) (agree : Bool) (s : State) : Out := ok (updCall s h 3 (fun s _ _ => updVerify s h agree))

/-- A version within what an image supports: the same major, and no higher minor (R11). -/
def versionIn (have' asked : Nat) : Bool := asked == 0 || (asked / 256 == have' / 256 && decide (asked % 256 ≤ have' % 256))

/-- The image in slot b supports every version that a function has agreed (R297). -/
def imageServes (s : State) (b : Nat) : Bool :=
  s.host.fns.all (fun e => versionIn (imageVersion s b 0) e.2.abi && versionIn (imageVersion s b 1) e.2.vFmt && versionIn (imageVersion s b 2) e.2.vSvc &&
    versionIn (imageVersion s b 3) e.2.vSheaf)

/-- The hand-over is abandoned and the old image goes on. -/
def switchOff (s : State) : State := { s with upd := { s.upd with switching := none }, ord := { s.ord with paused := false } }

/-- A sandbox hart halted and restarted at an address, after which it idles at level 1. -/
def putSandbox (s : State) (h : Nat) (entry : Nat) : State :=
  let t := stateChange s h .haltedCmd
  let t := rset t (htA h + 0x0C) (w32 entry)
  let x := hartOf t h
  let y : Hart := { pc := w32 entry, level := 1, vbase := x.vbase, scr := x.scr, cycHi := x.cycHi, last2 := x.last2, last3 := x.last3 }
  setHst (stateChange (setHart t h y) h .running) h .waiting

/-- The new image is entered: source 208, the steward hart at its entry with its own vector table, the idle sandbox harts restarted, probation
armed, fetching and dispatch resumed (R646). -/
def switchOver (s : State) (caller : Nat) : State :=
  let b := otherSlot s
  let k := stewardHart s
  let e := imageEntry s b
  let s := raise s 208 []
  let s := setHart (freed s) k { hartOf s k with pc := w32 e, level := 1, vbase := w32 (free s) }
  let s := ((sandboxHarts s).filter (fun h => h != caller && h != k)).foldl (fun t h => putSandbox t h e) s
  { s with upd := { s.upd with slot := b, st := 2, armAt := s.now, switching := none, cleared := false, written := [], clearing := 0 },
           ord := { s.ord with paused := false } }

/-- SWITCH. Its first part accepts it and programs TRIAL; the command then goes on once the other scripts have ended, and is refused where
a CLEAR has meanwhile taken the acceptance back (R646). -/
def updSwitch (s : State) (j : Job) (h : Nat) (agree : Bool) : State :=
  let b := otherSlot s
  match s.upd.switching with
  | none =>
    if 3 ≤ s.level then svcRet s h 0x0C []
    else if s.upd.st ≠ 1 ∨ !imageServes s b then svcRet s h 1 []
    else if !flashFree s then s
    else
      let s := putMarker s b 1
      { s with upd := { s.upd with switching := some j.id }, ord := { s.ord with paused := true } }
  | some i =>
    if i ≠ j.id then svcRet s h 1 []
    else if 3 ≤ s.level then svcRet (switchOff s) h 0x0C []
    else if s.ord.jobs.any (fun k => k.id != j.id && (match k.stage with
      | .running _ => true
      | .gran _ _ => true
      | _ => false)) then s
    else if s.upd.st ≠ 1 then svcRet (switchOff s) h 3 []
    else if !ddReady s then s
    else
      let s := ddTake s
      if !agree then svcRet (switchOff (disagree s 3)) h 3 [] else svcRet (switchOver s h) h 0 []

def execUpdateSwitch (h : Fin 8) (agree : Bool) (s : State) : Out := ok (updCall s h 4 (fun s j _ => updSwitch s j h agree))

/-- COMMIT. -/
def updCommit (s : State) (h : Nat) : State :=
  if 3 ≤ s.level then svcRet s h 0x0C []
  else if s.upd.st ≠ 2 then svcRet s h 1 []
  else if !flashFree s then s
  else
    let t := putMarker s s.upd.slot 2
    svcRet (setUpd t { t.upd with st := 0 }) h 0 []

def execUpdateCommit (h : Fin 8) (s : State) : Out := ok (updCall s h 5 (fun s _ _ => updCommit s h))

/-! ### Probation (R647, R652) -/

def updA : Nat := 0x3000020C

/-- ARM with PROBATION_S; a period outside 10–3,600 s is refused. -/
def probationArm (s : State) (secs : Nat) : State :=
  if !(decide (10 ≤ secs ∧ secs ≤ 3600)) then refuse s updA
  else setUpd (rsetf s updA 15 0 secs) { s.upd with st := 2, armAt := s.now }

def execProbationArm (secs : Fin 65536) (s : State) : Out := ok (if runs s then probationArm s secs else s)

/-- DISARM. -/
def probationDisarm (s : State) : State := if s.upd.st = 2 then setUpd s { s.upd with st := 0 } else s
def execProbationDisarm (s : State) : Out := ok (if runs s then probationDisarm s else s)

/-- Seconds of probation left. -/
def probationLeft (s : State) : Nat := if s.upd.st = 2 then rf s updA 15 0 - (s.now - s.upd.armAt) / 1000000 else 0

/-- Probation runs out: a reset as by PW_CMD, after which the slot with a COMMIT marker boots. -/
def execProbationExpiry (s : State) : Out := ok (if runs s ∧ s.upd.st = 2 then newStart s 3 else s)

/-! ### Row remaps (R640, R653, R654) -/

def remapA : Nat := 0x30088200
def cuRemapA : Nat := 0x40000100

/-- MP_REMAP GO. -/
def sramRemap (s : State) (bank row : Nat) : State :=
  if s.rmSram.busy ∨ 24 ≤ bank then refuse s remapA
  else { rset s remapA (w32 (packFields [(bank, 0), (row, 5)])) with rmSram := { s.rmSram with busy := true, unit := bank, row := row } }

def execSramRemap (bank : Fin 32) (row : Fin 1024) (s : State) : Out := ok (if runs s then sramRemap s bank row else s)

/-- CU_REMAP GO, over the culm. -/
def lineRemap (s : State) (mem unit row : Nat) : State :=
  if !s.culm.session then s
  else if s.rmLine.busy ∨ 6 ≤ mem then refuse s cuRemapA
  else { rset s cuRemapA (w32 (packFields [(mem, 0), (unit, 3), (row, 8)])) with rmLine := { s.rmLine with busy := true, mem := mem, unit := unit, row := row } }

def execLineRemap (mem : Fin 8) (unit : Fin 32) (row : Fin 8192) (s : State) : Out := ok (lineRemap s mem unit row)

/-- A remap completes: a spare takes the row's place, or NO_SPARE with WARN; source 209. -/
def remapDone (s : State) (line : Bool) : State :=
  let x := if line then s.rmLine else s.rmSram
  if !x.busy then s
  else
    let left := if line then lineLeft s x.mem x.unit else sramLeft s x.unit
    let s := if line then { s with rmLine := { x with busy := false, result := if left = 0 then 2 else 1 } }
             else { s with rmSram := { x with busy := false, result := if left = 0 then 2 else 1 } }
    raise (if left = 0 then warn s else if line then useLine s x.mem x.unit else useSram s x.unit) 209 []

def execRemapComplete (line : Bool) (s : State) : Out := ok (remapDone s line)

end Sys2Proof.Machine
end

