-- ==== Sys2Proof/Machine/Starting.lean ====
section
/-! DEFINITION. The start from the wipe to SERVICE: repairs, the PUF root, the steward's acceptance and its first steps, and what the steward
does when nothing is commanded (R508, R509, R514–R520, R527, R578, R579). -/

namespace Sys2Proof.Machine

/-! ### The wipe (R508, R509, R515) -/

/-- A row that failed its read-back: a spare takes its place, or it is kept out of use; memory 6 is the control SRAM. -/
def repairRow (s : State) (e : Nat × Nat × Nat) : State :=
  let left := if e.1 = 6 then sramLeft s e.2.1 else lineLeft s e.1 e.2.1
  let t := if left = 0 then
      (if e.1 = 6 then { s with rmSram := { s.rmSram with excl := s.rmSram.excl ++ [e] } } else { s with rmLine := { s.rmLine with excl := s.rmLine.excl ++ [e] } })
    else if e.1 = 6 then useSram s e.2.1 else useLine s e.1 e.2.1
  raise (cinc t 0x30000110) 146 [e.1, e.2.2]

/-- Steps 3 and 4: every memory is wiped, and hart 0 enters the boot ROM. -/
def wipeComplete (s : State) (fails : List (Nat × Nat × Nat)) : State :=
  if s.pw.mode ≠ .starting ∨ s.pw.step ≠ 2 ∨ s.pw.wiped then s
  else
    let t := fails.foldl repairRow (setPw s { s.pw with wiped := true })
    startStep (startStep t 3) 4

def execStartWipeComplete (fails : List (Nat × Nat × Nat)) (s : State) : Out := ok (wipeComplete s fails)

/-! ### The PUF root (R517–R519, R578) -/

/-- Step 7 can be made: the state is decoded, its wipes are done, and it is neither BLANK nor SCRAP. -/
def pufReady (s : State) : Bool :=
  s.pw.mode == .starting && s.pw.decoded && s.pw.step == 6 && !s.pw.pufFail && s.lc.state != 0 && s.lc.state != 5

/-- Generation g may be one that the array regenerates from: it is valid, or the model's flash does not hold it (log entry 27). -/
def genMay (s : State) (g : Nat) : Bool := helperValid s g || helperBlank s g

/-- The root is known from generation g: its registers, source 147 where R528 asks for it, and step 7. -/
def rootFound (s : State) (g : Nat) (other repeated : Bool) (worst : Nat) : State :=
  let unknown := helperBlank s (1 - g) && !other
  let ov := other || (if unknown then free s % 2 == 1 else helperValid s (1 - g))
  let t := if unknown then freed s else s
  let t := setPw t { t.pw with rootOk := true, gen := g, otherValid := ov, repeated := repeated, worst := worst }
  startStep (if other || repeated || decide (rf t 0x30000018 8 4 ≤ worst) then raise t 147 [] else t) 7

/-- The PUF's enrolment in TEST and RETURN: a root of 32 octets of the DRBG, and generation 0 with GSEQ 0. -/
def pufEnrol (s : State) (worst : Nat) : State :=
  let t := writeHelper (drewOctets s 32) 0 0 s.pw.helperN
  startStep (setPw t { t.pw with rootOk := true, gen := 0, otherValid := false, repeated := false, worst := worst }) 7

/-- Regeneration: `gen` is the generation that passes its check, none where none does; `other` tells that it is not the newer valid one. -/
def pufRegen (s : State) (gen : Option Nat) (other repeated : Bool) (worst : Nat) : State :=
  if !pufReady s then s
  else match gen with
    | some g => if genMay s g then rootFound s g other repeated worst else s
    | none =>
      if (s.lc.state = 1 ∨ s.lc.state = 4) ∧ !helperValid s 0 ∧ !helperValid s 1 then
        (if canDraw s then pufEnrol s worst else s)
      else raise (setPw s { s.pw with pufFail := true, repeated := true }) 149 []

def execPufRegen (gen : Option (Fin 2)) (other repeated : Bool) (worst : Fin 19) (s : State) : Out :=
  ok (pufRegen s (gen.map (fun g => g.val)) other repeated worst)

/-! ### The steward's first steps (R514 steps 10–12, R515) -/

/-- The steward's layout of the SRAM (R408): a granule's colour. -/
def layoutColour (g : Nat) : Nat :=
  if g < 0x4000 then 1 else if g < 0x9000 then 0 else if g < 0x11000 then 2 else if g < 0x11400 then 5 else if g < 0x11680 then 3 else if g < 0x12000 then 4 else 0

/-- The MPUs as the steward sets and locks them: region 2 of each hart for its own code and data, region 0 of every other master over the SRAM
with the colour of its part of the layout (R400, R406, R408, R416). -/
def setMpus (s : State) : State :=
  let harts := (List.range 8).foldl (fun t h =>
    rset (rset (rset t (mpA h + 0x20) 0) (mpA h + 0x24) 0xFFFFFFC0) (mpA h + 0x28) 0x171) s
  (List.range 19).foldl (fun t i =>
    let m := 8 + i
    let c := if m = 25 then 3 else if m = 26 then 5 else if m = 24 then 0 else 4
    rsetf (rset (rset (rset t (mpA m) 0x20000000) (mpA m + 4) 0x205FFFC0) (mpA m + 8) 0x107) (mpA m + 0x200) 7 0 c) harts

/-- The SRAM coloured by its layout. -/
def setLayout (s : State) : State :=
  { s with tags := (List.range 0x12000).filterMap (fun g => let c := layoutColour g; if c = 0 then none else some (g, c)) }

/-- ST_SEED and GR_SCRKEY, from the DRBG, where they have not been written in this start (R63, R166, R527). -/
def writeSeeds (s : State) : State :=
  let regs := ((List.range 16).map (fun b => stA b + 8) ++ [grA + 8, grA + 12]).filter (fun a => !tget (fun _ => false) s.locks a)
  if regs = [] ∨ !s.culm.session ∨ !canDraw s then s
  else
    let l := drawOctets s (4 * regs.length)
    let t := drewOctets s (4 * regs.length)
    (List.range regs.length).foldl (fun u i =>
      let a := regs.getD i 0
      { rset u a (w32 (leNat (octetsAt l (4 * i) 4))) with locks := tput (fun _ => false) u.locks a true }) t

/-- The metering key of the first OWNED start, wrapped in its sectors (R579). -/
def makeMetKey (s : State) : State :=
  if s.lc.state ≠ 3 ∨ s.lc.metKey ∨ s.lc.ownKey = [] ∨ !canDraw s ∨ !flashFree s then s
  else
    let t := jStore (drewOctets s 32) (1024 + 933) 7 (Config.keyWrap Config.rootKek (Config.meteringKey s.lc.ownAlg))
    setLc t { t.lc with metKey := true }

/-- The retirements of both records applied: tillers over the culm, harts by RETIRE (R114, R393). -/
def applyRetirements (s : State) : State :=
  let rec' := s.line.retireRec
  let t := if s.culm.session then rec'.foldl (fun u e => if (tillerOf u e.1).st = .retired then u else tillerCommand u e.1 true) s else s
  { t with line := { t.line with retireRec := rec' } }

/-- The other harts restarted at the steward's entry, or retired; those that serve scripts then idle (R515). -/
def startHarts (s : State) (entry : Nat) : State :=
  (List.range 7).foldl (fun t i =>
    let h := i + 1
    if tget (fun _ => false) t.fl.retired h then retireHart t h else putSandbox t h entry) s

/-- Reader writes that the steward finds: records whose SEQ is not the one it last recorded (R606); and device writes that ended on field
power (R608). -/
def readerWrites (s : State) : State :=
  let s := s.tag.owed.foldl (fun t k => raise t 170 [k]) (setTagSt s { s.tag with owed := [] })
  [1, 2, 3, 4, 5].foldl (fun t k =>
    let n := tagSeq t k
    let t' := if (tagValue (tagRec t k)).isSome ∧ n ≠ tget (fun _ => 0) t.tag.seen k then raise t 169 [k, 0, n] else t
    setTagSt t' { t'.tag with seen := tput (fun _ => 0) t'.tag.seen k n }) s

/-- Step 12. -/
def stewardSettles (s : State) (entry : Nat) : State :=
  let s := jSettle s
  let s := setMt s { s.mt with start := s.mt.start + 1 }
  let s := applyRetirements s
  let s := startHarts (setLayout (setMpus s)) entry
  let s := liWeight (liWeight s 0 255) 256 255
  let s := if 3 ≤ s.level then levelParts s 0 s.level else s
  let s := writeSeeds s
  let s := rsetf (rsetf s (epCtl 0) 1 1 1) (epCtl 1) 1 1 1
  let s := readerWrites (makeMetKey (tagCount s 0))
  let s := if s.upd.fallback then raise (setUpd s { s.upd with fallback := false }) 208 [] else s
  let s := startStep s 12
  if s.pw.dormantWait then setPw s { s.pw with dormantStep := 5 } else s

/-- Step 11: hart 0 enters the steward at level 1, with the steward's vector table. -/
def enterSteward (s : State) (entry : Nat) : State :=
  let x := hartOf s 0
  setHart (freed s) 0 { x with pc := w32 entry, level := 1, ie := false, vbase := w32 (free s) }

/-- Steps 10 to 12 with the slot accepted. Without a session or a PUF failure, source 155 (R527). -/
def acceptSlot (s : State) (b : Nat) : State :=
  let s := if s.culm.session || s.pw.pufFail then s else raise s 155 []
  let s := setUpd (enableRegion s b) { s.upd with slot := b, st := 0, cleared := false, written := [], clearing := 0 }
  let e := if slotBlank s b then free s % 2 ^ 32 else imageEntry s b
  let s := if slotBlank s b then freed s else s
  stewardSettles (enterSteward (startStep (startStep s 10) 11) e) e

/-- Acceptance can be made: steps 6 and 7, the tests of step 9 where they began, and a delay for the double decision. -/
def acceptReady (s : State) : Bool :=
  s.pw.mode == .starting && s.pw.decoded && decide (s.pw.step < 10) && (decide (7 ≤ s.pw.step) || s.pw.pufFail) && (!s.pw.tested || !s.line.startTest) &&
    s.lc.state != 0 && s.lc.state != 5 && !s.cs.boot && (s.rng.st == .disabled || (s.rng.st == .running && decide (s.rng.dd ≠ 0)))

/-- The boot ROM accepts a slot by double decision. `said` names the slot where the model's flash holds no octet of it; `dis` is the number of
slots, in the order tried, whose evaluations disagree: such an image is refused and the other is tried (R527, R548). With none, a card (R629), or
source 156 and DORMANT. -/
def stewardAccept (s : State) (said : Option Nat) (dis : Nat) : State :=
  if !acceptReady s then s
  else
    let s := ddTake s
    let first := slotChosen s said
    let none? := fun (t : State) => if t.cs.cd then csGo (cardInit t false true) else bootNone t
    match first, dis with
    | some b, 0 => acceptSlot s b
    | some b, 1 =>
      let s := disagree s 3
      if slotGood s (1 - b) then acceptSlot (ddTake s) (1 - b) else none? s
    | some b, _ =>
      let s := disagree s 3
      none? (if slotGood s (1 - b) then disagree (ddTake s) 3 else s)
    | none, _ => none? s

def execStewardAccept (slot : Option (Fin 2)) (dis : Fin 3) (s : State) : Out :=
  ok (stewardAccept s (slot.map (fun b => b.val)) dis)

/-! ### Step 15 (R306, R309, R514, R526) -/

/-- The first minute of the start opens: one above the highest epoch opened, or 0. -/
def openFirst (s : State) : State :=
  let m := match s.mt.highest with
    | some h => h + 1
    | none => 0
  setMt s { s.mt with minute := some m, highest := some m, lastSwap := s.now, timer := false }

/-- The start can end: step 14, and either the session with its tests, or a PUF failure. -/
def serviceReady (s : State) : Bool :=
  s.pw.mode == .starting && s.pw.step == 14 && s.pw.dormantStep == 0 && (s.pw.pufFail || (s.culm.session && s.pw.tested && !s.line.startTest))

/-- SERVICE with source 144, or LOCKDOWN with source 145: the OPEN record and the first minute, the tag's records, the custody card. -/
def serviceEntry (s : State) : State :=
  if !serviceReady s then s
  else
    let s := startStep (openFirst s) 15
    let lock := s.tm.latch || s.pw.pufFail
    let s := if lock then raise (setPw s { s.pw with mode := .lockdown }) 145 [if s.tm.latch then 0 else 1]
             else raise (setPw s { s.pw with mode := .service }) 144 [(s.now - s.pw.startAt) / 1000]
    let s := tagSummary (tagRefresh s (s.mt.minute.getD 0) (s.lc.state == 3)) 1 false
    if !lock && s.cs.cd then csGo (cardInit s false false) else s

def execStartServiceEntry (s : State) : Out := ok (serviceEntry s)

/-! ### What the steward does on its own account (log entry 1) -/

/-- A DORMANT request goes on, the custody program that waited for the flash controller goes on, seeds and the metering key are written once the
DRBG can supply, a hand-over whose caller has ended is given up, the daily summary is written (R522, R527, R579, R606). -/
def stewardTick (s : State) : State :=
  if !runs s ∨ s.pw.step < 12 then s
  else
    let s := csGo (makeMetKey (writeSeeds (dormantGo s)))
    let s := match s.upd.switching with
      | some i => if (jobOf s i).isSome then s else switchOff s
      | none => s
    match s.tag.sumAt with
    | some t => if t + 86400000000 ≤ s.now then tagSummary s 4 false else s
    | none => s

end Sys2Proof.Machine
end

