-- ==== Sys2Proof/Machine/RegWrite.lean ====
section
/-! DEFINITION. Writes of registers: the access codes (R12), reserved bits (R15), refusals (R18), and what each chapter's register tables
say a write does. -/

namespace Sys2Proof.Machine

/-! ### Storing under the access codes (R12) -/

/-- A command's next state, or the state itself where it gives none. -/
def outState (o : Out) (s : State) : State :=
  match o with
  | .next t => t
  | _ => s

/-- Bits of a register that fields of one access code cover. -/
def accMask (d : RegDesc) (x : Acc) : W32 := w32 (d.mask (fun y => y == x))

/-- A write stored as each field's access code says: RW and ST take the value, RWL once, W1S sets, W1C clears, the others ignore it (R12). -/
def storeWrite (s : State) (a : Nat) (d : RegDesc) (v : W32) : State :=
  let rwl := accMask d .rwl
  let locked := tget (fun _ => false) s.locks a
  let take := accMask d .rw ||| accMask d .st ||| (if locked then 0 else rwl)
  let old := rget s a
  let new := (((old &&& ~~~take) ||| (v &&& take)) ||| (v &&& accMask d .w1s)) &&& ~~~(v &&& accMask d .w1c)
  let t := rset s a new
  if rwl = 0 then t else { t with locks := tput (fun _ => false) t.locks a true }

/-- A write refused under R18, with the event record of its block: a function's own, a channel's, or the block's (R18, R229, R426). -/
def regRefuse (s : State) (a : Nat) : State :=
  if 0x100000000 ≤ a then fnRefuse s ((a - 0x100000000) / 0x10000)
  else if 0x30070000 ≤ a ∧ a < 0x30071000 then dmRefuse s ((a - 0x30070000) / 0x100)
  else refuse s a

/-- A write whose value the table allows is stored; another has no effect under R18. -/
def plainWrite (s : State) (a : Nat) (d : RegDesc) (v : W32) : State :=
  if d.legal v.toNat then storeWrite s a d v else regRefuse s a

/-! ### The line die (R55–R58, R87, R88, R128, R129, R158, R160, R197, R199, R654) -/

/-- PB_CTL: MODE where it changes, with its defaults, then SLOT_EN; a MODE that may not be written refuses the whole (R35, R43, R55). -/
def ctlWrite (s : State) (b : Nat) (v : W32) : State :=
  let m := fld v 2 0
  if m = modeOf s b then slotEnWrite s b (fld v 7 4)
  else if modeLegal s b m then slotEnWrite (modeWrite s b m) b (fld v 7 4)
  else refuse s (pbA b)

/-- Training is on for the side of lane n of a block, so that LN_TXEQ_n holds trained values (R31, R58). -/
def lnTrained (s : State) (b n : Nat) : Bool :=
  match lanePort s b (n % 4) with
  | some p => ltEn s p (if n < 4 then .host else .line)
  | none => false

/-- PB_ and LN_ registers, at offset o of block b. -/
def pbWrite (s : State) (a : Nat) (d : RegDesc) (v : W32) : State :=
  let b := (a - 0x41000000) / 0x10000
  let o := (a - 0x41000000) % 0x10000
  if o = 0 then ctlWrite s b v
  else if (o = 8 ∨ o = 0x0C) ∧ anySlotOn s b then refuse s a
  else if 0x100 ≤ o ∧ o < 0x500 ∧ o % 0x100 = 0 then pcfgWrite s (4 * b + (o - 0x100) / 0x100) v
  else if 0x1000 ≤ o ∧ o % 0x100 = 8 ∧ lnTrained s b ((o - 0x1000) / 0x100) then s
  else plainWrite s a d v

/-- ST_SEED: a lead stage's seed is both stages', a pair stage's is refused (R78). -/
def seedWrite (s : State) (b : Nat) (d : RegDesc) (v : W32) : State :=
  if isPairStage s b then refuse s (stA b + 8)
  else
    let t := storeWrite s (stA b + 8) d v
    if isLead s b then storeWrite t (stA (b + 1) + 8) d v else t

/-- ST_INJ_CMD: a length outside 64–1,536 and any write while a frame waits are refused; GO sends (R83, R88). -/
def injCmd (s : State) (b : Nat) (v : W32) : State :=
  let len := fld v 10 0
  if len < 64 ∨ 1536 < len ∨ tget (fun _ => false) s.line.injWait b then refuse s (stA b + 0x620)
  else if bitAt v.toNat 13 then injectGo s b (fld v 12 11) len else s

/-- ST_ registers. -/
def stWrite (s : State) (a : Nat) (d : RegDesc) (v : W32) : State :=
  let b := (a - 0x44000000) / 0x10000
  let n := Fin.ofNat 16 b
  let o := (a - 0x44000000) % 0x10000
  if o = 8 then seedWrite s b d v
  else if o = 0x300 then txanSet s (fld v 12 0) (fld v 14 13)
  else if o = 0x424 then
    (match fld v 1 0 with
     | 1 => emRead s b
     | 2 => emWrite s b
     | 3 => outState (execEmHash n s) s
     | _ => s)
  else if o = 0x554 then
    (match fld v 1 0 with
     | 1 => outState (execRuleRead n s) s
     | 2 => ruleWrite s b
     | _ => s)
  else if o = 0x610 then (if bitAt v.toNat 0 then puntPop s b else s)
  else if o = 0x620 then injCmd s b v
  else plainWrite s a d v

/-- TL_ registers; TL_SWAP without GO only checks TILLER (R118, R128, R129). -/
def tlWrite (s : State) (a : Nat) (d : RegDesc) (v : W32) : State :=
  if a < tlArr then
    let t := (a - 0x42000000) / 0x1000
    match fld v 1 0 with
    | 1 => tillerCommand s t false
    | 2 => tillerCommand s t true
    | 3 => refuse s a
    | _ => s
  else if a = tlArr + 0x0C then outState (execStepSet (Fin.ofNat 16 (fld v 3 0)) s) s
  else if a = tlArr + 0x10 then
    (if bitAt v.toNat 13 then orderSwap s (fld v 5 0) (fld v 12 6)
     else if 72 ≤ fld v 12 6 ∧ fld v 12 6 < 127 then refuse s a else s)
  else plainWrite s a d v

/-- VD_ registers; VD_CTL of a port that its mode does not create is refused (R158, R160). -/
def vdWrite (s : State) (a : Nat) (d : RegDesc) (v : W32) : State :=
  if a = sciIdxA + 0x0C then
    (match fld v 1 0 with
     | 1 => outState (execSciRead s) s
     | 2 => outState (execSciWrite s) s
     | _ => s)
  else if a < sciIdxA ∧ a % 0x1000 = 0 ∧ portExists s ((a - 0x43000000) / 0x1000) = false then refuse s a
  else plainWrite s a d v

/-- GR_CMD (R197). -/
def grCommand (s : State) (v : W32) : State :=
  let n := fld v 31 16
  match fld v 2 0 with
  | 1 => grInstall s n
  | 2 => grDrain s n
  | 3 => grPurge s n
  | 4 => grRead s n
  | 5 => grZeroise s
  | 6 => grClearZeroed s
  | _ => s

/-- GR_ registers. -/
def grWrite (s : State) (a : Nat) (d : RegDesc) (v : W32) : State :=
  if a = grA + 0x10 then grCommand s v
  else if grA + 0x100 ≤ a ∧ a < grA + 0x160 then xferWrite s ((a - (grA + 0x100)) / 4) v
  else plainWrite s a d v

/-- Line-die CU_ registers: MEM 6 and 7 are refused, GO remaps (R199, R654). -/
def cuWrite (s : State) (a : Nat) (d : RegDesc) (v : W32) : State :=
  if a = cuRemapA ∧ bitAt v.toNat 21 then lineRemap s (fld v 2 0) (fld v 7 3) (fld v 20 8) else plainWrite s a d v

/-- MT_ registers (R326). -/
def mtWrite (s : State) (a : Nat) (d : RegDesc) (v : W32) : State :=
  if a = mtA then
    (match fld v 1 0 with
     | 1 => swapBanks s
     | 2 => harvestStart s
     | 3 => clearStart s
     | _ => s)
  else if a = mtA + 0x20 ∧ (v.toNat % 64 ≠ 0 ∨ s.mt.frozen = .harvesting) then refuse s a
  else if a = mtA + 0x28 then headWrite s (fld v 15 0)
  else if a = mtA + 0x34 then (if bitAt v.toNat 0 then recordRead s else s)
  else plainWrite s a d v

/-- A register of the line die. -/
def lineWrite (s : State) (a : Nat) (d : RegDesc) (v : W32) : State :=
  if a < 0x41000000 then cuWrite s a d v
  else if a < 0x42000000 then pbWrite s a d v
  else if a < 0x43000000 then tlWrite s a d v
  else if a < 0x44000000 then vdWrite s a d v
  else if a < 0x45000000 then stWrite s a d v
  else if a < 0x46000000 then grWrite s a d v
  else mtWrite s a d v

/-! ### The control die: power, life cycle, tamper and events (R397, R529, R564, R566, R587, R652) -/

/-- PW_CMD: KEY must be 0xB7 (R529). -/
def pwCommand (s : State) (v : W32) : State :=
  if fld v 15 8 ≠ 0xB7 then refuse s 0x30000008
  else match fld v 2 0 with
    | 1 => newStart s 3
    | 2 => dormantRequest s 2
    | _ => s

/-- PW_PUF_CTL: REFRESH_AT, then REFRESH and CHECK (R529). -/
def pufCtl (s : State) (a : Nat) (d : RegDesc) (v : W32) : State :=
  if d.legal v.toNat then
    let t := storeWrite s a d v
    let t := if bitAt v.toNat 0 then outState (execPufRefresh t) t else t
    if bitAt v.toNat 1 then outState (execPufCheck t) t else t
  else refuse s a

/-- PW_UPD_CTL: PROBATION_S, then ARM and DISARM (R652). -/
def updCtl (s : State) (a : Nat) (d : RegDesc) (v : W32) : State :=
  if d.legal v.toNat then
    let t := storeWrite s a d v
    let t := if bitAt v.toNat 16 then probationArm t (fld v 15 0) else t
    if bitAt v.toNat 17 then probationDisarm t else t
  else refuse s a

def pwWrite (s : State) (a : Nat) (d : RegDesc) (v : W32) : State :=
  if a = 0x30000008 then pwCommand s v
  else if a = 0x30000018 then pufCtl s a d v
  else if a = 0x30000204 then liStepSet s v
  else if a = updA then updCtl s a d v
  else plainWrite s a d v

/-- LC_CMD: KEY must be 0x3C (R587). -/
def lcCommand (s : State) (v : W32) : State :=
  if fld v 15 8 ≠ 0x3C then lcRefuse s
  else match fld v 2 0 with
    | 1 => lcIntent s (fld v 5 3)
    | 2 => lcCommit s
    | 3 => lcVoid s
    | 5 => lcPair s
    | _ => s

/-- TM_ registers: EXERCISE only in TEST, levels 0–5, and the ranges of R534 (R539, R564). -/
def tmWrite (s : State) (a : Nat) (d : RegDesc) (v : W32) : State :=
  if a = 0x30020000 then (if bitAt v.toNat 0 ∧ s.lc.state ≠ 1 then refuse s a else storeWrite s a d v)
  else if a = 0x30020008 then (if 5 < fld v 2 0 then refuse s a else alarmRaise s (fld v 2 0) (fld v 31 16))
  else if 0x30020100 ≤ a ∧ a < 0x30020180 then
    (if mcfgGood ((a - 0x30020100) / 4) (fld v 1 0) (fld v 6 2) (fld v 20 7) (fld v 23 21) then storeWrite s a d v else refuse s a)
  else plainWrite s a d v

/-- EV_PEND_w: the bits written 1 are no longer pending (R397). -/
def pendClear (s : State) (w : Nat) (v : W32) : State :=
  { s with ev := { s.ev with pend := s.ev.pend.filter (fun e => !(decide (e.1 / 32 = w) && bitAt v.toNat (e.1 % 32))) } }

/-- EV_ registers. -/
def evWrite (s : State) (a : Nat) (d : RegDesc) (v : W32) : State :=
  if a = 0x30030008 then evRaise s v
  else if 0x30031000 ≤ a ∧ a < 0x30035000 then routeWrite s ((a - 0x30031000) / 4) v
  else if 0x30035000 ≤ a ∧ a < 0x30038000 then pendClear s ((a - 0x30035000) / 4) v
  else plainWrite s a d v

/-! ### The control die: random source, engine, flash, DMA, MPUs (R406, R429, R451, R472, R479, R481, R500, R653) -/

/-- RG_ registers. -/
def rgWrite (s : State) (a : Nat) (d : RegDesc) (v : W32) : State :=
  if a = rgA then (if fld v 16 1 = 0 then refuse s a else storeWrite s a d v)
  else if a = rgA + 8 then
    (match fld v 2 0 with
     | 0 => s
     | 1 => rgRetry s
     | 2 => rgReseed s
     | 3 => rgReinst s
     | 4 => rgEnable s
     | _ => rgRefuse s)
  else if a = rgA + 0x0C then
    (if 16 ≤ fld v 5 0 ∧ 64 ≤ fld v 17 8 ∧ fld v 17 8 ≤ 200 ∧ 24 ≤ fld v 23 18 then storeWrite s a d v else refuse s a)
  else if a = rgA + 0x40 ∨ a = rgA + 0x60 then portRequest s ((a - (rgA + 0x40)) / 0x20) (fld v 4 0)
  else plainWrite s a d v

/-- LI_JCMD; an entry beyond 271 is refused. -/
def liCommand (s : State) (v : W32) : State :=
  let j := fld v 8 0
  match fld v 11 9 with
  | 1 => if j < 272 then jobSubmit s j else liRefuse s
  | 2 => if j < 272 then jobAbort s j else liRefuse s
  | 3 => if j < 272 then jobResume s j else liRefuse s
  | 4 => if j < 272 then jobFree s j else liRefuse s
  | _ => s

/-- LI_ registers; a job's record is written while it is FREE, and CLASS 1 only for the entries from 256 on (R451). -/
def liWrite (s : State) (a : Nat) (d : RegDesc) (v : W32) : State :=
  let j := (a - (liA + 0x1000)) / 0x40
  if a = liA then
    (if 400 ≤ fld v 11 1 ∧ fld v 11 1 ≤ 1600 then
       (let t := storeWrite s a d v; if bitAt v.toNat 0 then liKick t else t)
     else refuse s a)
  else if a = liA + 8 then liCommand s v
  else if liA + 0x1000 ≤ a ∧ a < liA + 0x5400 then
    (if (liJob s j).st ≠ .free ∨ (j < 256 ∧ (a - (liA + 0x1000)) % 0x40 = 0 ∧ bitAt v.toNat 6) then refuse s a else storeWrite s a d v)
  else plainWrite s a d v

/-- FL_XO_n: an enabled region keeps its range and its EN until RELEASE (R479). -/
def xoWrite (s : State) (a : Nat) (d : RegDesc) (v : W32) : State :=
  if rbit s a 31 ∧ rget s a ≠ v then refuse s a else storeWrite s a d v

/-- FL_CTL's limits (R500). -/
def flCtlGood (v : W32) : Bool :=
  decide (4 ≤ fld v 4 0 ∧ fld v 4 0 ≤ 16 ∧ 3 ≤ fld v 9 5 ∧ fld v 9 5 ≤ 20 ∧ 1 ≤ fld v 11 10)

/-- FL_ registers, by hart h; any write that is no step of an open sequence ends it or is refused (R481, R482). -/
def flWrite (s : State) (h a : Nat) (d : RegDesc) (v : W32) : State :=
  let o := a - flA
  if o = 8 then flashKey s h (fld v 15 0)
  else if o = 0x0C then flashStep s h false v
  else if o = 0x10 then flashStep s h true v
  else if 0x40 ≤ o ∧ o < 0x140 then flashData s h ((o - 0x40) / 4) v
  else if s.fl.seq ≠ 0 then flOther s h o
  else if o = 0 ∧ flCtlGood v = false then refuse s a
  else if 0x20 ≤ o ∧ o < 0x30 then xoWrite s a d v
  else plainWrite s a d v

/-- DM_CTL: its bits in rising order (R419, R429). -/
def dmCommand (s : State) (c : Nat) (v : W32) : State :=
  let s := if bitAt v.toNat 0 then dmaGo s c else s
  let s := if bitAt v.toNat 1 then dmaPause s c else s
  let s := if bitAt v.toNat 2 then dmaResume s c else s
  if bitAt v.toNat 3 then dmaAbort s c else s

/-- DM_ registers; those of a transfer are refused while it runs (R419). -/
def dmWrite (s : State) (a : Nat) (d : RegDesc) (v : W32) : State :=
  let c := (a - 0x30070000) / 0x100
  let o := (a - 0x30070000) % 0x100
  if o = 0x1C then dmCommand s c v
  else if o < 0x1C ∧ dmState s c = 1 then dmRefuse s c
  else plainWrite s a d v

/-- MP_ registers: a locked region's three registers are refused (R406, R427, R428, R653). -/
def mpWrite (s : State) (a : Nat) (d : RegDesc) (v : W32) : State :=
  if a = 0x3008800C then (if fld v 1 0 = 0 then s else rcCommand s (fld v 1 0))
  else if a = remapA ∧ bitAt v.toNat 15 then sramRemap s (fld v 4 0) (fld v 14 5)
  else if a < 0x30088000 ∧ (a - 0x30080000) % 0x400 < 0x200 ∧ rbit s (a / 16 * 16 + 8) 8 then refuse s a
  else plainWrite s a d v

/-! ### The control die: endpoints, harts, tag and custody slot (R232, R261, R395, R610, R631) -/

/-- HF_EP_CTL: MSIX_FLOOR 0 is refused; a change of LINK_EN takes the link down or lets it train (R207, R232). -/
def epWrite (s : State) (a : Nat) (d : RegDesc) (v : W32) : State :=
  let e := (a - 0x30090000) / 0x10000
  if a = epCtl e then
    (if fld v 19 10 = 0 then refuse s a
     else
       let t := storeWrite s a d v
       if bitAt v.toNat 0 = rbit s a 0 then t else linkEnWrite t e (bitAt v.toNat 0))
  else plainWrite s a d v

/-- VF_LOGCTL_i: PAGES_LOG2 15–24 with LOG_EN, and FAULT clears with LOG_EN 0 (R250, R255, R261). -/
def logCtl (s : State) (a : Nat) (d : RegDesc) (v : W32) : State :=
  if bitAt v.toNat 0 then
    (if 15 ≤ fld v 6 2 ∧ fld v 6 2 ≤ 24 then storeWrite s a d v else refuse s a)
  else rsetf (storeWrite s a d v) a 7 7 0

/-- VF_ registers (R261). -/
def vfWrite (s : State) (a : Nat) (d : RegDesc) (v : W32) : State :=
  let i := (a - 0x300B0000) / 0x40
  let o := (a - 0x300B0000) % 0x40
  if a = 0x300B8000 then logFlush s v false
  else if 0x300B8000 < a then plainWrite s a d v
  else if o = 0 then (if bitAt v.toNat 17 then outState (execGenerationEndComplete (Fin.ofNat 512 i) s) s else s)
  else if o = 4 then logCtl s a d v
  else if (o = 8 ∨ o = 0x10 ∨ o = 0x18) ∧ v.toNat % 4096 ≠ 0 then refuse s a
  else plainWrite s a d v

/-- HT_CMD of hart h, written by hart w (R392). -/
def htCommand (s : State) (w h : Nat) (v : W32) : State :=
  match fld v 2 0 with
  | 1 => hartHalt s w h
  | 2 => hartResume s w h
  | 3 => hartRestart s w h
  | 4 => hartRetire s w h
  | _ => s

def htWrite (s : State) (w a : Nat) (d : RegDesc) (v : W32) : State :=
  let h := (a - 0x31000000) / 0x1000
  if a % 0x1000 = 0 then htCommand s w h v
  else if a % 0x1000 = 0x1C then hartRaise s h v
  else plainWrite s a d v

/-- TG_ registers; the first write of TG_LIVE begins the live summary (R606, R610). -/
def tgWrite (s : State) (a : Nat) (d : RegDesc) (v : W32) : State :=
  if a = tgA + 0x0C then
    (match fld v 1 0 with
     | 1 => outState (execTgWrite (Fin.ofNat 8 (fld v 6 4)) s) s
     | 2 => outState (execTgIncrement (Fin.ofNat 4 (fld v 9 8)) s) s
     | 3 => outState (execTgRead (Fin.ofNat 8 (fld v 6 4)) s) s
     | _ => s)
  else if tgA + 0x200 ≤ a ∧ a < tgA + 0x400 then
    let t := storeWrite s a d v
    setTagSt t { t.tag with live := true }
  else plainWrite s a d v

/-- CS_ registers: no power without a card; CS_CMD sends on GO (R631). -/
def csWrite (s : State) (a : Nat) (d : RegDesc) (v : W32) : State :=
  if a = csA then (if bitAt v.toNat 0 ∧ s.cs.cd = false then refuse s a else storeWrite s a d v)
  else if a = csA + 0x0C then
    (if bitAt v.toNat 11 then sdRaw s (fld v 5 0) (fld v 8 6) (bitAt v.toNat 9) (bitAt v.toNat 10)
     else if sdIndices.contains (fld v 5 0) then s else refuse s a)
  else plainWrite s a d v

/-- CU_CTL of the control die: START, with a nonce that no rule gives (R190, R199, log entry 5). -/
def cuCtl (s : State) (v : W32) : State :=
  if bitAt v.toNat 0 then sessionStart (freed s) (BitVec.ofNat 256 (free s)) else s

/-- A register of the control die, written by hart h. -/
def ctlDieWrite (s : State) (h a : Nat) (d : RegDesc) (v : W32) : State :=
  if a < 0x30010000 then pwWrite s a d v
  else if a < 0x30020000 then (if a = 0x30010020 then lcCommand s v else plainWrite s a d v)
  else if a < 0x30030000 then tmWrite s a d v
  else if a < 0x30040000 then evWrite s a d v
  else if a < 0x30050000 then rgWrite s a d v
  else if a < 0x30060000 then liWrite s a d v
  else if a < 0x30070000 then flWrite s h a d v
  else if a < 0x30080000 then dmWrite s a d v
  else if a < 0x30090000 then mpWrite s a d v
  else if a < 0x300B0000 then epWrite s a d v
  else if a < 0x300C0000 then vfWrite s a d v
  else if a < 0x300D0000 then tgWrite s a d v
  else if a < 0x300E0000 then csWrite s a d v
  else if a < 0x31000000 then (if a = cuC then cuCtl s v else plainWrite s a d v)
  else htWrite s h a d v

/-! ### Function windows (R209–R213, R220–R224, R230, R260) -/

/-- The MSI-X table entry word at an offset of a function's window: its vector and word (R204, R209, R210). -/
def msixWord (f o : Nat) : Option (Nat × Nat) :=
  if o % 4 ≠ 0 then none
  else if f % 256 = 0 then (if 0x8000 ≤ o ∧ o < 0x8400 then some ((o - 0x8000) / 16, (o - 0x8000) / 4 % 4) else none)
  else if 0x800 ≤ o ∧ o < 0x840 then some ((o - 0x800) / 16, (o - 0x800) / 4 % 4) else none

/-- A word of an MSI-X table entry written: address, data or mask; an unmasked vector sends what waits (R204, R224). -/
def msixWrite (s : State) (f v w : Nat) (x : W32) : State :=
  let e := vecOf s f v
  match w with
  | 0 => setVec s f v { e with addr := BitVec.ofNat 64 (e.addr.toNat / 2 ^ 32 * 2 ^ 32 + x.toNat / 4 * 4) }
  | 1 => setVec s f v { e with addr := BitVec.ofNat 64 (x.toNat * 2 ^ 32 + e.addr.toNat % 2 ^ 32) }
  | 2 => setVec s f v { e with data := x }
  | _ => vecTry (setVec s f v { e with masked := bitAt x.toNat 0 }) f v

/-- MSI-X Message Control of function f: Enable and Function Mask (log entry 31). -/
def msixControl (s : State) (f : Nat) (v : W32) : State :=
  vecsTry (modFn s f (fun x => { x with msixEn := bitAt v.toNat 31, fmask := bitAt v.toNat 30 })) f

/-- The register at an offset of function f's window: an HF_ITR_v beyond its vectors is none (R230). -/
def winReg (f o : Nat) : Option RegDesc :=
  if f % 256 ≠ 0 ∧ 0x110 ≤ o ∧ o < 0x200 then none else regAt (hfWin f + o)

/-- HF_RING_SIZE: each k is 0 or 4–12 (R212, R230). -/
def sizeGood (k : Nat) : Bool := k == 0 || sizeOk k

/-- A write of a register of function f's window that the function takes. -/
def hfWrite (s : State) (f o : Nat) (d : RegDesc) (v : W32) : State :=
  let a := hfWin f + o
  if o = 0x08 then ringHello s f (fld v 15 0)
  else if o = 0x10 then (if bitAt v.toNat 0 then ringEnable s f else ringQuiesce s f)
  else if o = 0x40 then orTailWrite s f (fld v 15 0)
  else if o = 0x48 then crHeadWrite s f (fld v 15 0)
  else if 0x18 ≤ o ∧ o < 0x2C then
    (if (fnOf s f).ring ≠ .disabled ∨ (o = 0x18 ∧ v.toNat % 64 ≠ 0) ∨ (o = 0x20 ∧ v.toNat % 32 ≠ 0) ∨
        (o = 0x28 ∧ (sizeGood (fld v 3 0) = false ∨ sizeGood (fld v 11 8) = false)) then fnRefuse s f
     else storeWrite s a d v)
  else plainWrite s a d v

/-- A host write at an offset of a function's window; an unassigned offset discards it with code 0x07 (R17, R211). -/
def winWrite (s : State) (f o : Nat) (v : W32) : State :=
  if o = 0xF000 then msixControl s f v
  else barWrite s f (fun t =>
    match msixWord f o with
    | some q => msixWrite t f q.1 q.2 v
    | none =>
      match winReg f o with
      | none => barRefuse t f true true
      | some d =>
        let w := v &&& w32 d.named
        let u := hfWrite t f o d w
        if w = v then u else fnRefuse u f)

/-! ### A write by its address -/

/-- A word written at a register's address by hart h; none where no table assigns the address or no session reaches it: a bus error (R17,
R21, R191). GR_XFER at SEAL and above is discarded before it crosses (R541). Reserved bits are ignored, with an event record (R15). -/
def regWrite (s : State) (h a : Nat) (v : W32) : Option State :=
  match regAt a with
  | none => none
  | some d =>
    let w := v &&& w32 d.named
    if inWindow a then
      (if s.culm.session ∨ (grA + 0x100 ≤ a ∧ a < grA + 0x160 ∧ 3 ≤ s.level) then
         some (let t := lineWrite s a d w; if w = v then t else regRefuse t a)
       else none)
    else some (let t := ctlDieWrite s h a d w; if w = v then t else regRefuse t a)

/-- REGISTER_WRITE: by hart h in the Rhaby view, by a host in a function's window (R14, R23). An access that ends in a bus error at its
master changes no register; a store reaches its register as it drains. -/
def registerWrite (s : State) (h a : Nat) (v : W32) : State :=
  if !runs s then s
  else if 0x100000000 ≤ a then
    (if a < 0x102000000 then winWrite s ((a - 0x100000000) / 0x10000) ((a - 0x100000000) % 0x10000) v else s)
  else (regWrite s h a v).getD s

def execRegisterWrite (h : Fin 8) (addr : Nat) (v : W32) (s : State) : Out := ok (registerWrite s h addr v)

end Sys2Proof.Machine
end

