-- ==== Sys2Proof/Machine/RegRead.lean ====
section
/-! DEFINITION. Reads of registers: what each chapter's register tables say a field shows, the reads that clear, and the latched high
words (R12, R16). -/

namespace Sys2Proof.Machine

/-- A word packed from fields (R5). -/
def fields (l : List (Nat × Nat)) : W32 := w32 (packFields l)

/-- A Boolean at a bit of a word. -/
def flag (b : Bool) (i : Nat) : Nat × Nat := (b2n b, i)

/-! ### _LO and _HI pairs (R16) -/

/-- First _LO address of every pair, with the strides of the pairs. -/
def loTable : List (Nat × List (Nat × Nat)) :=
  [ (0x41000140, [(0x10000, 16), (0x100, 4), (8, 17)]), (0x44000110, [(0x10000, 16), (0x40, 4), (8, 6)]), (0x44000200, [(0x10000, 16), (8, 5)]),
    (0x42000040, [(0x1000, 72), (8, 8)]), (0x42080200, [(8, 6)]), (0x43000040, [(0x1000, 64), (8, 16)]), (0x43080004, []),
    (0x45000008, []), (0x45000024, []), (0x45000200, [(8, 9)]), (0x40000040, [(8, 6)]), (0x300E0040, [(8, 6)]),
    (0x100000018, [(0x10000, 512), (8, 2)]), (0x30090040, [(0x10000, 2), (8, 9)]), (0x300B0008, [(0x40, 512), (8, 3)]), (0x300B8100, [(8, 6)]),
    (0x46000010, []), (0x46000100, [(8, 5)]), (0x31000100, [(0x1000, 8), (8, 6)]), (0x30030100, [(8, 6)]), (0x30038004, []),
    (0x30038100, [(8, 13)]), (0x30088100, [(8, 6)]), (0x30070000, [(0x100, 16), (8, 2)]), (0x30070024, [(0x100, 16)]),
    (0x30070040, [(0x100, 16), (8, 5)]), (0x30058000, [(8, 7)]), (0x30040200, [(8, 7)]), (0x30060300, [(8, 8)]), (0x30000100, [(8, 4)]),
    (0x30020018, []), (0x30020200, [(8, 6)]), (0x30010100, [(8, 3)]), (0x300C0800, [(8, 7)]), (0x300D0100, [(8, 5)]) ]

/-- The register is the _LO of a pair. -/
def isLo (a : Nat) : Bool := loTable.any (fun e => decide (e.1 ≤ a) && onStrides e.2 (a - e.1))

/-- The register is the _HI of a pair. -/
def isHi (a : Nat) : Bool := decide (4 ≤ a) && isLo (a - 4)

/-- The low or high word of a 64-bit number. -/
def half (hi : Bool) (v : Nat) : W32 := if hi then w32 (v / 2 ^ 32) else w32 v

/-- What a register reads that holds no more than was put in it: a counter's word, or its stored bits. -/
def storedValue (s : State) (a : Nat) (d : RegDesc) : W32 :=
  if d.fields.all (fun f => f.acc == .ro) then
    (if isLo a then half false (cget s a).toNat else if isHi a then half true (cget s (a - 4)).toNat else rget s a)
  else rget s a

/-! ### The line die -/

/-- Free cells of a block's own pool; how an 800 Gbit/s port's cells lie over its two pools is left open (R41, R55, log entry 5). -/
def poolFree (s : State) (b : Nat) : Nat :=
  let u := poolUsed s (leadBlock s b) .egress + poolUsed s (leadBlock s b) .ingress
  if isLead s b || isPairStage s b then
    (if u = 0 then poolOne s b else poolOne s b - free s % (Nat.min u (poolOne s b) + 1))
  else poolOne s b - u

/-- PB_PSTAT_s (R56). -/
def pstatOf (s : State) (p : Nat) : W32 :=
  let x := sideOf s p .host
  let y := sideOf s p .line
  fields [(x.link.code, 0), (y.link.code, 4), flag x.stopped 8, flag y.stopped 9, flag (pausedMask s p x != 0) 10,
    flag (pausedMask s p y != 0) 11, flag y.anDone 12, (if fcOf s p = 2 then pausedMask s p x else 0, 16)]

/-- LN_STAT_n; PAT_LOCK while the checker is on and SNR are measured (R58, log entry 32). -/
def laneStat (s : State) (b n : Nat) : W32 :=
  let x := laneOf s b n
  fields [flag x.sig 0, flag x.cdr 1, flag (rbit s (laneA b n) 8 && free s % 2 == 1) 2, (x.train, 3), (free s / 2 % 256, 8), flag x.precTx 16, flag x.precRx 17]

/-- PB_ and LN_ registers (R55–R58). -/
def pbRead (s : State) (a : Nat) (d : RegDesc) : W32 :=
  let b := (a - 0x41000000) / 0x10000
  let o := (a - 0x41000000) % 0x10000
  let p := 4 * b + (o - 0x100) / 0x100
  if o = 4 then fields [(powerOf s b, 0), flag (blockOf s b).tclk 2, flag (blockOf s b).wake 3, (poolFree s b, 4)]
  else if o < 0x100 then storedValue s a d
  else if o < 0x500 then
    (if o % 0x100 = 4 then pstatOf s p
     else if o % 0x100 = 0x20 then fields [(occOf s p .egress, 0), (occOf s p .ingress, 16)]
     else storedValue s a d)
  else
    let n := (o - 0x1000) / 0x100
    if o % 0x100 = 4 then laneStat s b n
    else if o % 0x100 = 0x0C then w32 (laneCount s b n false)
    else if o % 0x100 = 0x10 then w32 (laneCount s b n true)
    else storedValue s a d

/-- The octet at place k of a stage's punt buffer, where a frame lies there (R82). -/
def puntByte (s : State) (b k : Nat) : Option Byte :=
  (puntOf s b).findSome? (fun f =>
    let i := (k + 32768 - f.offset) % 32768
    f.octets[i]?)

/-- A word of a stage's punt buffer; octets that no frame covers are free values (log entry 5). -/
def puntBufWord (s : State) (b w : Nat) : W32 :=
  w32 (leNat ((List.range 4).map (fun j => (puntByte s b (4 * w + j)).getD (BitVec.ofNat 8 (Config.freeValue (s.freeCtr + j))))))

/-- ST_PUNT_DESC_0 to _3 of the oldest punted frame (R88). -/
def puntDesc (s : State) (b k : Nat) : W32 :=
  match puntOf s b with
  | [] => 0
  | f :: _ =>
    match k with
    | 0 => fields [(f.octets.length, 0), (f.slot, 11), (dirNum f.dir, 13), (f.domain, 16), (1, 31)]
    | 1 => f.cookie
    | 2 => w32 f.offset
    | _ => w32 f.seq

/-- ST_ registers (R87, R88). -/
def stRead (s : State) (a : Nat) (d : RegDesc) : W32 :=
  let b := (a - 0x44000000) / 0x10000
  let o := (a - 0x44000000) % 0x10000
  if o = 0 then rget s a ||| fields [(if isLead s b then 1 else if isPairStage s b then 2 else 0, 0)]
  else if o = 4 then
    fields [(emCount s (leadStage s b), 0), ((s.line.rules.filter (fun e => decide (e.1 / 256 = leadStage s b))).length, 13), ((puntOf s b).length, 22)]
  else if o = 0x308 then w32 (txAnOf s (rf s (stA b + 0x304) 12 0))
  else if 0x600 ≤ o ∧ o < 0x610 then puntDesc s b ((o - 0x600) / 4)
  else if 0x8000 ≤ o then puntBufWord s b ((o - 0x8000) / 4)
  else storedValue s a d

/-- A tiller's clock runs: its block's while it is attached, the array's in the pool, none in RETIRED (R51, R109). -/
def tillerClock (s : State) (t : Nat) : Bool :=
  let x := tillerOf s t
  let pll := pllOf s 2
  if attached x then (blockOf s (x.pos / 4)).tclk else x.st != .retired && (if pll.activeB then pll.lockB else pll.lockA)

/-- TL_STAT (R128). -/
def tlStat (s : State) (t : Nat) : W32 :=
  let x := tillerOf s t
  let q := queueOf s (2 * leadBlock s (x.pos / 4) + dirNum (posDir x.pos))
  fields [(x.st.code, 0), flag (tillerClock s t) 3, (if attached x then x.pos else 0, 4), (x.strikes, 10), (x.kat, 13),
    (if 10 < x.need then 15 else x.need, 16), (if attached x then q.length else 0, 20)]

/-- TL_cnt ACTIVE_MS of a tiller (R129). -/
def activeMs (s : State) (t : Nat) : Nat :=
  let x := tillerOf s t
  (x.activeUs + (if attached x then s.now - x.activeAt else 0)) / 1000

/-- TL_ASTAT (R129). -/
def tlAstat (s : State) : W32 :=
  let n := fun st => ((List.range 72).filter (fun t => (tillerOf s t).st == st)).length
  let win := 1000 * rf s (tlArr + 4) 31 16
  fields [(n .ready, 0), (n .retired, 7), (s.line.rotPtr, 14), (s.line.step, 20), flag s.line.stepTo.isSome 24,
    (Nat.min 127 (s.line.mmAll.filter (fun t => decide (s.now ≤ t + win))).length, 25)]

/-- TL_ registers (R128–R130). -/
def tlRead (s : State) (a : Nat) (d : RegDesc) : W32 :=
  if a < tlArr then
    let t := (a - 0x42000000) / 0x1000
    match (a - 0x42000000) % 0x1000 with
    | 0x04 => tlStat s t
    | 0x08 => (tillerOf s t).mm0
    | 0x0C => (tillerOf s t).mm1
    | 0x10 => (tillerOf s t).katInfo
    | 0x78 => half false (activeMs s t)
    | 0x7C => half true (activeMs s t)
    | _ => storedValue s a d
  else if a = tlArr + 8 then tlAstat s
  else if tlArr + 0x100 ≤ a ∧ a < tlArr + 0x140 then
    let p := a - (tlArr + 0x100)
    fields ((List.range 4).map (fun i => ((activeAt? s (p + i)).getD 0xFF, 8 * i)))
  else storedValue s a d

/-- Frames of a direction resolved and not yet ended; an injected frame is not resolved (R83, R158). -/
def pendOf (s : State) (p : Nat) (d : Dir) : Nat := ((framesOf s p d).filter (fun f => f.seq != 0 && !f.injected)).length

/-- VD_ registers (R158–R160). -/
def vdRead (s : State) (a : Nat) (d : RegDesc) : W32 :=
  let v := (a - 0x43000000) / 0x1000
  let e := tget (fun _ => {}) s.line.lastErr v
  let sending := fun (x : Dir) => (framesOf s v x).any (fun f => f.started)
  if sciIdxA ≤ a then storedValue s a d
  else match (a - 0x43000000) % 0x1000 with
    | 0x04 => fields [flag (portExists s v) 0, flag (sending .egress) 21, flag (sending .ingress) 22]
    | 0x0C => e.e0
    | 0x10 => e.seq
    | 0x14 => e.pn
    | 0x18 => fields [(pendOf s v .egress, 0), (pendOf s v .ingress, 16)]
    | _ => storedValue s a d

/-- GR_ registers (R197, R198). -/
def grRegRead (s : State) (a : Nat) (d : RegDesc) : W32 :=
  let o := a - grA
  if o = 4 then
    fields [flag (grBusy s) 0, flag s.gran.zeroed 1, flag s.gran.paused 2, flag (scrkeySet s) 3, (s.gran.fences.length, 4),
      ((s.gran.slots.filter (fun e => e.2.valid)).length, 8)]
  else if o = 0x14 then fields [(s.gran.resSlot, 0), (s.gran.resOp, 16), (s.gran.resCode, 19), (s.gran.resSeq % 1024, 22)]
  else if o = 0x18 then
    (match s.gran.fences with
     | [] => 0
     | f :: _ => fields [(f.slot, 0), (1, 16)])
  else if 0x20 ≤ o ∧ o < 0x34 then nth s.gran.rd ((o - 0x20) / 4) 0
  else if o = 0x34 then w32 s.gran.ptr
  else storedValue s a d

/-- CU_STAT, CU_LANEFAIL_n and CU_REMAP_STAT (R199, R654). -/
def cuRead (s : State) (a : Nat) (d : RegDesc) : W32 :=
  let o := if a < 0x40000000 then a - cuC else a - cuL
  if o = 4 then
    fields [flag s.culm.paired 0, flag s.culm.session 1, flag s.culm.half 2, (s.culm.spares, 3), (34 - lanesFailed s, 5)]
  else if o = 8 then w32 s.culm.failed
  else if o = 0x0C then w32 (s.culm.failed / 2 ^ 32)
  else if o = 0x104 then fields [flag s.rmLine.busy 0, (s.rmLine.result, 1), (lineLeast s (rf s cuRemapA 2 0), 3)]
  else storedValue s a d

/-- MT_ registers (R326, R327). -/
def mtRead (s : State) (a : Nat) (d : RegDesc) : W32 :=
  let o := a - mtA
  if o = 4 then
    fields [(s.bank, 0), (s.mt.frozen.code, 1), flag s.mt.clearing 3,
      ((s.mt.touched.filter (fun e => decide (e.1 / 65536 = 2 * frozenBank s))).length, 4)]
  else if o = 8 then w32 s.mt.swapSeq
  else if o = 0x10 then half false s.mt.swapTime
  else if o = 0x14 then half true s.mt.swapTime
  else if o = 0x24 then w32 s.mt.tail
  else if 0x40 ≤ o ∧ o < 0x80 then nth s.mt.rd ((o - 0x40) / 4) 0
  else storedValue s a d

/-- A register of the line die. -/
def lineRead (s : State) (a : Nat) (d : RegDesc) : W32 :=
  if a < 0x41000000 then cuRead s a d
  else if a < 0x42000000 then pbRead s a d
  else if a < 0x43000000 then tlRead s a d
  else if a < 0x44000000 then vdRead s a d
  else if a < 0x45000000 then stRead s a d
  else if a < 0x46000000 then grRegRead s a d
  else mtRead s a d

/-! ### The control die -/

/-- One PLL pair's four bits of PW_CLK (R529). -/
def pllBits (x : Pll) : Nat := b2n x.activeB + 2 * b2n x.lockA + 4 * b2n x.lockB + 8 * b2n x.failed

/-- REF_LOST, measured: SerDes reference 0 feeds LSYS A and TL A, and reference 1 LSYS B and TL B, so a reference is absent only where neither of
its PLLs has lock (R511, R529, R682, log entry 32). -/
def refLost (s : State) : Nat :=
  let may := fun (b : Bool) => decide (2 ≤ s.pw.step) && [1, 2].all (fun d => !(if b then (pllOf s d).lockB else (pllOf s d).lockA))
  (if may false then free s % 2 else 0) + (if may true then free s / 2 % 2 * 2 else 0)

/-- PW_ registers; PW_RAIL is measured (R529, R530, R652, R663, log entry 32). -/
def pwRead (s : State) (a : Nat) (d : RegDesc) : W32 :=
  let o := a - pwA
  if o = 0 then fields [(modeCode s, 0), (s.pw.step, 3)]
  else if o = 4 then fields [(s.pw.cause, 0), flag s.pw.lcPending 3, flag s.pw.lockLatch 4, flag s.pw.lostFound 5]
  else if o = 0x10 then fields [(pllBits (pllOf s 0), 0), (pllBits (pllOf s 1), 4), (pllBits (pllOf s 2), 8), (refLost s, 12)]
  else if o = 0x14 then
    fields [flag s.pw.rootOk 0, (s.pw.gen, 1), flag s.pw.otherValid 2, flag s.pw.repeated 3, (s.pw.worst, 4), flag (refreshDue s) 9, flag s.pw.pufFail 10]
  else if o = 0x1C then fields [flag (s.pw.pufBusy != 0) 0, (s.pw.pufRes, 1), (s.pw.pufResWorst, 3)]
  else if 0x44 ≤ o ∧ o < 0x80 then w32 (tget (fun _ => 0) s.pw.times ((o - 0x40) / 4))
  else if o = 0x80 then fields [(free s % 64, 0), flag s.pw.vbatOk 6, flag s.pw.vbatLow 7]
  else if o = 0x208 then fields [(s.upd.st, 0), (s.upd.slot, 2), (probationLeft s, 3)]
  else if 0x4000 ≤ o then
    (if s.pw.refreshed then w32 (leNat ((List.range 4).map (fun i => Config.pufHelper s.pw.helperN (o - 0x4000 + i)))) else 0)
  else storedValue s a d

/-- LC_ registers (R587). -/
def lcRead (s : State) (a : Nat) (d : RegDesc) : W32 :=
  let o := a - 0x30010000
  let key := s.lc.ownHash != [] && octetsAt (Config.sha384 s.lc.flashKey) 0 48 == s.lc.ownHash
  if o = 0 then
    fields [(s.lc.state, 0), (s.lc.pending.getD 7, 3), ((tokensLeft s).length, 6), ((freeRecs s).length, 11), flag key 15, (s.lc.ownAlg, 16),
      flag s.lc.dbgOpen 17, (s.lc.scope, 18)]
  else if 0x10 ≤ o ∧ o < 0x20 then w32 (((s.lc.nonce.map (fun n => n.toNat)).getD 0) / 2 ^ (8 * (o - 0x10)))
  else if o = 0x24 then fields [flag s.lc.burn.isSome 0, (s.lc.burnRes, 1)]
  else if 0x40 ≤ o ∧ o < 0x70 then w32 (leNat (octetsAt s.lc.ownHash (o - 0x40) 4))
  else storedValue s a d

/-- TM_ registers (R564, R565). -/
def tmRead (s : State) (a : Nat) (d : RegDesc) : W32 :=
  let o := a - 0x30020000
  if o = 4 then fields [(s.level, 0), flag s.tm.latch 3, flag s.tm.backupLost 4]
  else if o = 0x0C then w32 (assertedMask s)
  else if o = 0x10 then w32 s.tm.fired
  else if o = 0x14 then w32 s.tm.clearSeq
  else if o = 0x18 then half false (tscOf s)
  else if o = 0x1C then half true (tscOf s)
  else if o = 0x20 then w32 s.tm.lseq
  else if o = 0x24 then w32 (logLost s)
  else if 0x180 ≤ o ∧ o < 0x200 then
    let m := monOf s ((o - 0x180) / 4)
    fields [flag m.asserted 0, (Nat.min 31 m.count, 1)]
  else if 0x8000 ≤ o then w32 (leNat (octetsAt (logView s) (o - 0x8000) 4))
  else storedValue s a d

/-- A token count in two's complement of 8 bits (R566). -/
def token8 (n : Int) : Nat := (n % 256).toNat

/-- EV_ registers of the router and the recorder (R397, R566). -/
def evRegRead (s : State) (a : Nat) (d : RegDesc) : W32 :=
  let o := a - 0x30030000
  let pend := s.ev.pend.filter (fun e => e.2)
  if o = 4 then w32 pend.length
  else if 0x5000 ≤ o ∧ o < 0x5200 then
    fields ((pend.filter (fun e => decide (e.1 / 32 = (o - 0x5000) / 4))).map (fun e => (1, e.1 % 32)))
  else if o = 0x8004 then half false s.ev.seq
  else if o = 0x8008 then half true s.ev.seq
  else if 0x8010 ≤ o ∧ o < 0x8020 then
    let k := (o - 0x8010) / 4
    fields [(areaHead s k, 0), flag (tget (fun _ => false) s.ev.gapped k) 10]
  else if o = 0x8024 then fields [(token8 s.ev.recTok, 0), (token8 s.ev.logTok, 8)]
  else storedValue s a d

/-- RG_ registers (R472, R473). -/
def rgRead (s : State) (a : Nat) (d : RegDesc) : W32 :=
  let o := a - rgA
  let k := (o - 0x40) / 0x20
  if o = 4 then
    fields [(s.rng.st.code, 0), (s.rng.pool, 3), flag (s.rng.busy != 0) 14, (Nat.min 2 (recentFails s).length, 15), (s.rng.oscEn, 17)]
  else if 0x40 ≤ o ∧ o < 0x80 then
    (if o % 0x20 = 4 then
       fields [(tget (fun _ => 0) s.rng.portLeft k, 0), flag (tget (fun _ => []) s.rng.portBlk k != []) 5, flag (tget (fun _ => false) s.rng.portErr k) 6]
     else if 8 ≤ o % 0x20 then portWord s k ((o % 0x20 - 8) / 4) else storedValue s a d)
  else storedValue s a d

/-- LI_ registers (R451, R452). -/
def liRead (s : State) (a : Nat) (d : RegDesc) : W32 :=
  let o := a - liA
  if o = 4 then
    fields [((liIn s .queued).length, 0), ((ctxHeld s).length, 9), flag s.li.running.isSome 13, (s.li.running.getD 0x1FF, 14)]
  else if 0x6000 ≤ o ∧ o < 0x6440 then
    let x := liJob s ((o - 0x6000) / 4)
    fields [(x.st.code, 0), (if x.st = .ended then x.status else 0, 3), (x.ctx.getD 0xF, 7), (if x.st = .faulted then x.side else 0, 11), (x.iter, 12)]
  else if 0x7800 ≤ o ∧ o < 0x8000 then w32 (liVt s ((o - 0x7800) / 4))
  else storedValue s a d

/-- FL_STAT: a suspension for a read lasts no longer than the read (R477, R500). -/
def flStat (s : State) : W32 :=
  let who := if s.fl.seq = 0 then 0 else s.fl.owner
  match s.fl.op with
  | none => fields [(s.fl.seq, 5), (who, 8)]
  | some o =>
    let x := if o.op = 4 then rf s (flA + 0x20 + 4 * o.addr) 10 0 else sectorOf o.addr
    fields [(1, 0), (x / 1024, 1), (o.op, 2), (s.fl.seq, 5), (who, 8)]

/-- FL_ registers (R500). -/
def flRead (s : State) (a : Nat) (d : RegDesc) : W32 :=
  let x := rf s (flA + 0x200) 10 0
  let e := sectOf s x
  match a - flA with
  | 0x004 => flStat s
  | 0x204 => w32 e.erases
  | 0x208 => w32 ((sectAge s x).getD 0x7FFF)
  | 0x20C => fields [(e.progMax, 0), (e.eraseLast, 5), (e.corrMax, 10), flag e.near 14]
  | 0x210 => fields [(sparesOf s 0, 0), (sparesOf s 1, 8), (sparesOf s 2, 16), (sparesOf s 3, 24)]
  | _ => storedValue s a d

/-- DM_STAT with the host reads outstanding; the other DM_ registers as stored (R429). -/
def dmRead (s : State) (a : Nat) (d : RegDesc) : W32 :=
  let c := (a - 0x30070000) / 0x100
  let o := (a - 0x30070000) % 0x100
  if o = 0x20 then putFld (rget s a) 13 10 ((dmaOf s c).reqs.filter (fun r => r.data.isNone && r.err == 0)).length
  else if o = 0x24 ∨ o = 0x28 then rget s a
  else storedValue s a d

/-- The tag read port: a granule that is none reads a free value (R428, log entry 5). -/
def tagPort (s : State) : W32 :=
  let g := rf s 0x30088014 16 0
  if 98304 ≤ g then w32 (free s % 512) else fields [(tget (fun _ => 0) s.tags g, 0), flag (tget (fun _ => false) s.badTag g) 8]

/-- MP_ registers (R427, R428, R653). -/
def mpRead (s : State) (a : Nat) (d : RegDesc) : W32 :=
  if a = 0x30088010 then fields [flag s.rc.busy 0, (s.rc.done, 1)]
  else if a = 0x30088018 then tagPort s
  else if a = 0x30088204 then fields [flag s.rmSram.busy 0, (s.rmSram.result, 1), (sramLeast s, 3)]
  else storedValue s a d

/-- VFs in existence on an endpoint. -/
def vfsOf (s : State) (e : Nat) : Nat := if (epOf s e).vfEn then (epOf s e).numVfs else 0

/-- HF_ registers that the steward sees (R232, R233). -/
def epRead (s : State) (a : Nat) (d : RegDesc) : W32 :=
  let e := (a - 0x30090000) / 0x10000
  let x := epOf s e
  if a = epCtl e + 4 then
    fields [flag x.linkUp 0, flag x.perst 1, (x.ltssm, 2), (x.speed, 6), (x.width, 10), (vfsOf s e, 13), flag x.vfEn 21]
  else storedValue s a d

/-- VF_ registers that the steward sees (R261, R262). -/
def vfRead (s : State) (a : Nat) (d : RegDesc) : W32 :=
  let i := (a - 0x300B0000) / 0x40
  let x := fnOf s i
  if a = 0x300B8004 then fields [flag s.host.flushErr 1]
  else if 0x300B8000 ≤ a then storedValue s a d
  else if a % 0x40 = 0 then fields [(x.gen, 0), flag x.present 16, flag x.ending 17]
  else if a % 0x40 = 0x20 then w32 (s.host.lines.filter (fun y => y.fn == i)).length
  else storedValue s a d

/-- HT_STAT (R395). -/
def htStat (s : State) (h : Nat) : W32 :=
  let x := hartOf s h
  fields [((hstOf s h).code, 0), (x.level, 3), flag x.ie 5, flag x.aw 6, flag x.rept 7, (x.sbuf.length, 8), flag x.budgetPend 12,
    flag (x.late != []) 13, flag x.ovr.isSome 14, (rf s (htA h + 4) 16 15, 15)]

/-- HT_ registers but HT_CLAIM (R395, R396). -/
def htRead (s : State) (a : Nat) (d : RegDesc) : W32 :=
  let h := (a - 0x31000000) / 0x1000
  let o := (a - 0x31000000) % 0x1000
  let x := hartOf s h
  if o = 4 then htStat s h
  else if o = 8 then (if hartHalted s h || hstOf s h == .waiting then x.pc else 0)
  else if 0x40 ≤ o ∧ o < 0x70 then
    let k := (o - 0x40) / 4
    if hartHalted s h then svGet x (k / 4 + 1) (k % 4) else 0
  else storedValue s a d

/-- TG_ registers (R610). -/
def tgRegRead (s : State) (a : Nat) (d : RegDesc) : W32 :=
  let o := a - tgA
  if o = 4 then
    fields [flag s.tag.field 0, (s.tag.iso.code, 1), flag s.tag.l4 3, flag (!s.tag.writes.isEmpty) 4, flag s.tag.strong 5, flag s.tag.degraded 6]
  else if o = 8 then ((s.tag.uid.map (fun n => fields [(8, 0), (n, 8)])).getD 0)
  else if o = 0x10 then fields [(s.tag.code, 0), flag s.tag.repaired 2, (s.tag.kind, 3)]
  else if 0x24 ≤ o ∧ o < 0x38 then w32 (tagSeq s ((o - 0x20) / 4))
  else storedValue s a d

/-- CS_ registers (R631). -/
def csRead (s : State) (a : Nat) (d : RegDesc) : W32 :=
  let o := a - csA
  if o = 4 then fields [flag s.cs.cd 0, flag s.cs.wp 1, flag s.cs.cmd.isSome 2, flag s.cs.dat0 3]
  else if 0x20 ≤ o ∧ o < 0x30 then nth s.cs.resp ((o - 0x20) / 4) 0
  else if o = 0x30 then fields [(s.cs.code, 0), (s.cs.done, 4)]
  else storedValue s a d

/-- A register of the control die. -/
def ctlDieRead (s : State) (a : Nat) (d : RegDesc) : W32 :=
  if a < 0x30010000 then pwRead s a d
  else if a < 0x30020000 then lcRead s a d
  else if a < 0x30030000 then tmRead s a d
  else if a < 0x30040000 then evRegRead s a d
  else if a < 0x30050000 then rgRead s a d
  else if a < 0x30060000 then liRead s a d
  else if a < 0x30070000 then flRead s a d
  else if a < 0x30080000 then dmRead s a d
  else if a < 0x30090000 then mpRead s a d
  else if a < 0x300B0000 then epRead s a d
  else if a < 0x300C0000 then vfRead s a d
  else if a < 0x300D0000 then tgRegRead s a d
  else if a < 0x300E0000 then csRead s a d
  else if a < 0x31000000 then cuRead s a d
  else htRead s a d

/-! ### Function windows (R209–R211, R230, R231, R260) -/

/-- VF_DQ_n for the domain that VF_DSEL names (R260). -/
def dqWord (s : State) (e n : Nat) : W32 :=
  let dom := rf s (hfWin (256 * e) + 0x4010) 11 0
  let q := quotaOf s dom
  match n with
  | 0 => fields [(q.tx, 0), ((scsOf s 0 dom).length, 16)]
  | 1 => fields [(q.rx, 0), ((scsOf s 1 dom).length, 16)]
  | 2 => w32 q.sa
  | 3 => fields [(saUsed s dom, 0), flag (domHeld s dom) 17]
  | 4 => fields [(q.em, 0), (q.rule, 16)]
  | _ => fields [(emUsed s dom, 0), (ruleUsed s dom, 16)]

/-- VF_FSUM_n of function f (R260). -/
def fsumWord (s : State) (f n : Nat) : W32 :=
  let x := fnOf s f
  match n with
  | 0 => fields [(x.gen, 0), flag x.present 16, (x.doms.length, 17)]
  | 1 => fields [(x.hartW, 0), (x.liW, 8), (x.evVecs, 16)]
  | 2 => w32 x.maxOut
  | _ =>
    let l := logA f
    fields [(if rbit s l 0 then (if rbit s l 7 then 2 else 1) else 0, 0), flag (rbit s l 8) 2, flag (rbit s l 1) 3, (x.logEpoch, 16)]

/-- HF_EP_INFO and HF_DEV_REV; the version of an image that the model's flash does not hold is a free value (R231, R643, log entry 27). -/
def infoWord (s : State) (e : Nat) (rev : Bool) : W32 :=
  if rev then fields [(0xA1, 0), (if slotBlank s s.upd.slot then free s % 65536 else slotNat s s.upd.slot 4 2, 16)]
  else fields [((epOf s e).speed, 0), ((epOf s e).width, 4), (e, 7), (vfsOf s e, 8)]

/-- Bits of the Pending Bit Array: causes that masking holds (R204, R224). -/
def pbaWord (s : State) (f k : Nat) : W32 :=
  fields (((List.range 32).filter (fun i => (vecOf s f (32 * k + i)).pend && ((vecOf s f (32 * k + i)).masked || (fnOf s f).fmask))).map (fun i => (1, i)))

/-- The Pending Bit Array's word at an offset of a function's window (R204, R209, R210). -/
def pbaAt (f o : Nat) : Option Nat :=
  if f % 256 = 0 then (if o = 0x9000 then some 0 else if o = 0x9004 then some 1 else none)
  else if o = 0xC00 then some 0 else if o = 0xC04 then some 1 else none

/-- A word of an MSI-X table entry. -/
def msixRead (s : State) (f v w : Nat) : W32 :=
  let e := vecOf s f v
  match w with
  | 0 => half false e.addr.toNat
  | 1 => half true e.addr.toNat
  | 2 => e.data
  | _ => w32 (b2n e.masked)

/-- A register of function f's window (R230, R260). -/
def hfRead (s : State) (f o : Nat) (d : RegDesc) : W32 :=
  let x := fnOf s f
  if o = 0 then fields [(f % 256, 0), (f / 256, 8), (0x0102, 16)]
  else if o = 4 then w32 x.gen
  else if o = 0x0C then fields [(x.abi, 0), (x.helloStatus, 16), flag x.helloValid 24]
  else if o = 0x14 then
    fields [flag (fnReady s f) 0, (x.ring.code, 1), (x.cause, 3), (x.out, 8), flag (!canMaster x && x.compl != []) 21]
  else if o = 0x44 then w32 x.orHead
  else if o = 0x4C then w32 x.crTail
  else if o = 0x4000 then fields [(8192 - reserved s (fun q => q.tx), 0), (8192 - reserved s (fun q => q.rx), 16)]
  else if o = 0x4004 then w32 (65536 - reserved s (fun q => q.sa))
  else if 0x4014 ≤ o ∧ o < 0x402C then dqWord s (f / 256) ((o - 0x4014) / 4)
  else if 0x5000 ≤ o ∧ o < 0x6000 then fsumWord s (256 * (f / 256) + (o - 0x5000) / 16) (o / 4 % 4)
  else if o = 0xC000 then infoWord s (f / 256) false
  else if o = 0xC004 then infoWord s (f / 256) true
  else storedValue s (hfWin f + o) d

/-- What an assigned offset of a function's window reads. -/
def winValue (s : State) (f o : Nat) : Option W32 :=
  match msixWord f o, pbaAt f o with
  | some q, _ => some (msixRead s f q.1 q.2)
  | _, some k => some (pbaWord s f k)
  | _, _ => (winReg f o).map (hfRead s f o)

/-! ### A read by its requester (R12, R16, R17) -/

/-- Counters that no command moves have grown by an amount that no rule gives: corrected codewords, cycles waiting and engine cycles
(R57, R396, R452, log entry 32). -/
def isUncounted (a : Nat) : Bool :=
  (decide (0x41000000 ≤ a ∧ a < 0x42000000) && [0x1A8, 0x1B8].contains (a % 0x10000 % 0x100 + 0x100) && decide (a % 0x10000 < 0x500)) ||
  (decide (0x31000000 ≤ a) && decide (a < 0x31008000) && a % 0x1000 == 0x120) || a == liA + 0x8030

/-- The state in which a register is read: an uncounted counter has grown as its _LO is read. -/
def beforeRead (s : State) (a : Nat) : State := if isUncounted a then freed (cadd s a (free s)) else s

/-- A read's effect: free values passed, and the RC fields (R12, R58, R388, R395, R472). -/
def afterRead (s : State) (a : Nat) : State :=
  let o := a % 0x10000
  if 0x41000000 ≤ a ∧ a < 0x42000000 then
    (if 0x1000 ≤ o ∧ (o % 0x100 = 0x0C ∨ o % 0x100 = 0x10) then
       laneCleared s ((a - 0x41000000) / 0x10000) ((o - 0x1000) / 0x100) (decide (o % 0x100 = 0x10))
     else freed s)
  else if 0x31000000 ≤ a ∧ a < 0x31008000 ∧ a % 0x1000 = 0x20 then claimSource s ((a - 0x31000000) / 0x1000)
  else if a = rgA + 0x54 ∨ a = rgA + 0x74 then portRead s ((a - (rgA + 0x54)) / 0x20)
  else if a = pwA + 0x80 ∨ a = pwA + 0x10 ∨ a = 0x30088018 then freed s
  else if 0x44000000 ≤ a ∧ a < 0x45000000 ∧ 0x8000 ≤ o then { s with freeCtr := s.freeCtr + 4 }
  else s

/-- The answer of HT_CLAIM as a word. -/
def claimWord (s : State) (h : Nat) : W32 := w32 ((claimSource s h).reply.headD 0)

/-- A register's value as a read finds it. -/
def rawRead (s : State) (a : Nat) (d : RegDesc) : W32 :=
  if inWindow a then lineRead s a d
  else if 0x31000000 ≤ a ∧ a % 0x1000 = 0x20 then claimWord s ((a - 0x31000000) / 0x1000)
  else ctlDieRead s a d

def latchKey (q a : Nat) : Nat := q * 2 ^ 33 + a

def setLatch (s : State) (q a : Nat) (v : Option W32) : State :=
  { s with latches := tput (fun _ => none) s.latches (latchKey q a) v }

/-- The rule of R16 over a register's value: a read of _LO latches _HI for its requester, and that requester's next read of _HI returns it. -/
def latched (s : State) (q a : Nat) (value : Nat → W32) : State × W32 :=
  if isLo a then (setLatch s q a (some (value (a + 4))), value a)
  else if isHi a then
    match tget (fun _ => none) s.latches (latchKey q (a - 4)) with
    | some v => (setLatch s q (a - 4) none, v)
    | none => (s, value a)
  else (s, value a)

/-- A register read by requester q (hart h as h, DMA channel c as 8 + c); none where it ends in a bus error (R16, R17, R21, R191). -/
def regRead (s : State) (q a : Nat) : Option (State × W32) :=
  match regAt a with
  | none => none
  | some d =>
    if inWindow a && !s.culm.session then none
    else
      let t := beforeRead s a
      let p := latched t q a (fun b => rawRead t b d)
      some (afterRead p.1 a, p.2)

/-- A host read at an offset of function f's window: Unsupported Request with Memory Space Enable clear, zero at an unassigned offset
(R16, R17, R211). -/
def winRead (s : State) (f o : Nat) : State :=
  if !(fnOf s f).present || !cfgOpen s (f / 256) then s
  else if !(fnOf s f).mse then barRefuse s f false false
  else match winValue s f o with
    | none => barRefuse s f false true
    | some _ =>
      let p := latched s (512 + f) (hfWin f + o) (fun b => (winValue s f (b - hfWin f)).getD 0)
      let t := if o = 0xC004 then freed p.1 else p.1
      answer (send t (.cpl f (some p.2))) [p.2.toNat]

/-- LO_READ_LATCH: a register read by a requester, harts 0–7, DMA channels 8–23, and function f as 512 + f in its own window (R16). -/
def loRead (s : State) (q a : Nat) : State :=
  if !runs s then s
  else if 512 ≤ q then (if hfWin (q - 512) ≤ a ∧ a < hfWin (q - 512) + 0x10000 then winRead s (q - 512) (a - hfWin (q - 512)) else s)
  else if 24 ≤ q ∨ 0x100000000 ≤ a then s
  else match regRead s q a with
    | some p => answer p.1 [p.2.toNat]
    | none => s

def execLoReadLatch (req : Fin 1024) (addr : Nat) (s : State) : Out := ok (loRead s req addr)

end Sys2Proof.Machine
end

