-- ==== Sys2Proof/Machine/Strings.lean ====
section
/-! DEFINITION. Stores, atomics and string instructions of the Rhaby hart, and its loads from memory (R341–R346, R352–R356). -/

namespace Sys2Proof.Machine

/-! ### Accesses of a hart (R342–R345) -/

/-- What a load comes to. -/
inductive LRes where
  | val (l : List Byte)
  | bad (c : Nat)
  | wait
deriving DecidableEq, Repr

/-- The youngest buffered store that overlaps `n` octets at `a` (R345). -/
def buffered (x : Hart) (a n : Nat) : Option StoreEnt := x.sbuf.reverse.find? (fun e => decide (e.addr < a + n ∧ a < e.addr + e.size))

/-- Octets of a buffered store. -/
def fromStore (e : StoreEnt) (a n : Nat) : List Byte := ((leBytes e.size e.data.toNat).drop (a - e.addr)).take n

/-- The issue checks of an access of hart h, with the record of a refusal (R342, R427). -/
def hartCheck (s : State) (h : Nat) (x : Hart) (k : Kind) (a n : Nat) (res : MemRes) : State × Option Nat :=
  let p := busCheck s h (x.level == 0) k a n res
  match p.2 with
  | some c => (noteRefusal p.1 h a c k.code x.level, some c)
  | none => (p.1, none)

/-- A load that passed its checks: from the store buffer, or from memory; one that a store covers in part waits (R345). -/
def hartRead (s : State) (x : Hart) (a n : Nat) (res : MemRes) : State × LRes :=
  match buffered x a n with
  | some e => if e.addr ≤ a ∧ a + n ≤ e.addr + e.size then (s, .val (fromStore e a n)) else (s, .wait)
  | none =>
    let r := busRead s a n false res
    (r.1, match r.2 with
      | some l => .val l
      | none => .bad 3)

/-- A load of memory, checks and all. -/
def hartLoad (s : State) (h : Nat) (x : Hart) (k : Kind) (a n : Nat) (res : MemRes) : State × LRes :=
  let p := hartCheck s h x k a n res
  match p.2 with
  | some c => (p.1, .bad c)
  | none => hartRead p.1 x a n res

/-- The address register advanced or a load's result: RD8S, RD8Z, RD16S, RD16Z (R341). -/
def loadOp (i : Issue) (signed : Bool) (z rd ra : Nat) (imm : BitVec 12) (res : MemRes) (t : State) (x : Hart) : HRes :=
  let a := effAddr x ra imm
  let p := hartLoad t i.h x .load a z res
  match p.2 with
  | .val l => .next p.1 (gset x rd (loadExt signed z l))
  | .bad c => .fault p.1 x c (w32 a) 2 z
  | .wait => .stall

def execRd8s (i : Issue) (rd ra : Fin 32) (imm : BitVec 12) (res : MemRes) (s : State) : Out :=
  ok (issue s i (encI i.guard 0x10 rd ra imm.toNat) false false (loadOp i true 1 rd ra imm res))
def execRd8z (i : Issue) (rd ra : Fin 32) (imm : BitVec 12) (res : MemRes) (s : State) : Out :=
  ok (issue s i (encI i.guard 0x11 rd ra imm.toNat) false false (loadOp i false 1 rd ra imm res))
def execRd16s (i : Issue) (rd ra : Fin 32) (imm : BitVec 12) (res : MemRes) (s : State) : Out :=
  ok (issue s i (encI i.guard 0x12 rd ra imm.toNat) false false (loadOp i true 2 rd ra imm res))
def execRd16z (i : Issue) (rd ra : Fin 32) (imm : BitVec 12) (res : MemRes) (s : State) : Out :=
  ok (issue s i (encI i.guard 0x13 rd ra imm.toNat) false false (loadOp i false 2 rd ra imm res))

/-- What a store comes to: the hart with its buffer, a refused check, or a full buffer (R344). -/
inductive StRes where
  | put (x : Hart)
  | bad (c : Nat)
  | wait
deriving DecidableEq, Repr

/-- A store into the buffer of 8 entries (R344). -/
def hartStore (s : State) (h : Nat) (x : Hart) (k : Kind) (a n : Nat) (v : W32) (tag : MemRes) : State × StRes :=
  let p := hartCheck s h x k a n tag
  match p.2 with
  | some c => (p.1, .bad c)
  | none => if 8 ≤ x.sbuf.length then (p.1, .wait) else (p.1, .put { x with sbuf := x.sbuf ++ [⟨a, n, v, x.level⟩] })

/-- WR8, WR16, WR32 (R341). -/
def storeOp (i : Issue) (z rs ra : Nat) (imm : BitVec 12) (tag : MemRes) (t : State) (x : Hart) : HRes :=
  let a := effAddr x ra imm
  let p := hartStore t i.h x .store a z (w32 ((gget x rs).toNat % 2 ^ (8 * z))) tag
  match p.2 with
  | .put y => .next p.1 y
  | .bad c => .fault p.1 x c (w32 a) 3 z
  | .wait => .stall

def execWr8 (i : Issue) (rs ra : Fin 32) (imm : BitVec 12) (tag : MemRes) (s : State) : Out :=
  ok (issue s i (encI i.guard 0x18 rs ra imm.toNat) false false (storeOp i 1 rs ra imm tag))
def execWr16 (i : Issue) (rs ra : Fin 32) (imm : BitVec 12) (tag : MemRes) (s : State) : Out :=
  ok (issue s i (encI i.guard 0x19 rs ra imm.toNat) false false (storeOp i 2 rs ra imm tag))
def execWr32 (i : Issue) (rs ra : Fin 32) (imm : BitVec 12) (tag : MemRes) (s : State) : Out :=
  ok (issue s i (encI i.guard 0x1A rs ra imm.toNat) false false (storeOp i 4 rs ra imm tag))

/-! ### Atomics (R346) -/

/-- XCHG and CAS: the buffer drains first; then the word is read and, under CAS only where it equals g[rd], written. -/
def amoOp (i : Issue) (cas : Bool) (rd ra rb : Nat) (res : MemRes) (t : State) (x : Hart) : HRes :=
  let a := (gget x ra).toNat
  if x.sbuf ≠ [] then .stall
  else
    let p := hartCheck t i.h x .amo a 4 res
    match p.2 with
    | some c => .fault p.1 x c (w32 a) 4 4
    | none =>
      let r := sramLane p.1 a res
      if r.2 then
        let old := w32 (leNat (memRead r.1 a 4))
        let s := if cas && old != gget x rd then r.1 else memWrite r.1 a (leBytes 4 (gget x rb).toNat)
        .next s (gset x rd old)
      else .fault r.1 x 3 (w32 a) 4 4

def execXchg (i : Issue) (rd ra rb : Fin 32) (res : MemRes) (s : State) : Out :=
  ok (issue s i (encR i.guard 0x1C rd ra rb 0) false false (amoOp i false rd ra rb res))
def execCas (i : Issue) (rd ra rb : Fin 32) (res : MemRes) (s : State) : Out :=
  ok (issue s i (encR i.guard 0x1C rd ra rb 1) false false (amoOp i true rd ra rb res))

/-! ### String instructions (R353–R356) -/

/-- The string instructions. -/
inductive Str where | copy | fill | comp | xor | scan
deriving DecidableEq, Repr

def Str.opcode : Str → Nat
  | .copy => 0x2C | .fill => 0x2D | .comp => 0x2E | .xor => 0x2F | .scan => 0x30

/-- The instruction's pointers: register numbers (R353). -/
def Str.pointers (k : Str) (rd ra : Nat) : List Nat :=
  match k with
  | .fill => [rd]
  | .scan => [ra]
  | _ => [rd, ra]

/-- The value register, where the instruction has one. -/
def Str.value (k : Str) (rd ra : Nat) : Option Nat :=
  match k with
  | .fill => some ra
  | .scan => some rd
  | _ => none

/-- Element size by func[1:0]. -/
def strSize (func : Nat) : Nat := 2 ^ (func % 4)

/-- The encodings that are ILLEGAL (R352, R353): LOOPMODE ZOL, a reserved func, pd where there is none, g0 or one register
twice among pointers and count, a value register that is one of them. -/
def strBad (x : Hart) (k : Str) (rd ra rb func : Nat) : Bool :=
  let regs := k.pointers rd ra ++ [rb]
  !x.rept || decide (func % 4 = 3) || bitAt func 2 || bitAt func 6 ||
  (!(k == .comp || k == .scan) && decide (func / 8 % 8 ≠ 0)) ||
  regs.contains 0 || decide (¬ regs.Nodup) ||
  (match k.value rd ra with
   | some v => decide (v ≠ 0) && regs.contains v
   | none => false)

/-- What one element comes to. -/
inductive ERes where
  | go (s : State) (x : Hart)
  /-- BCOMP or BSCAN stops with the predicate's value -/
  | stop (s : State) (p : Bool)
  | bad (s : State) (c a access : Nat)
  | wait

/-- An element write of a value at an address. -/
def elemWrite (s : State) (h : Nat) (x : Hart) (a z v : Nat) : ERes :=
  let p := hartStore s h x .ewrite a z (w32 (v % 2 ^ (8 * z))) .ok
  match p.2 with
  | .put y => .go p.1 y
  | .bad c => .bad p.1 c a 6
  | .wait => .wait

/-- An element read, and what follows it. -/
def elemRead (s : State) (h : Nat) (x : Hart) (a z : Nat) (res : MemRes) (f : State → Nat → ERes) : ERes :=
  let p := hartLoad s h x .eread a z res
  match p.2 with
  | .val l => f p.1 (leNat l)
  | .bad c => .bad p.1 c a 5
  | .wait => .wait

/-- The accesses of one element in their order (R354). -/
def element (k : Str) (z rd ra : Nat) (s : State) (h : Nat) (x : Hart) (res : MemRes) : ERes :=
  let d := (gget x rd).toNat
  let a := (gget x ra).toNat
  match k with
  | .copy => elemRead s h x a z res (fun t v => elemWrite t h x d z v)
  | .fill => elemWrite s h x d z a
  | .xor => elemRead s h x a z res (fun t v => elemRead t h x d z .ok (fun t u => elemWrite t h x d z (u ^^^ v)))
  | .comp => elemRead s h x d z res (fun t v => elemRead t h x a z .ok (fun t u => if v ≠ u then .stop t false else .go t x))
  | .scan => elemRead s h x a z res (fun t v => if v = d % 2 ^ (8 * z) then .stop t true else .go t x)

/-- Every pointer advanced by z, the count reduced by 1. -/
def strStep (k : Str) (z rd ra rb : Nat) (x : Hart) : Hart :=
  let y := (k.pointers rd ra).foldl (fun y r => gset y r (gget y r + w32 z)) x
  gset y rb (gget y rb - 1)

/-- The predicate at the end of the count: 1 for BCOMP, 0 for BSCAN (R354). -/
def strEnd (k : Str) (pd : Nat) (x : Hart) : Hart :=
  match k with
  | .comp => pset x pd true
  | .scan => pset x pd false
  | _ => x

/-- Elements one after another, at most `n` in this issue; `res` is what the first read of the n-th finds. -/
def strLoop (k : Str) (z pd rd ra rb h : Nat) (res : MemRes) : Nat → State → Hart → HRes
  | 0, s, x => if gget x rb = 0 then .next s (strEnd k pd x) else .stay s x
  | n + 1, s, x =>
    if gget x rb = 0 then .next s (strEnd k pd x)
    else match element k z rd ra s h x (if n = 0 then res else .ok) with
      | .go t y => strLoop k z pd rd ra rb h res n t (strStep k z rd ra rb y)
      | .stop t p => .next t (pset x pd p)
      | .bad t c a access => .fault t x c (w32 a) access z
      | .wait => .stay s x

/-- One issue of a string instruction: a pointer that is not a multiple of the element size is MISALIGNED (R354). At least one
element is done; `n` tells before which element a pending cause makes the hart leave it (R355). -/
def strOp (k : Str) (i : Issue) (func rd ra rb n : Nat) (res : MemRes) (t : State) (x : Hart) : HRes :=
  let z := strSize func
  match (k.pointers rd ra).find? (fun r => decide ((gget x r).toNat % z ≠ 0)) with
  | some r => .fault t x 2 (gget x r) 0 0
  | none => strLoop k z (func / 8 % 8) rd ra rb i.h res (Nat.max 1 n) t x

def strIssue (s : State) (k : Str) (i : Issue) (rd ra rb : Fin 32) (func : Fin 128) (n : Nat) (res : MemRes) : State :=
  issue s i (encR i.guard k.opcode rd ra rb func) (strBad (hartOf s i.h) k rd ra rb func) false (strOp k i func rd ra rb n res)

def execBcopy (i : Issue) (rd ra rb : Fin 32) (func : Fin 128) (n : Nat) (res : MemRes) (s : State) : Out := ok (strIssue s .copy i rd ra rb func n res)
def execBfill (i : Issue) (rd ra rb : Fin 32) (func : Fin 128) (n : Nat) (res : MemRes) (s : State) : Out := ok (strIssue s .fill i rd ra rb func n res)
def execBcomp (i : Issue) (rd ra rb : Fin 32) (func : Fin 128) (n : Nat) (res : MemRes) (s : State) : Out := ok (strIssue s .comp i rd ra rb func n res)
def execBxor (i : Issue) (rd ra rb : Fin 32) (func : Fin 128) (n : Nat) (res : MemRes) (s : State) : Out := ok (strIssue s .xor i rd ra rb func n res)
def execBscan (i : Issue) (rd ra rb : Fin 32) (func : Fin 128) (n : Nat) (res : MemRes) (s : State) : Out := ok (strIssue s .scan i rd ra rb func n res)

end Sys2Proof.Machine
end

