-- ==== Sys2Proof/Machine/Mmio.lean ====
section
/-! DEFINITION. RD32, whose target may be a register, and the draining of store buffers (R341–R345, R375, R376). -/

namespace Sys2Proof.Machine

/-- The address is in the control-die blocks or the line-die window (R19). -/
def inRegs (a : Nat) : Bool := inBlocks a || inWindow a

/-- A word loaded from a register, after every older store to the register ranges has drained (R342, R343, R345). -/
def regLoad (i : Issue) (rd a : Nat) (res : MemRes) (t : State) (x : Hart) : HRes :=
  if x.sbuf.any (fun e => inRegs e.addr) then .stall
  else
    let p := hartCheck t i.h x .load a 4 res
    match p.2 with
    | some c => .fault p.1 x c (w32 a) 2 4
    | none =>
      if res = .error then .fault p.1 x 3 (w32 a) 2 4
      else match regRead p.1 i.h a with
        | some r => .next r.1 (gset (hartOf r.1 i.h) rd r.2)
        | none => .fault p.1 x 3 (w32 a) 2 4

/-- RD32 (R341). -/
def rd32Op (i : Issue) (rd ra : Nat) (imm : BitVec 12) (res : MemRes) (t : State) (x : Hart) : HRes :=
  let a := effAddr x ra imm
  if inRegs a then regLoad i rd a res t x else loadOp i false 4 rd ra imm res t x

def execRd32 (i : Issue) (rd ra : Fin 32) (imm : BitVec 12) (res : MemRes) (s : State) : Out :=
  ok (issue s i (encI i.guard 0x14 rd ra imm.toNat) false false (rd32Op i rd ra imm res))

/-! ### The store buffer drains (R344) -/

/-- A drained store that its target answers with an error: LATE_STORE waits for its level, or is recorded at level 3 (R375, R376). -/
def lateStore (s : State) (h : Nat) (e : StoreEnt) : State :=
  if 3 ≤ e.level then raise (rsetf s (htA h + 4) 15 15 1) (8 * h + 2) [e.addr]
  else setHart s h { hartOf s h with late := (hartOf s h).late ++ [(e.level, e.addr)] }

/-- A store at its target; none where the target answers with an error. -/
def storeAt (s : State) (h : Nat) (e : StoreEnt) (res : MemRes) : State × Bool :=
  if inRegs e.addr then
    (if res = .error then (s, false)
     else match regWrite s h e.addr e.data with
       | some t => (t, true)
       | none => (s, false))
  else
    let p := sramLane s e.addr res
    if p.2 then (memWrite p.1 e.addr (leBytes e.size e.data.toNat), true) else p

/-- The oldest store of hart h's buffer drains; a HALTED_HW or RETIRED hart's clocks are stopped (R392, R393). -/
def storeDrain (s : State) (h : Nat) (res : MemRes) : State :=
  if !runs s ∨ hstOf s h = .haltedHw ∨ hstOf s h = .retired then s
  else match (hartOf s h).sbuf with
    | [] => s
    | e :: r =>
      let p := storeAt (setHart s h { hartOf s h with sbuf := r }) h e res
      if p.2 then p.1 else lateStore p.1 h e

def execStoreDrain (h : Fin 8) (res : MemRes) (s : State) : Out := ok (storeDrain s h res)

end Sys2Proof.Machine
end

