-- ==== Sys2Proof/Machine/SvcPort.lean ====
section
/-! DEFINITION. The services for ports and tillers, and the owner's configuration at a start (R35, R118, R119, R288, R514, R516, R543). -/

namespace Sys2Proof.Machine

/-! ### PORT_STATUS (R288) -/

def svcPortStatus (s : State) (j : Job) (x : Hart) (h : Nat) : State :=
  let p := svcArg x 2
  if 64 ≤ p then svcRet s h 3 []
  else if !holdsPort s j.domain p then svcRet s h 2 []
  else needCulm s h j (fun s => svcRet s h 0 [(pstatOf s p).toNat, powerOf s (p / 4)])

def execPortStatus (h : Fin 8) (s : State) : Out := ok (svcCall s h 0x68 false (fun s j x => svcPortStatus s j x h))

/-! ### The configuration of a port block (R35, R543) -/

/-- Word addresses of a block's configuration record, in the record's order: PB_CTL, PB_LANEMAP, PB_MAXLEN, PB_TIMERS, PB_UPHOLD, PB_FECDEG
and PB_IN_RSV, then for each slot PB_PCFG, PB_EGTH, PB_EGCAP, PB_INTH, PB_INCAP, PB_PFCTH and PB_QUANTA (the layout is the model's, log
entry 33). -/
def cfgAddrs (b : Nat) : List Nat :=
  [pbA b, pbA b + 0x08, pbA b + 0x0C, pbA b + 0x10, pbA b + 0x14, pbA b + 0x18, pbA b + 0x1C] ++
  (List.range 4).flatMap (fun i => [0, 8, 0xC, 0x10, 0x14, 0x18, 0x1C].map (fun o => slotA (4 * b + i) + o))

/-- The octets of a configuration record. -/
def cfgSize : Nat := 140

/-- The writes of a record. -/
def cfgWrites (b : Nat) (l : List Byte) : List (Nat × W32) :=
  (cfgAddrs b).zipIdx.map (fun e => (e.1, w32 (leNat (octetsAt l (4 * e.2) 4))))

/-- A value that its register's table allows, in its named bits only. -/
def valueGood (a : Nat) (v : W32) : Bool :=
  match regAt a with
  | some d => v &&& w32 d.named == v && d.legal v.toNat
  | none => false

/-- The slot fields that no state allows (R28, R56). -/
def slotValueGood (p : Nat) (a : Nat) (v : W32) : Bool :=
  a != slotA p || (decide (fld v 14 13 ≠ 3) && decide (fld v 3 0 ∈ [0, 1, 3]) && decide (fld v 7 4 ≤ 4) && !(bitAt v.toNat 8 && decide (fld v 7 4 ∉ [3, 4])))

/-- Every value of a record is one that its table allows; an 800 Gbit/s lead is an even block, its pair the odd one after it. -/
def cfgGood (b : Nat) (l : List (Nat × W32)) : Bool :=
  l.all (fun e => valueGood e.1 e.2 && (List.range 4).all (fun i => slotValueGood (4 * b + i) e.1 e.2)) &&
  (match l with
   | e :: _ => !(fld e.2 2 0 == 4 && b % 2 == 1) && !(fld e.2 2 0 == 5 && b % 2 == 0)
   | [] => false)

/-- The bits that R35 holds while a slot is enabled. -/
def heldBits (b a : Nat) : W32 :=
  if a = pbA b then 7
  else if a = pbA b + 0x08 then 0xFFFFFFFF
  else if a = pbA b + 0x0C then 0xFFFFFFFF
  else if (List.range 4).any (fun i => a == slotA (4 * b + i)) then w32 ifMask else 0

/-- A record that R35 holds off: it changes a held field while a slot is enabled, or its MODE is not open to the block. -/
def cfgHeld (s : State) (b : Nat) (l : List (Nat × W32)) : Bool :=
  (anySlotOn s b && l.any (fun e => (e.2 ^^^ rget s e.1) &&& heldBits b e.1 != 0)) ||
  (match l with
   | e :: _ => !(fld e.2 2 0 == modeOf s b) && !modeLegal s b (fld e.2 2 0)
   | [] => false)

/-- FAIL written for slots of a block that are about to be enabled, at PURGE and above (R543). -/
def failFirst (s : State) (b mask : Nat) : State :=
  if s.level < 4 then s
  else (List.range 4).foldl (fun t i =>
    if mask.testBit i && !(slotEn s b).testBit i then
      let p := 4 * b + i
      rsetf t (scfgA p) 15 14 (if bitAt (rget t (0x30020028 + 4 * (p / 32))).toNat (p % 32) then 2 else 1)
    else t) s

/-- A register written by the steward on hart h; FAIL first where it enables slots. -/
def stewardWrite (s : State) (h : Nat) (e : Nat × W32) : State :=
  let b := (e.1 - 0x41000000) / 0x10000
  let s := if 0x41000000 ≤ e.1 ∧ e.1 < 0x42000000 ∧ e.1 = pbA b then failFirst s b (fld e.2 7 4) else s
  (regWrite s h e.1 e.2).getD s

/-- A record applied: MODE with the slots as they are, the other registers, then SLOT_EN. -/
def cfgApply (s : State) (h b : Nat) (l : List (Nat × W32)) : State :=
  match l with
  | [] => s
  | e :: r => stewardWrite (r.foldl (fun t w => stewardWrite t h w) (stewardWrite s h (e.1, w32 (putFld e.2 7 4 (slotEn s b)).toNat))) h e

/-- PORT_CFG: NOT_NOW until step 15 and where R35 holds the record off (R35, R288, R516). -/
def svcPortCfg (s : State) (j : Job) (x : Hart) (h : Nat) : State :=
  let b := svcArg x 2
  let l := cfgWrites b (scratchRead s j (svcArg x 3) cfgSize)
  if 16 ≤ b ∨ !inScratch (svcArg x 3) cfgSize ∨ !cfgGood b l then svcRet s h 3 []
  else if s.pw.step < 15 then svcRet s h 1 []
  else needCulm s h j (fun s => if cfgHeld s b l then svcRet s h 1 [] else svcRet (cfgApply s h b l) h 0 [])

def execPortCfg (h : Fin 8) (s : State) : Out := ok (svcCall s h 0x69 true (fun s j x => svcPortCfg s j x h))

/-! ### TILLER_CMD (R118, R119, R288) -/

/-- The register that g2 names, in the order in which R288 lists them (log entry 33). -/
def tillerReg (r t : Nat) : Nat :=
  match r with
  | 0 => tlA t
  | 1 => tlArr + 0x10
  | 2 => tlArr + 0x0C
  | 3 => tlArr
  | _ => tlArr + 4

/-- The write is one that R118 and R119 carry out now. -/
def tillerOpen (s : State) (r t : Nat) (v : W32) : Bool :=
  let x := tillerOf s t
  match r with
  | 0 => fld v 1 0 == 0 || (x.st == .ready && free? s t) ||
      (x.st == .active && (swapAt s x.pos).isNone && ((fld v 1 0 == 2 && noneEnabled s) || (chooseReserve s).isSome))
  | 1 =>
    let n := fld v 12 6
    !bitAt v.toNat 13 || ((activeAt? s (fld v 5 0)).isSome && (swapAt s (fld v 5 0)).isNone && (if n = 0x7F then (chooseReserve s).isSome else free? s n))
  | 2 => decide (maxNeed s ≤ fld v 3 0)
  | _ => true

/-- The arguments of TILLER_CMD that no state allows (R128, R129). -/
def tillerArgBad (r t : Nat) (v : W32) : Bool :=
  decide (5 ≤ r) || (if r = 0 then decide (72 ≤ t) else decide (t ≠ 0)) || !valueGood (tillerReg r t) v ||
  (r == 0 && fld v 1 0 == 3) || (r == 1 && decide (72 ≤ fld v 12 6) && fld v 12 6 != 0x7F) || (r == 2 && decide (10 < fld v 3 0))

def svcTillerCmd (s : State) (j : Job) (x : Hart) (h : Nat) : State :=
  let r := svcArg x 2
  let t := svcArg x 3
  let v := gget x 4
  if tillerArgBad r t v then svcRet s h 3 []
  else needCulm s h j (fun s =>
    if !tillerOpen s r t v then svcRet s h 1 [] else svcRet ((regWrite s h (tillerReg r t) v).getD s) h 0 [])

def execTillerCmd (h : Fin 8) (s : State) : Out := ok (svcCall s h 0x6A true (fun s j x => svcTillerCmd s j x h))

/-! ### Steps 13 and 14 of a start (R514, R543) -/

/-- Registers that owner configuration records set: port blocks, steering and the fail policy. -/
def ownerReg (a : Nat) : Bool :=
  decide (0x41000000 ≤ a ∧ a < 0x42000000) || decide (0x44000000 ≤ a ∧ a < 0x45000000) || a == 0x30020028 || a == 0x3002002C

/-- Every lane group is calibrated; the owner's configuration records, here the writes that they make, are applied in OWNED. -/
def serdesComplete (s : State) (cfg : List (Nat × W32)) : State :=
  if s.pw.mode ≠ .starting ∨ s.pw.step ≠ 12 ∨ s.pw.dormantStep ≠ 0 ∨ !(s.culm.session || s.pw.pufFail) then s
  else
    let s := startStep s 13
    let s := if s.lc.state = 3 then (cfg.filter (fun e => ownerReg e.1)).foldl (fun t e => stewardWrite t (stewardHart t) e) s else s
    startStep s 14

def execSerdesCalibrationComplete (cfg : List (Nat × W32)) (s : State) : Out := ok (serdesComplete s cfg)

end Sys2Proof.Machine
end

