-- ==== Sys2Proof/Machine/Resume.lean ====
section
/-! DEFINITION. A waiting service goes on: its condition is met, a free sandbox hart takes its script, and the service runs again (R277, R286,
R291). -/

namespace Sys2Proof.Machine

/-! ### Conditions (R277, R291, R449, R461) -/

/-- What the script waits for has come about. Waits that another command ends make the script ready in that command. -/
def waitOver (s : State) (j : Job) (w : Wait) : Bool :=
  match w with
  | .spacing slot => (tget (fun _ => none) s.ord.installed slot).isNone
  | .fence slot => !(s.gran.fences.any (fun f => f.slot == slot))
  | .fenceRoom => decide (s.gran.fences.length < 8)
  | .rng => canDraw s || rngDown s
  | .li e => (liJob s e).st == .ended || (liJob s e).st == .free
  | .culm => s.culm.session
  | .readBack _ => s.culm.session && s.gran.cmd.isNone && !grBusy s
  | .liRoom => (liEntry s).isSome
  | .punt => !(puntsOf s j.domain).isEmpty
  | .timedOut => true

/-- The wait with which order `j` may resume: a ready order in the order of becoming ready, or one whose condition is met (R277, R286). -/
def resumeWait (s : State) (j : Job) : Option Wait :=
  match j.stage with
  | .ready n =>
    if s.ord.jobs.any (fun k => match k.stage with
      | .ready m => decide (m < n)
      | _ => false) then none else some (j.resumed.getD .timedOut)
  | .waiting w => if waitOver s j w then some w else none
  | _ => none

/-! ### The script on its new hart -/

/-- Registers of a waiting script on the hart that takes it; VBASE, SCRATCH, the saved words of levels 2 and 3 and the sources last taken are
the hart's own (R349, R392). -/
def resumedHart (x c : Hart) (i : Nat) (b : Bool) : Hart :=
  { c with vbase := x.vbase, scr := x.scr, sbuf := x.sbuf, late := x.late, ovr := x.ovr, haltReq := x.haltReq, last2 := x.last2, last3 := x.last3,
           fed := none, sv := c.sv.filter (fun e => decide (e.1 < 4)) ++ x.sv.filter (fun e => decide (4 ≤ e.1)), budgetPend := b, job := some i }

/-- The script of order j resumes on hart h with the wait that has ended. -/
def resumeOn (s : State) (h : Nat) (j : Job) (w : Wait) : State :=
  let b := j.lastSvc == 0x72 && w == .timedOut && !(j.kind == 2 && decide (j.res < 0x100))
  let s := modJob s j.id (fun j => { j with stage := .running h, ctx := none, resumed := some w })
  let s := touchColour (setSandboxMpu s h j (j.sandbox.getD 0)) j.domain
  stateChange (setHart s h (resumedHart (hartOf s h) (j.ctx.getD (hartOf s h)) j.id b)) h .running

/-- The service a script waited in, run again from its start. -/
def serviceAgain (s : State) (h : Fin 8) (n : Nat) : State :=
  let o := match n with
    | 0x10 => execScAlloc h s
    | 0x11 => execScFree h s
    | 0x12 => execScModify h s
    | 0x13 => execSaInstall h s
    | 0x14 => execSaErase h s
    | 0x15 => execSaSwitch h s
    | 0x16 => execSaRead h s
    | 0x20 => execKeyLoad h s
    | 0x21 => execKeyGen h s
    | 0x30 => execEmAdd h s
    | 0x31 => execEmDel h s
    | 0x32 => execRuleAdd h s
    | 0x33 => execRuleDel h s
    | 0x34 => execSteerQuery h s
    | 0x38 => execCntRead h s
    | 0x39 => execDomCntRead h s
    | 0x40 => execRandom h s
    | 0x48 => execLiRun h s
    | 0x49 => execLiSubmit h s
    | 0x4A => execLiWait h s
    | 0x60 => execFrameSend h s
    | 0x61 => execFrameRecv h s
    | 0x68 => execPortStatus h s
    | 0x69 => execPortCfg h s
    | 0x6A => execTillerCmd h s
    | 0x72 => execDomQuota h s
    | 0x79 => execAlarmClear h s
    | 0x7A => execFailPolicy h s
    | 0x80 => execLcChallenge h s
    | 0x89 => execCsMount h s
    | 0x8B => execCsArchive h s
    | _ => .next s
  outState o s

/-! ### The ends of a wait -/

/-- The entry that an install of these arguments leaves, but for what the frames since may have moved on. -/
def installTook (s : State) (j : Job) (x : Hart) : Bool :=
  let v := svcArg x 2
  let l := scratchRead s j (svcArg x 3) 32
  let e := slotOf s (saSlot v)
  let k := leNat (keyOf s (leNat (octetsAt l 0 2))).key
  e.valid && e.attr == saAttr v l (scOf s (saDir v) (saSc v)) && e.key == BitVec.ofNat 256 k && e.salt == BitVec.ofNat 96 (leNat (octetsAt l 20 12))

/-- The slot read back after a lost session: OK where the command took effect, NOT_NOW where it did not (R291). -/
def readBackDone (s : State) (h : Nat) (j : Job) (x : Hart) (slot : Nat) : State :=
  let e := slotOf s slot
  if j.lastSvc = 0x13 then
    (if installTook s j x then svcRet (keepCopy s slot) h 0 [slot] else svcRet s h 1 [])
  else svcRet s h (if e.valid then 1 else 0) []

/-- What the script does first on its hart: the end of its service, the service again, or its next instruction where no service waited. -/
def resumeRun (s : State) (h : Fin 8) (j : Job) (w : Wait) : State :=
  let x := hartOf s h
  match x.svc with
  | none => s
  | some n =>
    if !holds s j.fn j.domain then withdrawn (endJob s j 11 0 []) j.fn 1
    else match w with
      | .fence _ => svcRet s h 0 []
      | .readBack slot => readBackDone s h j x slot
      | _ => serviceAgain s h n

/-- A service whose hart waits in it for a granary command: its end, or, the session lost, a wait for the next one (R178, R291). -/
def granResume (s : State) (j : Job) (h slot : Nat) : State :=
  if !s.culm.session then svcWait s h j (.readBack slot)
  else if s.gran.cmd.isNone then granDone s h j slot
  else s

/-- SERVICE_WAIT_RESUME of order i, on hart h where its script holds none. -/
def waitResume (s : State) (i : Nat) (h : Fin 8) : State :=
  match jobOf s i with
  | none => s
  | some j =>
    match j.stage with
    | .gran k slot => if runs s then granResume s j k slot else s
    | _ =>
      if !runs s || !hartFree s h then s
      else match resumeWait s j with
        | none => s
        | some w =>
          let t := resumeOn s h j w
          resumeRun t h ((jobOf t i).getD j) w

def execServiceWaitResume (i : Nat) (h : Fin 8) (s : State) : Out := ok (waitResume s i h)

end Sys2Proof.Machine
end

