-- ==== Sys2Proof/Machine/Dispatch.lean ====
section
/-! DEFINITION. One arm for each command: a direct call of its meaning. -/

namespace Sys2Proof.Machine

def exec (i : Instr) (s : State) : Host.Outcome State Fault Refusal :=
  match i with
  | .registerWrite h addr v => Sys2Proof.Machine.execRegisterWrite h addr v s
  | .loReadLatch req addr => Sys2Proof.Machine.execLoReadLatch req addr s
  | .laneErrorCountRead block lane sym => Sys2Proof.Machine.execLaneErrorCountRead block lane sym s
  | .modeWrite block mode => Sys2Proof.Machine.execModeWrite block mode s
  | .slotEnableWrite block mask => Sys2Proof.Machine.execSlotEnableWrite block mask s
  | .portConfigWrite port v => Sys2Proof.Machine.execPortConfigWrite port v s
  | .laneSignalDetect port side => Sys2Proof.Machine.execLaneSignalDetect port side s
  | .laneLockLoss port side lane signal => Sys2Proof.Machine.execLaneLockLoss port side lane signal s
  | .anComplete port ability => Sys2Proof.Machine.execAnComplete port ability s
  | .trainingComplete port side txeq precode => Sys2Proof.Machine.execTrainingComplete port side txeq precode s
  | .trainingFail port side lane => Sys2Proof.Machine.execTrainingFail port side lane s
  | .alignmentLock port side => Sys2Proof.Machine.execAlignmentLock port side s
  | .upHoldExpiry port side => Sys2Proof.Machine.execUpHoldExpiry port side s
  | .faultReceived port side => Sys2Proof.Machine.execFaultReceived port side s
  | .faultClearExpiry port side => Sys2Proof.Machine.execFaultClearExpiry port side s
  | .fecUncorrectable port side => Sys2Proof.Machine.execFecUncorrectable port side s
  | .fecWindowEnd block => Sys2Proof.Machine.execFecWindowEnd block s
  | .frameArrival port side pcp => Sys2Proof.Machine.execFrameArrival port side pcp s
  | .frameHeadResolve port side octets tableErr => Sys2Proof.Machine.execFrameHeadResolve port side octets tableErr s
  | .frameEnd port side octets fcsOk => Sys2Proof.Machine.execFrameEnd port side octets fcsOk s
  | .frameTxComplete port dir => Sys2Proof.Machine.execFrameTxComplete port dir s
  | .pauseRefreshExpiry port side => Sys2Proof.Machine.execPauseRefreshExpiry port side s
  | .pauseReceived port side classes quanta => Sys2Proof.Machine.execPauseReceived port side classes quanta s
  | .pauseQuantaExpiry port side => Sys2Proof.Machine.execPauseQuantaExpiry port side s
  | .macControlFrame port side => Sys2Proof.Machine.execMacControlFrame port side s
  | .sideGateExpiry block side => Sys2Proof.Machine.execSideGateExpiry block side s
  | .blockIdleExpiry block => Sys2Proof.Machine.execBlockIdleExpiry block s
  | .tillerWakeComplete block => Sys2Proof.Machine.execTillerWakeComplete block s
  | .sidePowerUpComplete block side => Sys2Proof.Machine.execSidePowerUpComplete block side s
  | .fetchGrant port dir ecc => Sys2Proof.Machine.execFetchGrant port dir ecc s
  | .saFetchReturn port dir => Sys2Proof.Machine.execSaFetchReturn port dir s
  | .txanSet sc an => Sys2Proof.Machine.execTxanSet sc an s
  | .emRead stage => Sys2Proof.Machine.execEmRead stage s
  | .emWrite stage => Sys2Proof.Machine.execEmWrite stage s
  | .emHash stage => Sys2Proof.Machine.execEmHash stage s
  | .ruleRead stage => Sys2Proof.Machine.execRuleRead stage s
  | .ruleWrite stage => Sys2Proof.Machine.execRuleWrite stage s
  | .puntPop stage => Sys2Proof.Machine.execPuntPop stage s
  | .puntAgeExpiry stage => Sys2Proof.Machine.execPuntAgeExpiry stage s
  | .puntTokenRefill port => Sys2Proof.Machine.execPuntTokenRefill port s
  | .injectGo stage slot len => Sys2Proof.Machine.execInjectGo stage slot len s
  | .tillerTake t => Sys2Proof.Machine.execTillerTake t s
  | .tillerBlockRelease t miss cnt => Sys2Proof.Machine.execTillerBlockRelease t miss cnt s
  | .reserveLinkCheck pos passed => Sys2Proof.Machine.execReserveLinkCheck pos passed s
  | .quarantineExpiry t => Sys2Proof.Machine.execQuarantineExpiry t s
  | .katComplete t failed mismatch => Sys2Proof.Machine.execKatComplete t failed mismatch s
  | .patrolTick t bad => Sys2Proof.Machine.execPatrolTick t bad s
  | .rotationExpiry => Sys2Proof.Machine.execRotationExpiry s
  | .plannedSwapBoundary pos => Sys2Proof.Machine.execPlannedSwapBoundary pos s
  | .tillerTest t => Sys2Proof.Machine.execTillerTest t s
  | .tillerRetire t => Sys2Proof.Machine.execTillerRetire t s
  | .tillerSwap pos t => Sys2Proof.Machine.execTillerSwap pos t s
  | .stepSet k => Sys2Proof.Machine.execStepSet k s
  | .needRise t need => Sys2Proof.Machine.execNeedRise t need s
  | .stepChangeComplete => Sys2Proof.Machine.execStepChangeComplete s
  | .verdictHead port dir cnt => Sys2Proof.Machine.execVerdictHead port dir cnt s
  | .verdictStartSend port dir => Sys2Proof.Machine.execVerdictStartSend port dir s
  | .sciRead => Sys2Proof.Machine.execSciRead s
  | .sciWrite => Sys2Proof.Machine.execSciWrite s
  | .xferWordWrite n v => Sys2Proof.Machine.execXferWordWrite n v s
  | .install slot => Sys2Proof.Machine.execInstall slot s
  | .installComplete => Sys2Proof.Machine.execInstallComplete s
  | .eraseDrain slot => Sys2Proof.Machine.execEraseDrain slot s
  | .erasePurge slot => Sys2Proof.Machine.execErasePurge slot s
  | .purgeComplete verifyOk => Sys2Proof.Machine.execPurgeComplete verifyOk s
  | .granaryRead slot => Sys2Proof.Machine.execGranaryRead slot s
  | .zeroise => Sys2Proof.Machine.execZeroise s
  | .zeroiseComplete verifyOk => Sys2Proof.Machine.execZeroiseComplete verifyOk s
  | .clearZeroed => Sys2Proof.Machine.execClearZeroed s
  | .drainFencePass => Sys2Proof.Machine.execDrainFencePass s
  | .remaskSweepStart => Sys2Proof.Machine.execRemaskSweepStart s
  | .remaskSlotVisit ecc => Sys2Proof.Machine.execRemaskSlotVisit ecc s
  | .remaskSeedReceive seed => Sys2Proof.Machine.execRemaskSeedReceive seed s
  | .culmSessionStart nonce => Sys2Proof.Machine.execCulmSessionStart nonce s
  | .culmSessionUp nonce => Sys2Proof.Machine.execCulmSessionUp nonce s
  | .culmFlitReceive down tagOk => Sys2Proof.Machine.execCulmFlitReceive down tagOk s
  | .culmLaneFail lane => Sys2Proof.Machine.execCulmLaneFail lane s
  | .culmLaneReplaced => Sys2Proof.Machine.execCulmLaneReplaced s
  | .culmHeartbeatExpiry => Sys2Proof.Machine.execCulmHeartbeatExpiry s
  | .deadmanExpiry => Sys2Proof.Machine.execDeadmanExpiry s
  | .endpointLinkUp e speed width => Sys2Proof.Machine.execEndpointLinkUp e speed width s
  | .endpointLinkDown e => Sys2Proof.Machine.execEndpointLinkDown e s
  | .perstAssert e => Sys2Proof.Machine.execPerstAssert e s
  | .perstDeassert e => Sys2Proof.Machine.execPerstDeassert e s
  | .hotReset e disable => Sys2Proof.Machine.execHotReset e disable s
  | .linkEnWrite e v => Sys2Proof.Machine.execLinkEnWrite e v s
  | .hostReadyWrite e v => Sys2Proof.Machine.execHostReadyWrite e v s
  | .vfEnableWrite e en vfMse ari numVfs => Sys2Proof.Machine.execVfEnableWrite e en vfMse ari numVfs s
  | .busMasterChange f bme mse => Sys2Proof.Machine.execBusMasterChange f bme mse s
  | .powerStateChange f d3 => Sys2Proof.Machine.execPowerStateChange f d3 s
  | .barAccessRefused f write unassigned => Sys2Proof.Machine.execBarAccessRefused f write unassigned s
  | .poisonedWrite f => Sys2Proof.Machine.execPoisonedWrite f s
  | .unexpectedCompletion e => Sys2Proof.Machine.execUnexpectedCompletion e s
  | .ringHello f v => Sys2Proof.Machine.execRingHello f v s
  | .ringEnable f => Sys2Proof.Machine.execRingEnable f s
  | .ringQuiesce f => Sys2Proof.Machine.execRingQuiesce f s
  | .orTailDoorbell f v => Sys2Proof.Machine.execOrTailDoorbell f v s
  | .crHeadDoorbell f v => Sys2Proof.Machine.execCrHeadDoorbell f v s
  | .orderFetch f n => Sys2Proof.Machine.execOrderFetch f n s
  | .orderEntriesArrive f entries err => Sys2Proof.Machine.execOrderEntriesArrive f entries err s
  | .phaseRecheck f octets err => Sys2Proof.Machine.execPhaseRecheck f octets err s
  | .nopEntry f => Sys2Proof.Machine.execNopEntry f s
  | .cancelEntry f => Sys2Proof.Machine.execCancelEntry f s
  | .orderEntry f img buf imgErr bufErr => Sys2Proof.Machine.execOrderEntry f img buf imgErr bufErr s
  | .completionWrite f => Sys2Proof.Machine.execCompletionWrite f s
  | .msixIntervalExpiry f v => Sys2Proof.Machine.execMsixIntervalExpiry f v s
  | .msixUnmask f v => Sys2Proof.Machine.execMsixUnmask f v s
  | .functionLevelReset f => Sys2Proof.Machine.execFunctionLevelReset f s
  | .generationEndComplete f => Sys2Proof.Machine.execGenerationEndComplete f s
  | .logLineFill f word v err => Sys2Proof.Machine.execLogLineFill f word v err s
  | .logFlush v err => Sys2Proof.Machine.execLogFlush v err s
  | .hello f => Sys2Proof.Machine.execHello f s
  | .orderDispatch h => Sys2Proof.Machine.execOrderDispatch h s
  | .budgetExpiry x => Sys2Proof.Machine.execBudgetExpiry x s
  | .serviceWaitResume x h => Sys2Proof.Machine.execServiceWaitResume x h s
  | .rxSpacingExpiry slot => Sys2Proof.Machine.execRxSpacingExpiry slot s
  | .frameRecvTimeout x => Sys2Proof.Machine.execFrameRecvTimeout x s
  | .svcInfo h => Sys2Proof.Machine.execSvcInfo h s
  | .exit h => Sys2Proof.Machine.execExit h s
  | .argRead h data err => Sys2Proof.Machine.execArgRead h data err s
  | .resultWrite h => Sys2Proof.Machine.execResultWrite h s
  | .clock h => Sys2Proof.Machine.execClock h s
  | .scAlloc h => Sys2Proof.Machine.execScAlloc h s
  | .scFree h => Sys2Proof.Machine.execScFree h s
  | .scModify h => Sys2Proof.Machine.execScModify h s
  | .saInstall h => Sys2Proof.Machine.execSaInstall h s
  | .saErase h => Sys2Proof.Machine.execSaErase h s
  | .saSwitch h => Sys2Proof.Machine.execSaSwitch h s
  | .saRead h => Sys2Proof.Machine.execSaRead h s
  | .saExport h => Sys2Proof.Machine.execSaExport h s
  | .keyLoad h => Sys2Proof.Machine.execKeyLoad h s
  | .keyGen h => Sys2Proof.Machine.execKeyGen h s
  | .keyUnwrap h => Sys2Proof.Machine.execKeyUnwrap h s
  | .keyWrap h => Sys2Proof.Machine.execKeyWrap h s
  | .keyDerive h => Sys2Proof.Machine.execKeyDerive h s
  | .cmac h => Sys2Proof.Machine.execCmac h s
  | .keyFree h => Sys2Proof.Machine.execKeyFree h s
  | .emAdd h => Sys2Proof.Machine.execEmAdd h s
  | .emDel h => Sys2Proof.Machine.execEmDel h s
  | .ruleAdd h => Sys2Proof.Machine.execRuleAdd h s
  | .ruleDel h => Sys2Proof.Machine.execRuleDel h s
  | .steerQuery h => Sys2Proof.Machine.execSteerQuery h s
  | .cntRead h => Sys2Proof.Machine.execCntRead h s
  | .domCntRead h => Sys2Proof.Machine.execDomCntRead h s
  | .random h => Sys2Proof.Machine.execRandom h s
  | .liRun h => Sys2Proof.Machine.execLiRun h s
  | .liSubmit h => Sys2Proof.Machine.execLiSubmit h s
  | .liWait h => Sys2Proof.Machine.execLiWait h s
  | .sheafGet h => Sys2Proof.Machine.execSheafGet h s
  | .minuteTick h => Sys2Proof.Machine.execMinuteTick h s
  | .evRead h => Sys2Proof.Machine.execEvRead h s
  | .evSteer h => Sys2Proof.Machine.execEvSteer h s
  | .frameSend h => Sys2Proof.Machine.execFrameSend h s
  | .frameRecv h => Sys2Proof.Machine.execFrameRecv h s
  | .portStatus h => Sys2Proof.Machine.execPortStatus h s
  | .portCfg h => Sys2Proof.Machine.execPortCfg h s
  | .tillerCmd h => Sys2Proof.Machine.execTillerCmd h s
  | .fnGrant h => Sys2Proof.Machine.execFnGrant h s
  | .fnQuery h => Sys2Proof.Machine.execFnQuery h s
  | .domQuota h => Sys2Proof.Machine.execDomQuota h s
  | .fnLogStart h => Sys2Proof.Machine.execFnLogStart h s
  | .fnLogHarvest h => Sys2Proof.Machine.execFnLogHarvest h s
  | .fnLogStop h => Sys2Proof.Machine.execFnLogStop h s
  | .steerGrant h => Sys2Proof.Machine.execSteerGrant h s
  | .alarmStatus h => Sys2Proof.Machine.execAlarmStatus h s
  | .alarmClear h => Sys2Proof.Machine.execAlarmClear h s
  | .failPolicy h => Sys2Proof.Machine.execFailPolicy h s
  | .monitorCfg h => Sys2Proof.Machine.execMonitorCfg h s
  | .rngEnable h => Sys2Proof.Machine.execRngEnable h s
  | .resLoad h => Sys2Proof.Machine.execResLoad h s
  | .resDelete h => Sys2Proof.Machine.execResDelete h s
  | .updateClear h => Sys2Proof.Machine.execUpdateClear h s
  | .updateWrite h => Sys2Proof.Machine.execUpdateWrite h s
  | .updateVerify h agree => Sys2Proof.Machine.execUpdateVerify h agree s
  | .updateSwitch h agree => Sys2Proof.Machine.execUpdateSwitch h agree s
  | .updateCommit h => Sys2Proof.Machine.execUpdateCommit h s
  | .lcStatus h => Sys2Proof.Machine.execLcStatus h s
  | .lcChallenge h => Sys2Proof.Machine.execLcChallenge h s
  | .lcTransition h => Sys2Proof.Machine.execLcTransition h s
  | .lcExercise h => Sys2Proof.Machine.execLcExercise h s
  | .lcKeys h => Sys2Proof.Machine.execLcKeys h s
  | .csStatus h => Sys2Proof.Machine.execCsStatus h s
  | .csMount h => Sys2Proof.Machine.execCsMount h s
  | .csUnmount h => Sys2Proof.Machine.execCsUnmount h s
  | .csArchive h => Sys2Proof.Machine.execCsArchive h s
  | .csRestore h => Sys2Proof.Machine.execCsRestore h s
  | .csExportEvents h => Sys2Proof.Machine.execCsExportEvents h s
  | .csStageImage h => Sys2Proof.Machine.execCsStageImage h s
  | .swap => Sys2Proof.Machine.execSwap s
  | .harvest => Sys2Proof.Machine.execHarvest s
  | .harvestComplete => Sys2Proof.Machine.execHarvestComplete s
  | .clear => Sys2Proof.Machine.execClear s
  | .clearComplete => Sys2Proof.Machine.execClearComplete s
  | .hvHeadWrite v => Sys2Proof.Machine.execHvHeadWrite v s
  | .minuteFallbackExpiry => Sys2Proof.Machine.execMinuteFallbackExpiry s
  | .counterRecordRead => Sys2Proof.Machine.execCounterRecordRead s
  | .stookSigned status => Sys2Proof.Machine.execStookSigned status s
  | .signRetryExpiry => Sys2Proof.Machine.execSignRetryExpiry s
  | .add x rd ra rb => Sys2Proof.Machine.execAdd x rd ra rb s
  | .sub x rd ra rb => Sys2Proof.Machine.execSub x rd ra rb s
  | .and x rd ra rb => Sys2Proof.Machine.execAnd x rd ra rb s
  | .or x rd ra rb => Sys2Proof.Machine.execOr x rd ra rb s
  | .xor x rd ra rb => Sys2Proof.Machine.execXor x rd ra rb s
  | .andn x rd ra rb => Sys2Proof.Machine.execAndn x rd ra rb s
  | .shl x rd ra rb => Sys2Proof.Machine.execShl x rd ra rb s
  | .shr x rd ra rb => Sys2Proof.Machine.execShr x rd ra rb s
  | .sar x rd ra rb => Sys2Proof.Machine.execSar x rd ra rb s
  | .rot x rd ra rb => Sys2Proof.Machine.execRot x rd ra rb s
  | .mins x rd ra rb => Sys2Proof.Machine.execMins x rd ra rb s
  | .maxs x rd ra rb => Sys2Proof.Machine.execMaxs x rd ra rb s
  | .minz x rd ra rb => Sys2Proof.Machine.execMinz x rd ra rb s
  | .maxz x rd ra rb => Sys2Proof.Machine.execMaxz x rd ra rb s
  | .mul x rd ra rb => Sys2Proof.Machine.execMul x rd ra rb s
  | .mulhs x rd ra rb => Sys2Proof.Machine.execMulhs x rd ra rb s
  | .mulhz x rd ra rb => Sys2Proof.Machine.execMulhz x rd ra rb s
  | .divs x rd ra rb => Sys2Proof.Machine.execDivs x rd ra rb s
  | .divz x rd ra rb => Sys2Proof.Machine.execDivz x rd ra rb s
  | .mods x rd ra rb => Sys2Proof.Machine.execMods x rd ra rb s
  | .modz x rd ra rb => Sys2Proof.Machine.execModz x rd ra rb s
  | .clz x rd ra rb => Sys2Proof.Machine.execClz x rd ra rb s
  | .ctz x rd ra rb => Sys2Proof.Machine.execCtz x rd ra rb s
  | .popc x rd ra rb => Sys2Proof.Machine.execPopc x rd ra rb s
  | .bswap x rd ra rb => Sys2Proof.Machine.execBswap x rd ra rb s
  | .addk x rd ra imm => Sys2Proof.Machine.execAddk x rd ra imm s
  | .andk x rd ra imm => Sys2Proof.Machine.execAndk x rd ra imm s
  | .ork x rd ra imm => Sys2Proof.Machine.execOrk x rd ra imm s
  | .xork x rd ra imm => Sys2Proof.Machine.execXork x rd ra imm s
  | .shlk x rd ra k z => Sys2Proof.Machine.execShlk x rd ra k z s
  | .shrk x rd ra k z => Sys2Proof.Machine.execShrk x rd ra k z s
  | .sark x rd ra k z => Sys2Proof.Machine.execSark x rd ra k z s
  | .rotk x rd ra k z => Sys2Proof.Machine.execRotk x rd ra k z s
  | .kset x rd imm => Sys2Proof.Machine.execKset x rd imm s
  | .khi x rd imm => Sys2Proof.Machine.execKhi x rd imm s
  | .klo x rd imm => Sys2Proof.Machine.execKlo x rd imm s
  | .cmp x pd mode ra rb cond z => Sys2Proof.Machine.execCmp x pd mode ra rb cond z s
  | .cmpi x pd mode ra cond imm => Sys2Proof.Machine.execCmpi x pd mode ra cond imm s
  | .pand x pd pa pb z => Sys2Proof.Machine.execPand x pd pa pb z s
  | .por x pd pa pb z => Sys2Proof.Machine.execPor x pd pa pb z s
  | .pxor x pd pa pb z => Sys2Proof.Machine.execPxor x pd pa pb z s
  | .pandn x pd pa pb z => Sys2Proof.Machine.execPandn x pd pa pb z s
  | .pnot x pd pa pb z => Sys2Proof.Machine.execPnot x pd pa pb z s
  | .rd8s x rd ra imm res => Sys2Proof.Machine.execRd8s x rd ra imm res s
  | .rd8z x rd ra imm res => Sys2Proof.Machine.execRd8z x rd ra imm res s
  | .rd16s x rd ra imm res => Sys2Proof.Machine.execRd16s x rd ra imm res s
  | .rd16z x rd ra imm res => Sys2Proof.Machine.execRd16z x rd ra imm res s
  | .rd32 x rd ra imm res => Sys2Proof.Machine.execRd32 x rd ra imm res s
  | .wr8 x rs ra imm tag => Sys2Proof.Machine.execWr8 x rs ra imm tag s
  | .wr16 x rs ra imm tag => Sys2Proof.Machine.execWr16 x rs ra imm tag s
  | .wr32 x rs ra imm tag => Sys2Proof.Machine.execWr32 x rs ra imm tag s
  | .xchg x rd ra rb res => Sys2Proof.Machine.execXchg x rd ra rb res s
  | .cas x rd ra rb res => Sys2Proof.Machine.execCas x rd ra rb res s
  | .b x off => Sys2Proof.Machine.execB x off s
  | .call x off => Sys2Proof.Machine.execCall x off s
  | .jmpr x rd ra rb => Sys2Proof.Machine.execJmpr x rd ra rb s
  | .callr x rd ra rb => Sys2Proof.Machine.execCallr x rd ra rb s
  | .mfc x r z creg => Sys2Proof.Machine.execMfc x r z creg s
  | .mtc x r z creg => Sys2Proof.Machine.execMtc x r z creg s
  | .msc x r z creg => Sys2Proof.Machine.execMsc x r z creg s
  | .mcc x r z creg => Sys2Proof.Machine.execMcc x r z creg s
  | .loop x n ra len => Sys2Proof.Machine.execLoop x n ra len s
  | .loopi x n cnt len => Sys2Proof.Machine.execLoopi x n cnt len s
  | .bcopy x rd ra rb func n res => Sys2Proof.Machine.execBcopy x rd ra rb func n res s
  | .bfill x rd ra rb func n res => Sys2Proof.Machine.execBfill x rd ra rb func n res s
  | .bcomp x rd ra rb func n res => Sys2Proof.Machine.execBcomp x rd ra rb func n res s
  | .bxor x rd ra rb func n res => Sys2Proof.Machine.execBxor x rd ra rb func n res s
  | .bscan x rd ra rb func n res => Sys2Proof.Machine.execBscan x rd ra rb func n res s
  | .svc x imm => Sys2Proof.Machine.execSvc x imm s
  | .barrier x imm => Sys2Proof.Machine.execBarrier x imm s
  | .atomic x imm => Sys2Proof.Machine.execAtomic x imm s
  | .endatomic x imm => Sys2Proof.Machine.execEndatomic x imm s
  | .eret x imm => Sys2Proof.Machine.execEret x imm s
  | .wait x imm => Sys2Proof.Machine.execWait x imm s
  | .brk x imm => Sys2Proof.Machine.execBrk x imm s
  | .storeDrain h res => Sys2Proof.Machine.execStoreDrain h res s
  | .atomicWindowExpiry h => Sys2Proof.Machine.execAtomicWindowExpiry h s
  | .interruptTake h => Sys2Proof.Machine.execInterruptTake h s
  | .asyncCauseTake h => Sys2Proof.Machine.execAsyncCauseTake h s
  | .hartParityError h unit => Sys2Proof.Machine.execHartParityError h unit s
  | .waitWake h => Sys2Proof.Machine.execWaitWake h s
  | .hartHalt w h => Sys2Proof.Machine.execHartHalt w h s
  | .haltComplete h => Sys2Proof.Machine.execHaltComplete h s
  | .hartResume w h => Sys2Proof.Machine.execHartResume w h s
  | .hartRestart w h => Sys2Proof.Machine.execHartRestart w h s
  | .hartRetire w h => Sys2Proof.Machine.execHartRetire w h s
  | .hartRaise h v => Sys2Proof.Machine.execHartRaise h v s
  | .hartClaim h => Sys2Proof.Machine.execHartClaim h s
  | .evRaise v => Sys2Proof.Machine.execEvRaise v s
  | .routeWrite src v => Sys2Proof.Machine.execRouteWrite src v s
  | .pllIdleStop => Sys2Proof.Machine.execPllIdleStop s
  | .recolourAll => Sys2Proof.Machine.execRecolourAll s
  | .recolourIf => Sys2Proof.Machine.execRecolourIf s
  | .wipe => Sys2Proof.Machine.execWipe s
  | .recolourComplete => Sys2Proof.Machine.execRecolourComplete s
  | .dmaGo c => Sys2Proof.Machine.execDmaGo c s
  | .dmaPause c => Sys2Proof.Machine.execDmaPause c s
  | .dmaResume c => Sys2Proof.Machine.execDmaResume c s
  | .dmaAbort c => Sys2Proof.Machine.execDmaAbort c s
  | .dmaBeat c src dst => Sys2Proof.Machine.execDmaBeat c src dst s
  | .dmaHostCompletion c k stale data err => Sys2Proof.Machine.execDmaHostCompletion c k stale data err s
  | .jobSubmit j => Sys2Proof.Machine.execJobSubmit j s
  | .jobAbort j => Sys2Proof.Machine.execJobAbort j s
  | .jobResume j => Sys2Proof.Machine.execJobResume j s
  | .jobFree j => Sys2Proof.Machine.execJobFree j s
  | .liLoadComplete j cycles res => Sys2Proof.Machine.execLiLoadComplete j cycles res s
  | .liYield cycles => Sys2Proof.Machine.execLiYield cycles s
  | .liComputeComplete iter => Sys2Proof.Machine.execLiComputeComplete iter s
  | .liStoreComplete j cycles res => Sys2Proof.Machine.execLiStoreComplete j cycles res s
  | .liContextHoldExpiry => Sys2Proof.Machine.execLiContextHoldExpiry s
  | .liNeedRise need => Sys2Proof.Machine.execLiNeedRise need s
  | .liStepSet v => Sys2Proof.Machine.execLiStepSet v s
  | .rngSampleTick samples => Sys2Proof.Machine.execRngSampleTick samples s
  | .rngFreqWindow counts => Sys2Proof.Machine.execRngFreqWindow counts s
  | .rngStartupComplete katOk => Sys2Proof.Machine.execRngStartupComplete katOk s
  | .retry => Sys2Proof.Machine.execRetry s
  | .reseed => Sys2Proof.Machine.execReseed s
  | .reinstantiate => Sys2Proof.Machine.execReinstantiate s
  | .enable => Sys2Proof.Machine.execEnable s
  | .rngRetryExpiry => Sys2Proof.Machine.execRngRetryExpiry s
  | .autoReseed => Sys2Proof.Machine.execAutoReseed s
  | .reseedComplete => Sys2Proof.Machine.execReseedComplete s
  | .drbgCall => Sys2Proof.Machine.execDrbgCall s
  | .rngPortRequest k n => Sys2Proof.Machine.execRngPortRequest k n s
  | .rngDataRead k => Sys2Proof.Machine.execRngDataRead k s
  | .flashKeyWrite h v => Sys2Proof.Machine.execFlashKeyWrite h v s
  | .flashSequenceStep h isAddr v => Sys2Proof.Machine.execFlashSequenceStep h isAddr v s
  | .flashDataWrite h w v => Sys2Proof.Machine.execFlashDataWrite h w v s
  | .program pulses verifyOk => Sys2Proof.Machine.execProgram pulses verifyOk s
  | .erase pulses verifyOk => Sys2Proof.Machine.execErase pulses verifyOk s
  | .move => Sys2Proof.Machine.execMove s
  | .release pulses bad => Sys2Proof.Machine.execRelease pulses bad s
  | .flashSeqTimeout => Sys2Proof.Machine.execFlashSeqTimeout s
  | .flashOpComplete => Sys2Proof.Machine.execFlashOpComplete s
  | .retentionDailyCheck => Sys2Proof.Machine.execRetentionDailyCheck s
  | .powerGoodRise ownOk => Sys2Proof.Machine.execPowerGoodRise ownOk s
  | .powerGoodFall pageDone => Sys2Proof.Machine.execPowerGoodFall pageDone s
  | .resetPin => Sys2Proof.Machine.execResetPin s
  | .resetCommand => Sys2Proof.Machine.execResetCommand s
  | .dormantCommand => Sys2Proof.Machine.execDormantCommand s
  | .holdNLow => Sys2Proof.Machine.execHoldNLow s
  | .holdNHigh => Sys2Proof.Machine.execHoldNHigh s
  | .smbusVersion => Sys2Proof.Machine.execSmbusVersion s
  | .smbusMode => Sys2Proof.Machine.execSmbusMode s
  | .smbusCause => Sys2Proof.Machine.execSmbusCause s
  | .smbusTemp line ctl => Sys2Proof.Machine.execSmbusTemp line ctl s
  | .dormantReq data => Sys2Proof.Machine.execDormantReq data s
  | .wake data => Sys2Proof.Machine.execWake data s
  | .startPllLocked a b => Sys2Proof.Machine.execStartPllLocked a b s
  | .startWipeComplete fails => Sys2Proof.Machine.execStartWipeComplete fails s
  | .lcDecode dis => Sys2Proof.Machine.execLcDecode dis s
  | .pufRegen gen other repeated worst => Sys2Proof.Machine.execPufRegen gen other repeated worst s
  | .stewardAccept slot dis => Sys2Proof.Machine.execStewardAccept slot dis s
  | .serdesCalibrationComplete cfg => Sys2Proof.Machine.execSerdesCalibrationComplete cfg s
  | .startServiceEntry => Sys2Proof.Machine.execStartServiceEntry s
  | .pllLockLoss d => Sys2Proof.Machine.execPllLockLoss d s
  | .pllRetryExpiry d locked => Sys2Proof.Machine.execPllRetryExpiry d locked s
  | .pufRefresh => Sys2Proof.Machine.execPufRefresh s
  | .pufRefreshComplete => Sys2Proof.Machine.execPufRefreshComplete s
  | .pufCheck => Sys2Proof.Machine.execPufCheck s
  | .pufCheckComplete worst same => Sys2Proof.Machine.execPufCheckComplete worst same s
  | .dormantSealTimeout => Sys2Proof.Machine.execDormantSealTimeout s
  | .dormantEntry => Sys2Proof.Machine.execDormantEntry s
  | .vbatLow => Sys2Proof.Machine.execVbatLow s
  | .loopSample bad => Sys2Proof.Machine.execLoopSample bad s
  | .monitorTrip ms => Sys2Proof.Machine.execMonitorTrip ms s
  | .assertedClearExpiry m cond => Sys2Proof.Machine.execAssertedClearExpiry m cond s
  | .alarmRaise level reason => Sys2Proof.Machine.execAlarmRaise level reason s
  | .shadowMismatch a => Sys2Proof.Machine.execShadowMismatch a s
  | .tamperLogAppend => Sys2Proof.Machine.execTamperLogAppend s
  | .tamperMirrorUpdate => Sys2Proof.Machine.execTamperMirrorUpdate s
  | .logTokenRefill => Sys2Proof.Machine.execLogTokenRefill s
  | .recorderAccept => Sys2Proof.Machine.execRecorderAccept s
  | .recorderQuarterMirror => Sys2Proof.Machine.execRecorderQuarterMirror s
  | .recorderTokenRefill => Sys2Proof.Machine.execRecorderTokenRefill s
  | .msixTokenRefill f v => Sys2Proof.Machine.execMsixTokenRefill f v s
  | .lcIntent t => Sys2Proof.Machine.execLcIntent t s
  | .lcCommit => Sys2Proof.Machine.execLcCommit s
  | .lcVoid => Sys2Proof.Machine.execLcVoid s
  | .lcPair => Sys2Proof.Machine.execLcPair s
  | .otpBurnComplete got => Sys2Proof.Machine.execOtpBurnComplete got s
  | .extest => Sys2Proof.Machine.execExtest s
  | .samplePreload => Sys2Proof.Machine.execSamplePreload s
  | .idcode => Sys2Proof.Machine.execIdcode s
  | .dbgChal => Sys2Proof.Machine.execDbgChal s
  | .dbgResp octets agree => Sys2Proof.Machine.execDbgResp octets agree s
  | .dbgCmd c => Sys2Proof.Machine.execDbgCmd c s
  | .dbgLock => Sys2Proof.Machine.execDbgLock s
  | .bypass => Sys2Proof.Machine.execBypass s
  | .fieldRise strong ownOk => Sys2Proof.Machine.execFieldRise strong ownOk s
  | .fieldCollapse pageDone => Sys2Proof.Machine.execFieldCollapse pageDone s
  | .reqa ownOk => Sys2Proof.Machine.execReqa ownOk s
  | .wupa ownOk => Sys2Proof.Machine.execWupa ownOk s
  | .anticollision n v ownOk => Sys2Proof.Machine.execAnticollision n v ownOk s
  | .select v ownOk => Sys2Proof.Machine.execSelect v ownOk s
  | .hlta ownOk => Sys2Proof.Machine.execHlta ownOk s
  | .rats fsdi ownOk => Sys2Proof.Machine.execRats fsdi ownOk s
  | .pps ownOk => Sys2Proof.Machine.execPps ownOk s
  | .sDeselect ownOk => Sys2Proof.Machine.execSDeselect ownOk s
  | .tagProtocolError ownOk => Sys2Proof.Machine.execTagProtocolError ownOk s
  | .wtxExpiry => Sys2Proof.Machine.execWtxExpiry s
  | .tagHello v => Sys2Proof.Machine.execTagHello v s
  | .identity => Sys2Proof.Machine.execIdentity s
  | .summary => Sys2Proof.Machine.execSummary s
  | .counters => Sys2Proof.Machine.execCounters s
  | .increment c amount => Sys2Proof.Machine.execIncrement c amount s
  | .inboxRead off len => Sys2Proof.Machine.execInboxRead off len s
  | .inboxStage off data => Sys2Proof.Machine.execInboxStage off data s
  | .inboxCommit len crc => Sys2Proof.Machine.execInboxCommit len crc s
  | .nvmPageWriteComplete verifyOk => Sys2Proof.Machine.execNvmPageWriteComplete verifyOk s
  | .tgWrite kind => Sys2Proof.Machine.execTgWrite kind s
  | .tgIncrement c => Sys2Proof.Machine.execTgIncrement c s
  | .tgRead kind => Sys2Proof.Machine.execTgRead kind s
  | .cardInsert wp => Sys2Proof.Machine.execCardInsert wp s
  | .cardRemoval => Sys2Proof.Machine.execCardRemoval s
  | .sdCommand index resp data toCard => Sys2Proof.Machine.execSdCommand index resp data toCard s
  | .sdCommandComplete code blocks resp octets => Sys2Proof.Machine.execSdCommandComplete code blocks resp octets s
  | .sdBusyEnd => Sys2Proof.Machine.execSdBusyEnd s
  | .sdBusyTimeout => Sys2Proof.Machine.execSdBusyTimeout s
  | .acmd41RetryExpiry => Sys2Proof.Machine.execAcmd41RetryExpiry s
  | .probationArm secs => Sys2Proof.Machine.execProbationArm secs s
  | .probationDisarm => Sys2Proof.Machine.execProbationDisarm s
  | .probationExpiry => Sys2Proof.Machine.execProbationExpiry s
  | .sramRemap bank row => Sys2Proof.Machine.execSramRemap bank row s
  | .lineRemap mem unit row => Sys2Proof.Machine.execLineRemap mem unit row s
  | .remapComplete line => Sys2Proof.Machine.execRemapComplete line s
  | .completionTimeout x => Sys2Proof.Machine.execCompletionTimeout x s
  | .malformedTlp e x down => Sys2Proof.Machine.execMalformedTlp e x down s
  | .harvestStall => Sys2Proof.Machine.execHarvestStall s
  | .vbatOkChange v => Sys2Proof.Machine.execVbatOkChange v s

end Sys2Proof.Machine
end

