-- ==== Sys2Proof/Safety.lean ====
section
/-! DEFINITION. What a safe run is, and the conditions under which a command has its own effect, in the terms statements use. -/

namespace Sys2Proof.Safety

open Sys2Proof.Machine

/-- A command completes: its meaning answers a next state. -/
def Completes (i : Instr) (s : State) : Prop := ∃ t, exec i s = .next t

/-- A command completes with a state of which P holds. -/
def Yields (i : Instr) (s : State) (P : State → Prop) : Prop := ∃ t, exec i s = .next t ∧ P t

/-- The canonical form of SRAM, a ladder level that exists, and the latch set at LOCKDOWN (R537, R540). -/
def Inv (s : State) : Prop := tblWf (fun _ => 0) s.sram = true ∧ s.level ≤ 5 ∧ (s.level = 5 → s.tm.latch = true)

/-- Order j's script waits on hart h inside service n with its stores drained, its domain is held, and neither the ladder nor the
caller class stops the call (R278 steps 1 to 3); `op` marks an operator service. -/
def InService (s : State) (h n : Nat) (op : Bool) (j : Job) : Prop :=
  (hartOf s h).svc = some n ∧ (hartOf s h).sbuf = [] ∧ hstOf s h = .running ∧ (hartOf s h).job.bind (jobOf s) = some j ∧
  j.stage = .running h ∧ holds s j.fn j.domain = true ∧ svcLocked s (if j.resumed.isSome then 0 else j.domain) n = false ∧
  (op = true → j.domain = 0)

/-- Hart i.h may issue, its fetch succeeds and leaves state t, and the guard lets the instruction run (R333). -/
def Issues (s t : State) (i : Issue) : Prop :=
  mayIssue s i.h = true ∧ fetchAt s i.h i.fetch = (t, none) ∧ i.guard ≠ 1 ∧ guardOk (hartOf t i.h) i.guard = true

/-- A string instruction k issues: its encoding is legal under the hart's LOOPMODE, and its pointers are multiples of the element size (R352 to R354). -/
def StrIssues (s t : State) (i : Issue) (k : Str) (rd ra rb func : Nat) : Prop :=
  Issues s t i ∧ strBad (hartOf s i.h) k rd ra rb func = false ∧
  (k.pointers rd ra).find? (fun r => decide ((gget (hartOf t i.h) r).toNat % strSize func ≠ 0)) = none

/-- The instruction issues at the level of its hart, which the fetch does not change. -/
def IssuesAt (s t : State) (i : Issue) (level : Nat) : Prop :=
  Issues s t i ∧ (hartOf s i.h).fed = none ∧ (hartOf s i.h).level = level

end Sys2Proof.Safety
end

