-- ==== Sys2Proof/Certificates/Slice0/Obligations.lean ====
section
/-! DEFINITION. The statements for the provers, from the rules of the spec. -/

open Sys2Proof Sys2Proof.Machine Sys2Proof.Safety



/-! ### The Rhaby hart: arithmetic, constants and predicates -/

/-- An instruction that issues and writes g[rd] completes with the value of R336 to R338 there, PC past the loop test and INSTRET counted:
the three-register group (R336). -/
def Claims.AluThreeRegister : Prop :=
  ∀ (s t : State) (i : Issue) (rd ra rb : Fin 32), Issues s t i →
    let x := hartOf t i.h
    let a := gget x ra
    let b := gget x rb
    let n := b.toNat % 32
    let done := fun v : W32 => Host.Outcome.next (φ := Fault) (ρ := Refusal) (completeNext t i.h (gset x rd v))
    exec (.add i rd ra rb) s = done (a + b) ∧ exec (.sub i rd ra rb) s = done (a - b) ∧
    exec (.and i rd ra rb) s = done (a &&& b) ∧ exec (.or i rd ra rb) s = done (a ||| b) ∧
    exec (.xor i rd ra rb) s = done (a ^^^ b) ∧ exec (.andn i rd ra rb) s = done (a &&& ~~~b) ∧
    exec (.shl i rd ra rb) s = done (a <<< n) ∧ exec (.shr i rd ra rb) s = done (a >>> n) ∧
    exec (.sar i rd ra rb) s = done (a.sshiftRight n) ∧ exec (.rot i rd ra rb) s = done (a.rotateRight n) ∧
    exec (.mins i rd ra rb) s = done (if b.slt a then b else a) ∧ exec (.maxs i rd ra rb) s = done (if a.slt b then b else a) ∧
    exec (.minz i rd ra rb) s = done (if b.ult a then b else a) ∧ exec (.maxz i rd ra rb) s = done (if a.ult b then b else a) ∧
    exec (.mul i rd ra rb) s = done (BitVec.ofNat 32 (a.toNat * b.toNat)) ∧
    exec (.mulhs i rd ra rb) s = done (BitVec.ofInt 32 (a.toInt * b.toInt / 2 ^ 32)) ∧
    exec (.mulhz i rd ra rb) s = done (BitVec.ofNat 32 (a.toNat * b.toNat / 2 ^ 32)) ∧
    (b = 0 → exec (.divs i rd ra rb) s = done 0 ∧ exec (.divz i rd ra rb) s = done 0 ∧
      exec (.mods i rd ra rb) s = done a ∧ exec (.modz i rd ra rb) s = done a) ∧
    (b ≠ 0 → exec (.divz i rd ra rb) s = done (a / b) ∧ exec (.modz i rd ra rb) s = done (a % b)) ∧
    (a = 0x80000000 → b = 0xFFFFFFFF → exec (.divs i rd ra rb) s = done 0x7FFFFFFF ∧ exec (.mods i rd ra rb) s = done 0) ∧
    (b ≠ 0 → ¬(a = 0x80000000 ∧ b = 0xFFFFFFFF) →
      exec (.divs i rd ra rb) s = done (BitVec.ofInt 32 (a.toInt.tdiv b.toInt)) ∧
      exec (.mods i rd ra rb) s = done (BitVec.ofInt 32 (a.toInt.tmod b.toInt))) ∧
    (rb = 0 →
      exec (.clz i rd ra rb) s = done (w32 (clz a)) ∧ exec (.ctz i rd ra rb) s = done (w32 (ctz a)) ∧
      exec (.popc i rd ra rb) s = done (w32 (popc a)) ∧ exec (.bswap i rd ra rb) s = done (bswap a))

/-- The immediate and shift-by-constant groups (R337): immediates are sign-extended, shift amounts are 0 to 31 and bits [11:7] zero. -/
def Claims.AluImmediate : Prop :=
  ∀ (s t : State) (i : Issue) (rd ra k : Fin 32) (imm : BitVec 12), Issues s t i →
    let x := hartOf t i.h
    let a := gget x ra
    let b := imm.signExtend 32
    let done := fun v : W32 => Host.Outcome.next (φ := Fault) (ρ := Refusal) (completeNext t i.h (gset x rd v))
    exec (.addk i rd ra imm) s = done (a + b) ∧ exec (.andk i rd ra imm) s = done (a &&& b) ∧
    exec (.ork i rd ra imm) s = done (a ||| b) ∧ exec (.xork i rd ra imm) s = done (a ^^^ b) ∧
    exec (.shlk i rd ra k 0) s = done (a <<< k.val) ∧ exec (.shrk i rd ra k 0) s = done (a >>> k.val) ∧
    exec (.sark i rd ra k 0) s = done (a.sshiftRight k.val) ∧ exec (.rotk i rd ra k 0) s = done (a.rotateRight k.val)

/-- R338: KSET, KHI and KLO, the reserved bit of KHI and KLO, which is ILLEGAL when set, and the pair KHI, KLO, which forms every 32-bit
constant. -/
def Obligations.ConstantInstructions : Prop :=
  (∀ (s t : State) (i : Issue) (rd : Fin 32) (imm : BitVec 17), Issues s t i →
    let x := hartOf t i.h
    let low := imm.toNat % 65536
    let done := fun v : W32 => Host.Outcome.next (φ := Fault) (ρ := Refusal) (completeNext t i.h (gset x rd v))
    exec (.kset i rd imm) s = done (imm.signExtend 32) ∧
    (imm.getLsbD 16 = false → exec (.khi i rd imm) s = done (BitVec.ofNat 32 (low * 65536)) ∧
      exec (.klo i rd imm) s = done (gget x rd ||| BitVec.ofNat 32 low)) ∧
    (imm.getLsbD 16 = true →
      exec (.khi i rd imm) s = .next (fault t i.h 1 x.pc (encU i.guard 0x08 rd imm.toNat) 0 0) ∧
      exec (.klo i rd imm) s = .next (fault t i.h 1 x.pc (encU i.guard 0x09 rd imm.toNat) 0 0))) ∧
  (∀ imm : BitVec 17, -65536 ≤ (imm.signExtend 32).toInt ∧ (imm.signExtend 32).toInt ≤ 65535) ∧
  (∀ v : W32, ∃ hi lo : BitVec 17, hi.getLsbD 16 = false ∧ lo.getLsbD 16 = false ∧
    BitVec.ofNat 32 (hi.toNat % 65536 * 65536) ||| BitVec.ofNat 32 (lo.toNat % 65536) = v)

/-- Comparisons and predicate logic complete with the value of R339 and R340 in p[pd]. -/
def Claims.Predicates : Prop :=
  ∀ (s t : State) (i : Issue) (pd pa pb : Fin 8) (ra rb : Fin 32) (mode : Fin 4) (cond : Fin 16) (imm : BitVec 8), Issues s t i →
    let x := hartOf t i.h
    let done := fun v : Bool => Host.Outcome.next (φ := Fault) (ρ := Refusal) (completeNext t i.h (pset x pd v))
    let mix := fun c : Bool => if mode = 0 then c else if mode = 1 then pget x pd && c else pget x pd || c
    (mode ≠ 3 → cond.val < 12 →
      exec (.cmp i pd mode ra rb cond 0) s = done (mix (condOf cond (gget x ra) (gget x rb))) ∧
      exec (.cmpi i pd mode ra cond imm) s = done (mix (condOf cond (gget x ra) (imm.signExtend 32)))) ∧
    exec (.pand i pd pa pb 0) s = done (pget x pa && pget x pb) ∧ exec (.por i pd pa pb 0) s = done (pget x pa || pget x pb) ∧
    exec (.pxor i pd pa pb 0) s = done (xor (pget x pa) (pget x pb)) ∧ exec (.pandn i pd pa pb 0) s = done (pget x pa && !pget x pb) ∧
    exec (.pnot i pd pa 0 0) s = done (!pget x pa)

/-- The arithmetic, immediate and predicate groups: each instruction that issues completes with the value its rule gives (R336, R337, R339, R340). -/
def Obligations.Arithmetic : Prop := Claims.AluThreeRegister ∧ Claims.AluImmediate ∧ Claims.Predicates

/-- R329: g0 reads 0 and p0 reads 1; a write to either is discarded, and an instruction that names g0 or p0 as its destination is carried out
in full all the same: it completes, with the hart as a write elsewhere would leave it but for the write. -/
def Obligations.GZeroAndPZero : Prop :=
  (∀ x : Hart, gget x 0 = 0 ∧ pget x 0 = true) ∧ (∀ (x : Hart) (v : W32), gset x 0 v = x) ∧ (∀ (x : Hart) (b : Bool), pset x 0 b = x) ∧
  (∀ (s t : State) (i : Issue) (ra rb : Fin 32) (pa pb : Fin 8) (z : Nat) (l : List Byte) (imm : BitVec 12) (u : State), Issues s t i →
    let x := hartOf t i.h
    exec (.add i 0 ra rb) s = .next (completeNext t i.h x) ∧ exec (.pand i 0 pa pb 0) s = .next (completeNext t i.h x) ∧
    (inRegs (effAddr x ra imm) = false → hartLoad t i.h x .load (effAddr x ra imm) 4 .ok = (u, .val l) →
      exec (.rd32 i 0 ra imm .ok) s = .next (completeNext u i.h x)) ∧
    (z ≤ 4 → hartLoad t i.h x .load (effAddr x ra imm) 4 .ok = (u, .bad z) → inRegs (effAddr x ra imm) = false →
      exec (.rd32 i 0 ra imm .ok) s = .next (fault (setHart u i.h x) i.h z x.pc (w32 (effAddr x ra imm)) 2 4)))



/-! ### The Rhaby hart: memory -/

/-- A load whose access is answered with octets l completes with them in g[rd], sign- or zero-extended (R341); the address is g[ra] plus the
sign-extended immediate. One whose access fails a check or is answered with an error is a precise fault with ACCESS LOAD (R342, R373). -/
def Claims.Loads : Prop :=
  ∀ (s t u : State) (i : Issue) (rd ra : Fin 32) (imm : BitVec 12) (res : MemRes) (l : List Byte) (c : Nat), Issues s t i →
    let x := hartOf t i.h
    let a := (gget x ra + imm.signExtend 32).toNat
    let v := leNat l
    let done := fun v : W32 => Host.Outcome.next (φ := Fault) (ρ := Refusal) (completeNext u i.h (gset x rd v))
    let bad := fun z : Nat => Host.Outcome.next (φ := Fault) (ρ := Refusal) (fault (setHart u i.h x) i.h c x.pc (BitVec.ofNat 32 a) 2 z)
    (hartLoad t i.h x .load a 1 res = (u, .val l) →
      exec (.rd8s i rd ra imm res) s = done ((BitVec.ofNat 8 v).signExtend 32) ∧
      exec (.rd8z i rd ra imm res) s = done (BitVec.ofNat 32 v)) ∧
    (hartLoad t i.h x .load a 2 res = (u, .val l) →
      exec (.rd16s i rd ra imm res) s = done ((BitVec.ofNat 16 v).signExtend 32) ∧
      exec (.rd16z i rd ra imm res) s = done (BitVec.ofNat 32 v)) ∧
    (inRegs a = false → hartLoad t i.h x .load a 4 res = (u, .val l) → exec (.rd32 i rd ra imm res) s = done (BitVec.ofNat 32 v)) ∧
    (hartLoad t i.h x .load a 1 res = (u, .bad c) → exec (.rd8s i rd ra imm res) s = bad 1 ∧ exec (.rd8z i rd ra imm res) s = bad 1) ∧
    (hartLoad t i.h x .load a 2 res = (u, .bad c) → exec (.rd16s i rd ra imm res) s = bad 2 ∧ exec (.rd16z i rd ra imm res) s = bad 2) ∧
    (inRegs a = false → hartLoad t i.h x .load a 4 res = (u, .bad c) → exec (.rd32 i rd ra imm res) s = bad 4)

/-- A load of SRAM by a hart whose store buffer holds nothing there, through a region that permits it with the granule's colour, is answered
with the octets of SRAM at its address and changes nothing else (R342 to R345, R401 to R407). -/
def Claims.LoadFromSram : Prop :=
  ∀ (s : State) (h r a z : Nat) (x : Hart),
    (z = 1 ∨ z = 2 ∨ z = 4) → inSram a = true → a % z = 0 → region s h a = some r → permits s h r .load (x.level == 0) = true →
    colourOf s h r (x.level == 0) ≠ 0 → tget (fun _ => false) s.badTag (granule a) = false →
    tget (fun _ => 0) s.tags (granule a) = colourOf s h r (x.level == 0) → tget (fun _ => false) s.badLane (memLane a) = false →
    (∀ e ∈ x.sbuf, a + z ≤ e.addr ∨ e.addr + e.size ≤ a) →
    hartLoad s h x .load a z .ok = (s, .val (memRead s a z))

/-- A store that passes its checks with room in the buffer of 8 completes with its octets as the youngest entry, at its level; nothing is
written to memory yet (R341, R344). -/
def Claims.Stores : Prop :=
  ∀ (s t u : State) (i : Issue) (rs ra : Fin 32) (imm : BitVec 12) (tag : MemRes), Issues s t i →
    let x := hartOf t i.h
    let a := (gget x ra + imm.signExtend 32).toNat
    let put := fun (z : Nat) (v : W32) =>
      Host.Outcome.next (φ := Fault) (ρ := Refusal) (completeNext u i.h { x with sbuf := x.sbuf ++ [⟨a, z, v, x.level⟩] })
    x.sbuf.length < 8 →
    (hartCheck t i.h x .store a 1 tag = (u, none) → exec (.wr8 i rs ra imm tag) s = put 1 (gget x rs &&& 0xFF)) ∧
    (hartCheck t i.h x .store a 2 tag = (u, none) → exec (.wr16 i rs ra imm tag) s = put 2 (gget x rs &&& 0xFFFF)) ∧
    (hartCheck t i.h x .store a 4 tag = (u, none) → exec (.wr32 i rs ra imm tag) s = put 4 (gget x rs))

/-- XCHG and CAS with the store buffer empty: the word of SRAM goes to g[rd], and g[rb] is written to it, by CAS only where the word equals
g[rd] (R346). -/
def Claims.Atomics : Prop :=
  ∀ (s t u : State) (i : Issue) (rd ra rb : Fin 32) (res : MemRes), Issues s t i →
    let x := hartOf t i.h
    let a := (gget x ra).toNat
    let old := BitVec.ofNat 32 (leNat (memRead u a 4))
    x.sbuf = [] → (hartCheck t i.h x .amo a 4 res).2 = none → sramLane (hartCheck t i.h x .amo a 4 res).1 a res = (u, true) →
    exec (.xchg i rd ra rb res) s = .next (completeNext (memWrite u a (leBytes 4 (gget x rb).toNat)) i.h (gset x rd old)) ∧
    (old = gget x rd →
      exec (.cas i rd ra rb res) s = .next (completeNext (memWrite u a (leBytes 4 (gget x rb).toNat)) i.h (gset x rd old))) ∧
    (old ≠ gget x rd → exec (.cas i rd ra rb res) s = .next (completeNext u i.h (gset x rd old)))

/-- Loads, stores and the atomic pair: what each completes with, and the faults of a load (R341 to R346). -/
def Obligations.LoadsStoresAtomics : Prop := Claims.Loads ∧ Claims.Stores ∧ Claims.Atomics

/-- The oldest entry of a hart's store buffer drains: it leaves the buffer, and its octets, least significant first, stand in SRAM where the
target answers; a target that answers with an error leaves a LATE_STORE waiting for the entry's level, or recorded for level 3 (R344, R375, R376). -/
def Claims.StoreDrains : Prop :=
  ∀ (s : State) (h : Fin 8) (e : StoreEnt) (r : List StoreEnt),
    let x := hartOf s h
    let t := setHart s h { x with sbuf := r }
    runs s = true → hstOf s h ≠ .haltedHw → hstOf s h ≠ .retired → x.sbuf = e :: r → inRegs e.addr = false →
    (tget (fun _ => false) s.badLane (memLane e.addr) = false →
      exec (.storeDrain h .ok) s = .next (memWrite t e.addr (leBytes e.size e.data.toNat))) ∧
    (e.level < 3 → Yields (.storeDrain h .error) s fun u =>
      (hartOf u h).sbuf = r ∧ (hartOf u h).late = x.late ++ [(e.level, e.addr)] ∧ u.sram = s.sram)

/-- SRAM behind a hart: a permitted load is answered with its octets, and the oldest store drains to memory (R342 to R345, R375). -/
def Obligations.SramAccess : Prop := Claims.LoadFromSram ∧ Claims.StoreDrains

/-! ### String instructions -/

/-- A string instruction whose count is 0 completes and accesses nothing; BCOMP then sets its predicate and BSCAN clears it (R354). -/
def Claims.StringsAtCountZero : Prop :=
  ∀ (s t : State) (i : Issue) (rd ra rb : Fin 32) (func : Fin 128) (n : Nat) (res : MemRes),
    let x := hartOf t i.h
    let pd := func.val / 8 % 8
    gget x rb = 0 →
    (StrIssues s t i .copy rd ra rb func → exec (.bcopy i rd ra rb func n res) s = .next (completeNext t i.h x)) ∧
    (StrIssues s t i .fill rd ra rb func → exec (.bfill i rd ra rb func n res) s = .next (completeNext t i.h x)) ∧
    (StrIssues s t i .xor rd ra rb func → exec (.bxor i rd ra rb func n res) s = .next (completeNext t i.h x)) ∧
    (StrIssues s t i .comp rd ra rb func → exec (.bcomp i rd ra rb func n res) s = .next (completeNext t i.h (pset x pd true))) ∧
    (StrIssues s t i .scan rd ra rb func → exec (.bscan i rd ra rb func n res) s = .next (completeNext t i.h (pset x pd false)))

/-- The last element of a string instruction, with its accesses answered: BCOPY and BFILL write it, BXOR writes the exclusive or of two, as
stores of the buffer; BCOMP and BSCAN end with their predicate, early where they find a difference or the value; every pointer has advanced by the
element size and the count is 0, except at an early end, where they name that element (R353, R354). -/
def Claims.StringsLastElement : Prop :=
  ∀ (s t u v w : State) (i : Issue) (rd ra rb : Fin 32) (func : Fin 128) (n : Nat) (l m : List Byte),
    let x := hartOf t i.h
    let z := 2 ^ (func.val % 4)
    let pd := func.val / 8 % 8
    let d := (gget x rd).toNat
    let a := (gget x ra).toNat
    let put := fun v : Nat => { x with sbuf := x.sbuf ++ [⟨d, z, BitVec.ofNat 32 (v % 2 ^ (8 * z)), x.level⟩] }
    let two := fun y : Hart => gset (gset (gset y rd (gget y rd + BitVec.ofNat 32 z)) ra (gget y ra + BitVec.ofNat 32 z)) rb 0
    let done := fun (u : State) (y : Hart) => Host.Outcome.next (φ := Fault) (ρ := Refusal) (completeNext u i.h y)
    gget x rb = 1 → n ≤ 1 →
    (StrIssues s t i .copy rd ra rb func → x.sbuf.length < 8 → hartLoad t i.h x .eread a z .ok = (u, .val l) →
      hartCheck u i.h x .ewrite d z .ok = (w, none) → exec (.bcopy i rd ra rb func n .ok) s = done w (two (put (leNat l)))) ∧
    (StrIssues s t i .fill rd ra rb func → x.sbuf.length < 8 → hartCheck t i.h x .ewrite d z .ok = (w, none) →
      exec (.bfill i rd ra rb func n .ok) s = done w (gset (gset (put a) rd (gget x rd + BitVec.ofNat 32 z)) rb 0)) ∧
    (StrIssues s t i .xor rd ra rb func → x.sbuf.length < 8 → hartLoad t i.h x .eread a z .ok = (u, .val l) →
      hartLoad u i.h x .eread d z .ok = (v, .val m) → hartCheck v i.h x .ewrite d z .ok = (w, none) →
      exec (.bxor i rd ra rb func n .ok) s = done w (two (put (leNat m ^^^ leNat l)))) ∧
    (StrIssues s t i .comp rd ra rb func → hartLoad t i.h x .eread d z .ok = (u, .val l) → hartLoad u i.h x .eread a z .ok = (w, .val m) →
      (leNat l = leNat m → exec (.bcomp i rd ra rb func n .ok) s = done w (pset (two x) pd true)) ∧
      (leNat l ≠ leNat m → exec (.bcomp i rd ra rb func n .ok) s = done w (pset x pd false))) ∧
    (StrIssues s t i .scan rd ra rb func → hartLoad t i.h x .eread a z .ok = (w, .val l) →
      (leNat l = d % 2 ^ (8 * z) → exec (.bscan i rd ra rb func n .ok) s = done w (pset x pd true)) ∧
      (leNat l ≠ d % 2 ^ (8 * z) →
        exec (.bscan i rd ra rb func n .ok) s = done w (pset (gset (gset x ra (gget x ra + BitVec.ofNat 32 z)) rb 0) pd false)))

/-- String instructions at a count of 0 and at their last element (R352 to R356). -/
def Obligations.Strings : Prop := Claims.StringsAtCountZero ∧ Claims.StringsLastElement

/-! ### Transfers, control registers, loops and system instructions -/

/-- B, CALL, JMPR and CALLR complete with PC at their target, the return address in g31 or g[rd]; a target register that is not a multiple
of 4 is MISALIGNED with PC at the instruction (R347). -/
def Obligations.Transfers : Prop :=
  ∀ (s t : State) (i : Issue) (off : BitVec 22) (rd ra : Fin 32), Issues s t i →
    let x := hartOf t i.h
    let a := gget x ra
    let go := fun y : Hart => Host.Outcome.next (φ := Fault) (ρ := Refusal) (retire (setHart t i.h y) i.h)
    exec (.b i off) s = go { x with pc := x.pc + 4 * off.signExtend 32 } ∧
    exec (.call i off) s = go { gset x 31 (x.pc + 4) with pc := x.pc + 4 * off.signExtend 32 } ∧
    (a.toNat % 4 = 0 → exec (.jmpr i 0 ra 0) s = go { x with pc := a } ∧ exec (.callr i rd ra 0) s = go { gset x rd (x.pc + 4) with pc := a }) ∧
    (a.toNat % 4 ≠ 0 → exec (.jmpr i 0 ra 0) s = .next (fault (setHart t i.h x) i.h 2 x.pc a 0 0) ∧
      exec (.callr i rd ra 0) s = .next (fault (setHart t i.h x) i.h 2 x.pc a 0 0))

/-- MFC reads a control register into g[r]; MTC, MSC and MCC write it with g[r], with g[r]'s bits set, or cleared, at the levels of R349;
a level below is PERMISSION (R348). -/
def Claims.ControlRegisters : Prop :=
  ∀ (s t : State) (i : Issue) (r : Fin 32) (creg : Fin 4096) (rl : Nat) (wl : Option Nat) (level : Nat), IssuesAt s t i level →
    crLevels creg = some (rl, wl) →
    let x := hartOf t i.h
    let p := crRead t i.h x creg
    let set := fun (u : State) (v : W32) => let q := crWrite u i.h x creg v; Host.Outcome.next (φ := Fault) (ρ := Refusal) (completeNext q.1 i.h q.2)
    (rl ≤ level → exec (.mfc i r 0 creg) s = .next (completeNext p.1 i.h (gset p.2.1 r p.2.2))) ∧
    (level < rl → exec (.mfc i r 0 creg) s = .next (fault t i.h 5 x.pc (encC i.guard r 0 0 creg) 0 0)) ∧
    (wl.getD rl ≤ level → exec (.mtc i r 0 creg) s = set t (gget x r) ∧ exec (.msc i r 0 creg) s = set p.1 (p.2.2 ||| gget x r) ∧
      exec (.mcc i r 0 creg) s = set p.1 (p.2.2 &&& ~~~gget x r)) ∧
    (level < wl.getD rl → exec (.mtc i r 0 creg) s = .next (fault t i.h 5 x.pc (encC i.guard r 1 0 creg) 0 0))

/-- LOOP and LOOPI set the loop's start after the instruction, its end len words on and its count; a count of 0 jumps past the end (R351). -/
def Claims.Loops : Prop :=
  ∀ (s t : State) (i : Issue) (n : Fin 4) (ra : Fin 32) (len : Fin 32768) (cnt lenI : Fin 1024), Issues s t i → (hartOf s i.h).rept = false →
    let x := hartOf t i.h
    let set := fun (k : Nat) (v : W32) =>
      lcSet { x with ls := tput (fun _ => 0) x.ls n (x.pc + 4), le := tput (fun _ => 0) x.le n (x.pc + BitVec.ofNat 32 (4 * k)) } n v
    (len ≠ 0 → gget x ra ≠ 0 → exec (.loop i n ra len) s = .next (completeNext t i.h (set len (gget x ra)))) ∧
    (len ≠ 0 → gget x ra = 0 → exec (.loop i n ra len) s =
      .next (retire (setHart t i.h { set len 0 with pc := x.pc + BitVec.ofNat 32 (4 * len) + 4 }) i.h)) ∧
    (lenI ≠ 0 → cnt ≠ 0 → exec (.loopi i n cnt lenI) s = .next (completeNext t i.h (set lenI (BitVec.ofNat 32 cnt))))

/-- R380 for one set under LOOPMODE ZOL: at the last instruction of a body the count falls by one and PC returns to the start while it is not
0; away from it PC advances by 4; under REPEAT the test is never made. -/
def Claims.LoopTest : Prop :=
  ∀ (x : Hart), (∀ n, n ≠ 0 → lcGet x n = 0) →
    (x.rept = true → advance x = { x with pc := x.pc + 4 }) ∧
    (x.rept = false → (lcGet x 0 = 0 ∨ leGet x 0 ≠ x.pc) → advance x = { x with pc := x.pc + 4 }) ∧
    (x.rept = false → leGet x 0 = x.pc → lcGet x 0 ≠ 0 → lcGet x 0 ≠ 1 → advance x = { lcSet x 0 (lcGet x 0 - 1) with pc := lsGet x 0 }) ∧
    (x.rept = false → leGet x 0 = x.pc → lcGet x 0 = 1 → advance x = { lcSet x 0 0 with pc := x.pc + 4 })

/-- LOOP and LOOPI, and the loop test after an instruction (R351, R380). -/
def Obligations.LoopsAndLoopTest : Prop := Claims.Loops ∧ Claims.LoopTest

/-- The system instructions: SVC enters level 1 with cause SERVICE and its PC after it, BARRIER waits for the store buffer, ATOMIC opens a
window of imm16 + 1 cycles, ENDATOMIC closes it, ERET takes PC, LEVEL, IE and LOOPMODE from the save registers, WAIT completes or waits for a source, and
BRK halts where the debug port's scope allows (R357 to R362). -/
def Claims.SystemInstructions : Prop :=
  ∀ (s t : State) (i : Issue) (imm : BitVec 16) (level : Nat), IssuesAt s t i level →
    let x := hartOf t i.h
    let done := fun y : Hart => Host.Outcome.next (φ := Fault) (ρ := Refusal) (completeNext t i.h y)
    let ps := (svGet x x.level 1).toNat
    (level = 0 → imm.toNat < 256 → exec (.svc i imm) s = .next (retire (svcEnter t i.h imm.toNat x) i.h)) ∧
    (x.sbuf = [] → exec (.barrier i 0) s = done x) ∧ (x.sbuf ≠ [] → exec (.barrier i 0) s = .next s) ∧
    (1 ≤ level → imm.toNat < 256 → x.aw = false →
      exec (.atomic i imm) s = done { x with aw := true, atw := imm.toNat + 1, atwAt := x.pc }) ∧
    (1 ≤ level → exec (.endatomic i 0) s = done { x with aw := false, atw := 0 }) ∧
    (1 ≤ level → (svGet (hartOf s i.h) level 1).toNat % 4 < level → exec (.eret i 0) s = .next (retire (setHart t i.h
      { x with pc := svGet x x.level 0, level := ps % 4, ie := bitAt ps 2, aw := false, atw := 0, rept := bitAt ps 4,
               svc := if ps % 4 = 0 then none else x.svc }) i.h)) ∧
    (1 ≤ level → (hartOf s i.h).aw = false → anyPending t i.h = true → exec (.wait i 0) s = done x) ∧
    (1 ≤ level → (hartOf s i.h).aw = false → anyPending t i.h = false →
      exec (.wait i 0) s = .next (setHart (stateChange t i.h .waiting) i.h (advance x))) ∧
    (s.lc.dbgOpen = true → bitAt s.lc.scope 2 = true → Yields (.brk i imm) s fun u => hstOf u i.h = .haltedDebug ∧ hartOf u i.h = advance x)

/-- Control-register moves and the system instructions (R348 to R350, R357 to R362). -/
def Obligations.SystemAndControlRegisters : Prop := Claims.ControlRegisters ∧ Claims.SystemInstructions



/-! ### Entries, faults and events at harts -/

/-- Entry to level m: SV_PC, SV_PS, SV_CAUSE and SV_ADDR of that level, LEVEL m, the window closed, IE 1 at levels 1 and 2 and 0 at
level 3, and PC at VBASE plus the vector of the level and cause; nothing else of the hart changes (R370, R371, R374). -/
def Claims.LevelEntry : Prop :=
  ∀ (x : Hart) (m c access size src : Nat) (pc addr : W32), 1 ≤ m → m ≤ 3 →
    let y := entered x m c access size src pc addr
    svGet y m 0 = pc ∧ svGet y m 1 = psWord x ∧ svGet y m 2 = causeWord c access size src ∧ svGet y m 3 = addr ∧
    y.level = m ∧ y.aw = false ∧ y.ie = decide (m ≠ 3) ∧
    y.pc = x.vbase + BitVec.ofNat 32 (0x100 * (m - 1) + 0x40 * (if c ≤ 5 then 0 else if c ≤ 8 then 1 else if c = 9 then 2 else 3)) ∧
    (∀ n k, 1 ≤ n → n ≤ 3 → n ≠ m → k ≤ 3 → svGet y n k = svGet x n k) ∧
    y.g = x.g ∧ y.p = x.p ∧ y.rept = x.rept ∧ y.ls = x.ls ∧ y.le = x.le ∧ y.lc = x.lc ∧ y.scr = x.scr ∧ y.vbase = x.vbase ∧ y.sbuf = x.sbuf

/-- A precise fault at level 1 or 2 is an entry one level up with the instruction's address saved; at level 3 the hart halts as
HALTED_DOUBLE with PC, cause and address in HT_DF (R369, R376). -/
def Claims.FaultsOneLevelUp : Prop :=
  ∀ (s : State) (h c access size : Nat) (pc addr : W32),
    let x := hartOf s h
    ((x.level = 1 ∨ x.level = 2) → hartOf (fault s h c pc addr access size) h = entered x (x.level + 1) c access size 0 pc addr) ∧
    (3 ≤ x.level → x.job = none → let t := fault s h c pc addr access size
      hstOf t h = .haltedDouble ∧ rget t (htA h + 0x10) = x.pc ∧ rget t (htA h + 0x14) = causeWord c access size 0 ∧ rget t (htA h + 0x18) = addr)

/-- An interrupt, a late store, an overrun or a budget that is due is taken: the hart enters the level of R375 and R387 with its own PC saved.
ATW at 0 closes the window and leaves ATOMIC_OVERRUN pending; a parity error halts the hart with its store buffer discarded; a waiting hart
with a source pending runs again (R359, R370, R375 to R377, R387, R390). -/
def Claims.HartEventsTaken : Prop :=
  ∀ (s : State) (h : Fin 8),
    let x := hartOf s h
    runs s = true →
    (∀ src, hstOf s h = .running → due s h = some (.int false src) → Yields (.interruptTake h) s fun t =>
      ∃ v : W32, hartOf t h = entered { x with last2 := src } 2 0x0A 0 0 src x.pc v ∧ tget (fun _ => false) t.ev.pend src = false) ∧
    (∀ src, hstOf s h = .running → due s h = some (.int true src) → stewardHart s = h → Yields (.interruptTake h) s fun t =>
      ∃ v : W32, hartOf t h = entered { x with last3 := src } 3 0x0A 0 0 src x.pc v ∧ tget (fun _ => false) t.ev.pend src = false) ∧
    (∀ l a, l ≠ 0 → hstOf s h = .running → due s h = some (.late l a) → Yields (.asyncCauseTake h) s fun t =>
      hartOf t h = entered { x with late := x.late.erase (l, a) } (l + 1) 8 0 0 0 x.pc (BitVec.ofNat 32 a)) ∧
    (∀ l a, hstOf s h = .running → due s h = some (.ovr l a) → Yields (.asyncCauseTake h) s fun t =>
      hartOf t h = entered { x with ovr := none } (l + 1) 7 0 0 0 x.pc a) ∧
    (x.aw = true → x.level ≠ 3 → Yields (.atomicWindowExpiry h) s fun t =>
      hartOf t h = { x with aw := false, atw := 0, ovr := some (x.level, x.atwAt) }) ∧
    (∀ unit, hstOf s h = .running → x.job = none → Yields (.hartParityError h unit) s fun t =>
      hstOf t h = .haltedHw ∧ (hartOf t h).sbuf = [] ∧ rget t (htA h + 0x18) = BitVec.ofNat 32 unit) ∧
    (hstOf s h = .waiting → anyPending s h = true → Yields (.waitWake h) s fun t => hstOf t h = .running)

/-- Entry to a level, precise faults, and the causes that wait for a boundary (R369 to R377, R387, R390). -/
def Obligations.EntriesAndFaults : Prop := Claims.LevelEntry ∧ Claims.FaultsOneLevelUp ∧ Claims.HartEventsTaken

/-- HT_CMD by another hart: HALT asks a running or waiting hart to halt, which it does with no window open and its store buffer empty; RESUME lets one so
halted run; RESTART starts a halted hart at HT_START, level 3, with its registers clear; RETIRE takes it out of service for good (R392, R393, R395). -/
def Claims.HartCommands : Prop :=
  ∀ (s : State) (w h : Fin 8),
    let x := hartOf s h
    runs s = true →
    (w ≠ h → (hstOf s h = .running ∨ hstOf s h = .waiting) → Yields (.hartHalt w h) s fun t =>
      hartOf t h = { x with haltReq := true } ∧ hstOf t h = hstOf s h) ∧
    (x.haltReq = true → x.aw = false → x.sbuf = [] → (hstOf s h = .running ∨ hstOf s h = .waiting) → Yields (.haltComplete h) s fun t =>
      hstOf t h = .haltedCmd ∧ hartOf t h = { x with haltReq := false }) ∧
    (w ≠ h → hstOf s h = .haltedCmd → Yields (.hartResume w h) s fun t => hstOf t h = .running ∧ hartOf t h = x) ∧
    (w ≠ h → hartHalted s h = true → x.job = none → Yields (.hartRestart w h) s fun t =>
      hstOf t h = .running ∧ (hartOf t h).pc = rget s (htA h + 0x0C) ∧ (hartOf t h).level = 3 ∧ (∀ n, gget (hartOf t h) n = 0) ∧
      (hartOf t h).sbuf = [] ∧ (hartOf t h).sv = [] ∧ (hartOf t h).vbase = x.vbase) ∧
    (w ≠ h → hartHalted s h = true → x.job = none → Yields (.hartRetire w h) s fun t =>
      hstOf t h = .retired ∧ tget (fun _ => false) t.fl.retired h = true)

/-- HT_RAISE and EV_RAISE raise their sources, HT_CLAIM answers and takes the source that R387 selects, and a route of a source other than a
tamper source is stored as written (R385 to R388, R397). -/
def Claims.RouterCommands : Prop :=
  ∀ (s : State) (h : Fin 8) (v : W32) (src : Fin 4096), runs s = true →
    (bitAt v.toNat 0 = true → exec (.hartRaise h v) s = .next (raise s (8 * h + 4) [])) ∧
    (208 ≤ v.toNat % 4096 → v.toNat % 4096 ≤ 223 → exec (.evRaise v) s = .next (raise s (v.toNat % 4096) [])) ∧
    (∀ k, selectAt s h true = some k → Yields (.hartClaim h) s fun t =>
      t.reply = [k + 4096 + 8192] ∧ tget (fun _ => false) t.ev.pend k = false ∧ (hartOf t h).last3 = k) ∧
    (∀ k, selectAt s h true = none → selectAt s h false = some k → Yields (.hartClaim h) s fun t =>
      t.reply = [k + 8192] ∧ tget (fun _ => false) t.ev.pend k = false ∧ (hartOf t h).last2 = k) ∧
    (¬(3648 ≤ src.val ∧ src.val ≤ 3903) → v.toNat % 4 < 2 → Yields (.routeWrite src v) s fun t =>
      rget t (routeAddr src) = BitVec.ofNat 32 (v.toNat % 2 ^ 21) ∧ t.sram = s.sram ∧ t.harts = s.harts)

/-- Commands to a hart and to the event router (R385 to R388, R392, R393, R395, R397).
A read's answer stands in the field reply, which is the model's form (log entry 7). -/
def Obligations.HartAndRouterCommands : Prop := Claims.HartCommands ∧ Claims.RouterCommands



/-! ### Port blocks -/

/-- Writes of MODE, SLOT_EN and PB_PCFG_s that the rules allow: the field takes its value, a write of P400 loads the thresholds of R43, an
enabled slot's sides enter WAIT_SIGNAL and a disabled slot's sides DISABLED (R25, R32, R35, R43, R55). -/
def Claims.PortConfiguration : Prop :=
  ∀ (s : State) (b mask : Fin 16) (m : Fin 8) (p : Fin 64) (v : W32), runs s = true →
    (modeLegal s b m = true → Yields (.modeWrite b m) s fun t => modeOf t b = m ∧ slotEn t b = slotEn s b ∧ t.sram = s.sram ∧
      (m = 1 → rget t (slotA (4 * b) + 0x08) = 0x38004000 ∧ rget t (slotA (4 * b) + 0x0C) = 24576 ∧
        rget t (slotA (4 * b) + 0x10) = 0x0E001000 ∧ rget t (slotA (4 * b) + 0x14) = 8192)) ∧
    (modeOf s b = 1 → slotEn s b = 0 → mask.val.testBit 0 = true → (sideOf s (4 * b) .host).link = .disabled →
      (sideOf s (4 * b) .line).link = .disabled → Yields (.slotEnableWrite b mask) s fun t =>
        slotEn t b = 1 ∧ (sideOf t (4 * b) .host).link = .waitSignal ∧ (sideOf t (4 * b) .line).link = .waitSignal) ∧
    (modeOf s b = 1 → slotEn s b = 1 → mask.val.testBit 0 = false → (sideOf s (4 * b) .host).link = .waitSignal →
      (sideOf s (4 * b) .line).link = .waitSignal → Yields (.slotEnableWrite b mask) s fun t =>
        slotEn t b = 0 ∧ (sideOf t (4 * b) .host).link = .disabled ∧ (sideOf t (4 * b) .line).link = .disabled) ∧
    (pcfgLegal s p v = true → fld v 15 13 = rf s (slotA p) 15 13 → fld v 31 29 = 0 → Yields (.portConfigWrite p v) s fun t =>
      rget t (slotA p) = v ∧ ∀ a, a ≠ slotA p → rget t a = rget s a)

/-- The commands of R32 and R684 that move a side between its states, each as the move it makes: signal on every lane, loss of signal or lock,
negotiation, training, alignment lock and its hold, faults received and cleared, and uncorrectable codewords at their threshold.
The events that the commands stand for, and what a lane does after them where R32 is silent, are the model's reading (log entry 10). -/
def Obligations.LinkCommands : Prop :=
  ∀ (s : State) (p : Fin 64) (sd : Side) (lane : Fin 8) (q : Nat × Nat) (txeq : List W32) (pre signal : Bool),
    let x := sideOf s p sd
    let l := portLanes s p sd
    let lit := laneEvents (modLanes s l (fun y => { y with sig := true, cdr := true })) l 1
    let go := fun t : State => Host.Outcome.next (φ := Fault) (ρ := Refusal) t
    runs s = true →
    (portOn s p = true → gated s (p / 4) sd = false → (sideOf lit p sd).link = .waitSignal →
      (sd = .line → rbit lit (slotA p) 8 = true → exec (.laneSignalDetect p sd) s = go (linkTo lit p .line .an)) ∧
      (sd = .host → ltEn lit p .host = true →
        exec (.laneSignalDetect p sd) s = go (linkTo (modLanes lit (portLanes lit p sd) (fun y => { y with train := 1 })) p sd .training)) ∧
      (sd = .host → ltEn lit p .host = false →
        exec (.laneSignalDetect p sd) s = go (linkTo (modLanes lit (portLanes lit p sd) (fun y => { y with train := 0 })) p sd .aligning))) ∧
    (portOn s p = true → l[lane.val]? = some q → (signal = true ∨ sideUp x = true) →
      sideUp (sideOf (raise (modLanes s [q] (fun y => { y with sig := !signal && y.sig, cdr := false })) (laneSrc q) [if signal then 2 else 3]) p sd) =
        sideUp x →
      exec (.laneLockLoss p sd lane signal) s = go (linkTo
        (raise (modLanes s [q] (fun y => { y with sig := !signal && y.sig, cdr := false })) (laneSrc q) [if signal then 2 else 3]) p sd .waitSignal)) ∧
    ((sideOf s p .line).link = .an →
      exec (.anComplete p true) s = go (afterAn (setSide s p .line { sideOf s p .line with anDone := true }) p .line)) ∧
    (x.link = .training → exec (.trainingComplete p sd txeq pre) s = go (linkTo (laneEvents (putTrained s l txeq pre) l 4) p sd .aligning)) ∧
    (x.link = .training → l[lane.val]? = some q → exec (.trainingFail p sd lane) s =
      go (raise (modLanes s [q] (fun y => { y with train := 1 })) (laneSrc q) [5])) ∧
    (x.link = .aligning → exec (.alignmentLock p sd) s =
      go (setSide (modLanes s l (fun y => { y with cdr := true })) p sd { x with aligned := true })) ∧
    (x.link = .aligning → x.aligned = true → exec (.upHoldExpiry p sd) s = go (linkTo s p sd .up)) ∧
    (sideUp x = true → exec (.faultReceived p sd) s = go (linkTo s p sd .fault)) ∧
    (x.link = .fault → exec (.faultClearExpiry p sd) s = go (linkTo s p sd .up)) ∧
    (x.link ≠ .disabled → x.link ≠ .up → Yields (.fecUncorrectable p sd) s fun t =>
      (sideOf t p sd).uncorr = x.uncorr + 1 ∧ (sideOf t p sd).link = x.link) ∧
    (∀ b : Fin 16, (∀ i d, i < 4 → (sideOf s (4 * b + i) d).link ≠ .degraded) → Yields (.fecWindowEnd b) s fun t =>
      ∀ i d, i < 4 → (sideOf t (4 * b + i) d).uncorr = 0 ∧ (sideOf t (4 * b + i) d).link = (sideOf s (4 * b + i) d).link)

/-- A move of a side to a link state leaves it in that state, and no other port's side or other side of the port changes its own (R32). -/
def Obligations.LinkMoves : Prop :=
  ∀ (s : State) (p : Nat) (sd : Side) (st : Link), p < 64 →
    (sideOf (linkTo s p sd st) p sd).link = st ∧
    ∀ (p' : Nat) (sd' : Side), p' < 64 → (p', sd') ≠ (p, sd) → (sideOf (linkTo s p sd st) p' sd').link = (sideOf s p' sd').link

/-- Frames in and out at a port: a frame is admitted with its reservation of cells where both sides are up and there is room, refused by R42
where there is none, dropped where a side is down; its good end fixes its octets and cells; and the head frame whose fate is fixed leaves with it
(R38, R41, R42, R53, R147). -/
def Claims.FramesInAndOut : Prop :=
  ∀ (s : State) (p : Fin 64) (sd : Side) (d : Dir) (pcp : Option (Fin 8)) (octets : List Byte) (r : Recv) (f : Frame),
    let x := sideOf s p sd
    let n := reserveCells s p
    let new : Frame := { prio := (pcp.map (fun c => c.val)).getD (rf s (slotA p) 28 26), cells := n }
    let up := sideUp x = true ∧ sideUp (sideOf s p (otherSide sd)) = true
    let go := fun t : State => Host.Outcome.next (φ := Fault) (ρ := Refusal) t
    runs s = true →
    (portExists s p = true → x.recv = none → up → hasRoom s p (dirOf sd) n = true → exec (.frameArrival p sd pcp) s =
      go (admitted (setFrames (setSide s p sd { x with recv := some {} }) p (dirOf sd) (framesOf s p (dirOf sd) ++ [new])) p (dirOf sd))) ∧
    (portExists s p = true → x.recv = none → up → hasRoom s p (dirOf sd) n = false →
      exec (.frameArrival p sd pcp) s = go (poolDrop s p (dirOf sd))) ∧
    (portExists s p = true → x.recv = none → ¬up → exec (.frameArrival p sd pcp) s = go (cinc s (downDrop p (dirOf sd)))) ∧
    (x.recv = some r → r.seq ≠ 0 → r.corrupt = false → r.punt = none → octets.length ≤ sideLimit s p sd →
      exec (.frameEnd p sd octets true) s = go (pauseUpdate (tryVerdict (modFrame (setSide s p sd { x with recv := none }) p (dirOf sd) r.seq
        (fun g => let g := { g with octets := octets, ended := true, bad := .none }; { g with cells := keepCells (dirOf sd) g })) p (dirOf sd)) p (dirOf sd))) ∧
    (headOf s p d = some f → f.fate = some .pass → f.started = true → f.ended = true → f.injected = false →
      exec (.frameTxComplete p d) s = go (faultUpdate (headRun (endFrame (send s (.frame p (outSide d) (withFcs f.out) .pass)) p d f.seq) p d) p)) ∧
    (portExists s p = true → sideUp x = true →
      exec (.macControlFrame p sd) s = go (raise (cinc s (slotCnt p 0x1A0)) (pbSrc (p / 4) + 36 + p % 4) [3]))

/-- Pauses: an asserted pause is sent again at each refresh; a received pause stops the side's transmitter until its quanta pass, where the side honours
pauses, and one that names no class does not (R44 to R46). -/
def Claims.Pauses : Prop :=
  ∀ (s : State) (p : Fin 64) (sd : Side) (classes : Option (Fin 256)) (quanta : Fin 65536),
    let x := sideOf s p sd
    let honours := rbit s (slotA p) (match sd with | .host => 16 | .line => 17)
    runs s = true →
    (pausedMask s p x ≠ 0 → rf s (slotA p + 0x1C) 31 16 ≠ 0 → sideUp x = true → Yields (.pauseRefreshExpiry p sd) s fun t =>
      t.sent = s.sent ++ [if fcOf s p = 2 then .pfc p sd (pausedMask s p x) (pausedMask s p x) (quantaOf s p) else .pause p sd (quantaOf s p)] ∧
      t.line = s.line) ∧
    (portExists s p = true → sideUp x = true → honours = true → classes ≠ some 0 → Yields (.pauseReceived p sd classes quanta) s fun t =>
      sideOf t p sd = { x with stopped := decide (quanta.val ≠ 0) } ∧ t.sent = s.sent) ∧
    (portExists s p = true → sideUp x = true → (honours = false ∨ classes = some 0) →
      Yields (.pauseReceived p sd classes quanta) s fun t => t.line = s.line ∧ t.sent = s.sent) ∧
    Yields (.pauseQuantaExpiry p sd) s fun t => sideOf t p sd = { x with stopped := false }

/-- Frames at a port and its flow control (R38 to R50).
What leaves the device stands in the list sent, which is the model's form (log entry 7). -/
def Obligations.FramesAndPauses : Prop := Claims.FramesInAndOut ∧ Claims.Pauses

/-- Power of a port block: a quiet side is gated after GATE_US, the block leaves ACTIVE after IDLE_US, a wake gives it its tiller clocks, a gated side powers
up again; and a lane's error count is answered, no less than what is kept, and cleared (R51, R52, R58). -/
def Claims.PortPower : Prop :=
  ∀ (s : State) (b : Fin 16) (lane : Fin 8) (sym : Bool),
    let x := blockOf s b
    let y := laneOf s b lane
    runs s = true →
    (rf s (pbA b + 0x10) 31 16 ≠ 0 → anySlotOn s b = true → sideQuiet s b .host = true →
      Yields (.sideGateExpiry b .host) s fun t => blockOf t b = { x with gatedHost := true }) ∧
    (rf s (pbA b + 0x10) 31 16 ≠ 0 → anySlotOn s b = true → sideQuiet s b .line = true →
      Yields (.sideGateExpiry b .line) s fun t => blockOf t b = { x with gatedLine := true }) ∧
    (rf s (pbA b + 0x10) 15 0 ≠ 0 → Yields (.blockIdleExpiry b) s fun t => blockOf t b = { x with active := false, tclk := false }) ∧
    (x.wake = true → Yields (.tillerWakeComplete b) s fun t => blockOf t b = { x with wake := false, tclk := true }) ∧
    (∀ sd, gated s b sd = true → exec (.sidePowerUpComplete b sd) s =
      let z := setBlock s b (match sd with | .host => { x with gatedHost := false } | .line => { x with gatedLine := false })
      let lit := modLanes z ((List.range 4).map (fun i => (b.val, 4 * sideNum sd + i))) (fun y => { y with cdr := y.sig })
      .next (powerEvent s ((blockPorts s b).foldl (fun u p =>
        if portOn u p && (portLanes u p sd).all (fun q => (laneOf u q.1 q.2).sig) then signalMove u p sd else u) lit) b)) ∧
    (Yields (.laneErrorCountRead b lane sym) s fun t => ∃ n, t.reply = [n] ∧ Nat.min 0xFFFFFFFF (if sym then y.symErr else y.patErr) ≤ n ∧
      laneOf t b lane = if sym then { y with symErr := 0 } else { y with patErr := 0 })

/-- Port configuration, and the power of blocks and sides (R35, R43, R51, R52).
The order of PORT_CFG's checks and the numbering of its record are the model's (log entry 33), and replies are log entry 7. -/
def Obligations.PortsConfigurationAndPower : Prop := Claims.PortConfiguration ∧ Claims.PortPower



/-! ### Steering -/

/-- The table commands of a steering stage: reads copy an entry's words, all zeros for one that is not valid; a legal write stores it, an entry with VALID 0 as all
zeros, once the seed is written and not on a pair's second stage; HASH gives the four bucket indices; ST_TXAN_SET sets one SC's AN (R63, R65, R68, R73, R75, R78).
Which octets the hash functions give is left to Config (log entry 6). -/
def Obligations.SteeringTables : Prop :=
  ∀ (s : State) (b : Fin 16) (sc : Fin 8192) (an : Fin 4), runs s = true →
    let ei := rf s (stA b + 0x420) 11 0
    let ri := rf s (stA b + 0x550) 7 0
    let e := rgets s (stA b + 0x400) 8
    let r := rgets s (stA b + 0x500) 20
    (Yields (.emRead b) s fun t => ∀ i, i < 8 → rget t (stA b + 0x400 + 4 * i) = wordAt (emEntry s (leadStage s b) ei) i) ∧
    (Yields (.ruleRead b) s fun t => ∀ i, i < 20 → rget t (stA b + 0x500 + 4 * i) = wordAt (ruleEntry s (leadStage s b) ri) i) ∧
    (isPairStage s b = false → tget (fun _ => false) s.locks (stA b + 8) = true → emLegal e = true → bitAt (wordAt e 0).toNat 0 = true →
      Yields (.emWrite b) s fun t => emEntry t b ei = e ∧ (∀ c i, (c, i) ≠ (b.val, ei) → i < 4096 → emEntry t c i = emEntry s c i) ∧ t.regs = s.regs) ∧
    (isPairStage s b = false → tget (fun _ => false) s.locks (stA b + 8) = true → bitAt (wordAt e 0).toNat 0 = false →
      Yields (.emWrite b) s fun t => emEntry t b ei = []) ∧
    (isPairStage s b = false → ruleLegal r = true → bitAt (wordAt r 16).toNat 0 = true →
      Yields (.ruleWrite b) s fun t => ruleEntry t b ri = r ∧ (∀ c i, (c, i) ≠ (b.val, ri) → i < 256 → ruleEntry t c i = ruleEntry s c i) ∧ t.regs = s.regs) ∧
    (Yields (.emHash b) s fun t => rget t (stA b + 0x428) = Config.emHash (emKey e) (seedOf s (leadStage s b)) ∧ t.line = s.line) ∧
    (Yields (.txanSet sc an) s fun t => txAnOf t sc = an ∧ ∀ n, n ≠ sc.val → txAnOf t n = txAnOf s n)

/-- Resolution at the 64th octet: the frame takes the port and direction's next sequence number; a hit or the slot's default places it by its action, and a malformed
SecTAG that no rule of class 0 takes is dropped and counted (R59, R62, R70, R143). -/
def Claims.Resolution : Prop :=
  ∀ (s : State) (p : Fin 64) (sd : Side) (octets : List Byte) (x : Result),
    let d := dirOf sd
    let key := 2 * p.val + dirNum d
    let seq := tget (fun _ => 1) s.line.seqs key
    let u := { s with line := { s.line with seqs := tput (fun _ => 1) s.line.seqs key (seq + 1) } }
    let stg := stageOf u p seq
    let q := parseFrame u stg octets
    runs s = true → octets.length = 64 → (sideOf s p sd).recv.map (fun r => r.seq) = some 0 → (framesOf s p d).any (fun f => f.seq == 0) = true →
    (resolve u (leadStage u (p / 4)) d (p % 4) q = some x →
      exec (.frameHeadResolve p sd octets none) s = .next (placeResolved (freed u) p sd seq stg octets q x)) ∧
    (resolve u (leadStage u (p / 4)) d (p % 4) q = none → exec (.frameHeadResolve p sd octets none) s =
      .next (raise (cinc (dropUnresolved (freed u) p sd seq) (stSlotCnt stg (p % 4) 0x120)) (stSrc stg + p % 4) []))

/-- What R70 chooses: a rule of class 0 that hits, before all else; without one, an exact match before a rule of class 1; with no hit, the slot's default action. -/
def Claims.ResolutionOrder : Prop :=
  ∀ (s : State) (lead : Nat) (d : Dir) (slot : Nat) (p : Parse) (r e r1 : List W32),
    let key := ruleKey p (dirNum d) slot (free s)
    let cfg := stA lead + 0x100 + 0x40 * slot
    let sel := match d with | .egress => rf s cfg 4 0 | .ingress => rf s cfg 9 5
    (ruleFind s lead 0 key = some r → resolve s lead d slot p = some ⟨wordAt r 17, wordAt r 18, false⟩) ∧
    (ruleFind s lead 0 key = none → d = .ingress → p.malformed = true → resolve s lead d slot p = none) ∧
    (ruleFind s lead 0 key = none → (d = .egress ∨ p.malformed = false) → emLookup s lead p d slot sel = some e →
      resolve s lead d slot p = some ⟨wordAt e 4, wordAt e 5, false⟩) ∧
    (ruleFind s lead 0 key = none → (d = .egress ∨ p.malformed = false) → emLookup s lead p d slot sel = none → ruleFind s lead 1 key = some r1 →
      resolve s lead d slot p = some ⟨wordAt r1 17, wordAt r1 18, false⟩) ∧
    (ruleFind s lead 0 key = none → (d = .egress ∨ p.malformed = false) → emLookup s lead p d slot sel = none → ruleFind s lead 1 key = none →
      ∃ x, resolve s lead d slot p = some x ∧ x.isDefault = true ∧ x.cookie = 0 ∧
        fld x.word 2 0 = (match d with | .egress => rf s cfg 11 10 | .ingress => rf s cfg 13 12) ∧ fld x.word 14 3 = rf s cfg 27 16)

/-- A head resolves in the order of the stages (R60 to R73). -/
def Obligations.ResolutionInOrder : Prop := Claims.Resolution ∧ Claims.ResolutionOrder

/-- Admission: the oldest waiting fetch of a port and direction is granted its slot's entry where its queue has a place, a usable transmit slot handing out its
next PN; the entry's return queues the frame where a tiller is attached, drops it where the domain or direction differs, and marks it where the slot is
unusable (R74, R76, R93, R95, R176). -/
def Claims.Admission : Prop :=
  ∀ (s : State) (p : Fin 64) (d : Dir) (f : Frame),
    let n := slotFor s f d
    let e := slotOf s n
    let m := f.slot.getD 0
    runs s = true →
    ((framesOf s p .egress).find? (fun f => f.stage == .fetchWait) = some f → d = .egress → queueHeld s p d < queueLimit s p → usable e d = true → e.rx = false →
      f.ended = false → exec (.fetchGrant p d .clean) s = .next (modFrame (handPn s n) p d f.seq (fun g =>
        let h := { g with slot := some n, entry := e, pn := e.nextPn.toNat, fetchBad := false, stage := .granted }
        if h.ended then { h with cells := keepCells d h } else h))) ∧
    ((framesOf s p d).find? (fun f => f.stage == .granted) = some f → f.fetchBad = false → usable f.entry d = true → f.entry.domain = f.domain →
      f.entry.rx = (d == .ingress) → anyActive s p d = true → exec (.saFetchReturn p d) s =
        .next (let t := modFrame s p d f.seq (fun g => { g with stage := .queued })
          setQueue t (queueKey p d) (queueOf t (queueKey p d) ++ [(p.val, f.seq)]))) ∧
    ((framesOf s p d).find? (fun f => f.stage == .granted) = some f → f.fetchBad = false → usable f.entry d = false → exec (.saFetchReturn p d) s =
      .next (raise (modFrame s p d f.seq (fun g => { g with stage := .lane, mark := .noSa })) (stSrc f.stg + 12) [m])) ∧
    ((framesOf s p d).find? (fun f => f.stage == .granted) = some f → f.fetchBad = false → usable f.entry d = true → f.entry.domain ≠ f.domain →
      exec (.saFetchReturn p d) s = .next (headRun (raise (cinc (endFrame s p d f.seq) (stA f.stg + 0x200)) (stSrc f.stg + 11)
        [m, f.entry.domain, f.domain]) p d))

/-- Punts and injection: a pop takes a punt buffer's oldest frame to its domain's queue, a refill returns one token, an old frame is dropped and counted; and an allowed frame
with room is injected behind the resolved frames of its port with the next sequence number (R82, R83, R294). -/
def Claims.PuntAndInjection : Prop :=
  ∀ (s : State) (b : Fin 16) (p : Fin 64) (slot : Fin 4) (len : Fin 2048) (f : PuntFrame) (r : List PuntFrame), runs s = true →
    (puntOf s b = f :: r → domHeld s f.domain = true → puntsOf s f.domain = [] → s.ord.jobs = [] → Yields (.puntPop b) s fun t =>
      puntOf t b = r ∧ puntsOf t f.domain = [{ f with slot := 4 * b + f.slot }]) ∧
    (puntOf s b = f :: r → exec (.puntAgeExpiry b) s = .next (puntDrop (setPunt s b r) (4 * b + f.slot) b)) ∧
    (Yields (.puntTokenRefill p) s fun t => tget (fun _ => 0) t.line.puntUsed p = tget (fun _ => 0) s.line.puntUsed p - 1) ∧
    (let q := 4 * b.val + slot.val
     let octets := (octetsOf (rgets s (stA b + 0x4000) 384)).take len
     64 ≤ len.val → len.val ≤ 1536 → tget (fun _ => false) s.line.injWait b = false → portExists s q = true →
     injectAllowed s b (parseFrame s b octets).etype = true → sideUp (sideOf s q .line) = true → hasRoom s q .egress (reserveCells s q) = true →
     Yields (.injectGo b slot len) s fun t => tget (fun _ => false) t.line.injWait b = true ∧
       tget (fun _ => 1) t.line.seqs (2 * q) = tget (fun _ => 1) s.line.seqs (2 * q) + 1 ∧
       ∃ g ∈ framesOf t q .egress, g.injected = true ∧ g.octets = octets ∧ g.seq = tget (fun _ => 1) s.line.seqs (2 * q))

/-- Admission, the punt path and injection (R74 to R86). -/
def Obligations.AdmissionPuntInjection : Prop := Claims.Admission ∧ Claims.PuntAndInjection

/-! ### Tillers and verdict stages -/

/-- Frames through tillers and the verdict stage: an attached, clocked tiller takes its queue's oldest descriptor; each release counts a block, and the last hands the frame on; the head
frame passes its decisions and starts to leave; the SCI table is read and written (R92, R100, R134, R145, R146).
Each command stands for the block's own next action, the model's form (log entries 3 and 15). -/
def Obligations.TillerAndVerdictCommands : Prop :=
  ∀ (s : State) (t : Fin 72) (p : Fin 64) (d : Dir) (e : Nat × Nat) (r : List (Nat × Nat)) (f : Frame),
    let x := tillerOf s t
    let dx := posDir x.pos
    let k := 2 * leadBlock s (x.pos / 4) + dirNum dx
    let go := fun u : State => Host.Outcome.next (φ := Fault) (ρ := Refusal) u
    let lo := rget s (sciIdxA + 4)
    let hi := rget s (sciIdxA + 8)
    runs s = true →
    (x.st = .active → s.level ≠ 5 → (blockOf s (x.pos / 4)).tclk = true → queueOf s k = e :: r → Yields (.tillerTake t) s fun u =>
      queueOf u k = r ∧ (tillerOf u t).held = x.held ++ [e]) ∧
    (attached x = true → x.held = e :: r → frameAt { s with mt := { s.mt with ecc := .clean } } e.1 dx e.2 = some f → f.ended = false →
      Yields (.tillerBlockRelease t none .clean) s fun u => frameAt u e.1 dx e.2 = some { f with blocks := f.blocks + 1 } ∧ (tillerOf u t).held = x.held) ∧
    (headOf s p d = some f → f.headOk = false → handedOn f = true → f.mark = .none → f.bad = .none → f.act = .protect → Yields (.verdictHead p d .clean) s fun u =>
      u = { tryVerdict (modFrame { s with mt := { s.mt with ecc := .clean } } p d f.seq (fun g => { g with headOk := true })) p d with
              mt := { (tryVerdict (modFrame { s with mt := { s.mt with ecc := .clean } } p d f.seq (fun g => { g with headOk := true })) p d).mt with ecc := .clean } }) ∧
    (headOf s p d = some f → mayStart s p d f = true → exec (.verdictStartSend p d) s = go (modFrame s p d f.seq (fun g => { g with started := true }))) ∧
    (Yields .sciRead s fun u =>
      let v := tget (fun _ => (0 : W64)) s.line.sci (rf s sciIdxA 13 0)
      rget u (sciIdxA + 4) = v.setWidth 32 ∧ rget u (sciIdxA + 8) = (v >>> 32).setWidth 32 ∧ u.line = s.line) ∧
    (Yields .sciWrite s fun u => tget (fun _ => (0 : W64)) u.line.sci (rf s sciIdxA 13 0) = hi ++ lo ∧ u.regs = s.regs)

/-- Tests, patrol and retirement of tillers: a quarantined tiller goes to its test, a test passed makes it READY and a test failed RETIRED, a patrol that finds nothing moves to its next
vector and one that finds a fault quarantines the tiller; a READY tiller may be tested or retired by command (R109, R112 to R114, R118). -/
def Claims.TillerTests : Prop :=
  ∀ (s : State) (t : Fin 72) (v : Fin 32),
    let x := tillerOf s t
    runs s = true →
    (x.st = .quarantined → Yields (.quarantineExpiry t) s fun u => (tillerOf u t).st = .testing) ∧
    (x.st = .testing → s.line.startTest = false → x.need ≤ 10 → x.strikes < strikeLimit s → (∀ pos, pos < 64 → (activeAt? s pos).isSome = true) →
      Yields (.katComplete t none false) s fun u => (tillerOf u t).st = .ready ∧ (tillerOf u t).kat = 1) ∧
    (x.st = .testing → s.line.startTest = false → Yields (.katComplete t (some v) false) s fun u => (tillerOf u t).st = .retired ∧ (tillerOf u t).kat = 2) ∧
    (free? s t = true → Yields (.patrolTick t none) s fun u => tillerOf u t = { x with patrol := (x.patrol + 1) % 25 }) ∧
    (free? s t = true → Yields (.patrolTick t (some false)) s fun u =>
      (tillerOf u t).st = .quarantined ∧ (tillerOf u t).held = [] ∧ (tillerOf u t).strikes = Nat.min 7 (x.strikes + 1)) ∧
    (x.st = .ready → free? s t = true → Yields (.tillerTest t) s fun u => (tillerOf u t).st = .testing) ∧
    (x.st = .ready → free? s t = true → Yields (.tillerRetire t) s fun u => (tillerOf u t).st = .retired)

/-- Swaps, rotation and derating: a swap ordered for a position takes the named or the longest-READY tiller as its reserve; its link check and the frame boundary make the reserve ACTIVE
there; a rotation period moves the pointer; a step no smaller than any NEED begins and completes, and a NEED above it asks for it (R106, R111, R115 to R120). -/
def Claims.TillerSwaps : Prop :=
  ∀ (s : State) (pos : Fin 64) (t : Fin 72) (r a : Nat) (k : Fin 16) (w : Swap),
    let new : Swap := { pos := pos, reserve := r, planned := true, blame := pos }
    runs s = true →
    (chooseReserve s = some r → activeAt? s pos = some a → swapAt s pos = none →
      Yields (.tillerSwap pos 0x7F) s fun u => u.line.swaps = s.line.swaps ++ [new]) ∧
    (free? s t = true → activeAt? s pos = some a → swapAt s pos = none → r = t.val →
      Yields (.tillerSwap pos ⟨t.val, by omega⟩) s fun u => u.line.swaps = s.line.swaps ++ [new]) ∧
    (swapAt s pos = some w → w.checked = false → w.planned = false → (tillerOf s w.reserve).need ≤ 10 → Yields (.reserveLinkCheck pos true) s fun u =>
      (tillerOf u w.reserve).st = .active ∧ (tillerOf u w.reserve).pos = pos ∧ swapAt u pos = none) ∧
    (swapAt s pos = some w → w.checked = true → w.planned = true → activeAt? s pos = none → (tillerOf s w.reserve).need ≤ 10 → Yields (.plannedSwapBoundary pos) s fun u =>
      (tillerOf u w.reserve).st = .active ∧ (tillerOf u w.reserve).pos = pos ∧ swapAt u pos = none) ∧
    (rbit s tlArr 5 = true → activeAt? s s.line.rotPtr = some a → swapAt s s.line.rotPtr = none → chooseReserve s = some r → Yields .rotationExpiry s fun u =>
      u.line.rotPtr = (s.line.rotPtr + 1) % 64 ∧
      u.line.swaps = s.line.swaps ++ [{ pos := s.line.rotPtr, reserve := r, planned := true, blame := s.line.rotPtr, rotation := true }]) ∧
    (maxNeed s ≤ k.val → k.val ≤ 10 → k.val ≠ s.line.step → s.line.stepTo = none → Yields (.stepSet k) s fun u => u.line.stepTo = some k.val) ∧
    (s.line.stepTo = some r → s.line.stepNext = none → Yields .stepChangeComplete s fun u => u.line.step = r ∧ u.line.stepTo = none) ∧
    ((tillerOf s t).st = .ready → k.val ≤ 10 → stepTarget s < k.val → s.line.stepTo = none → k.val ≠ s.line.step →
      Yields (.needRise t k) s fun u => (tillerOf u t).need = k.val ∧ u.line.stepTo = some k.val)

/-- Tests and swaps of tillers (R105 to R120). -/
def Obligations.TillerTestsAndSwaps : Prop := Claims.TillerTests ∧ Claims.TillerSwaps



/-! ### The granary and the culm -/

/-- Installing into the granary: the record's words, a legal INSTALL and its completion, which writes the record's entry with its key unchanged under a fresh mask and reports code 0;
a record with a word missing or refused completes with code 2 or 1 and leaves the slot (R163, R165, R168, R174, R175, R178, R197). -/
def Claims.GranaryInstall : Prop :=
  ∀ (s : State) (i : Fin 24) (v : W32) (n : Fin 65536) (c : GrCmd), runs s = true →
    (s.level < 3 → s.culm.session = true → Yields (.xferWordWrite i v) s fun t => xw t i = v ∧ tget (fun _ => false) t.gran.written i = true) ∧
    (s.level < 3 → s.culm.session = true → grBusy s = false → rbit s grA 0 = false → s.gran.zeroed = false → scrkeySet s = true → s.culm.paired = true →
      slotShut s n = false → Yields (.install n) s fun t =>
        t.gran.cmd = some ⟨1, n, if xferWhole s = false then 2 else if recordGood (recordEntry s) n = true then 0 else 1, recordEntry s⟩ ∧
        t.gran.slots = s.gran.slots) ∧
    (s.gran.cmd = some c → c.op = 1 → c.code = 0 → Yields .installComplete s fun t =>
      (slotOf t c.slot).key = c.entry.key ∧ (slotOf t c.slot).nextPn = c.entry.nextPn ∧ (slotOf t c.slot).salt = c.entry.salt ∧
      (slotOf t c.slot).ssci = c.entry.ssci ∧ (slotOf t c.slot).window = c.entry.window ∧ (∀ m, m ≠ c.slot → slotOf t m = slotOf s m) ∧
      t.gran.cmd = none ∧ t.gran.resCode = 0 ∧ t.gran.resSlot = c.slot ∧ t.gran.xfer = []) ∧
    (s.gran.cmd = some c → c.op = 1 → c.code ≠ 0 → Yields .installComplete s fun t =>
      t.gran.slots = s.gran.slots ∧ t.gran.cmd = none ∧ t.gran.resCode = c.code)

/-- Erasing and reading slots: ERASE_DRAIN empties a valid slot behind a drain fence; ERASE_PURGE marks it PURGING until its read-back, which empties it; READ gives its
words without the key; a fence passes once its descriptors have left; ZEROISE and CLEAR_ZEROED set and clear ZEROED (R170, R175, R179, R180, R188). -/
def Claims.GranaryErase : Prop :=
  ∀ (s : State) (n : Fin 65536) (c : GrCmd) (f : Fence),
    let e := slotOf s n
    runs s = true →
    (s.culm.session = true → grBusy s = false → slotShut s n = false → e.valid = true → s.gran.fences.length < 8 → Yields (.eraseDrain n) s fun t =>
      slotOf t n = {} ∧ t.gran.fences = s.gran.fences ++ [⟨n, fenceWaits s⟩] ∧ t.gran.resCode = 0 ∧ t.gran.resOp = 2 ∧
      ∀ m, m ≠ n.val → slotOf t m = slotOf s m) ∧
    (s.culm.session = true → grBusy s = false → slotShut s n = false → e.valid = true → exec (.erasePurge n) s = .next
      (let u := setMargin (setSlot s n { attr := 0x80000 }) n false
       cinc (purgeSlot { u with gran := { u.gran with cmd := some { op := 3, slot := n, code := 0 } } } n) (grA + 0x218))) ∧
    (s.gran.cmd = some c → c.op = 3 → Yields (.purgeComplete true) s fun t => slotOf t c.slot = {} ∧ t.gran.cmd = none ∧ t.gran.resCode = 0 ∧
      (∀ m, m ≠ c.slot → slotOf t m = slotOf s m)) ∧
    (s.culm.session = true → grBusy s = false → Yields (.granaryRead n) s fun t =>
      t.gran.rd = [e.attr, e.nextPn.setWidth 32, (e.nextPn >>> 32).setWidth 32, e.window, e.ssci] ∧ t.gran.resCode = 0 ∧ t.gran.slots = s.gran.slots) ∧
    (s.gran.fences.find? (fun f => f.waits.all (fenceLeft s)) = some f → Yields .drainFencePass s fun t =>
      t.gran.fences = s.gran.fences.erase f ∧ t.gran.slots = s.gran.slots) ∧
    (s.culm.session = true → exec .zeroise s =
      .next (let u := zeroiseStart s; { u with gran := { u.gran with cmd := some { op := 5, slot := 0, code := 0 } } })) ∧
    (s.gran.zeroising = true → s.gran.cmd = some c → Yields (.zeroiseComplete true) s fun t =>
      t.gran.zeroising = false ∧ t.gran.cmd = none ∧ t.gran.resOp = c.op ∧ t.gran.resCode = 0 ∧ t.gran.slots = s.gran.slots) ∧
    (s.culm.session = true → grBusy s = false → rbit s grA 0 = false → Yields .clearZeroed s fun t => t.gran.zeroed = false ∧ t.gran.resOp = 6)

/-- Commands of the granary (R163 to R188, R197). -/
def Obligations.Granary : Prop := Claims.GranaryInstall ∧ Claims.GranaryErase

/-- The remask walker: a sweep starts with the fresh seed, a visit leaves a slot's key and H as they are under new masks and moves on, and a seed that arrives is kept for the next sweep or
resumes a paused walker from slot 0 (R169). -/
def Claims.RemaskWalker : Prop :=
  ∀ (s : State) (k : BitVec 256), runs s = true →
    (remaskEn s = true → s.gran.seedNext = some k → s.gran.paused = false → Yields .remaskSweepStart s fun t =>
      t.gran.seed = some k ∧ t.gran.seedNext = none ∧ t.gran.sweeping = true ∧ t.gran.ptr = 0) ∧
    (remaskEn s = true → s.gran.sweeping = true → s.gran.ptr < 65535 → Yields (.remaskSlotVisit .clean) s fun t =>
      t.gran.ptr = s.gran.ptr + 1 ∧ (∀ n, (slotOf t n).key = (slotOf s n).key ∧ (slotOf t n).hS0 ^^^ (slotOf t n).hS1 = (slotOf s n).hS0 ^^^ (slotOf s n).hS1 ∧
        (slotOf t n).attr = (slotOf s n).attr ∧ (slotOf t n).nextPn = (slotOf s n).nextPn)) ∧
    (s.culm.session = true → s.gran.paused = false → Yields (.remaskSeedReceive k) s fun t => t.gran.seedNext = some k ∧ t.gran.seed = s.gran.seed) ∧
    (s.culm.session = true → s.gran.paused = true → Yields (.remaskSeedReceive k) s fun t =>
      t.gran.seed = some k ∧ t.gran.sweeping = true ∧ t.gran.ptr = 0 ∧ t.gran.paused = false)

/-- The culm: a session starts with a nonce each way and its sequence numbers at 0; a good flit counts, a fourth failure in a row ends the session; a failing lane takes a spare and stops the
culm until it is replaced; heartbeats leave while the session is up, and without one the line die zeroises (R189 to R194). -/
def Claims.Culm : Prop :=
  ∀ (s : State) (nonce : BitVec 256) (lane : Fin 34),
    let up := { s with culm := { s.culm with starting := false, session := true, nonceL := nonce, seqDown := 0, seqUp := 0, failsDown := 0, failsUp := 0 } }
    runs s = true →
    (s.culm.session = false → Yields (.culmSessionStart nonce) s fun t =>
      t.culm.starting = true ∧ t.culm.nonceC = nonce ∧ t.sent = s.sent ++ [.flit true 0 nonce.toNat]) ∧
    (s.culm.starting = true → s.pw.pufFail = false → s.pw.mode = .service → s.level < 3 → s.tm.late = [] → s.mt.frozen = .cleared → s.mt.due = false →
      Yields (.culmSessionUp nonce) s fun t => t.culm = up.culm) ∧
    (s.culm.session = true → s.culm.halted = false → Yields (.culmFlitReceive true true) s fun t =>
      t.culm = { s.culm with seqDown := s.culm.seqDown + 1, failsDown := 0 }) ∧
    (s.culm.session = true → s.culm.halted = false → Yields (.culmFlitReceive false true) s fun t =>
      t.culm = { s.culm with seqUp := s.culm.seqUp + 1, failsUp := 0 }) ∧
    (s.culm.session = true → s.culm.halted = false → s.culm.failsDown = 3 → Yields (.culmFlitReceive true false) s fun t => t.culm.session = false) ∧
    (s.culm.failed.testBit lane = false → s.culm.spares < 2 → Yields (.culmLaneFail lane) s fun t =>
      t.culm = { s.culm with failed := s.culm.failed + 2 ^ lane.val, spares := s.culm.spares + 1, halted := true }) ∧
    (Yields .culmLaneReplaced s fun t => t.culm = { s.culm with halted := false }) ∧
    (s.culm.session = true → s.culm.halted = false → Yields .culmHeartbeatExpiry s fun t => t.sent = s.sent ++ [.flit true 1 0] ∧ t.culm = s.culm) ∧
    exec .deadmanExpiry s = .next (raise (zeroiseStart s) (grSrc + 13) [])

/-- The remask walker and the culm (R169, R189 to R194).
Messages to the host stand in the list sent (log entry 7), and the order of a session's start is the model's reading (log entry 14). -/
def Obligations.RemaskAndCulm : Prop := Claims.RemaskWalker ∧ Claims.Culm

/-! ### The random source -/

/-- Start-up, failure and reseeding of the random source: a start-up that passes its tests makes it RUNNING with a new instance, a failed known-answer test makes it FAILED, RETRY and ENABLE start it
up again, and a reseed or reinstantiate begins and completes with the bits the pool must hold (R453 to R469, R471). -/
def Claims.RandomSource : Prop :=
  ∀ (s : State) (samples : BitVec 8) (counts : List Nat),
    let kind := s.rng.busy
    let need := if kind = 2 then 640 else 512
    runs s = true →
    (s.rng.st = .starting → s.rng.ticks < 110 → Yields (.rngSampleTick samples) s fun t => t.rng = { s.rng with ticks := s.rng.ticks + 1 }) ∧
    (rngDown s = false → (∀ o ∈ oscOn s, 6 * nth oscNominal o 0 ≤ nth counts o 0 ∧ nth counts o 0 ≤ 14 * nth oscNominal o 0) → Yields (.rngFreqWindow counts) s fun t =>
      t.rng = s.rng ∧ ∀ o ∈ oscOn s, rget t (rgA + 0x20 + 4 * o) = BitVec.ofNat 32 (nth counts o 0 / 10 % 65536)) ∧
    (s.rng.st = .starting → 4224 ≤ s.rng.startBits → (∀ o ∈ oscOn s, 384 ≤ tget (fun _ => 0) s.rng.startOsc o) → Yields (.rngStartupComplete true) s fun t =>
      t.rng.st = .running ∧ t.rng.inst = s.rng.inst + 1 ∧ t.rng.blk = 0) ∧
    (s.rng.st = .starting → recentFails s = [] → Yields (.rngStartupComplete false) s fun t => t.rng.st = .failed ∧ t.rng.hist = [tscOf s] ∧ t.rng.pool = 0) ∧
    (s.rng.st = .failed → Yields .retry s fun t => t.rng.st = .starting ∧ t.rng.hist = s.rng.hist ∧ t.rng.pool = 0) ∧
    (s.rng.st = .failed → Yields .rngRetryExpiry s fun t => t.rng.st = .starting ∧ t.rng.hist = s.rng.hist) ∧
    (s.rng.st = .disabled → Yields .enable s fun t => t.rng.st = .starting ∧ t.rng.hist = []) ∧
    (s.rng.st = .running → kind = 0 → Yields .reseed s fun t => t.rng = { s.rng with busy := 1 }) ∧
    (s.rng.st = .running → Yields .reinstantiate s fun t => t.rng = { s.rng with busy := 2 }) ∧
    (s.rng.st = .running → kind = 0 → reseedDue s = true → Yields .autoReseed s fun t => t.rng = { s.rng with busy := 1 }) ∧
    (s.rng.st = .running → kind ≠ 0 → need ≤ s.rng.pool → Yields .reseedComplete s fun t =>
      t.rng = { s.rng with pool := s.rng.pool - need, inst := s.rng.inst + 1, blk := 0, calls := 0, lastSeed := s.now, busy := 0 })

/-- Calls of the DRBG: the waiting request of highest priority is served at most two blocks, never drawn before; a port's request waits for its blocks, and a read of a block's last
word gives that word and releases it (R462, R464, R472). -/
def Claims.RandomCalls : Prop :=
  ∀ (s : State) (r : RngReq) (k : Fin 2) (n : Fin 32) (b : BitVec 128) (l : List (BitVec 128)), runs s = true →
    (canDraw s = true → topReq s.rng.reqs = some r → r.cls = 3 → Yields .drbgCall s fun t =>
      t.rng.dd = 32 ∧ t.rng.blk = s.rng.blk + Nat.min 2 r.left ∧ t.rng.inst = s.rng.inst ∧ (r.left ≤ 2 → t.rng.reqs = s.rng.reqs.erase r)) ∧
    (canDraw s = true → topReq s.rng.reqs = some r → r.cls = 5 → Yields .drbgCall s fun t =>
      tget (fun _ => []) t.rng.portBlk 0 = tget (fun _ => []) s.rng.portBlk 0 ++ blocksOf s.rng (Nat.min 2 r.left)) ∧
    (1 ≤ n.val → n.val ≤ 16 → tget (fun _ => 0) s.rng.portLeft k = 0 → rngDown s = false → Yields (.rngPortRequest k n) s fun t =>
      t.rng.reqs = s.rng.reqs ++ [⟨5 + k, n⟩] ∧ tget (fun _ => 0) t.rng.portLeft k = n) ∧
    (tget (fun _ => []) s.rng.portBlk k = b :: l → Yields (.rngDataRead k) s fun t =>
      t.reply = [(portWord s k 3).toNat] ∧ tget (fun _ => []) t.rng.portBlk k = l ∧
      tget (fun _ => 0) t.rng.portLeft k = tget (fun _ => 0) s.rng.portLeft k - 1)

/-- The random source and the DRBG (R453 to R472).
Drawn octets are free values and the model counts pool bits only (log entries 5 and 41). -/
def Obligations.Random : Prop := Claims.RandomSource ∧ Claims.RandomCalls



/-! ### Endpoints and functions (chapter 6) -/

/-- What PERST#, the link and their enables do: L0 brings speed and width, and each way the link goes leaves VF Enable clear and the loss recorded in HF_EP_ERR (R206, R207, R232). -/
def Claims.EndpointLinks : Prop :=
  ∀ (s : State) (e : Fin 2) (speed width : Fin 8) (b : Bool),
    let x := epOf s e
    let down := fun t : State => (epOf t e).linkUp = false ∧ (epOf t e).vfEn = false ∧ (epOf t e).numVfs = 0 ∧ rget t (epCtl e + 8) &&& 0x100 = 0x100
    runs s = true →
    (x.linkUp = false → x.perst = false → rf s (epCtl e) 0 0 = 1 → 1 ≤ speed.val → speed.val ≤ 5 → (width.val = 1 ∨ width.val = 2 ∨ width.val = 4) →
      Yields (.endpointLinkUp e speed width) s fun t => epOf t e = { x with linkUp := true, ltssm := 4, speed := speed, width := width, cfgAt := some (x.cfgAt.getD s.now) }) ∧
    (x.linkUp = true → Yields (.endpointLinkDown e) s down) ∧
    (x.linkUp = true → Yields (.perstAssert e) s fun t => down t ∧ (epOf t e).perst = true ∧ (epOf t e).cfgAt = none) ∧
    (x.perst = true → Yields (.perstDeassert e) s fun t =>
      (epOf t e).perst = false ∧ (epOf t e).cfgAt = if s.pw.mainGood then some (s.now + 100000) else none) ∧
    (x.linkUp = true → Yields (.hotReset e b) s down) ∧
    (x.linkUp = true → Yields (.linkEnWrite e false) s fun t => down t ∧ (epOf t e).ltssm = 7) ∧
    (x.ltssm = 7 → Yields (.linkEnWrite e true) s fun t => rbit t (epCtl e) 0 = true ∧ epOf t e = { x with ltssm := 0 }) ∧
    exec (.hostReadyWrite e b) s = .next (rsetf s (epCtl e) 1 1 (b2n b))

/-- Configuration by a host: VF Enable brings the VFs of NumVFs with the grant of R240, and its clearing removes them; Bus Master Enable and the power state are kept by the function (R202, R205, R225, R240). -/
def Claims.HostConfiguration : Prop :=
  ∀ (s : State) (e : Fin 2) (f : Fin 512) (n : Fin 65536) (vfMse ari bme mse d3 : Bool), runs s = true →
    (cfgOpen s e = true → (epOf s e).vfEn = false → n.val ≤ totalVfs s e → (n.val ≤ 7 ∨ ari = true) → Yields (.vfEnableWrite e true vfMse ari n) s fun t =>
      (epOf t e).vfEn = true ∧ (epOf t e).numVfs = n ∧
      ∀ i, i < n.val → (fnOf t (256 * e + 1 + i)).present = true ∧ (fnOf t (256 * e + 1 + i)).mse = vfMse ∧
        (fnOf t (256 * e + 1 + i)).hartW = 1 ∧ (fnOf t (256 * e + 1 + i)).maxOut = 16 ∧ (fnOf t (256 * e + 1 + i)).doms = []) ∧
    (cfgOpen s e = true → (epOf s e).vfEn = true → Yields (.vfEnableWrite e false vfMse ari n) s fun t => (epOf t e).vfEn = false ∧ (epOf t e).numVfs = 0) ∧
    ((fnOf s f).present = true → cfgOpen s (f.val / 256) = true → Yields (.busMasterChange f bme mse) s fun t =>
      fnOf t f = { fnOf s f with bme := bme, mse := if f.val % 256 = 0 then mse else (fnOf s f).mse }) ∧
    ((fnOf s f).present = true → cfgOpen s (f.val / 256) = true → Yields (.powerStateChange f d3) s fun t => fnOf t f = { fnOf s f with d3 := d3 })

/-- Endpoint links, resets and configuration writes (R200 to R213).
Configuration writes carry the register's word, and the reasons of a lost link are numbered, as log entry 21 says. -/
def Obligations.EndpointsAndConfiguration : Prop := Claims.EndpointLinks ∧ Claims.HostConfiguration

/-- Errors of PCIe: each sets its bit of HF_EP_ERR and of the AER status, counts in HOST_ERRORS and leaves the function's state; a refused read answers Unsupported Request, or zero at an
unassigned offset (R17, R211, R228, R232). -/
def Claims.PcieErrors : Prop :=
  ∀ (s : State) (e : Fin 2) (f : Fin 512) (x : TlpErr),
    let err := fun (k bit aer : Nat) (t : State) => rget t (epCtl k + 8) = rget s (epCtl k + 8) ||| w32 (2 ^ bit) ∧
      (epOf t k).aer = (epOf s k).aer ||| 2 ^ aer ∧ ∀ g, fnOf t g = fnOf s g
    runs s = true →
    ((fnOf s f).present = true → cfgOpen s (f.val / 256) = true → Yields (.barAccessRefused f false false) s fun t =>
      t.sent.getLast? = some (.cpl f none) ∧ err (f.val / 256) 1 20 t) ∧
    ((fnOf s f).present = true → cfgOpen s (f.val / 256) = true → (fnOf s f).mse = true → Yields (.barAccessRefused f false true) s fun t =>
      t.sent.getLast? = some (.cpl f (some 0)) ∧ ∀ g, fnOf t g = fnOf s g) ∧
    ((fnOf s f).present = true → cfgOpen s (f.val / 256) = true → Yields (.poisonedWrite f) s (err (f.val / 256) 0 12)) ∧
    ((epOf s e).linkUp = true → Yields (.unexpectedCompletion e) s (err e 6 16)) ∧
    ((epOf s e).linkUp = true → Yields (.malformedTlp e x false) s (err e (tlpErrBits x).1 (tlpErrBits x).2)) ∧
    ((epOf s e).linkUp = true → Yields (.malformedTlp e x true) s fun t => (epOf t e).linkUp = false)

/-- Ring control: HELLO agrees the lower minor, EN starts a ring pair at zero, clearing it quiesces until nothing is outstanding, and a doorbell within the ring is taken while one
beyond it stops the ring with cause 1 or 4 (R213, R220 to R223). -/
def Claims.RingControl : Prop :=
  ∀ (s : State) (f : Fin 512) (v : Fin 65536),
    let x := fnOf s f
    let within := dist16 x.orHead v ≤ 2 ^ orLog s f ∧ dist16 x.orHead x.orTail ≤ dist16 x.orHead v
    runs s = true → x.present = true → cfgOpen s (f.val / 256) = true → x.mse = true →
    (fnReady s f = true → x.ring = .disabled → v.val / 256 = 1 → Yields (.ringHello f v) s fun t =>
      fnOf t f = { x with abi := 0x100 + Nat.min (v.val % 256) 2, helloStatus := 0, helloValid := true }) ∧
    (fnReady s f = true → x.ring = .disabled → v.val / 256 ≠ 1 → Yields (.ringHello f v) s fun t =>
      fnOf t f = { x with abi := 0, helloStatus := 0x0A, helloValid := true }) ∧
    (x.ring = .disabled → fnReady s f = true → x.abi ≠ 0 → sizeOk (orLog s f) = true → sizeOk (crLog s f) = true → x.bme = true → x.ending = false →
      Yields (.ringEnable f) s fun t => fnOf t f = { x with ring := .enabled, cause := 0, out := 0, raw := [], orTail := 0, orHead := 0, crTail := 0, crHead := 0, reading := 0, recheck := false }) ∧
    (x.ring = .enabled → x.out ≠ 0 → Yields (.ringQuiesce f) s fun t => fnOf t f = { x with ring := .quiescing, reading := 0, recheck := false }) ∧
    (x.ring = .enabled → x.out = 0 → Yields (.ringQuiesce f) s fun t => (fnOf t f).ring = .disabled ∧ (fnOf t f).orHead = 0 ∧ (fnOf t f).crTail = 0) ∧
    (x.ring = .enabled → within → Yields (.orTailDoorbell f v) s fun t => fnOf t f = { x with orTail := v }) ∧
    (x.ring = .enabled → ¬ within → Yields (.orTailDoorbell f v) s fun t => fnOf t f = { x with ring := .stopped, cause := 1, reading := 0, recheck := false }) ∧
    (x.ring = .enabled → dist16 x.crHead v ≤ dist16 x.crHead x.crTail → Yields (.crHeadDoorbell f v) s fun t => fnOf t f = { x with crHead := v }) ∧
    (x.ring = .enabled → dist16 x.crHead x.crTail < dist16 x.crHead v → Yields (.crHeadDoorbell f v) s fun t =>
      fnOf t f = { x with ring := .stopped, cause := 4, reading := 0, recheck := false })

/-- Fetching: a read asks for the entries at OR_HEAD; an entry whose PHASE is that of its count is taken; one whose PHASE is wrong twice stops the ring with cause 2, and a failed
read with cause 3 (R214, R216, R218, R222). -/
def Claims.RingFetch : Prop :=
  ∀ (s : State) (f : Fin 512) (n : Fin 9) (l : List Byte) (h : HostErr),
    let x := fnOf s f
    let took := fun t : State => fnOf t f = { x with reading := 0, recheck := false, orHead := (x.orHead + 1) % 65536, out := x.out + 1, raw := x.raw ++ [⟨x.gen, octetsAt l 0 64⟩] }
    let stop := fun (c : Nat) (t : State) => fnOf t f = { x with ring := .stopped, cause := c, reading := 0, recheck := false }
    runs s = true →
    (mayFetch s f n = true → Yields (.orderFetch f n) s fun t => fnOf t f = { x with reading := n } ∧
      t.sent = s.sent ++ [.hostRead f (ringBase s f 0x18 + 64 * (x.orHead % 2 ^ orLog s f)) (64 * n)]) ∧
    (x.ring = .enabled → x.reading = 1 → x.recheck = false → entryPhase l = phaseOf (orLog s f) x.orHead → Yields (.orderEntriesArrive f [l] none) s took) ∧
    (x.ring = .enabled → x.reading = 1 → entryPhase l ≠ phaseOf (orLog s f) x.orHead → Yields (.orderEntriesArrive f [l] none) s fun t =>
      fnOf t f = { x with reading := 0, recheck := true }) ∧
    (x.ring = .enabled → x.reading ≠ 0 → Yields (.orderEntriesArrive f [] (some h)) s (stop 3)) ∧
    (x.ring = .enabled → x.reading = 0 → x.recheck = true → entryPhase l = phaseOf (orLog s f) x.orHead → Yields (.phaseRecheck f l none) s took) ∧
    (x.ring = .enabled → x.recheck = true → entryPhase l ≠ phaseOf (orLog s f) x.orHead → Yields (.phaseRecheck f l none) s (stop 2)) ∧
    (x.ring = .enabled → x.recheck = true → Yields (.phaseRecheck f l (some h)) s (stop 3))

/-- NOP and CANCEL entries complete with their TAG and GEN; the oldest completion is written behind its buffers and advances CR_TAIL, or is discarded where its generation is over (R215 to R217, R219). -/
def Claims.RingCompletions : Prop :=
  ∀ (s : State) (f : Fin 512) (r : RawEntry) (rs : List RawEntry) (c : Compl) (cs : List Compl),
    let x := fnOf s f
    let done := fun (st : Nat) (t : State) => (fnOf t f).raw = rs ∧ ∃ d, (fnOf t f).compl = x.compl ++ [d] ∧ d.status = st ∧ d.gen = r.gen ∧ d.genField = r.genField ∧
      d.tag = leNat (octetsAt r.octets 2 2)
    runs s = true →
    (x.raw = r :: rs → r.etype = 0 → r.genField = x.gen → Yields (.nopEntry f) s (done 0)) ∧
    (x.raw = r :: rs → r.etype = 0 → r.genField ≠ x.gen → Yields (.nopEntry f) s (done 5)) ∧
    (x.raw = r :: rs → r.etype = 2 → r.genField = x.gen → x.abi < 0x0102 → Yields (.cancelEntry f) s (done 3)) ∧
    (x.raw = r :: rs → r.etype = 2 → r.genField = x.gen → 0x0102 ≤ x.abi → (∀ j ∈ s.ord.jobs, ¬(j.fn = f.val ∧ j.started = false)) → Yields (.cancelEntry f) s (done 1)) ∧
    (∀ j, x.raw = r :: rs → r.etype = 2 → r.genField = x.gen → 0x0102 ≤ x.abi →
      s.ord.jobs.find? (fun j => j.fn == f.val && !j.started && j.tag == leNat (octetsAt r.octets 6 2)) = some j →
      exec (.cancelEntry f) s = .next (completeRaw (endJob (popRaw s f) j 11 0 []) f r 0)) ∧
    (x.compl = c :: cs → c.gen = x.gen → canMaster x = true → x.ring = .enabled → Yields (.completionWrite f) s fun t =>
      fnOf t f = { x with compl := cs, crTail := (x.crTail + 1) % 65536, out := x.out - 1 }) ∧
    (x.compl = c :: cs → c.gen ≠ x.gen → Yields (.completionWrite f) s fun t => fnOf t f = { x with compl := cs } ∧ t.sent = s.sent)

/-- Rings: their control, fetch and completions (R214 to R226).
Entries and completions cross to the host in the list sent (log entry 7). -/
def Obligations.Rings : Prop := Claims.RingControl ∧ Claims.RingFetch ∧ Claims.RingCompletions

/-- A vector's pending message leaves as its moderation interval ends or it is unmasked; without one pending the interval only ends (R224, R561). -/
def Claims.Messages : Prop :=
  ∀ (s : State) (f : Fin 512) (v : Fin 64),
    let x := vecOf s f v
    let may := x.pend = true ∧ (fnOf s f).present = true ∧ (fnOf s f).msixEn = true ∧ canMaster (fnOf s f) = true ∧ (fnOf s f).fmask = false ∧ x.used < rf s 0x30038020 23 16
    let gone := fun t : State => t.sent = s.sent ++ [.msix f v x.addr x.data] ∧ (vecOf t f v).pend = false ∧ (vecOf t f v).used = x.used + 1
    runs s = true →
    (may → x.masked = false → Yields (.msixIntervalExpiry f v) s gone) ∧
    (x.pend = false → Yields (.msixIntervalExpiry f v) s fun t => vecOf t f v = { x with running := false } ∧ t.sent = s.sent) ∧
    (may → x.running = false → cfgOpen s (f.val / 256) = true → (fnOf s f).mse = true → Yields (.msixUnmask f v) s fun t => gone t ∧ (vecOf t f v).masked = false)

/-- Errors of the endpoints and MSI-X messages (R204, R211, R224 to R229).
Messages to a host stand in the list sent (log entry 7), and the AER bits are the model's reading (log entry 21). -/
def Obligations.PcieErrorsAndMessages : Prop := Claims.PcieErrors ∧ Claims.Messages

/-- A function-level reset increments the generation and leaves the ring DISABLED, the bus master off and ENDING set until the last write of the old generation has been issued (R227, R245). -/
def Claims.Generations : Prop :=
  ∀ (s : State) (f : Fin 512), runs s = true →
    ((fnOf s f).present = true → cfgOpen s (f.val / 256) = true → f.val % 256 ≠ 0 → Yields (.functionLevelReset f) s fun t =>
      (fnOf t f).gen = ((fnOf s f).gen + 1) % 65536 ∧ (fnOf t f).ring = .disabled ∧ (fnOf t f).bme = false ∧ (fnOf t f).ending = true ∧ (fnOf t f).out = 0 ∧ (fnOf t f).abi = 0) ∧
    ((fnOf s f).present = true → cfgOpen s (f.val / 256) = true → f.val % 256 = 0 → Yields (.functionLevelReset f) s fun t =>
      (fnOf t f).ring = .disabled ∧ (fnOf t f).bme = false ∧ (fnOf t f).ending = true ∧ (fnOf t f).hartW = 255 ∧ (fnOf t f).maxOut = 4096) ∧
    ((fnOf s f).ending = true → Yields (.generationEndComplete f) s fun t => (fnOf t f).ending = false)

/-- The dirty-log cache: a line's word joins the marks held for it, and a flush writes the lines of the bitmap to the host in order, or drops them, and leaves the others (R252, R255, R261). -/
def Claims.DirtyLog : Prop :=
  ∀ (s : State) (f : Fin 512) (w : Nat) (d : W64) (x : LogLine) (v : W32),
    let mine := fun y : LogLine => y.fn == fld v 8 0 && y.bitmap == fld v 9 9
    runs s = true →
    (s.host.lines.find? (fun y => y.fn == f.val && y.word == w && y.filling) = some x → Yields (.logLineFill f w d none) s fun t =>
      t.host.lines = s.host.lines.map (fun y => if y == x then { y with bits := x.bits ||| d, filling := false } else y)) ∧
    (fld v 11 11 = 1 → fld v 10 10 = 1 → Yields (.logFlush v false) s fun t => t.host.lines = s.host.lines.filter (fun y => !mine y) ∧ t.sent = s.sent) ∧
    (fld v 11 11 = 1 → fld v 10 10 = 0 → (∀ y ∈ s.host.lines, mine y = true → y.filling = false) → Yields (.logFlush v false) s fun t =>
      t.host.lines = s.host.lines.filter (fun y => !mine y) ∧
      t.sent = s.sent ++ (s.host.lines.filter mine).map (fun y => .hostWrite (256 * (y.fn / 256)) (bmpBase s y.fn y.bitmap + 8 * y.word) (leBytes 8 y.bits.toNat)))

/-- Generations of functions and the dirty log (R232 to R249).
What is read of the log and its banks is in the model's form of log entry 22. -/
def Obligations.GenerationsAndDirtyLog : Prop := Claims.Generations ∧ Claims.DirtyLog



/-! ### Orders (chapter 8) -/

/-- HELLO agrees the lower minors, an order that passes every check of R273 joins the queue with a sandbox, and one that fails a check completes with its status (R264, R267, R270, R273). -/
def Claims.OrderEntries : Prop :=
  ∀ (s : State) (f : Fin 512) (r : RawEntry) (rs : List RawEntry) (k : Nat) (img buf : List Byte) (ie be : Option HostErr),
    let l := r.octets
    let ends := fun (st : Nat) (t : State) => (fnOf t f).raw = rs ∧ ∃ d, (fnOf t f).compl = (fnOf s f).compl ++ [d] ∧ d.status = st ∧ d.genField = r.genField
    let queued := fun (t : State) => (fnOf t f).raw = rs ∧ ∃ j, t.ord.jobs = s.ord.jobs ++ [j] ∧ j.fn = f.val ∧ j.tag = leNat (octetsAt l 2 2) ∧ j.domain = hdrDomain l ∧
      j.kind = hdrKind l ∧ j.sandbox = some k ∧ j.stage = .queued ∧ j.budget = (if hdrBudget l = 0 then 60000 else hdrBudget l)
    runs s = true → (fnOf s f).raw = r :: rs → r.etype = 1 →
    (hdrKind l = 0 → entryStatus s f r = 0 → helloBad l = false → (fnOf s f).out ≤ 1 → (∀ p ∈ helloPairs l, p.2 / 256 = 1) → Yields (.hello f) s fun t => ends 0 t ∧
      ∀ p ∈ helloPairs l, (p.1 = 1 → (fnOf t f).vFmt = helloAgree p) ∧ (p.1 = 2 → (fnOf t f).vSvc = helloAgree p) ∧ (p.1 = 3 → (fnOf t f).vSheaf = helloAgree p)) ∧
    (hdrKind l ≠ 0 → entryStatus s f r ≠ 0 → Yields (.orderEntry f img buf ie be) s (ends (entryStatus s f r))) ∧
    (hdrKind l = 2 → entryStatus s f r = 0 → freeSandbox s = some k → residentStatus s f (hdrDomain l) (hdrResident l) = 0 → hdrArgbuf l = false →
      Yields (.orderEntry f img buf ie be) s queued) ∧
    (hdrKind l = 1 → entryStatus s f r = 0 → freeSandbox s = some k → hdrWord l 28 = 0 → hdrArgbuf l = false →
      imageStatus (hdrWord l 24) (octetsAt img 0 (hdrWord l 24)) (fnOf s f).vSvc = 0 → Yields (.orderEntry f img buf none be) s queued)

/-- Dispatch starts the chosen function's oldest order on a free hart at its entry; a script that waits is ended TIMEOUT as its budget runs out, one inside a granary command when
that completes; a wait that is over lets the script resume on a free hart (R274, R275, R277, R286, R291, R294). -/
def Claims.OrderRuns : Prop :=
  ∀ (s : State) (h : Fin 8) (i : Nat) (j : Job) (w : Wait) (k m : Nat) (slot : Fin 65536), runs s = true →
    (hartFree s h = true → anyReady s = false → s.ord.paused = false → (chosenFn s h).bind (oldestOrder s) = some j → j.kind = 1 → Yields (.orderDispatch h) s fun t =>
      (hartOf t h).job = some j.id ∧ (hartOf t h).level = 0 ∧ (hartOf t h).pc = w32 (codeA (j.sandbox.getD 0) + j.entry) ∧ (hartOf t h).budget = j.budget ∧ hstOf t h = .running ∧
      gget (hartOf t h) 1 = w32 (scratchA (j.sandbox.getD 0)) ∧ gget (hartOf t h) 11 = w32 j.domain) ∧
    (jobOf s i = some j → j.stage = .waiting w → j.lastSvc ≠ 0x72 → exec (.budgetExpiry i) s = .next (endTimeout s j)) ∧
    (jobOf s i = some j → j.stage = .gran k m → Yields (.budgetExpiry i) s fun t => (hartOf t k).budgetPend = true ∧ t.ord = s.ord) ∧
    (jobOf s i = some j → j.stage = .running k → (∀ x, due (setHart s k { hartOf s k with budgetPend := true }) k = some x → x ≠ .budget) →
      Yields (.budgetExpiry i) s fun t => (hartOf t k).budgetPend = true ∧ t.ord = s.ord) ∧
    (jobOf s i = some j → j.stage = .waiting w → waitOver s j w = true → hartFree s h = true → (∀ c, j.ctx = some c → c.svc = none) → j.ctx ≠ none →
      Yields (.serviceWaitResume i h) s fun t => (hartOf t h).job = some j.id ∧ hstOf t h = .running ∧ (jobOf t i).map (fun y => y.stage) = some (.running h)) ∧
    (∀ c n, jobOf s i = some j → j.stage = .waiting (.fence m) → waitOver s j (.fence m) = true → hartFree s h = true → j.ctx = some c → c.svc = some n → holds s j.fn j.domain = true →
      exec (.serviceWaitResume i h) s = .next (svcRet (resumeOn s h j (.fence m)) h 0 [])) ∧
    (s.ord.jobs.find? (fun j => j.stage == .waiting (.spacing slot)) = none → Yields (.rxSpacingExpiry slot) s fun t =>
      tget (fun _ => none) t.ord.installed slot = none ∧ t.ord.jobs = s.ord.jobs) ∧
    (s.ord.jobs.find? (fun j => j.stage == .waiting (.spacing slot)) = some j → Yields (.rxSpacingExpiry slot) s fun t =>
      tget (fun _ => none) t.ord.installed slot = none ∧
      t.ord.jobs = s.ord.jobs.map (fun y => if y.id == j.id then { y with stage := .ready s.ord.readyCtr, resumed := some (.spacing slot) } else y)) ∧
    (jobOf s i = some j → j.stage = .waiting .punt → Yields (.frameRecvTimeout i) s fun t =>
      t.ord.jobs = s.ord.jobs.map (fun y => if y.id == i then { y with stage := .ready s.ord.readyCtr, resumed := some .timedOut } else y))

/-- Orders: their entries, and their runs on harts (R261 to R282).
The dispatch by virtual time is read as log entry 23 says, and CYCLES is a free value. -/
def Obligations.Orders : Prop := Claims.OrderEntries ∧ Claims.OrderRuns

/-- A service's return to a script: g1 its status, p7 whether it is OK, g2 to g5 its results, and the hart as SV_PC_1 and SV_PS_1 hold it; a call that the ladder refuses returns LOCKED, an
operator's service in another domain NO_RIGHT (R276, R278, R283, R284, R360). -/
def Claims.ServiceReturn : Prop :=
  ∀ (s : State) (h : Fin 8) (j : Job) (x : Hart) (st : Nat) (res : List Nat), hartOf s h = x →
    (x.job.bind (jobOf s) = some j → ¬(j.kind = 2 ∧ j.res < 0x100) →
      let y := hartOf (svcRet s h st res) h
      gget y 1 = w32 st ∧ pget y 7 = decide (st = 0) ∧ (∀ k, k < 4 → k < res.length → gget y (2 + k) = w32 (res.getD k 0)) ∧
      y.pc = svGet x 1 0 ∧ y.level = (svGet x 1 1).toNat % 4 ∧ y.svc = none ∧ ∀ r, 5 < r → gget y r = gget x r) ∧
    (x.svc = some 0x70 → x.sbuf = [] → hstOf s h = .running → x.job.bind (jobOf s) = some j → j.stage = .running h → holds s j.fn j.domain = true →
      svcLocked s (if j.resumed.isSome then 0 else j.domain) 0x70 = true → exec (.fnGrant h) s = .next (svcRet s h 0x0C [])) ∧
    (x.svc = some 0x70 → x.sbuf = [] → hstOf s h = .running → x.job.bind (jobOf s) = some j → j.stage = .running h → holds s j.fn j.domain = true →
      svcLocked s (if j.resumed.isSome then 0 else j.domain) 0x70 = false → j.domain ≠ 0 → exec (.fnGrant h) s = .next (svcRet s h 2 []))

/-- Services 0x00 to 0x04 and RANDOM in order: the version agreed, EXIT's status as the order's, the octets copied from and to the host's buffers, the open minute's epoch, and random octets (R278, R279, R288, R423). -/
def Claims.BasicServices : Prop :=
  ∀ (s : State) (h : Fin 8) (j : Job) (data : List Byte),
    let x := hartOf s h
    (InService s h 0 false j → exec (.svcInfo h) s = .next (svcRet (freed s) h 0 [(fnOf s j.fn).vSvc, free s % (j.budget + 1)])) ∧
    (InService s h 1 false j → x.budgetPend = false → exitGood (svcArg x 2) = true →
      exec (.exit h) s = .next (endJob s j (svcArg x 2) 0 (octetsOf [gget x 3, gget x 4, gget x 5, gget x 6]))) ∧
    (InService s h 2 false j → inScratch (svcArg x 3) (svcArg x 4) = true → canMaster (fnOf s j.fn) = true → 0 < argCount j (svcArg x 2) (svcArg x 4) →
      exec (.argRead h data none) s = .next (let n := argCount j (svcArg x 2) (svcArg x 4)
        svcRet (scratchWrite (send s (.hostRead j.fn (j.argAddr + svcArg x 2) n)) j (svcArg x 3) (octetsAt data 0 n)) h 0 [n])) ∧
    (InService s h 3 false j → inScratch (svcArg x 2) (svcArg x 4) = true → j.argbuf = true → svcArg x 3 + svcArg x 4 ≤ j.resLen → canMaster (fnOf s j.fn) = true →
      exec (.resultWrite h) s = .next (svcRet (hostWrite s j.fn (j.resAddr + svcArg x 3) (scratchRead s j (svcArg x 2) (svcArg x 4))) h 0 [])) ∧
    (InService s h 4 false j → exec (.clock h) s = .next (svcRet s h 0 [s.mt.minute.getD 0, s.now - s.mt.lastSwap])) ∧
    (InService s h 0x40 false j → 1 ≤ svcArg x 3 → svcArg x 3 ≤ 256 → inScratch (svcArg x 2) (svcArg x 3) = true → canDraw s = true →
      exec (.random h) s = .next (svcRet (scratchWrite (drewOctets s (svcArg x 3)) j (svcArg x 2) (drawOctets s (svcArg x 3))) h 0 [])) ∧
    (InService s h 0x40 false j → 1 ≤ svcArg x 3 → svcArg x 3 ≤ 256 → inScratch (svcArg x 2) (svcArg x 3) = true → canDraw s = false → rngDown s = true →
      exec (.random h) s = .next (svcRet s h 7 []))

/-- The return of a service, and the basic services (R276 to R288).
Results that R288 does not list are free values (log entries 5 and 30). -/
def Obligations.ServiceReturnAndBasics : Prop := Claims.ServiceReturn ∧ Claims.BasicServices

/-- Key services in order: a new handle holds the key loaded, drawn, unwrapped or derived, the wrapped key and the CMAC go to scratch, and KEY_FREE empties the handle (R278, R288, R292, R293).
Cryptography is left to Config (log entry 6), and the handling of handles is the model's reading (log entry 35). -/
def Obligations.KeyServices : Prop :=
  ∀ (s : State) (h : Fin 8) (j : Job),
    let x := hartOf s h
    let a := svcArg x
    let made := fun (u : State) (key : List Byte) (nowrap : Bool) => let p := makeKey u j.domain 0 key nowrap; svcRet p.1 h 0 [p.2]
    (InService s h 0x20 false j → keyLenGood (a 3) = true → inScratch (a 2) (a 3) = true → handleRoom s false j.domain = true → canDraw s = true →
      exec (.keyLoad h) s = .next (newHandle (drewOctets s (a 3)) h j (scratchRead (drewOctets s (a 3)) j (a 2) (a 3)) (bitAt (a 4) 0))) ∧
    (InService s h 0x21 false j → keyLenGood (a 2) = true → handleRoom s false j.domain = true → canDraw s = true →
      exec (.keyGen h) s = .next (newHandle (drewOctets s (a 2)) h j (drawOctets s (a 2)) (bitAt (a 4) 0))) ∧
    (InService s h 0x22 false j → (a 4 = 24 ∨ a 4 = 40) → inScratch (a 3) (a 4) = true → symArg s (a 2) = true → handleStatus s j.domain (a 2) = 0 →
      handleRoom s false j.domain = true →
      exec (.keyUnwrap h) s = .next (match Config.keyUnwrap (keyOf s (a 2)).key (scratchRead s j (a 3) (a 4)) with
        | some k => made s (octetsAt k 0 (a 4 - 8)) false
        | none => svcRet s h 3 [])) ∧
    (InService s h 0x23 false j → symArg s (a 2) = true → symArg s (a 3) = true → inScratch (a 4) ((keyOf s (a 3)).len + 8) = true → handleStatus s j.domain (a 2) = 0 →
      handleStatus s j.domain (a 3) = 0 → (keyOf s (a 3)).nowrap = false →
      exec (.keyWrap h) s = .next (svcRet (scratchWrite s j (a 4) (wrapped s (a 2) (a 3))) h 0 [(keyOf s (a 3)).len + 8])) ∧
    (InService s h 0x24 false j → keyLenGood (a 5) = true → inScratch (a 3) (a 4) = true → symArg s (a 2) = true → handleStatus s j.domain (a 2) = 0 → handleRoom s false j.domain = true →
      exec (.keyDerive h) s = .next (made s (octetsAt (Config.kdf (keyOf s (a 2)).key (scratchRead s j (a 3) (a 4)) (a 5)) 0 (a 5)) false)) ∧
    (InService s h 0x25 false j → inScratch (a 3) (a 4) = true → inScratch (a 5) 16 = true → symArg s (a 2) = true → handleStatus s j.domain (a 2) = 0 →
      exec (.cmac h) s = .next (svcRet (scratchWrite s j (a 5) (octetsAt (Config.cmac (keyOf s (a 2)).key (scratchRead s j (a 3) (a 4))) 0 16)) h 0 [])) ∧
    (InService s h 0x26 false j → a 2 < 0x10000 → handleStatus s j.domain (a 2) = 0 → exec (.keyFree h) s = .next (svcRet (setKey s (a 2) {}) h 0 [])) ∧
    ∀ (d : Nat) (key : List Byte) (b : Bool), let p := makeKey s d 0 key b
      (keyOf p.1 p.2).used = true ∧ (keyOf p.1 p.2).key = key ∧ (keyOf p.1 p.2).dom = d ∧ (keyOf p.1 p.2).nowrap = b

/-- Services for channels and associations in order: an SC allocated, released and given a new record, an SA installed under a fresh mask, erased behind a drain fence, switched, read and
exported, and the counters read (R75, R171, R278, R288 to R291, R311).
Cryptography is left to Config (log entry 6); the OFFSET of a receive SC and the SC chosen where any is wanted are the model's choice (log entries 5, 24 and 36). -/
def Obligations.ChannelServices : Prop :=
  ∀ (s : State) (h : Fin 8) (j : Job),
    let x := hartOf s h
    let a := svcArg x
    let dir := a 2 % 2
    let n := a 2 / 65536
    let l := scratchRead s j (a 3) 16
    let v := a 2
    let e := slotOf s (saSlot v)
    s.culm.session = true →
    (InService s h 0x10 false j → n < 8192 → inScratch (a 3) 16 = true → scRecGood dir l = true → scFree s dir n = true → (scsOf s dir j.domain).length < scQuota s dir j.domain →
      exec (.scAlloc h) s = .next (svcRet (scWrite s dir n l { held := true, dom := j.domain, since := openMinute s }) h 0 [n])) ∧
    (InService s h 0x11 false j → n < 8192 → scStatus s j.domain dir n = 0 → scValid s dir n = false → scSteered s dir n = false →
      exec (.scFree h) s = .next (svcRet (setSc s dir n { scOf s dir n with held := false, released := some (openMinute s) }) h 0 [])) ∧
    (InService s h 0x12 false j → n < 8192 → inScratch (a 3) 16 = true → scRecGood dir l = true → scStatus s j.domain dir n = 0 → scValid s dir n = false →
      exec (.scModify h) s = .next (svcRet (scWrite s dir n l (scOf s dir n)) h 0 [])) ∧
    (let r := scratchRead s j (a 3) 32
     let key := leNat (octetsAt r 0 2)
     InService s h 0x13 false j → saSc v < 8192 → inScratch (a 3) 32 = true → saRecGood (saDir v) r = true → symArg s key = true →
      (keyOf s key).len = suiteKey (leNat (octetsAt r 2 1)) → saRight s j.domain v = true → handleStatus s j.domain key = 0 → (scOf s (saDir v) (saSc v)).held = true → slotShut s (saSlot v) = false →
      installBarred s = false → saCurrent s v = false → saUsed s (scOf s (saDir v) (saSc v)).dom < (quotaOf s (scOf s (saDir v) (saSc v)).dom).sa → saDir v = 0 → grBusy s = false →
      canDraw s = true → exec (.saInstall h) s = .next (saIssue (drewOctets s 32) h j v r (drawOctets s 32))) ∧
    (InService s h 0x14 false j → saSc v < 8192 → saRight s j.domain v = true → slotShut s (saSlot v) = false → saCurrent s v = false → e.valid = true → grBusy s = false →
      bitAt (a 3) 0 = false → bitAt (a 3) 1 = false → s.gran.fences.length < 8 → exec (.saErase h) s = .next (svcRet (grDrain (dropCopy s (saSlot v)) (saSlot v)) h 0 [])) ∧
    (let w := 65536 * a 2 + 2 * a 3
     InService s h 0x15 false j → a 2 < 8192 → a 3 < 4 → saRight s j.domain w = true → (slotOf s (saSlot w)).valid = true →
      exec (.saSwitch h) s = .next (svcRet (txanSet s (a 2) (a 3)) h 0 [txAnOf s (a 2)])) ∧
    (InService s h 0x16 false j → saSc v < 8192 → saRight s j.domain v = true → slotShut s (saSlot v) = false → grBusy s = false →
      exec (.saRead h) s = .next (svcRet (grRead s (saSlot v)) h 0 [e.attr.toNat, e.nextPn.toNat % 2 ^ 32, e.nextPn.toNat / 2 ^ 32, e.window.toNat])) ∧
    (let c := copyOf s (saSlot v)
     InService s h 0x17 false j → saSc v < 8192 → symArg s (a 3) = true → inScratch (a 4) (c.length + 8) = true → saRight s j.domain v = true → handleStatus s j.domain (a 3) = 0 →
      e.noExport = false → slotShut s (saSlot v) = false → c ≠ [] →
      exec (.saExport h) s = .next (svcRet (scratchWrite s j (a 4) (octetsAt (Config.keyWrap (keyOf s (a 3)).key c) 0 (c.length + 8))) h 0 [c.length + 8])) ∧
    (InService s h 0x38 false j → saSc v < 8192 → inScratch (a 3) 64 = true → saRight s j.domain v = true →
      exec (.cntRead h) s = .next (svcRet (scratchWrite s j (a 3) (saRecord s s.bank (saSlot v))) h 0 [])) ∧
    (InService s h 0x39 false j → inScratch (a 3) 32 = true → exec (.domCntRead h) s = .next (svcRet (scratchWrite s j (a 3) (domRecord s s.bank j.domain)) h 0 []))

/-- Services for steering, frames, ports and tillers in order: entries and rules added, removed and found, grants of slots made, frames sent and received, and a port's status and
configuration and a tiller register handled as asked (R35, R63 to R69, R81, R83, R118, R278, R288, R294).
The layouts of records, the placement and the numbering of TILLER_CMD are the model's choice (log entries 25 and 33). -/
def Obligations.SteeringServices : Prop :=
  ∀ (s : State) (h : Fin 8) (j : Job) (i : Nat) (g : SteerGrant) (f : PuntFrame) (r : List PuntFrame),
    let x := hartOf s h
    let a := svcArg x
    let l := wordsOf 8 (scratchRead s j (a 3) 32)
    let ru := wordsOf 20 (scratchRead s j (a 3) 80)
    s.culm.session = true →
    (InService s h 0x30 false j → stageOk s (a 2) = true → inScratch (a 3) 32 = true → bitAt (wordAt l 0).toNat 0 = true → emLegal l = true → emRight s j.domain (a 2) l = true →
      emIndex s (a 2) (emKey l) = none → tget (fun _ => false) s.locks (stA (a 2) + 8) = true → emCount s (a 2) < 3584 →
      emUsed s (fld (wordAt l 4) 14 3) < (quotaOf s (fld (wordAt l 4) 14 3)).em → emVacant s (a 2) (emKey l) = some i →
      exec (.emAdd h) s = .next (svcRet (emStore s (a 2) i l) h 0 [i])) ∧
    (InService s h 0x31 false j → stageOk s (a 2) = true → a 3 < 4096 → emEntry s (a 2) (a 3) ≠ [] → (j.domain = 0 ∨ fld (wordAt (emEntry s (a 2) (a 3)) 4) 14 3 = j.domain) →
      exec (.emDel h) s = .next (svcRet (emStore s (a 2) (a 3) []) h 0 [])) ∧
    (InService s h 0x34 false j → a 2 < 16 → inScratch (a 3) 32 = true → inScratch (a 4) 32 = true → fld (wordAt l 0) 3 1 ≤ 4 → emIndex s (leadStage s (a 2)) (emKey l) = none →
      exec (.steerQuery h) s = .next (svcRet s h 0 [0xFFFFFFFF])) ∧
    (InService s h 0x34 false j → a 2 < 16 → inScratch (a 3) 32 = true → inScratch (a 4) 32 = true → fld (wordAt l 0) 3 1 ≤ 4 → emIndex s (leadStage s (a 2)) (emKey l) = some i →
      (j.domain = 0 ∨ fld (wordAt (emEntry s (leadStage s (a 2)) i) 4) 14 3 = j.domain) →
      exec (.steerQuery h) s = .next (svcRet (scratchWrite s j (a 4) (octetsOf (emEntry s (leadStage s (a 2)) i))) h 0 [i])) ∧
    (InService s h 0x32 false j → stageOk s (a 2) = true → inScratch (a 3) 80 = true → bitAt (wordAt ru 16).toNat 0 = true → ruleLegal ru = true → 16 ≤ a 4 → a 4 < 255 →
      ruleRight s j.domain (a 2) ru = true → ruleEntry s (a 2) (a 4) = [] → ruleUsed s (fld (wordAt ru 17) 14 3) < (quotaOf s (fld (wordAt ru 17) 14 3)).rule →
      exec (.ruleAdd h) s = .next (svcRet (ruleStore s (a 2) (a 4) ru) h 0 [a 4])) ∧
    (InService s h 0x33 false j → stageOk s (a 2) = true → 16 ≤ a 3 → a 3 < 256 → ruleEntry s (a 2) (a 3) ≠ [] → (j.domain = 0 ∨ fld (wordAt (ruleEntry s (a 2) (a 3)) 17) 14 3 = j.domain) →
      exec (.ruleDel h) s = .next (svcRet (ruleStore s (a 2) (a 3) []) h 0 [])) ∧
    (InService s h 0x74 true j → a 2 < 4096 → inScratch (a 3) 16 = true → grantRecord (scratchRead s j (a 3) 16) (a 2) = some g →
      (∀ k ∈ s.ord.grants, k.stage = g.stage → k.slot = g.slot → k.key = g.key → k.dom = a 2) → bitAt (a 4) 0 = false →
      exec (.steerGrant h) s = .next (svcRet { s with ord := { s.ord with grants := s.ord.grants.filter (fun k => k != g) ++ [g] } } h 0 [])) ∧
    (let b := a 2 % 256
     let slot := a 2 / 256 % 4
     let o := scratchRead s j (a 3) (a 4)
     InService s h 0x60 false j → b < 16 → 64 ≤ a 4 → a 4 ≤ 1536 → inScratch (a 3) (a 4) = true → injectAllowed s b (parseFrame s b o).etype = true → sendRight s j.domain b slot (parseFrame s b o) = true →
      tget (fun _ => false) s.line.injWait b = false → portExists s (4 * b + slot) = true →
      exec (.frameSend h) s = .next (svcRet (injectGo (rsets s (stA b + 0x4000) (wordsOf (cdiv (a 4) 4) o)) b slot (a 4)) h 0 [])) ∧
    (InService s h 0x61 false j → puntsOf s j.domain = f :: r → inScratch (a 2) f.octets.length = true →
      exec (.frameRecv h) s = .next (svcRet (setPunts (scratchWrite s j (a 2) f.octets) j.domain r) h 0 [f.octets.length, f.cookie.toNat, puntWord f])) ∧
    (InService s h 0x68 false j → a 2 < 64 → holdsPort s j.domain (a 2) = true → exec (.portStatus h) s = .next (svcRet s h 0 [(pstatOf s (a 2)).toNat, powerOf s (a 2 / 4)])) ∧
    (let c := cfgWrites (a 2) (scratchRead s j (a 3) cfgSize)
     InService s h 0x69 true j → a 2 < 16 → inScratch (a 3) cfgSize = true → cfgGood (a 2) c = true → 15 ≤ s.pw.step → cfgHeld s (a 2) c = false →
      exec (.portCfg h) s = .next (svcRet (cfgApply s h (a 2) c) h 0 [])) ∧
    (InService s h 0x6A true j → tillerArgBad (a 2) (a 3) (gget x 4) = false → tillerOpen s (a 2) (a 3) (gget x 4) = true →
      exec (.tillerCmd h) s = .next (svcRet ((regWrite s h (tillerReg (a 2) (a 3)) (gget x 4)).getD s) h 0 []))

/-- Grant and log services in order: a grant applies at once and is written back, FN_QUERY gives it, a quota without HARD applies, and the dirty log starts, changes bitmaps and stops
(R237 to R243, R250 to R253, R260).
The results beyond R288's words are the model's choice (log entry 26). -/
def Obligations.GrantServices : Prop :=
  ∀ (s : State) (h : Fin 8) (j : Job),
    let x := hartOf s h
    let a := svcArg x
    let l := scratchRead s j (a 2) 48
    let f := 256 * (j.fn / 256) + leNat (octetsAt l 0 1)
    let q := scratchRead s j (a 2) 16
    let r := scratchRead s j (a 2) 32
    let i := 256 * (j.fn / 256) + leNat (octetsAt r 1 1)
    let log := fun op : Nat => InService s h 0x73 true j ∧ inScratch (a 2) 32 = true ∧ leNat (octetsAt r 0 1) = op ∧ i % 256 ≠ 0 ∧ (fnOf s i).present = true ∧ leNat (octetsAt r 3 5) = 0
    (InService s h 0x70 true j → inScratch (a 2) 48 = true → (fnOf s f).present = true → grantGood l = true →
      exec (.fnGrant h) s = .next (let u := applyGrant s f l; svcRet (scratchWrite u j (a 2) (grantOctets f (fnOf u f))) h 0 [])) ∧
    (InService s h 0x71 true j → a 2 < 256 → inScratch (a 3) 48 = true → (fnOf s (256 * (j.fn / 256) + a 2)).present = true →
      exec (.fnQuery h) s = .next (svcRet (scratchWrite s j (a 3) (grantOctets (256 * (j.fn / 256) + a 2) (fnOf s (256 * (j.fn / 256) + a 2)))) h 0 [])) ∧
    (let d := leNat (octetsAt q 0 2)
     let t := quotaPut s d (quotaRec q)
     InService s h 0x72 true j → inScratch (a 2) 24 = true → quotaGood q = true → (quotaRec q).hard = false → reserved t (fun q => q.tx) ≤ 8192 → reserved t (fun q => q.rx) ≤ 8192 →
      reserved t (fun q => q.sa) ≤ 65536 → j.resumed = none →
      exec (.domQuota h) s = .next (let u := cinc t 0x300B8128; svcRet (scratchWrite u j (a 2) (quotaOctets u d)) h 0 [])) ∧
    (log 1 → logStartGood r = true → logOn s i = false → exec (.fnLogStart h) s = .next (svcRet (logStart s i r) h 0 [])) ∧
    (log 2 → logOn s i = true → logBad s i = false → logFilling s i = false → exec (.fnLogHarvest h) s = .next (svcRet (logHarvest s i).1 h 0 (logHarvest s i).2)) ∧
    (log 3 → logOn s i = true → logFilling s i = false → exec (.fnLogStop h) s = .next (svcRet (logStop s i).1 h 0 (logStop s i).2)) ∧
    ∀ g o, (fnOf (applyGrant s g o) g).hartW = leNat (octetsAt o 36 1) ∧ (fnOf (applyGrant s g o) g).maxOut = leNat (octetsAt o 40 2)



/-! ### The long-integer engine (chapter 13) -/

/-- Jobs of the long-integer engine: SUBMIT queues, ABORT ends, RESUME repeats and FREE empties an entry; while another job runs a store phase ends its job with the outputs in memory (R432, R434, R437, R441, R449). -/
def Claims.LongIntegerJobs : Prop :=
  ∀ (s : State) (j : Fin 272) (k : Nat) (r : MemRes) (cycles : Nat),
    let x := liJob s j
    runs s = true →
    (x.st = .free → liKnown (liOpOf s j) = true → liSeedless (liOpOf s j) = true → exec (.jobSubmit j) s = .next (liAdmit s j 0)) ∧
    (x.st = .free → liKnown (liOpOf s j) = true → liSeedless (liOpOf s j) = false → rngDown s = false → canDraw s = true → s.li.running = some k →
      Yields (.jobSubmit j) s fun t => (liJob t j).st = .queued ∧ (liJob t j).seed = BitVec.ofNat 256 (leNat (drawOctets s 32)) ∧ t.li.running = some k) ∧
    (x.st = .free → liKnown (liOpOf s j) = true → liSeedless (liOpOf s j) = false → rngDown s = true → Yields (.jobSubmit j) s fun t =>
      (liJob t j).st = .ended ∧ (liJob t j).status = 6) ∧
    (x.live = true → s.li.running = some k → k ≠ j.val → (x.st = .faulted → liClass s j ≠ 1) → Yields (.jobAbort j) s fun t =>
      (liJob t j).st = .ended ∧ (liJob t j).status = 4 ∧ (liJob t j).ctx = none ∧ (liJob t j).key = [] ∧ t.li.running = some k) ∧
    (x.st = .faulted → s.li.running = none → Yields (.jobResume j) s fun t => (liJob t j).st = (if x.side = 0 then .loading else .storing) ∧ t.li.running = some j.val) ∧
    (x.st = .ended → Yields (.jobFree j) s fun t => liJob t j = {} ∧ ∀ i, i ≠ j.val → liJob t i = liJob s i) ∧
    (x.st = .loading → liAccess s .load (liW s j 2) (liW s j 3) r = (s, none) → liAccess s .load (liW s j 4) (liW s j 5) .ok = (s, none) →
      exec (.liLoadComplete j cycles r) s = .next (liAtYield (liCharge (liLoaded s j) j cycles) j) ∧
      liJob (liLoaded s j) j = { x with inp := bufferRead s (liW s j 2) (liW s j 3), aux := bufferRead s (liW s j 4) (liW s j 5), key := (keyOf s (liW s j 6)).key, sym := (keyOf s (liW s j 10)).key }) ∧
    (x.st = .storing → liAccess s .store (liW s j 8) x.out.length r = (s, none) → s.li.running = some k → k ≠ j.val → liClass s j = 1 → liCreates (liOpOf s j) = false →
      Yields (.liStoreComplete j cycles r) s fun t => (liJob t j).st = .ended ∧ (liJob t j).status = x.status ∧ (liJob t j).written = x.out.length ∧
        memRead t (liW s j 8) x.out.length = x.out)

/-- The engine as it computes: a yield point charges the running job and selects the next, the compute phase ends with the operation's status and output, a long hold of its contexts
is told once, and LI_NEED and PW_LISTEP set the step (R433, R443, R444, R446, R642). -/
def Claims.LongIntegerEngine : Prop :=
  ∀ (s : State) (j : Nat) (cycles : Fin 1601) (iter : Fin 129) (need : Fin 7) (v : W32),
    let x := liJob s j
    let op := liOpOf s j
    let key := if op = 0x28 then x.sym else x.key
    let res := Config.liOp op (liParam s j) key x.inp x.aux x.seed
    runs s = true →
    (s.li.running = some j → x.st = .computing → exec (.liYield cycles) s = .next (liSelect (liStepRise (liCharge s j cycles)))) ∧
    (s.li.running = some j → x.st = .computing → liStatus op res.1 ≠ 3 → Yields (.liComputeComplete iter) s fun t =>
      (liJob t j).st = .storing ∧ (liJob t j).status = liStatus op res.1 ∧
      (liJob t j).out = (if liStatus op res.1 = 0 then octetsAt res.2 0 (liOutLen op (liParam s j) x.inp.length (keyOf s (liW s j 6)).ptype x.sym.length) else [])) ∧
    (s.li.fullAt.isSome = true → s.li.fullTold = false → Yields .liContextHoldExpiry s fun t => t.li = { s.li with fullTold := true }) ∧
    (s.li.running = none → s.li.step < need.val → need.val ≤ 5 → Yields (.liNeedRise need) s fun t => t.li = { s.li with step := need.val, stepTo := none }) ∧
    (rf s 0x30000200 3 0 ≤ fld v 2 0 → fld v 2 0 ≤ 5 → Yields (.liStepSet v) s fun t => t.li = { s.li with step := fld v 2 0, stepTo := none })

/-- Long-integer services in order: a good descriptor is submitted, LI_RUN waits for the job's end, LI_SUBMIT returns its number, and LI_WAIT returns its result and frees it (R278, R435, R437, R449). -/
def Claims.LongIntegerServices : Prop :=
  ∀ (s : State) (h : Fin 8) (j : Job) (e : Nat),
    let x := hartOf s h
    let l := scratchRead s j (svcArg x 2) 32
    let op := liD l 0 2
    let fits := inScratch (svcArg x 2) 32 = true ∧ liDescGood s l = true ∧ liDescStatus s j l = 0 ∧ (liCreates op = true → handleRoom s (decide (op ≠ 0x29)) j.domain = true) ∧
      liEntry s = some e ∧ (liSeedless op = true ∨ canDraw s = true)
    (InService s h 0x48 false j → j.resumed = none → fits → exec (.liRun h) s = .next (liAwait (liPlace s j e l) j h e)) ∧
    (InService s h 0x49 false j → fits → (liOfOrder s j.id).length < 4 → (liJob (liPlace s j e l) e).st ≠ .ended →
      exec (.liSubmit h) s = .next (svcRet (liPlace s j e l) h 0 [(liJob (liPlace s j e l) e).num])) ∧
    (InService s h 0x4A false j → svcArg x 2 < 4 → (liOfOrder s j.id).find? (fun e => (liJob s e).num == svcArg x 2) = some e → (liJob s e).st = .ended →
      exec (.liWait h) s = .next (svcRet (jobFree s e) h (liG1 (liJob s e).status) [(liJob s e).status, (liJob s e).written, (liJob s e).handle]))

/-- Long-integer jobs, the engine, and the services that submit them (R431 to R451).
The numbers of handles and the steps of a job are the model's reading (log entry 37); arithmetic is that of Config (log entry 6). -/
def Obligations.LongInteger : Prop := Claims.LongIntegerJobs ∧ Claims.LongIntegerEngine ∧ Claims.LongIntegerServices

/-! ### Protection and DMA (chapter 12) -/

/-- The recolour engine sets the tags of its range, those equal to OLD, or wipes the range and sets them; BUSY holds until it completes; row remaps take a spare each (R412, R413, R640). -/
def Claims.RecolourAndRemap : Prop :=
  ∀ (s : State) (g : Nat) (bank : Fin 32) (row : Fin 1024) (mem : Fin 8) (unit : Fin 32) (lrow : Fin 8192),
    let n := rcCount s
    let outside := fun t : State => ∀ i, (i < g ∨ g + n ≤ i) → tagOf t i = tagOf s i
    runs s = true →
    (s.rc.busy = false → rcRange s = some g → Yields .recolourAll s fun t => t.rc.busy = true ∧ (∀ i, i < n → tagOf t (g + i) = rcNew s) ∧ outside t ∧ t.sram = s.sram) ∧
    (s.rc.busy = false → rcRange s = some g → Yields .recolourIf s fun t => t.rc.busy = true ∧
      (∀ i, i < n → tagOf t (g + i) = if tagOf s (g + i) = rcOld s then rcNew s else tagOf s (g + i)) ∧ outside t ∧ t.sram = s.sram) ∧
    (s.rc.busy = false → rcRange s = some g → Yields .wipe s fun t => t.rc.busy = true ∧ (∀ i, i < n → tagOf t (g + i) = rcNew s) ∧ outside t ∧
      (∀ a, 0x20000000 + 64 * g ≤ a → a < 0x20000000 + 64 * (g + n) → memRead t a 1 = [0]) ∧
      ∀ a, (a < 0x20000000 + 64 * g ∨ 0x20000000 + 64 * (g + n) ≤ a) → memRead t a 1 = memRead s a 1) ∧
    (s.rc.busy = true → Yields .recolourComplete s fun t => t.rc = { s.rc with busy := false } ∧ t.tags = s.tags) ∧
    (s.rmSram.busy = false → bank.val < 24 → Yields (.sramRemap bank row) s fun t => t.rmSram = { s.rmSram with busy := true, unit := bank, row := row }) ∧
    (s.culm.session = true → s.rmLine.busy = false → mem.val < 6 → Yields (.lineRemap mem unit lrow) s fun t =>
      t.rmLine = { s.rmLine with busy := true, mem := mem, unit := unit, row := lrow }) ∧
    (s.rmSram.busy = true → sramLeft s s.rmSram.unit ≠ 0 → Yields (.remapComplete false) s fun t => t.rmSram.busy = false ∧ t.rmSram.result = 1 ∧
      sramLeft t s.rmSram.unit = sramLeft s s.rmSram.unit - 1) ∧
    (s.rmLine.busy = true → lineLeft s s.rmLine.mem s.rmLine.unit ≠ 0 → Yields (.remapComplete true) s fun t => t.rmLine.busy = false ∧ t.rmLine.result = 1)

/-- DMA channels: GO, PAUSE, RESUME and ABORT move a channel between its states, a beat moves octets that pass every check, and a host completion joins its request or is discarded;
a read that is not completed in time ends in error (R228, R418 to R421). -/
def Claims.DmaChannels : Prop :=
  ∀ (s u v w : State) (c : Fin 16) (k : Fin 8) (src dst : MemRes) (l data : List Byte) (e : Nat) (r : DmaReq) (f : Fin 512) (wd : Nat),
    let d := dmaOf s c
    runs s = true →
    ((dmState s c = 0 ∨ 4 ≤ dmState s c) → dmBadGo s c = false → Yields (.dmaGo c) s fun t => dmState t c = 1 ∧ (dmaOf t c).pauseReq = false ∧ t.sram = s.sram) ∧
    (dmState s c = 1 → Yields (.dmaPause c) s fun t => dmState t c = 2 ∧ dmaOf t c = { d with pauseReq := true, resumed := false }) ∧
    (dmState s c = 2 → rbit s (dmA c + 0x20) 9 = false → Yields (.dmaResume c) s fun t => dmState t c = 1) ∧
    (dmState s c = 3 → rbit s (dmA c + 0x20) 8 = true → Yields (.dmaResume c) s fun t => dmState t c = 1) ∧
    ((dmState s c = 1 ∨ dmState s c = 2 ∨ dmState s c = 3) → Yields (.dmaAbort c) s fun t => dmState t c = 5 ∧ (dmaOf t c).reqs = [] ∧ t.sram = s.sram) ∧
    (dmState s c = 1 → dmSrcHost s c = false → dmDstHost s c = false → beatSource s c (beatSize s c) src = (u, some l, e) → dmCheck u c .store (dmDst s c) dst = (v, none) →
      beatSram v (dmDst s c) l dst = (w, true) → exec (.dmaBeat c src dst) s = .next (beatDone w c (beatSize s c))) ∧
    (d.reqs[k.val]? = some r → r.data = none → r.err = 0 → Yields (.dmaHostCompletion c k false data none) s fun t =>
      dmaOf t c = { d with reqs := d.reqs.set k { r with data := some (octetsAt data 0 r.len) } }) ∧
    (0 < d.stale → Yields (.dmaHostCompletion c k true data none) s fun t => dmaOf t c = { d with stale := d.stale - 1 }) ∧
    ((fnOf s f).ring = .enabled → (fnOf s f).reading ≠ 0 → Yields (.completionTimeout (.ring f)) s fun t => (fnOf t f).ring = .stopped ∧ (fnOf t f).cause = 3) ∧
    (exec (.completionTimeout (.chan c)) s = .next (dmaCompletion s c (oldestOpen d.reqs) false [] (some .timeout))) ∧
    exec (.completionTimeout (.log f wd)) s = .next (logFill s f wd 0 (some .timeout))

/-- Recolouring, row remaps and the DMA channels (R410 to R426, R640, R653).
Effects at the command and the merging of writes are the model's reading (log entry 40). -/
def Obligations.RecolourRemapDma : Prop := Claims.RecolourAndRemap ∧ Claims.DmaChannels

/-! ### Flash (chapter 15) -/

/-- The command sequence of the flash: two keys, FL_CMD, FL_ADDR and for PROGRAM its words start an operation; a wrong key or the timeout breaks it (R481, R482). -/
def Claims.FlashSequence : Prop :=
  ∀ (s : State) (h : Fin 8) (k : Fin 65536) (v : W32) (w : Fin 64),
    runs s = true →
    (s.fl.seq = 0 → s.fl.op = none → Yields (.flashKeyWrite h 0x5A17) s fun t => t.fl = { s.fl with seq := 1, owner := h, words := [] }) ∧
    (s.fl.seq = 1 → s.fl.owner = h → Yields (.flashKeyWrite h 0xA5E8) s fun t => t.fl = { s.fl with seq := 2 }) ∧
    (s.fl.seq = 1 → s.fl.owner = h → k ≠ 0xA5E8 → Yields (.flashKeyWrite h k) s fun t => t.fl = { s.fl with seq := 0, words := [] }) ∧
    (s.fl.seq = 2 → s.fl.owner = h → 1 ≤ fld v 2 0 → fld v 2 0 ≤ 4 → (fld v 2 0 = 1 ∨ fld v 5 3 = 0) → Yields (.flashSequenceStep h false v) s fun t =>
      t.fl = { s.fl with seq := 3, cmd := fld v 2 0, count := fld v 5 3 }) ∧
    (s.fl.seq = 3 → s.fl.owner = h → addrOk s s.fl.cmd s.fl.count v.toNat = true → s.fl.cmd = 1 → Yields (.flashSequenceStep h true v) s fun t =>
      t.fl = { s.fl with seq := 4, addr := v.toNat }) ∧
    (s.fl.seq = 3 → s.fl.owner = h → addrOk s s.fl.cmd s.fl.count v.toNat = true → s.fl.cmd ≠ 1 → Yields (.flashSequenceStep h true v) s fun t =>
      t.fl = { s.fl with seq := 0, words := [], op := some { op := s.fl.cmd, addr := if s.fl.cmd = 4 then v.toNat % 4 else v.toNat, words := [] } }) ∧
    (s.fl.seq = 4 → s.fl.owner = h → w.val = s.fl.words.length % 64 → s.fl.words.length + 1 ≠ 64 * (s.fl.count + 1) → Yields (.flashDataWrite h w v) s fun t =>
      t.fl = { s.fl with words := s.fl.words ++ [v] }) ∧
    (s.fl.seq = 4 → s.fl.owner = h → w.val = s.fl.words.length % 64 → s.fl.words.length + 1 = 64 * (s.fl.count + 1) → Yields (.flashDataWrite h w v) s fun t =>
      t.fl = { s.fl with seq := 0, words := [], op := some { op := 1, addr := s.fl.addr, words := s.fl.words ++ [v] } }) ∧
    (s.fl.seq ≠ 0 → Yields .flashSeqTimeout s fun t => t.fl = { s.fl with seq := 0, words := [] })

/-- Operations of the flash: PROGRAM of blank pages leaves their words, ERASE leaves the sector blank, MOVE takes a spare and leaves the data, RELEASE clears the region's EN, and the
end of an operation sets FL_RESULT and clears BUSY; the daily check refreshes every sector that is due (R480, R484, R486, R495, R496, R500). -/
def Claims.FlashOperations : Prop :=
  ∀ (s : State) (o : FlOp) (p : Fin 32),
    let done := fun (code : Nat) (t : State) => ∃ q, t.fl.op = some q ∧ q.done = true ∧ q.code = code ∧ q.op = o.op ∧ q.addr = o.addr
    let pages := o.words.length / 64
    runs s = true →
    (flDue s 1 = some o → blankCheck s o.addr pages = true → (∀ i, i < pages → pageUndef s (o.addr + 256 * i) = false) → Yields (.program p true) s fun t =>
      done 0 t ∧ t.fl.data = tputs (fun _ => 0xFF) s.fl.data o.addr (octetsOf o.words)) ∧
    (flDue s 1 = some o → blankCheck s o.addr pages = false → Yields (.program p true) s fun t => done 1 t ∧ t.fl.data = s.fl.data) ∧
    (flDue s 2 = some o → Yields (.erase p true) s fun t => done 0 t ∧
      t.fl.data = s.fl.data.filter (fun e => !(decide (sectorA (sectorOf o.addr) ≤ e.1 ∧ e.1 < sectorA (sectorOf o.addr) + 8192)))) ∧
    (flDue s 3 = some o → sparesOf s (poolOf (sectorOf o.addr)) ≠ 0 → Yields .move s fun t => done 0 t ∧ t.fl.data = s.fl.data) ∧
    (flDue s 4 = some o → Yields (.release p none) s fun t => done 0 t ∧ rbit t (flA + 0x20 + 4 * o.addr) 31 = false) ∧
    (s.fl.op = some o → o.done = true → Yields .flashOpComplete s fun t => t.fl = { s.fl with op := none } ∧
      rget t (flA + 0x14) = w32 (packFields [(o.code, 0), (o.op, 3), (o.pulses % 32, 6),
        ((if o.op = 4 then rf s (flA + 0x20 + 4 * o.addr) 10 0 else sectorOf o.addr) % 2048, 11), ((rf s (flA + 0x14) 31 22 + 1) % 1024, 22)])) ∧
    (s.fl.op = none → exec .retentionDailyCheck s = .next ((List.range 2048).foldl refreshSector s)) ∧
    ∀ x d, sectAge s x = some d → d < 3652 → refreshSector s x = s

/-- The flash controller: its sequence and its operations (R474 to R496).
Contents that the model's flash does not hold are free values (log entries 5, 27 and 42). -/
def Obligations.Flash : Prop := Claims.FlashSequence ∧ Claims.FlashOperations

/-! ### Metering (chapter 9) -/

/-- Counter banks and minutes: SWAP freezes the active bank and closes the minute of a boundary, HARVEST delivers the touched records, the end of the harvest builds the minute's sheaves,
CLEAR zeroes the frozen bank, and the fallback timer places a boundary (R302, R303, R306, R310, R313). -/
def Claims.CounterBanks : Prop :=
  ∀ (s : State) (b : Boundary) (m : Nat) (x : Minute) (v : Fin 65536),
    let fb := frozenBank s
    runs s = true →
    (s.culm.session = true → s.mt.frozen = .cleared → s.mt.boundary = none → Yields .swap s fun t => t.bank = 1 - s.bank ∧ t.mt.frozen = .frozen ∧
      t.mt.swapSeq = (s.mt.swapSeq + 1) % 2 ^ 32 ∧ t.mt.minutes = s.mt.minutes) ∧
    (s.culm.session = true → s.mt.frozen = .cleared → s.mt.boundary = some b → b.order = none → s.mt.minute = some m → Yields .swap s fun t => t.bank = 1 - s.bank ∧
      t.mt.frozen = .frozen ∧ t.mt.boundary = none ∧ t.mt.minute = some (m + 1) ∧ ∃ y, t.mt.minutes = s.mt.minutes ++ [y] ∧ y.epoch = m ∧ y.timer = b.timer) ∧
    (s.culm.session = true → s.mt.frozen = .frozen → Yields .harvest s fun t => t.mt.frozen = .harvesting ∧ t.bank = s.bank ∧
      (1 ≤ (touchedList s).length → (touchedList s).length ≤ 512 - ringHeld s → t.mt.left = [] ∧ t.mt.tail = (s.mt.tail + (touchedList s).length) % 65536)) ∧
    (s.culm.session = true → s.mt.frozen = .harvesting → s.mt.left = [] → unbuilt s = none → Yields .harvestComplete s fun t => t.mt = { s.mt with frozen := .harvested }) ∧
    (s.culm.session = true → s.mt.frozen = .harvesting → s.mt.left = [] → unbuilt s = some x → Yields .harvestComplete s fun t => t.mt.frozen = .harvested ∧
      ∃ y, y ∈ t.mt.minutes ∧ y.epoch = x.epoch ∧ y.built = true ∧ y.root = treeHash 13 (y.leaves.map (fun e => e.2)) ∧ y.leaves = y.sheaves.map (fun e => (e.1, leafHash e.2))) ∧
    (s.culm.session = true → s.mt.frozen = .harvested → s.mt.clearing = false → Yields .clear s fun t => t.mt = { s.mt with clearing := true }) ∧
    (s.mt.clearing = true → Yields .clearComplete s fun t => t.mt.frozen = .cleared ∧ t.mt.clearing = false ∧
      (∀ n i, n < 65536 → i < 8 → tget (fun _ => 0) t.saCnt ((fb * 65536 + n) * 8 + i) = 0) ∧
      ∀ d i, d < 4096 → i < 4 → tget (fun _ => 0) t.domCnt ((fb * 4096 + d) * 4 + i) = 0) ∧
    (s.culm.session = true → s.mt.frozen ≠ .harvesting → s.mt.stallAt = none → exec (.hvHeadWrite v) s = .next (rset s (mtA + 0x28) (w32 (v.val % 65536)))) ∧
    (s.mt.minute = some m → s.mt.boundary = none → boundaryReady s = true → Yields .minuteFallbackExpiry s fun t => t.mt.timer = true ∧ t.mt.boundary = some { timer := true } ∧
      t.mt.highest = some (m + 1)) ∧
    (s.mt.minute = some m → s.mt.boundary = none → boundaryReady s = false → Yields .minuteFallbackExpiry s fun t => t.mt = { s.mt with due := true })

/-- Reading and signing of metering: a record is read into its data registers, a signature seals the oldest minute built, a failed one waits for its retry, and the services return a
package or begin a boundary (R306, R307, R316, R317, R319, R325). -/
def Claims.MeteringRecords : Prop :=
  ∀ (s : State) (h : Fin 8) (j : Job) (x : Minute) (st : Fin 8),
    let a := svcArg (hartOf s h)
    let i := rf s (mtA + 0x30) 16 0
    let kind := rf s (mtA + 0x30) 17 17
    runs s = true →
    (s.culm.session = true → i < (if kind = 0 then 65536 else 4096) → Yields .counterRecordRead s fun t =>
      t.mt.rd.take 15 = (wordsOf 16 (anyRecord s (if rbit s (mtA + 0x30) 18 then frozenBank s else s.bank) (65536 * kind + i))).take 15) ∧
    (toSign s = some x → s.mt.retry = false → signBarred s = false → Yields (.stookSigned 0) s fun t => t.mt.lastRoot = some (x.epoch, x.root) ∧
      t.mt.minutes = s.mt.minutes.map (fun y => if y.epoch = x.epoch then
        { y with record := rootRecord s x, sign := octetsAt (Config.sign s.lc.ownAlg (Config.meteringKey s.lc.ownAlg) (rootRecord s x)) 0 (signLen s.lc.ownAlg) } else y)) ∧
    (toSign s = some x → s.mt.retry = false → st ≠ 0 → Yields (.stookSigned st) s fun t => t.mt = { s.mt with retry := true }) ∧
    (s.mt.retry = true → Yields .signRetryExpiry s fun t => t.mt = { s.mt with retry := false, signAt := s.now }) ∧
    (s.mt.stallAt.isSome = true → exec .harvestStall s = .next (raise s (mtSrc + 10) [])) ∧
    (InService s h 0x50 false j → inScratch (a 3) (a 4 % 2 ^ 14) = true → (a 5 < 4096 ∨ a 5 = 0xFFFF) → (j.domain = 0 ∨ a 5 = j.domain) → heldMinute s (a 2) (a 5) = some x →
      exec (.sheafGet h) s = .next (let l := ((packageOf x (a 5)).drop (a 4 / 2 ^ 14 * 64)).take (a 4 % 2 ^ 14)
        svcRet (scratchWrite s j (a 3) l) h 0 [l.length])) ∧
    (InService s h 0x51 true j → (a 2 + a 3 * 2 ^ 32) % 2 ^ 20 ≤ 999999 → s.mt.minute.isSome = true → s.mt.lastSwap + tickFrom s ≤ s.now → s.mt.boundary = none → boundaryReady s = true →
      s.mt.timer = false → exec (.minuteTick h) s = .next (boundaryStart s { timer := false, stamp := a 2 + a 3 * 2 ^ 32, order := some j.id }))

/-- Counter banks, minutes, sheaves and their signing (R300 to R325).
Cycle counts are free values and the forms of the records are the model's (log entries 5 and 43). -/
def Obligations.Metering : Prop := Claims.CounterBanks ∧ Claims.MeteringRecords



/-! ### Tamper, the alarm ladder and the event recorder (chapter 17) -/

/-- A monitor's filter: an event of a running monitor is noted and asserts it; the N-th within W ms fires it, which clears its count, marks it in FIRED and raises the ladder to its
LEVEL, or not in EXERCISE; a line-die monitor's firing without a session waits; ASSERTED clears after W ms; a shadow's mismatch and a bad loop are such events (R534 to R539, R547). -/
def Claims.MonitorFilters : Prop :=
  ∀ (s : State) (m : Fin 19) (ms : Fin 4194304) (bad : Fin 256) (n : Fin 22) (a : BitVec 32),
    let x := monOf s m
    let noted := { x with times := withEvent s m, count := x.count + 1, firstTsc := if x.count = 0 then tscOf s else x.firstTsc, asserted := true, last := s.now, lastResp := response s m 0 }
    (ms.val = 2 ^ m.val → runs s = true → monitorRuns s m = true → willFire s m = false → Yields (.monitorTrip ms) s fun t =>
      monOf t m = noted ∧ t.level = s.level ∧ t.tm.fired = s.tm.fired) ∧
    (ms.val = 2 ^ m.val → runs s = true → monitorRuns s m = true → willFire s m = true → lateMon s m = false → exercising s = false → Yields (.monitorTrip ms) s fun t =>
      t.level = Nat.max s.level (Nat.min 5 (response s m 0)) ∧ (monOf t m).count = 0 ∧ (monOf t m).asserted = true ∧ t.tm.fired = s.tm.fired ||| 2 ^ m.val) ∧
    (ms.val = 2 ^ m.val → runs s = true → monitorRuns s m = true → willFire s m = true → lateMon s m = false → exercising s = true → Yields (.monitorTrip ms) s fun t =>
      t.level = s.level ∧ (monOf t m).count = 0 ∧ t.tm.fired = s.tm.fired ||| 2 ^ m.val) ∧
    (ms.val = 2 ^ m.val → runs s = true → monitorRuns s m = true → willFire s m = true → lateMon s m = true → Yields (.monitorTrip ms) s fun t =>
      t.level = s.level ∧ t.tm.fired = s.tm.fired ∧ t.tm.late.map (fun f => f.mon) = s.tm.late.map (fun f => f.mon) ++ [m.val]) ∧
    (bad.val = 2 ^ m.val → monitorRuns s m = true → willFire s m = false → Yields (.loopSample bad) s fun t => monOf t m = noted ∧ t.level = s.level) ∧
    (Yields (.assertedClearExpiry n false) s fun t => monOf t n = { monOf s n with asserted := false } ∧ t.level = s.level) ∧
    exec (.assertedClearExpiry n true) s = .next s ∧
    (runs s = true → shadowed a.toNat = true → monitorRuns s 20 = true → willFire s 20 = false → Yields (.shadowMismatch a) s fun t =>
      (monOf t 20).count = (monOf s 20).count + 1 ∧ (monOf t 20).asserted = true ∧ t.level = s.level)

/-- TM_RAISE applies its level to the ladder, from THROTTLE on with a log record; a rise to LOCKDOWN sets the latch; the cell's warning is noted (R540, R544, R648). -/
def Claims.AlarmRaises : Prop :=
  ∀ (s : State) (level : Fin 8) (reason : Fin 65536), runs s = true →
    (level.val ≤ 5 → Yields (.alarmRaise level reason) s fun t => t.level = Nat.max s.level level ∧ (s.level < 5 → level.val = 5 → t.tm.latch = true)) ∧
    (level.val ≤ 5 → level.val ≤ s.level → Yields (.alarmRaise level reason) s fun t =>
      t.tm.logPend = if 2 ≤ level.val then (logPut s 7 0xFF level 0 false [reason.val]).tm.logPend else s.tm.logPend) ∧
    (6 ≤ level.val → exec (.alarmRaise level reason) s = .next (refuse s 0x30020008)) ∧
    (s.pw.vbatOk = true → s.pw.vbatLow = false → Yields .vbatLow s fun t => t.pw = { s.pw with vbatLow := true } ∧ t.level = s.level)

/-- Monitors, firings and raises of the alarm ladder (R534 to R548).
The part of a ladder's rise that stands applied within the step is the model's reading (log entries 16 and 18). -/
def Obligations.MonitorsAndAlarms : Prop := Claims.MonitorFilters ∧ Claims.AlarmRaises

/-- The tamper log: a record is appended with the next LSEQ, to the first 64 or to the ring, whose oldest gives way once it is full; the flash copies are updated in turn at the cost of a
token, and tokens come back (R549 to R551). -/
def Claims.TamperLog : Prop :=
  ∀ (s : State) (r : LogRec) (l : List LogRec),
    (s.pw.mode ≠ .off → s.tm.logPend = r :: l → Yields .tamperLogAppend s fun t =>
      t.tm.logPend = l ∧ t.tm.lseq = s.tm.lseq + 1 ∧ t.tm.dirty = true ∧
      (s.tm.first.length < 64 → t.tm.first = s.tm.first ++ [{ r with lseq := s.tm.lseq }] ∧ t.tm.ring = s.tm.ring) ∧
      (64 ≤ s.tm.first.length → s.tm.ring.length < 448 → t.tm.first = s.tm.first ∧ t.tm.ring = s.tm.ring ++ [{ r with lseq := s.tm.lseq }]) ∧
      (64 ≤ s.tm.first.length → 448 ≤ s.tm.ring.length → t.tm.first = s.tm.first ∧ t.tm.ring = s.tm.ring.tail ++ [{ r with lseq := s.tm.lseq }])) ∧
    (runs s = true → s.tm.dirty = true → 0 < s.ev.logTok → flashFree s = true → Yields .tamperMirrorUpdate s fun t =>
      t.tm = { s.tm with nextB := !s.tm.nextB, dirty := false } ∧ t.ev.logTok = s.ev.logTok - 1) ∧
    (s.ev.logTok < 8 → Yields .logTokenRefill s fun t => t.ev = { s.ev with logTok := s.ev.logTok + 1 }) ∧
    (8 ≤ s.ev.logTok → exec .logTokenRefill s = .next s)

/-- The event recorder: a raising taken becomes a record at its area's head with the next SEQ, or raises REPEAT of its source's record in the open quarter; a full quarter is mirrored for a token;
tokens come back, and a vector's bucket too (R553 to R561). -/
def Claims.Recorder : Prop :=
  ∀ (s : State) (r : Raising) (l : EvLast) (q : Nat × Nat) (f : Fin 512) (v : Fin 64),
    let k := evClass r.src
    let h := areaHead s k
    let x := vecOf s f v
    (runs s = true → nextRaising s = some r → k < 4 → h < areaLen k → s.ev.held = [] → bufferFault { s with ev := { s.ev with intake := s.ev.intake.erase r } } 26 .store (recSlotA k h) 32 = none →
      tget (fun _ => false) s.ev.gapped k = false → openRecord s k r.src r.code = none → Yields .recorderAccept s fun t =>
      memRead t (recSlotA k h) 32 = recBytes s.ev.seq r.src r.code (r.count - 1) r.data ∧ t.ev.seq = (s.ev.seq + 1) % 2 ^ 48 ∧ areaHead t k = (h + 1) % areaLen k ∧
      t.ev.intake = s.ev.intake.erase r) ∧
    (runs s = true → nextRaising s = some r → k < 4 → h < areaLen k → s.ev.held = [] → bufferFault { s with ev := { s.ev with intake := s.ev.intake.erase r } } 26 .store (recSlotA k h) 32 = none →
      tget (fun _ => false) s.ev.gapped k = false → openRecord s k r.src r.code = some l → l.rep + r.count ≤ 0xFFFF → Yields .recorderAccept s fun t =>
      memRead t (recSlotA k l.slot) 32 = recRepeat (memRead s (recSlotA k l.slot) 32) (l.rep + r.count) ∧ t.ev.seq = s.ev.seq ∧ areaHead t k = h) ∧
    (runs s = true → flashFree s = true → s.ev.quarters = [q] → q.1 < 4 → 0 < s.ev.recTok → (q.1 = 0 ∨ rbit s 0x30038000 0 = true) → Yields .recorderQuarterMirror s fun t =>
      t.ev.quarters = [] ∧ t.ev.recTok = s.ev.recTok - 1 ∧ t.ev.mirSeg = (s.ev.mirSeg + 1) % 64 ∧ t.sram = s.sram) ∧
    (s.ev.recTok < 16 → Yields .recorderTokenRefill s fun t => t.ev = { s.ev with recTok := s.ev.recTok + 1 }) ∧
    (x.pend = false → Yields (.msixTokenRefill f v) s fun t => vecOf t f v = { x with used := x.used - 1 })

/-- The tamper log and the event recorder (R549 to R561).
The order of records where R549 and R562 or R540 and R545 meet is the model's reading (log entries 17 and 19). -/
def Obligations.TamperLogAndRecorder : Prop := Claims.TamperLog ∧ Claims.Recorder

/-- Services 0x78 to 0x7C, EV_READ and EV_STEER: the status written to scratch, a good and current clearance applied, a port's fail policy and a monitor's configuration stored, a disabled random
source enabled, records returned, and a source routed to a vector (R278, R295, R386, R468, R534, R543 to R546, R560).
Verification is left to Config (log entry 6), and the records of a clearance are the model's reading (log entry 17). -/
def Obligations.AlarmServices : Prop :=
  ∀ (s : State) (h : Fin 8) (j : Job),
    let x := hartOf s h
    let a := svcArg x
    let rec' := scratchRead s j (a 2) 32
    let lim := a 5
    let all := (recordsFrom s (a 2 + a 3 * 2 ^ 32)).filter (fun r => visible s j.domain r.2)
    (InService s h 0x78 true j → inScratch (a 2) 64 = true → exec (.alarmStatus h) s = .next (svcRet (scratchWrite s j (a 2) (alarmStatus s)) h 0 [])) ∧
    (InService s h 0x79 true j → inScratch (a 2) 32 = true → inScratch (a 2) (32 + clearLen rec') = true →
      clearCurrent s rec' = true → (s.level < 3 ∨ (s.culm.session = true ∧ grBusy s = false)) →
      exec (.alarmClear h) s = .next (if clearGood s rec' (scratchRead s j (a 2 + 32) (clearLen rec')) then svcRet (clearApply s (leNat (octetsAt rec' 20 1))) h 0 []
        else svcRet (raise s 3783 []) h 3 [])) ∧
    (let t := clearApply s (leNat (octetsAt rec' 20 1))
     t.level = leNat (octetsAt rec' 20 1) ∧ t.tm.clearSeq = s.tm.clearSeq + 1 ∧ t.tm.fired = 0 ∧ t.tm.latch = false) ∧
    (InService s h 0x7A true j → a 2 < 64 → a 3 < 2 → (s.level < 4 ∨ portOn s (a 2) = false) →
      exec (.failPolicy h) s = .next (svcRet (rsetf s (0x30020028 + 4 * (a 2 / 32)) (a 2 % 32) (a 2 % 32) (a 3)) h 0 [])) ∧
    (InService s h 0x7A true j → a 2 < 64 → a 3 < 2 → 4 ≤ s.level → portOn s (a 2) = true → s.culm.session = true →
      exec (.failPolicy h) s = .next (svcRet (failWrite (rsetf s (0x30020028 + 4 * (a 2 / 32)) (a 2 % 32) (a 2 % 32) (a 3)) false) h 0 [])) ∧
    (InService s h 0x7B true j → mcfgGood (a 2) (a 5 % 4) (a 3) (a 4) (a 5 / 4 % 8) = true →
      exec (.monitorCfg h) s = .next (svcRet (rset s (mcfgA (a 2)) (w32 (packFields [(a 5 % 4, 0), (a 3, 2), (a 4, 7), (a 5 / 4 % 8, 21)]))) h 0 [])) ∧
    (InService s h 0x7C true j → s.rng.st = .disabled → exec (.rngEnable h) s = .next (svcRet (rgEnable s) h 0 [])) ∧
    (InService s h 0x58 false j → inScratch (a 4) (32 * lim) = true → all.length ≤ lim →
      exec (.evRead h) s = .next (svcRet (scratchWrite (crcErrors s) j (a 4) (all.flatMap (fun r => r.2))) h 0 [all.length, s.ev.seq % 2 ^ 32, s.ev.seq / 2 ^ 32])) ∧
    (InService s h 0x59 false j → ((1856 ≤ a 2 ∧ a 2 < 2368) ∨ (256 ≤ a 2 ∧ a 2 < 1280)) → maySteerSrc s j.domain (a 2) = true → 2 ≤ a 3 → a 3 < 64 → a 3 ≤ 1 + (fnOf s j.fn).evVecs →
      exec (.evSteer h) s = .next (svcRet (rset s (routeAddr (a 2)) (w32 (packFields [(2, 0), (j.fn % 256, 6), (j.fn / 256, 14), (a 3, 15)]))) h 0 [])) ∧
    (InService s h 0x59 false j → ((1856 ≤ a 2 ∧ a 2 < 2368) ∨ (256 ≤ a 2 ∧ a 2 < 1280)) → maySteerSrc s j.domain (a 2) = true → a 3 = 0xFF →
      exec (.evSteer h) s = .next (svcRet (rset s (routeAddr (a 2)) (putFld (rget s (routeAddr (a 2))) 1 0 0)) h 0 []))



/-! ### The field tag (chapter 19) -/

/-- The tag's exchange: a field brings IDLE with a new handle, REQA and WUPA bring READY with ATQA 4, a fitting UID is answered and selected with SAK 0x20, RATS opens a session, PPS and S(DESELECT)
are answered, HLTA halts, and a wrong frame falls back to IDLE (R589 to R593, R603, R608). -/
def Claims.TagExchange : Prop :=
  ∀ (s : State) (strong ok' done : Bool) (n : Fin 33) (v : BitVec 32) (fsdi : Fin 16),
    let g := s.tag
    (Yields (.fieldRise strong ok') s fun t => t.tag.field = true ∧ t.tag.strong = strong ∧ t.tag.iso = .idle ∧ t.tag.l4 = false ∧ t.tag.hello = false ∧ t.tag.nvm = g.nvm ∧
      (ok' = true → t.tag.uid.isSome = true)) ∧
    (g.field = true → mainOn s = true → Yields (.fieldCollapse done) s fun t =>
      t.tag = { g with field := false, strong := false, iso := .idle, l4 := false, hello := false, stage := [], fsd := 64 }) ∧
    (g.field = true → mainOn s = false → Yields (.fieldCollapse done) s fun t => t.tag.field = false ∧ t.tag.uid = none ∧ t.tag.writes = []) ∧
    (g.field = true → g.iso = .idle → Yields (.reqa ok') s fun t => t.tag.iso = .ready ∧ t.sent = s.sent ++ [.answer 2 (leBytes 2 4)] ∧ (g.uid.isSome = true → t.tag.uid = g.uid)) ∧
    (g.iso = .halt → exec (.reqa ok') s = .next s) ∧
    (g.field = true → (g.iso = .idle ∨ g.iso = .halt) → Yields (.wupa ok') s fun t => t.tag.iso = .ready ∧ t.sent = s.sent ++ [.answer 2 (leBytes 2 4)]) ∧
    (g.field = true → g.iso = .ready → leNat (tagUid s) % 2 ^ n.val = v.toNat % 2 ^ n.val →
      exec (.anticollision n v ok') s = .next (send s (.answer 2 ((tagUid s ++ [tagBcc (tagUid s)]).drop (n.val / 8))))) ∧
    (g.field = true → g.iso = .ready → leNat (tagUid s) = v.toNat → Yields (.select v ok') s fun t =>
      t.tag = { g with iso := .active, l4 := false, hello := false } ∧ t.sent.getLast? = some (.answer 2 [0x20])) ∧
    (g.field = true → g.iso = .active → g.l4 = false → Yields (.hlta ok') s fun t => t.tag = { g with iso := .halt } ∧ t.sent = s.sent) ∧
    (g.field = true → g.iso = .active → g.l4 = false → Yields (.rats fsdi ok') s fun t =>
      t.tag = { g with l4 := true, hello := false, stage := [], fsd := fsdOf fsdi } ∧ t.sent = s.sent ++ [.answer 2 [0x05, 0x75, 0x00, 0x80, 0x00]]) ∧
    (g.field = true → g.l4 = true → Yields (.pps ok') s fun t => t.tag = g ∧ t.sent = s.sent ++ [.answer 2 [0xD0]]) ∧
    (g.field = true → g.l4 = true → Yields (.sDeselect ok') s fun t =>
      t.tag = { g with iso := .halt, l4 := false, hello := false } ∧ t.sent = s.sent ++ [.answer 2 [0xC2]]) ∧
    (g.field = true → (g.iso = .ready ∨ g.iso = .active) → Yields (.tagProtocolError ok') s fun t => t.tag.iso = .idle ∧ t.tag.l4 = false ∧ t.tag.nvm = g.nvm) ∧
    (g.field = true → g.iso ≠ .ready → g.iso ≠ .active → Yields (.tagProtocolError ok') s fun t => t.tag = g) ∧
    (g.l4 = true → g.writes.any (fun w => w.who == .reader) = true → exec .wtxExpiry s = .next (send s (.answer 2 [0xF2, 0x01])))

/-- Commands of a session: HELLO opens it, and each command is answered with a status and what it asks for; an increment and a commit are queued as writes, and the inbox is staged (R595, R596, R600, R606). -/
def Claims.TagCommands : Prop :=
  ∀ (s : State) (v : Fin 65536) (c amount len : Fin 256) (off n : Fin 65536) (data : List Byte) (crc : BitVec 32),
    let g := s.tag
    let reply := fun (u : State) (st : Nat) (l : List Byte) => send u (.answer 2 (leBytes 1 st ++ l))
    g.l4 = true →
    (v.val / 256 = 1 → exec (.tagHello v) s = .next (reply { s with tag := { g with hello := true } } 0 (leBytes 2 0x0100))) ∧
    (v.val / 256 ≠ 1 → exec (.tagHello v) s = .next (reply s 0x0A [])) ∧
    (g.hello = false → Yields .identity s fun t => t.tag = g ∧ t.sent.getLast? = some (.answer 2 [1])) ∧
    (g.hello = true →
      exec .identity s = .next (reply s 0 ((tagPayload s 1).take 8 ++ (tagPayload s 2).take 2 ++ leBytes 2 0x0100 ++
        leBytes 1 (b2n (mainOn s) + 2 * b2n g.degraded + 4 * b2n g.strong + 8 * b2n (tagValue (tagRec s 1)).isNone))) ∧
      (tagLive s = false → (tagValue (tagRec s 3)).isNone = true → exec .summary s = .next (reply s 1 [])) ∧
      (tagLive s = false → (tagValue (tagRec s 3)).isNone = false → ∃ l, exec .summary s = .next (reply s 0 (leBytes 4 (tagSeq s 3) ++ l)) ∧
        l.take 2 = (tagPayload s 3).take 2 ∧ l.drop 3 = (tagPayload s 3).drop 3 ∧ (nth l 2 0).toNat / 4 % 2 = 0) ∧
      exec .counters s = .next (reply s 0 (leBytes 4 (tagSeq s 4) ++ (tagPayload s 4).take 64)) ∧
      (4 ≤ c.val → c.val < 16 → amount.val ≠ 0 → tagCounter s c + amount.val < 2 ^ 32 → (tagPayload s 2).head? ≠ some 5 → (mainOn s = true ∨ g.strong = true) →
        exec (.increment c amount) s = .next (tagQueue s { kind := 4, ask := .counter c amount, who := .reader })) ∧
      (4 ≤ c.val → c.val < 16 → amount.val ≠ 0 → 2 ^ 32 ≤ tagCounter s c + amount.val → exec (.increment c amount) s = .next (reply s 4 [])) ∧
      (off.val < 1024 → len.val ≠ 0 → len.val ≤ 56 → exec (.inboxRead off len) s =
        .next (let m := leNat ((tagPayload s 5).take 2)
          reply s 0 (leBytes 4 (tagSeq s 5) ++ leBytes 2 m ++ octetsAt (tagPayload s 5) (4 + off.val) (Nat.min len.val (m - off.val))))) ∧
      (data.length ≠ 0 → data.length ≤ 56 → off.val + data.length ≤ 1024 → exec (.inboxStage off data) s =
        .next (reply { s with tag := { g with stage := putOctets (octetsAt g.stage 0 1024) off data } } 0 [])) ∧
      (n.val ≤ 1024 → crc32c ((tagStage s).take n) = crc.toNat → (tagPayload s 2).head? ≠ some 5 → (mainOn s = true ∨ g.strong = true) →
        exec (.inboxCommit n crc) s = .next (tagQueue s { kind := 5, ask := .payload (leBytes 2 n ++ leBytes 2 0 ++ tagStage s), who := .reader })) ∧
      (n.val ≤ 1024 → crc32c ((tagStage s).take n) ≠ crc.toNat → exec (.inboxCommit n crc) s = .next (reply s 3 [])))

/-- The tag: its exchange and its commands (R589 to R608).
An unmatched SELECT that gets no answer is PRESUMED, and malformed frames are the model's reading (log entry 20). -/
def Obligations.TagSession : Prop := Claims.TagExchange ∧ Claims.TagCommands

/-- Writes of the tag's records: a write begins with copy B under the next SEQ where both copies are good, each page is verified and written again once, copy P follows B, and the whole write gives its
result; TG_CMD queues the device's own writes and reads records (R598, R599, R602 to R604, R610).
Records are typed and are written page by page, the model's form (log entry 20). -/
def Obligations.TagWrites : Prop :=
  ∀ (s : State) (w : TagWrite) (r : List TagWrite) (kind : Fin 8) (c : Fin 4),
    let g := s.tag
    let rec' := tagRec s w.kind
    (g.writes = [] → rec'.b.valid = true → rec'.p.valid = true → rec'.b.seq = rec'.p.seq → let t := tagQueue s w
      t.tag.writes = [{ w with step := .writeB, copy := newCopy s w.kind w.ask, page := 0, failed := false }] ∧ tagRec t w.kind = { rec' with b := {} }) ∧
    (g.writes = w :: r → tagQueue s w = { s with tag := { g with writes := w :: r ++ [w] } }) ∧
    (g.writes = w :: r → w.page + 1 < tagPages w.kind → Yields (.nvmPageWriteComplete true) s fun t => t.tag = { g with writes := { w with page := w.page + 1, failed := false } :: r }) ∧
    (g.writes = w :: r → w.failed = false → Yields (.nvmPageWriteComplete false) s fun t => t.tag = { g with writes := { w with failed := true } :: r }) ∧
    (g.writes = [w] → w.failed = true → w.who = .device → Yields (.nvmPageWriteComplete false) s fun t => t.tag.writes = [] ∧ t.tag.code = 1 ∧ t.tag.kind = w.kind ∧ t.tag.nvm = g.nvm) ∧
    (g.writes = w :: r → tagPages w.kind ≤ w.page + 1 → w.step = .writeB → Yields (.nvmPageWriteComplete true) s fun t =>
      tagRec t w.kind = { b := w.copy, p := {} } ∧ t.tag.writes = { w with step := .writeP, page := 0, failed := false } :: r) ∧
    (g.writes = [w] → tagPages w.kind ≤ w.page + 1 → w.step = .writeP → w.who = .device → Yields (.nvmPageWriteComplete true) s fun t =>
      tagRec t w.kind = { rec' with p := w.copy } ∧ t.tag.writes = [] ∧ t.tag.code = 0 ∧ t.tag.kind = w.kind) ∧
    (g.writes = [w] → tagPages w.kind ≤ w.page + 1 → w.step = .writeP → w.who = .reader → g.l4 = true → Yields (.nvmPageWriteComplete true) s fun t =>
      tagRec t w.kind = { rec' with p := w.copy } ∧ t.tag.writes = [] ∧ t.sent.getLast? = some (.answer 2 (leBytes 1 0 ++ wroteValue w))) ∧
    (runs s = true → g.writes = [] → (kind.val = 3 ∨ kind.val = 5 ∨ ((kind.val = 1 ∨ kind.val = 2) ∧ s.pw.step < 10)) →
      exec (.tgWrite kind) s = .next (tagQueue s { kind := kind, ask := .payload (octetsOf (rgets s (tgA + 0x400) 272)), who := .device })) ∧
    (runs s = true → g.writes = [] → exec (.tgIncrement c) s = .next (tagQueue s { kind := 4, ask := .counter c 1, who := .device })) ∧
    (runs s = true → g.writes = [] → 1 ≤ kind.val → kind.val ≤ 5 → Yields (.tgRead kind) s fun t =>
      t.tag = { g with code := if (tagValue (tagRec s kind)).isNone then 2 else 0, repaired := false, kind := kind.val })



/-! ### Power, modes and the start (chapter 16) -/

/-- Power, resets and wakes: power good, RESET_N, PW_CMD RESET, HOLD_N and WAKE begin a start with their cause, the memories wiped and the level kept with the backup domain; power good falling leaves
BACKUP, or nothing without VBAT; the cell's coming and going (R502, R505 to R508, R533, R649). -/
def Claims.PowerAndResets : Prop :=
  ∀ (s : State) (ok' done v : Bool) (data : Fin 256),
    let start := fun (cause : Nat) (t : State) => t.pw.mode = .starting ∧ t.pw.step = 1 ∧ t.pw.cause = cause ∧ t.pw.mainGood = true ∧ t.sram = [] ∧
      (s.tm.sigOk = true → t.level = s.level ∧ t.tm.first = s.tm.first ∧ t.tm.ring = s.tm.ring) ∧ (s.tm.sigOk = false → t.tm.backupLost = true)
    (s.pw.mainGood = false → s.pw.holdLow = true → Yields (.powerGoodRise ok') s fun t => t.pw.mode = .dormant ∧ t.pw.mainGood = true ∧ t.level = s.level) ∧
    (s.pw.mainGood = false → s.pw.holdLow = false → Yields (.powerGoodRise ok') s (start (if s.tm.sigOk = true ∧ s.now < s.pw.lastMain + 1000000 then 1 else 0))) ∧
    (s.pw.mainGood = true → Yields (.powerGoodFall done) s fun t => t.pw.mode = (if s.pw.vbatOk then .backup else .off) ∧ t.pw.mainGood = false ∧
      t.tm.sigOk = (s.tm.sigOk && s.pw.vbatOk) ∧ t.sram = [] ∧ t.level = s.level) ∧
    (mainOn s = true → Yields .resetPin s (start 2)) ∧
    (runs s = true → Yields .resetCommand s (start 3)) ∧
    (s.pw.mode = .dormant → Yields .holdNHigh s (start 4)) ∧
    (s.pw.mode ≠ .dormant → Yields .holdNHigh s fun t => t.pw = { s.pw with holdLow := false } ∧ t.level = s.level) ∧
    (data.val = 0x5A → s.pw.mode = .dormant → Yields (.wake data) s (start 4)) ∧
    (s.pw.mainGood = true → Yields (.vbatOkChange v) s fun t => t.pw = { s.pw with vbatOk := v, vbatLow := false } ∧ t.tm = s.tm) ∧
    (s.pw.mainGood = false → Yields (.vbatOkChange true) s fun t => t.pw.mode = .backup ∧ t.pw.vbatOk = true) ∧
    (s.pw.mainGood = false → Yields (.vbatOkChange false) s fun t => t.pw.mode = .off ∧ t.tm.sigOk = false)

/-- DORMANT: a request before step 12 of a start waits, another pauses the orders and begins the sequence; the seal is given up at its limit, and the entry leaves the dies wiped and without power
(R504, R521, R522). -/
def Claims.DormantRequests : Prop :=
  ∀ (s : State) (data : Fin 256),
    let waits := fun (t : State) => t.pw.dormantWait = true ∧ t.pw.mode = .starting
    let begins := fun (t : State) => t.ord.paused = true ∧ (t.pw.dormantStep = 1 ∨ t.pw.dormantStep = 4)
    (s.pw.mode = .starting → s.pw.step < 12 → Yields .dormantCommand s waits ∧ Yields .holdNLow s (fun t => waits t ∧ t.pw.holdLow = true) ∧
      (data.val = 0xA5 → rbit s 0x3000000C 11 = true → Yields (.dormantReq data) s waits)) ∧
    (runs s = true → s.pw.mode ≠ .starting → s.pw.dormantStep = 0 → Yields .dormantCommand s begins ∧ Yields .holdNLow s (fun t => begins t ∧ t.pw.holdLow = true) ∧
      (data.val = 0xA5 → rbit s 0x3000000C 11 = true → Yields (.dormantReq data) s begins)) ∧
    ((s.pw.dormantStep = 1 ∨ s.pw.dormantStep = 4) → Yields .dormantSealTimeout s fun t => t.pw = { s.pw with dormantStep := 5 } ∧ t.level = s.level) ∧
    (runs s = true → s.pw.dormantStep = 5 → Yields .dormantEntry s fun t => t.pw.mode = .dormant ∧ t.sram = [] ∧ t.gran.slots = [])

/-- Power, resets, wakes and DORMANT (R502 to R508, R521, R522, R533).
HOLD_N low at a start and the loss of the backup domain are the model's reading (log entries 28 and 44). -/
def Obligations.PowerAndDormant : Prop := Claims.PowerAndResets ∧ Claims.DormantRequests

/-- Clocks and the SMBus target: locked PLLs complete step 2, a PLL that loses lock gives way to its partner, without one the device goes DORMANT, a failed one is tried again, the fast PLLs stop
when all is quiet; and the target's answers (R390, R511 to R514, R524). -/
def Claims.ClocksAndSmbus : Prop :=
  ∀ (s : State) (a b : Fin 8) (d : Fin 3) (line ctl : Fin 256),
    let x := pllOf s d
    let idleLock := if x.activeB then x.lockA else x.lockB
    s.pw.plls.length = 3 →
    (s.pw.mode = .starting → s.pw.step ≤ 1 → (∀ e, e < 2 → bitAt a e = true ∨ bitAt b e = true) → Yields (.startPllLocked a b) s fun t =>
      t.pw.step = 2 ∧ ∀ e, e < 3 → (pllOf t e).lockA = bitAt a e ∧ (pllOf t e).lockB = bitAt b e) ∧
    (runs s = true → 2 ≤ s.pw.step → partnerGood s x = true → Yields (.pllLockLoss d) s fun t =>
      (pllOf t d).activeB = !x.activeB ∧ t.pw.mode = s.pw.mode ∧ ∀ e, e < 3 → e ≠ d.val → pllOf t e = pllOf s e) ∧
    (runs s = true → 2 ≤ s.pw.step → partnerGood s x = false → d.val ≠ 2 → Yields (.pllLockLoss d) s fun t => t.pw.mode = .dormant ∧ t.pw.pllLost = true) ∧
    (runs s = true → idleLock = false → Yields (.pllRetryExpiry d true) s fun t =>
      pllOf t d = (if x.activeB then { x with lockA := true, failed := false, relock := some s.now } else { x with lockB := true, failed := false, relock := some s.now })) ∧
    (runs s = true → idleLock = false → Yields (.pllRetryExpiry d false) s fun t => pllOf t d = { x with failed := true }) ∧
    (runs s = true → s.pw.stopped = false → rbit s 0x3000000C 0 = true → allQuiet s = true → Yields .pllIdleStop s fun t => t.pw = { s.pw with stopped := true }) ∧
    (mainOn s = true → exec .smbusVersion s = .next (send s (.answer 0 (leBytes 2 0x0100)))) ∧
    (mainOn s = true → exec .smbusMode s = .next (send s (.answer 0 (leBytes 1 (modeCode s + 8 * s.pw.step))))) ∧
    (mainOn s = true → s.pw.commitFail = false → exec .smbusCause s =
      .next (send s (.answer 0 (leBytes 1 (causeReg s % 128 + (if s.pw.pllLost = true ∧ s.pw.mode = .dormant then 128 else 0)))))) ∧
    (runs s = true → Yields (.smbusTemp line ctl) s fun t => t.pw = { s.pw with tempL := line, tempC := ctl } ∧ t.sent = s.sent ++ [.answer 0 (leBytes 1 line ++ leBytes 1 ctl)])

/-- The start from the wipe to SERVICE: the wipe completes step 4, the life-cycle state is decoded at step 6, the root regenerated at step 7, a good slot's steward accepted and settled at step 12, the
lanes calibrated at step 14, and SERVICE entered, or LOCKDOWN with the latch set (R508, R514, R517, R526, R527, R570, R644).
The grouping of the steps under commands, and flash that the model does not know at its reset, are the model's choice (log entries 27 and 45). -/
def Obligations.StartSequence : Prop :=
  ∀ (s : State) (fails : List (Nat × Nat × Nat)) (st : Nat) (g : Fin 2) (other repeated : Bool) (worst : Fin 19) (said : Option (Fin 2)) (b : Nat) (cfg : List (Nat × W32)),
    (s.pw.mode = .starting → s.pw.step = 2 → s.pw.wiped = false → Yields (.startWipeComplete fails) s fun t => t.pw.step = 4 ∧ t.pw.wiped = true ∧ t.pw.mode = .starting) ∧
    (decodeReady s = true → lcScan s (List.range 8) 0 = .state st none → st ≠ 5 → Yields (.lcDecode 0) s fun t =>
      t.lc.state = st ∧ t.lc.pending = none ∧ t.pw.decoded = true ∧ t.pw.step = Nat.max s.pw.step 6) ∧
    (pufReady s = true → genMay s g = true → Yields (.pufRegen (some g) other repeated worst) s fun t =>
      t.pw.rootOk = true ∧ t.pw.gen = g.val ∧ t.pw.step = 7 ∧ t.pw.worst = worst.val ∧ t.pw.repeated = repeated) ∧
    (pufReady s = true → s.lc.state ≠ 1 → s.lc.state ≠ 4 → Yields (.pufRegen none other repeated worst) s fun t => t.pw.pufFail = true ∧ t.pw.step = s.pw.step) ∧
    (acceptReady s = true → slotChosen s (said.map (fun x => x.val)) = some b → Yields (.stewardAccept said 0) s fun t => t.pw.step = 12 ∧ t.upd.slot = b ∧ t.pw.mode = .starting) ∧
    (s.pw.mode = .starting → s.pw.step = 12 → s.pw.dormantStep = 0 → (s.culm.session = true ∨ s.pw.pufFail = true) → Yields (.serdesCalibrationComplete cfg) s fun t =>
      t.pw.step = 14 ∧ (s.lc.state ≠ 3 → t.sram = s.sram ∧ (s.now ≤ s.pw.startAt + 2150000 → t.regs = s.regs))) ∧
    (serviceReady s = true → s.tm.latch = false → s.pw.pufFail = false → Yields .startServiceEntry s fun t =>
      t.pw.mode = .service ∧ t.pw.step = 15 ∧ t.mt.minute = some (match s.mt.highest with | some n => n + 1 | none => 0)) ∧
    (serviceReady s = true → (s.tm.latch = true ∨ s.pw.pufFail = true) → Yields .startServiceEntry s fun t => t.pw.mode = .lockdown ∧ t.pw.step = 15)

/-- The PUF's helper data: REFRESH, then a trial by CHECK that commits the generation where the root is the same and WORST below REFRESH_AT, and is given up where not (R517 to R520, R529). -/
def Claims.PufRefresh : Prop :=
  ∀ (s : State) (worst : Fin 32) (same : Bool),
    (runs s = true → s.pw.pufBusy = 0 → s.pw.rootOk = true → Yields .pufRefresh s fun t => t.pw = { s.pw with pufBusy := 1 }) ∧
    (s.pw.pufBusy = 1 → Yields .pufRefreshComplete s fun t => t.pw = { s.pw with pufBusy := 0, refreshed := true, helperN := s.pw.helperN + 1 }) ∧
    (runs s = true → s.pw.pufBusy = 0 → s.pw.refreshed = true → Yields .pufCheck s fun t => t.pw = { s.pw with pufBusy := 2 }) ∧
    (s.pw.pufBusy = 2 → (same = false ∨ rf s 0x30000018 8 4 ≤ worst.val) → Yields (.pufCheckComplete worst same) s fun t =>
      t.pw = { s.pw with pufBusy := 0, pufRes := 2, pufResWorst := worst } ∧ t.fl = s.fl) ∧
    (s.pw.pufBusy = 2 → worst.val < rf s 0x30000018 8 4 → Yields (.pufCheckComplete worst true) s fun t =>
      t.pw = { s.pw with pufBusy := 0, pufRes := 1, pufResWorst := worst, committed := true, otherValid := true })

/-- PLLs, SMBus and the helper data of the PUF (R511 to R524, R529).
The retry of a PLL and the SMBus answers are the model's reading (log entry 44). -/
def Obligations.ClocksAndPuf : Prop := Claims.ClocksAndSmbus ∧ Claims.PufRefresh



/-! ### Life cycle and debug (chapter 18) -/

/-- Transitions: INTENT, COMMIT, VOID and PAIR burn their words as R572 and R576 allow, and a burn that completes brings the pending target, the new state at level 0 with the latch cleared, the voided
record, or the pairing (R569, R570, R572, R576 to R578). -/
def Claims.LifeCycleBurns : Prop :=
  ∀ (s : State) (t5 : Fin 8) (st t r : Nat) (v : W32),
    let burns := fun (k r : Nat) (v : W32) (u : State) => u.lc = { s.lc with burn := some (k, r, v) } ∧ u.level = s.level
    runs s = true →
    (mayIntend s t5 = true → Yields (.lcIntent t5) s (burns 1 ((freeRecs s).headD 0) (lcCode t5))) ∧
    (mayIntend s t5 = false → exec (.lcIntent t5) s = .next (lcRefuse s)) ∧
    (lcScan s (List.range 8) 0 = .state st (some (t, r)) → bootRom s = true → s.lc.wiped = true → s.lc.burn = none → Yields .lcCommit s (burns 2 r (lcCode t))) ∧
    (s.lc.voiding = some r → bootRom s = true → s.lc.burn = none → Yields .lcVoid s (burns 3 r 0xFFFFFFFF)) ∧
    (s.lc.state = 1 → s.lc.dbgOpen = true → bitAt s.lc.scope 4 = true → s.pw.rootOk = true → s.lc.burn = none → Yields .lcPair s (burns 4 0 0xFFFFFFFF)) ∧
    (s.lc.burn = some (1, r, v) → (otpRec s r).intent = 0 → v = lcCode t → 1 ≤ t → t ≤ 5 → Yields (.otpBurnComplete 0xFFFFFFFF) s fun u =>
      u.lc.burn = none ∧ (otpRec u r).intent = v ∧ u.lc.pending = some t ∧ u.lc.burnRes = 1) ∧
    (s.lc.burn = some (2, r, v) → (otpRec s r).intent = v → (otpRec s r).commit = 0 → v = lcCode t → 1 ≤ t → t ≤ 4 → Yields (.otpBurnComplete 0xFFFFFFFF) s fun u =>
      u.lc.state = t ∧ u.lc.pending = none ∧ u.level = 0 ∧ u.tm.latch = false ∧ (otpRec u r).commit = v) ∧
    (s.lc.burn = some (3, r, 0xFFFFFFFF) → Yields (.otpBurnComplete 0xFFFFFFFF) s fun u => (otpRec u r).void = 0xFFFFFFFF ∧ u.lc.voiding = none ∧ u.lc.burn = none) ∧
    (s.lc.burn = some (4, 0, 0xFFFFFFFF) → Yields (.otpBurnComplete 0xFFFFFFFF) s fun u => u.lc.paired = true ∧ u.culm.paired = true ∧ u.lc.burn = none)

/-- LC_REQUEST: its five operations on a good record, with the INTENT of a transition begun on a fresh nonce (R573 to R576, R579). -/
def Claims.LifeCycleServices : Prop :=
  ∀ (s : State) (h : Fin 8) (j : Job),
    let x := hartOf s h
    let a := svcArg x
    let l := scratchRead s j (a 2) (a 3)
    let asks := fun (op : Nat) => InService s h 0x80 true j ∧ s.lc.waitHart = none ∧ inScratch (a 2) (a 3) = true ∧ lcOp l = op
    let good := lcGood s l
    let bad := lcReturn s h 3 []
    let out := fun (u : State) (o : List Byte) => lcReturn (scratchWrite u j (a 4) o) h 0 []
    (asks 1 → inScratch (a 4) (lcStatus s).length = true → exec (.lcStatus h) s = .next (if good then out s (lcStatus s) else bad)) ∧
    (asks 2 → inScratch (a 4) 16 = true → canDraw s = true → exec (.lcChallenge h) s =
      .next (let n := drawOctets s 16
        let u := drewOctets s 16
        if good then out { u with lc := { s.lc with nonce := some (BitVec.ofNat 128 (leNat n)) } } n else bad)) ∧
    (asks 3 → s.lc.nonce.map (fun v => v.toNat) = some (lcNonce l) → mayIntend s (lcTarget l) = true → (lcTarget l = 2 → s.lc.paired = true) → lcTarget l ≠ 3 →
      Yields (.lcTransition h) s fun t => t.lc = (if good then { s.lc with nonce := none, waitHart := some (h.val, lcTarget l), burn := some (1, (freeRecs s).headD 0, lcCode (lcTarget l)) }
        else { s.lc with nonce := none })) ∧
    (asks 3 → s.lc.nonce.map (fun v => v.toNat) = some (lcNonce l) → mayIntend s 3 = true → lcTarget l = 3 → flashFree s = true →
      Yields (.lcTransition h) s fun t => t.lc.nonce = none ∧
        (good = true → t.lc.burn = some (1, (freeRecs s).headD 0, lcCode 3) ∧ t.lc.flashKey = octetsAt l 44 (lcPayLen l - 4)) ∧ (good = false → t.lc.burn = s.lc.burn)) ∧
    (asks 3 → s.lc.nonce.map (fun v => v.toNat) ≠ some (lcNonce l) → exec (.lcTransition h) s = .next (lcReturn s h (if good then 1 else 3) [])) ∧
    (asks 4 → s.lc.state = 1 → exec (.lcExercise h) s = .next (if good then lcReturn (rsetf s 0x30020000 0 0 (leNat (octetsAt l 40 1))) h 0 [] else bad)) ∧
    (asks 5 → s.lc.state = 3 → s.lc.metKey = true → exec (.lcKeys h) s = .next (if good ∧ inScratch (a 4) (lcKeys s).length then out s (lcKeys s) else bad))

/-- The life cycle: burns and requests (R568 to R579).
The states before the model's reset and the grouping of burns under commands are the model's choice (log entries 4 and 46). -/
def Obligations.LifeCycle : Prop := Claims.LifeCycleBurns ∧ Claims.LifeCycleServices

/-- The debug port: its instructions, the challenge with a fresh nonce, an unlock within the state's scope, which in TEST burns its token first, refusals counted, DBG_LOCK, and the commands an open
scope lets through (R568, R581 to R585).
DBG_CMD's forms are the model's own (log entry 47), and verification is left to Config (log entry 6). -/
def Obligations.DebugPort : Prop :=
  ∀ (s : State) (l : List Byte) (h : Fin 8) (lv : Fin 4) (ag : Bool),
    let mayExtest := s.lc.state = 0 ∨ ((s.lc.state = 1 ∨ s.lc.state = 4) ∧ bitAt (dbgScope s) 3 = true)
    let ir := fun (v : Nat) (u : State) => u.lc = { s.lc with ir := v } ∧ u.sent = s.sent
    let sc := leNat (octetsAt l 0 2)
    let tok := leNat (octetsAt l 2 1)
    let refused := fun (u : State) => u.lc = { s.lc with ir := 0x11, dbgRefused := s.lc.dbgRefused + 1, dbgNonce := none }
    runs s = true →
    (mayExtest → Yields .extest s (ir 0)) ∧ (¬mayExtest → Yields .extest s (ir 0xFF)) ∧
    (s.lc.state ≠ 5 → Yields .samplePreload s (ir 1)) ∧
    (Yields .idcode s fun u => u.lc = { s.lc with ir := 2 } ∧ u.sent = s.sent ++ [.answer 1 (leBytes 4 0x164004F7)]) ∧
    (Yields .bypass s (ir 0xFF)) ∧
    (dbgMay s = true → canDraw s = true → Yields .dbgChal s fun u => let n := drawOctets s 16
      u.lc = { s.lc with ir := 0x10, dbgNonce := some (BitVec.ofNat 128 (leNat n)) } ∧
      u.sent.getLast? = some (.answer 1 (leBytes 8 Config.identity.toNat ++ n ++ leBytes 1 s.lc.state ++ leBytes 1 (if s.lc.state = 1 then (tokensLeft s).headD 0xFF else 0xFF) ++ leBytes 6 0))) ∧
    (dbgMay s = true → s.lc.burn = none → ddReady s = true → s.lc.dbgRefused < 4 → s.lc.state ≠ 1 → Yields (.dbgResp l true) s fun u =>
      (dbgGood s l = true → u.lc.dbgOpen = true ∧ u.lc.scope = sc ∧ u.lc.dbgNonce = none ∧ sc ||| scopeAllowed s.lc.state = scopeAllowed s.lc.state) ∧ (dbgGood s l = false → refused u)) ∧
    (dbgMay s = true → s.lc.burn = none → ddReady s = true → s.lc.dbgRefused < 4 → s.lc.state = 1 → Yields (.dbgResp l true) s fun u =>
      (dbgGood s l = true → u.lc.burn = some (5, tok, 0xFFFFFFFF) ∧ u.lc.unlock = some (sc, tok) ∧ u.lc.dbgOpen = s.lc.dbgOpen) ∧ (dbgGood s l = false → refused u)) ∧
    (dbgMay s = true → s.lc.burn = none → ddReady s = true → 4 ≤ s.lc.dbgRefused → Yields (.dbgResp l ag) s refused) ∧
    (s.lc.dbgOpen = true → Yields .dbgLock s fun u => u.lc.dbgOpen = false ∧ u.lc.scope = 0 ∧ u.lc.ir = 0x13 ∧ ∀ k, k < 8 → hstOf u k ≠ .haltedDebug) ∧
    (dbgHart s h = true → (hstOf s h = .running ∨ hstOf s h = .waiting) → Yields (.dbgCmd (.halt h)) s fun u => hstOf u h = .haltedDebug ∧ hartOf u h = hartOf s h) ∧
    (bitAt (dbgScope s) 0 = true → hstOf s h = .haltedDebug → Yields (.dbgCmd (.resume h)) s fun u => hstOf u h = .running ∧ hartOf u h = { hartOf s h with fed := none }) ∧
    (dbgHart s h = true → hstOf s h = .haltedDebug → bitAt (dbgScope s) 1 = true → Yields (.dbgCmd (.feed h lv)) s fun u => hartOf u h = { hartOf s h with fed := some lv.val })



/-! ### The custody slot (chapter 20) -/

/-- The card and the SD host: insertion and removal, a raw command and its result, the plan's next command as the card answers or its busy ends, failures, and ACMD41 repeated (R612 to R617, R631). -/
def Claims.CustodyCard : Prop :=
  ∀ (s : State) (wp : Bool) (i : Fin 64) (rsp : Fin 8) (code : Fin 11) (n : Fin 17) (w : List W32) (l : List Byte) (c : SdCmd) (r : List SdCmd) (lba k : Nat),
    let x := s.cs
    let free := x.cmd = none ∧ x.dat0 = false
    (x.cd = false → (runs s = false ∨ s.pw.mode ≠ .service) → Yields (.cardInsert wp) s fun t => t.cs = { x with cd := true, wp := wp }) ∧
    (x.cd = false → s.pw.mode = .service → free → Yields (.cardInsert wp) s fun t =>
      t.cs.cd = true ∧ t.cs.wp = wp ∧ t.cs.card = 1 ∧ t.cs.phase = .init 0 ∧ t.cs.cmd = some (.plain 0 0) ∧ t.sent.getLast? = some (.sd 0 0 [])) ∧
    (x.cd = true → runs s = true → x.boot = false → Yields .cardRemoval s fun t => t.cs.cd = false ∧ t.cs.card = 0 ∧ t.cs.vol = 0 ∧ t.cs.op = none ∧ t.cs.cmd = none ∧ t.cs.phase = .idle) ∧
    (runs s = true → x.cmd = none → x.cd = true → sdIndices.contains i.val = true → Yields (.sdCommand i rsp false false) s fun t =>
      t.cs = { x with cmd := some (.raw i rsp false false) } ∧ t.sent = s.sent ++ [.sd i (rget s (csA + 8)) []]) ∧
    (runs s = true → x.cmd = some (.raw i rsp false false) → rsp.val ≠ 2 → code.val ≠ 10 → x.plan = [] → x.phase = .idle → Yields (.sdCommandComplete code n w l) s fun t =>
      t.cs = { x with cmd := none, code := code, done := n, resp := w.take 4 }) ∧
    (runs s = true → x.cmd = some (.plain 0 0) → x.phase = .init 0 → x.dat0 = false → Yields (.sdCommandComplete 0 n w l) s fun t => t.cs.phase = .init 1 ∧ t.cs.cmd = some (.plain 8 0x1AA)) ∧
    (runs s = true → x.cmd = some (.read lba k) → (x.phase = .fetch ∨ x.phase = .supers ∨ x.phase = .dirs) → x.dat0 = false → x.plan = c :: r → Yields (.sdCommandComplete 0 n w l) s fun t =>
      t.cs.got = x.got ++ octetsAt l 0 (512 * k) ∧ t.cs.plan = r ∧ t.cs.cmd = some c ∧ t.cs.retry = 0) ∧
    (runs s = true → x.dat0 = true → x.cmd = none → x.plan = c :: r → Yields .sdBusyEnd s fun t => t.cs = { x with dat0 := false, plan := r, cmd := some c }) ∧
    (runs s = true → x.dat0 = true → x.phase = .idle → Yields .sdBusyTimeout s fun t => t.cs = { x with dat0 := false, code := 9 }) ∧
    (runs s = true → x.dat0 = true → x.phase ≠ .idle → x.boot = false → Yields .sdBusyTimeout s fun t => t.cs.card = 3 ∧ t.cs.vol = 0 ∧ t.cs.op = none ∧ t.cs.dat0 = false) ∧
    (runs s = true → x.phase = .init 15 → free → Yields .acmd41RetryExpiry s fun t => t.cs.phase = .init 2 ∧ t.cs.acmd = x.acmd + 1 ∧ t.cs.cmd = some (.plain 55 0))

/-- Custody services: the status record; an operation takes the next number while none runs; CS_MOUNT reads the superblocks, CS_UNMOUNT removes power, an archive or an event export begins a
transaction in the first extent, and a restore or a stage fetches its object (R620 to R627). -/
def Claims.CustodyServices : Prop :=
  ∀ (s : State) (h : Fin 8) (j : Job) (e : DirEnt),
    let x := hartOf s h
    let a := svcArg x
    let idle := s.cs.op = none ∧ s.cs.phase = .idle ∧ s.cs.cmd = none ∧ s.cs.dat0 = false
    let num := (s.cs.opNum + 1) % 65536
    let st := csStatus s (a 3 % 65536)
    let runsOp := fun (op : Nat) (ph : CsPhase) (t : State) => t.cs.phase = ph ∧ t.cs.cmd.isSome = true ∧ t.cs.opNum = num ∧ t.cs.opState = 1 ∧ (∃ o, t.cs.op = some o ∧ o.op = op ∧ o.num = num)
    let l := scratchRead s j (a 2) (a 3)
    let f := fun (o n : Nat) => leNat (octetsAt l o n)
    let p := f 14 1
    let hs := (List.range (f 15 1)).map (fun i => f (16 + 2 * i) 2)
    let pub := l.drop (16 + 2 * f 15 1)
    let name := scratchRead s j (a 2) 12
    let room := ∀ k, k ≤ 200 → (firstFit s k).isSome = true
    (InService s h 0x88 true j → a 3 ≤ 0xFFFF → inScratch (a 2) st.length = true → exec (.csStatus h) s = .next (svcRet (scratchWrite s j (a 2) st) h 0 [])) ∧
    (InService s h 0x89 true j → s.cs.op.isSome = true → exec (.csMount h) s = .next (svcRet s h 1 [])) ∧
    (InService s h 0x89 true j → idle → bitAt (a 2) 0 = false → s.cs.cd = true → s.cs.card = 2 → rbit s csA 0 = true → s.pw.mode = .service → Yields (.csMount h) s fun t =>
      runsOp 1 .supers t ∧ t.cs.cmd = some (.read 0 2) ∧ t.cs.vol = 0) ∧
    (InService s h 0x8A true j → idle → Yields (.csUnmount h) s fun t => t.cs.vol = 4 ∧ t.cs.dir = [] ∧ t.cs.op = none ∧ t.cs.opState = 2 ∧ t.cs.outcome = 0 ∧ t.cs.opNum = num) ∧
    (InService s h 0x8B true j → idle → inScratch (a 2) (a 3) = true → f 12 2 ≤ 4095 → p ≤ 2 → 1 ≤ f 15 1 → f 15 1 ≤ 64 → pub.length = nth [1184, 1568, 97] p 0 →
      hs.all (fun v => decide (v < 0x8000) && (keyOf s v).used && (keyOf s v).dom == f 12 2 && !(keyOf s v).nowrap) = true → canDraw s = true → s.lc.metKey = true → s.cs.vol = 1 →
      entryOf s (octetsAt l 0 12) = none → room → (freeEntry s).isSome = true → Yields (.csArchive h) s (runsOp 3 .begin)) ∧
    (InService s h 0x8C true j → idle → inScratch (a 2) 12 = true → a 4 ≤ 4095 → 0x8000 ≤ a 3 → a 3 < 0x10000 → a 5 = 0xFFFFFFFF → (keyOf s (a 3)).used = true → (s.cs.vol = 1 ∨ s.cs.vol = 2) →
      entryOf s name = some e → 1 ≤ e.nblk → Yields (.csRestore h) s (runsOp 4 .fetch)) ∧
    (InService s h 0x8D true j → idle → inScratch (a 2) 12 = true → a 3 + a 4 * 2 ^ 32 < 2 ^ 48 → 1 ≤ a 5 → a 5 ≤ 2048 → s.lc.metKey = true → s.cs.vol = 1 → entryOf s name = none →
      room → (freeEntry s).isSome = true → Yields (.csExportEvents h) s (runsOp 5 .begin)) ∧
    (InService s h 0x8E true j → idle → inScratch (a 2) 12 = true → (s.cs.vol = 1 ∨ s.cs.vol = 2) → entryOf s name = some e → 1 ≤ e.nblk → Yields (.csStageImage h) s (runsOp 6 .fetch))

/-- The custody card and its services (R612 to R631).
The card's commands and registers beyond the spec are PRESUMED (log entry 48), and the volume is typed records (log entry 49). -/
def Obligations.Custody : Prop := Claims.CustodyCard ∧ Claims.CustodyServices



/-! ### Owner scripts, steward updates and probation (chapters 8 and 21) -/

/-- Owner scripts and steward updates: a script is stored in its slot or removed from it; CLEAR, WRITE, VERIFY, SWITCH and COMMIT take an image from a cleared slot to the running one on probation and
out of it (R269, R645, R646). -/
def Claims.ScriptsAndUpdates : Prop :=
  ∀ (s : State) (h : Fin 8) (j : Job),
    let x := hartOf s h
    let a := svcArg x
    let img := scratchRead s j (a 3) (a 4)
    let seq := leNat (octetsAt img 16 4)
    let asks := fun (step : Nat) => InService s h 0x7F true j ∧ a 2 % 256 = step ∧ flashFree s = true
    let b := otherSlot s
    (InService s h 0x7D true j → flashFree s = true → 0x100 ≤ a 2 → a 2 < 0x200 → inScratch (a 3) (a 4) = true → resSeqOf s (a 2) ≤ seq → Yields (.resLoad h) s fun t =>
      (resGood s img = true → (resOf t (a 2)).held = true ∧ (resOf t (a 2)).code = octetsAt img 32 (imgHalf img 4) ∧ (resOf t (a 2)).seq = seq ∧ resSeqOf t (a 2) = seq + 1) ∧
      (resGood s img = false → t = svcRet s h 3 []) ∧ ∀ n, n ≠ a 2 → resOf t n = resOf s n) ∧
    (InService s h 0x7D true j → 0x100 ≤ a 2 → a 2 < 0x200 → inScratch (a 3) (a 4) = true → seq < resSeqOf s (a 2) → exec (.resLoad h) s = .next (svcRet s h (if resGood s img then 1 else 3) [])) ∧
    (InService s h 0x7E true j → flashFree s = true → 0x100 ≤ a 2 → a 2 < 0x200 → (resOf s (a 2)).held = true → Yields (.resDelete h) s fun t => resOf t (a 2) = {} ∧ resSeqOf t (a 2) = resSeqOf s (a 2)) ∧
    (asks 1 → s.upd.st ≠ 2 → Yields (.updateClear h) s fun t => t.upd.st = 0 ∧ t.upd.written = [] ∧ t.upd.slot = s.upd.slot ∧ (t.upd.cleared = true ∨ 1 ≤ t.upd.clearing)) ∧
    (InService s h 0x7F true j → a 2 % 256 = 1 → s.upd.st = 2 → exec (.updateClear h) s = .next (svcRet s h 1 [])) ∧
    (asks 2 → a 3 % 256 = 0 → a 5 % 256 = 0 → 256 ≤ a 5 → a 5 ≤ 8192 → a 3 + a 5 ≤ 383 * 8192 → inScratch (a 4) (a 5) = true → s.upd.cleared = true →
      (∀ i, i < a 5 / 256 → tget (fun _ => false) s.upd.written (a 3 / 256 + i) = false) → Yields (.updateWrite h) s fun t =>
      (∀ i, i < a 5 / 256 → tget (fun _ => false) t.upd.written (a 3 / 256 + i) = true) ∧ t.upd.slot = s.upd.slot ∧ t.upd.cleared = true) ∧
    (asks 3 → slotBlank s b = false → slotBlank s s.upd.slot = false → ddReady s = true → imageFloor s s.upd.slot ≤ imageSeq s b →
      imageVersion s b 6 / 256 = imageVersion s s.upd.slot 6 / 256 → Yields (.updateVerify h true) s fun t =>
      (imageGood s b = true → t.upd = { s.upd with st := if s.upd.st = 2 then 2 else 1 } ∧ rget t (xoA b) = w32 (packFields [(1024 * b, 0), (1024 * b + 382, 16), (1, 31)])) ∧
      (imageGood s b = false → t.upd = s.upd ∧ t.regs = s.regs)) ∧
    (asks 4 → s.upd.switching = none → s.level < 3 → s.upd.st = 1 → imageServes s b = true → Yields (.updateSwitch h true) s fun t =>
      t.upd = { s.upd with switching := some j.id } ∧ t.ord.paused = true ∧ (hartOf t h).svc = some 0x7F) ∧
    (asks 4 → s.upd.switching = some j.id → s.upd.st = 1 → s.level < 3 → (∀ k, k ∈ s.ord.jobs → k.id ≠ j.id → (∀ i, k.stage ≠ .running i) ∧ ∀ d r, k.stage ≠ .gran d r) → ddReady s = true →
      Yields (.updateSwitch h true) s fun t => t.upd.slot = b ∧ t.upd.st = 2 ∧ t.upd.armAt = s.now ∧ t.upd.switching = none ∧ t.ord.paused = false) ∧
    (asks 5 → s.level < 3 → s.upd.st = 2 → Yields (.updateCommit h) s fun t => t.upd = { s.upd with st := 0 })

/-- Probation: ARM keeps its period and the time, DISARM ends it, and its expiry is a reset (R647, R652). -/
def Claims.Probation : Prop :=
  ∀ (s : State) (secs : Fin 65536), runs s = true →
    (10 ≤ secs.val → secs.val ≤ 3600 → Yields (.probationArm secs) s fun t => t.upd = { s.upd with st := 2, armAt := s.now } ∧ rf t updA 15 0 = secs.val) ∧
    ((secs.val < 10 ∨ 3600 < secs.val) → exec (.probationArm secs) s = .next (refuse s updA)) ∧
    (s.upd.st = 2 → Yields .probationDisarm s fun t => t.upd = { s.upd with st := 0 } ∧ t.regs = s.regs) ∧
    (s.upd.st = 2 → Yields .probationExpiry s fun t => t.pw.mode = .starting ∧ t.pw.step = 1 ∧ t.pw.cause = 3 ∧ t.sram = [])

/-- Owner scripts, steward updates and probation (R269, R645 to R647, R652).
The effect of each call of an update and the end of other scripts are the model's reading (log entry 50). -/
def Obligations.ScriptsUpdatesProbation : Prop := Claims.ScriptsAndUpdates ∧ Claims.Probation

/-! ### Registers (chapter 0) -/

/-- A write stored under the access codes: an RW or ST bit takes the value, an RWL bit once, W1S sets and W1C clears, every other bit stays, and no other register changes (R12). -/
def Claims.AccessCodes : Prop :=
  ∀ (s : State) (a : Nat) (d : RegDesc) (v : W32) (i : Nat), i < 32 →
    let t := storeWrite s a d v
    let m := fun (x : Acc) => (accMask d x).getLsbD i
    let new := (rget t a).getLsbD i
    let old := (rget s a).getLsbD i
    let locked := tget (fun _ => false) s.locks a
    (m .w1s = false → m .w1c = false → (m .rw = true ∨ m .st = true) → new = v.getLsbD i) ∧
    (m .rw = false → m .st = false → m .w1s = false → m .w1c = false → m .rwl = true → new = if locked then old else v.getLsbD i) ∧
    (m .rw = false → m .st = false → m .rwl = false → m .w1c = false → m .w1s = true → new = (old || v.getLsbD i)) ∧
    (m .rw = false → m .st = false → m .rwl = false → m .w1s = false → m .w1c = true → new = (old && !v.getLsbD i)) ∧
    (m .rw = false → m .st = false → m .rwl = false → m .w1s = false → m .w1c = false → new = old) ∧
    (accMask d .rwl ≠ 0 → tget (fun _ => false) t.locks a = true) ∧
    (∀ b, b ≠ a → rget t b = rget s b) ∧ t.sram = s.sram ∧ t.harts = s.harts

/-- Register writes and reads: MAX_FRAME of a block with no slot enabled takes a legal value and reads it back; an address that no table assigns changes nothing; a read of a counter's low word
latches the high word for its requester, whose next read of the high word returns it (R14, R16, R17, R18, R57). -/
def Claims.RegisterAccess : Prop :=
  ∀ (s : State) (h : Fin 8) (b : Fin 16) (k : Fin 6) (q : Fin 1024) (a : Nat) (v w : W32),
    let m := 0x4100000C + 0x10000 * b.val
    let lo := 0x30088100 + 8 * k.val
    runs s = true → q.val < 24 →
    (s.culm.session = true → anySlotOn s b = false → 1518 ≤ v.toNat → v.toNat ≤ 10208 → Yields (.registerWrite h m v) s fun t =>
      (rget t m).toNat % 16384 = v.toNat ∧ t.sram = s.sram ∧ t.gran = s.gran ∧ ∀ c, c ≠ m → rget t c = rget s c) ∧
    (s.culm.session = true → anySlotOn s b = false → v.toNat < 1518 → exec (.registerWrite h m v) s = .next (refuse s m)) ∧
    (s.culm.session = true → Yields (.loReadLatch q m) s fun t => t.reply = [(rget s m).toNat] ∧ t.regs = s.regs) ∧
    (a < 0x100000000 → regAt a = none → exec (.registerWrite h a v) s = .next s ∧ exec (.loReadLatch q a) s = .next s) ∧
    (Yields (.loReadLatch q lo) s fun t => t.reply = [(cget s lo).toNat % 2 ^ 32] ∧ tget (fun _ => none) t.latches (latchKey q lo) = some (w32 ((cget s lo).toNat / 2 ^ 32))) ∧
    (tget (fun _ => none) s.latches (latchKey q lo) = some w → Yields (.loReadLatch q (lo + 4)) s fun t => t.reply = [w.toNat] ∧ tget (fun _ => none) t.latches (latchKey q lo) = none)

/-- Access codes, and writes and reads of registers (R12 to R18).
Where a register's rule is silent the model follows log entry 8; an answer stands in reply (log entry 7). -/
def Obligations.Registers : Prop := Claims.AccessCodes ∧ Claims.RegisterAccess



/-! ### The whole machine -/

/-- A step takes the command at the front of the queue and runs it with the queue's rest.
The queue is the model's form of the outside world (log entry 53). -/
def Obligations.StepRunsFrontCommand : Prop :=
  ∀ (c : Instr) (r : List Instr) (s : State), s.pending = c :: r → Machine.step s = exec c { s with pending := r }

/-- On an empty queue a microsecond passes and the queue stays empty; nothing else changes while the dies do not run, or before step 12 of a start (the model's choice, log entry 1). -/
def Obligations.IdleStep : Prop :=
  ∀ s : State, s.pending = [] → ∃ t, Machine.step s = .next t ∧ t.now = s.now + 1 ∧ t.pending = [] ∧ t.level = s.level ∧
    (runs s = false ∨ s.pw.step < 12 → t = { s with now := s.now + 1 })

/-- What reset leaves: STARTING at STEP 0 with level 0, every register at its table's Reset value, SRAM and its tags zero, no order, frame, slot or command held, hart 0 at the boot ROM's first
instruction at level 3; and the invariant holds (R405, R507, R508, R514, R529, R540).
That the model's reset is STEP 0 of a start is the model's choice (log entry 34); so are, stated here, SRAM and tags already at 0 and hart 0 already at the boot ROM's first instruction (log entries 4 and 34), which the rules give after step 3. -/
def Obligations.ResetState : Prop :=
  let s := State.reset
  s.pw.mode = .starting ∧ s.pw.step = 0 ∧ s.level = 0 ∧ s.tm.latch = false ∧ s.pending = [] ∧ s.ord.jobs = [] ∧ s.culm.session = false ∧
  (∀ a n, memRead s a n = List.replicate n 0) ∧ (∀ g, tagOf s g = 0) ∧ (∀ n, slotOf s n = {}) ∧ (∀ a, rget s a = regReset a) ∧
  regReset 0x3000000C = 0x8C9 ∧ regReset 0x4100000C = 9216 ∧ regReset 0x41000014 = 100 ∧ regReset 0x41000100 = 0x03FF1800 ∧
  (hartOf s 0).pc = 0 ∧ (hartOf s 0).level = 3 ∧ (∀ r, r < 32 → gget (hartOf s 0) r = 0) ∧ Inv s

/-- The invariant is kept by every step: SRAM stays in its canonical form, the ladder's level is one that exists, and the latch is set at LOCKDOWN (R525, R540).
The canonical form of SRAM is the model's own. -/
def Obligations.StepKeepsInv : Prop :=
  ∀ s t : State, Inv s → Machine.step s = .next t → Inv t

/-- No command but a clearance of the owner's and the commit of a life-cycle transition lowers the ladder's level while the backup domain is whole (R540, R545, R577).
That no other command lowers the level is derived from the rules that name what lowers it. -/
def Obligations.LevelFallsOnlyByClearance : Prop :=
  ∀ (c : Instr) (s t : State), s.tm.sigOk = true → (∀ h, c ≠ .alarmClear h) → (∀ v, c ≠ .otpBurnComplete v) → exec c s = .next t → s.level ≤ t.level

/-- Every command completes in every state but one whose octets are not a frame's first 64: exec never refuses, and faults for no other command.
That a command not enabled completes without effect is the model's choice (log entry 2), and so is the fault of ill-formed octets (log entry 51). -/
def Obligations.EveryCommandCompletes : Prop :=
  ∀ (c : Instr) (s : State), (∀ p d l e, c = .frameHeadResolve p d l e → l.length = 64) → Completes c s

/-- Frames of instructions: a fetch that succeeds leaves every hart, the SRAM and its tags, the granary, the ladder, the life cycle and the metering as they were; completing an instruction changes only its
hart's PC, loop counts and what the instruction wrote; a write of a register or predicate changes no other; and an instruction that may not issue has no effect (R331, R333, R342, R377, R380). -/
def Claims.InstructionFrames : Prop :=
  (∀ (s t : State) (i : Issue), Issues s t i → t.harts = s.harts ∧ t.hstate = s.hstate ∧ t.sram = s.sram ∧ t.tags = s.tags ∧ t.gran = s.gran ∧ t.level = s.level ∧ t.lc = s.lc ∧
    t.mt = s.mt ∧ t.dma = s.dma ∧ t.ord = s.ord) ∧
  (∀ (t : State) (h : Nat) (y : Hart), let u := completeNext t h y
    (∀ k, k ≠ h → hartOf u k = hartOf t k) ∧ u.hstate = t.hstate ∧ u.sram = t.sram ∧ u.tags = t.tags ∧ u.regs = t.regs ∧ u.gran = t.gran ∧ u.level = t.level ∧ u.lc = t.lc ∧ u.mt = t.mt ∧ u.ev = t.ev ∧
    (∃ p l, hartOf u h = { y with pc := p, lc := l }) ∧ (∀ a, a ≠ htA h + 0x100 → cget u a = cget t a)) ∧
  (∀ (x : Hart) (rd r p : Nat) (v : W32) (b : Bool), (r ≠ rd → gget (gset x rd v) r = gget x r) ∧ pget (gset x rd v) p = pget x p ∧ gget (pset x rd b) r = gget x r ∧
    (p ≠ rd → pget (pset x rd b) p = pget x p) ∧ (rd ≠ 0 → gget (gset x rd v) rd = v ∧ pget (pset x rd b) rd = b)) ∧
  (∀ (s : State) (i : Issue) (w : W32) (il pm : Bool) (op : State → Hart → HRes), hstOf s i.h ≠ .haltedDebug → mayIssue s i.h = false → issue s i w il pm op = s)

/-- Octets written to SRAM read back as written, octets elsewhere read as before, and the canonical form is kept (R341). -/
def Claims.MemoryWrites : Prop :=
  ∀ (s : State) (a : Nat) (l : List Byte),
    let t := memWrite s a l
    memRead t a l.length = l ∧ (∀ b n, (b + n ≤ a ∨ a + l.length ≤ b) → memRead t b n = memRead s b n) ∧
    (tblWf (fun _ => 0) s.sram = true → tblWf (fun _ => 0) t.sram = true) ∧ t.harts = s.harts ∧ t.regs = s.regs

/-- Frames: instructions, registers and SRAM keep what they do not write (R331, R333, R341, R380).
SRAM's reads are the model's octet function. -/
def Obligations.MemoryAndInstructionFrames : Prop := Claims.InstructionFrames ∧ Claims.MemoryWrites

/-- Commands without their conditions have no effect: a command to dies that do not run, and a service command whose hart is not in that service (R277, R502, R512).
This is the model's choice where the spec says nothing of such a command (log entry 2). -/
def Obligations.CommandsNotEnabled : Prop :=
  ∀ (s : State) (b : Fin 16) (m : Fin 8) (mask : Fin 16) (p : Fin 64) (d : Side) (dir : Dir) (f : Fin 512) (n : Fin 65536) (t : Fin 72) (h k : Fin 8) (c : Fin 16) (v : W32) (e : Fin 2) (seed : BitVec 256) (src : Fin 4096),
    (runs s = false → ∀ i ∈ [Instr.modeWrite b m, .slotEnableWrite b mask, .portConfigWrite p v, .laneSignalDetect p d, .frameTxComplete p dir, .blockIdleExpiry b, .fetchGrant p dir .clean,
      .tillerTake t, .tillerTest t, .tillerRetire t, .verdictHead p dir .clean, .install n, .installComplete, .eraseDrain n, .zeroise, .clearZeroed, .remaskSeedReceive seed, .culmSessionUp seed,
      .hotReset e true, .ringHello f n, .ringEnable f, .ringQuiesce f, .orTailDoorbell f n, .completionWrite f, .functionLevelReset f, .orderDispatch h, .interruptTake h, .hartRestart k h, .hartRetire k h,
      .routeWrite src v, .recolourAll, .wipe, .dmaGo c, .dmaAbort c, .reseed, .drbgCall, .program 0 true, .erase 0 true, .swap, .harvest, .clear, .minuteFallbackExpiry], exec i s = .next s) ∧
    ((hartOf s h).svc = none → ∀ i ∈ [Instr.svcInfo h, .exit h, .resultWrite h, .clock h, .keyLoad h, .keyGen h, .keyUnwrap h, .keyWrap h, .keyDerive h, .cmac h, .keyFree h, .random h, .liRun h, .liSubmit h,
      .scAlloc h, .scFree h, .scModify h, .saInstall h, .saErase h, .saSwitch h, .saRead h, .saExport h, .emAdd h, .emDel h, .ruleAdd h, .ruleDel h, .steerQuery h, .steerGrant h, .frameSend h, .frameRecv h,
      .cntRead h, .sheafGet h, .minuteTick h, .portCfg h, .tillerCmd h, .fnGrant h, .domQuota h, .alarmStatus h, .alarmClear h, .failPolicy h, .monitorCfg h, .resLoad h, .resDelete h, .updateClear h,
      .updateSwitch h true, .lcStatus h, .lcTransition h, .csMount h, .csArchive h, .csStageImage h], exec i s = .next s)

/-! ### Rules stated whole -/

/-- R161: slot n below 32,768 is the transmit SA of TX SC n / 4 with AN n mod 4, the others the receive SA of RX SC (n − 32,768) / 4 with that AN; and admission finds its slot by this mapping. -/
def Obligations.SlotMapping : Prop :=
  (∀ n, n < 32768 → scSlot 0 (n / 4) + n % 4 = n ∧ n / 4 < 8192) ∧ (∀ n, 32768 ≤ n → n < 65536 → scSlot 1 ((n - 32768) / 4) + (n - 32768) % 4 = n ∧ (n - 32768) / 4 < 8192) ∧
  (∀ v, saSlot v = scSlot (saDir v) (saSc v) + saAn v ∧ saAn v < 4) ∧
  (∀ (s : State) (f : Frame), txAnOf s f.sc < 4 → slotFor s f .egress / 4 = f.sc ∧ slotFor s f .egress % 4 = txAnOf s f.sc) ∧
  (∀ (s : State) (f : Frame), (slotFor s f .ingress - 32768) / 4 = f.sc ∧ (slotFor s f .ingress - 32768) % 4 = (parseFrame s f.stg f.octets).tci % 4)

/-- R591: ATQA 0x0004, a UID of 0x08 and 24 random bits, its BCC, and SAK 0x20. -/
def Obligations.TypeAValues : Prop :=
  ∀ (s : State) (strong own : Bool) (v : BitVec 32),
    let uid := tagUid s
    (s.tag.field = true → s.tag.iso = .idle → Yields (.reqa own) s fun t => t.sent = s.sent ++ [.answer 2 [0x04, 0x00]]) ∧
    uid.length = 4 ∧ uid.head? = some 0x08 ∧ uid.tail = leBytes 3 (s.tag.uid.getD 0) ∧
    (Yields (.fieldRise strong true) s fun t => ∃ u, t.tag.uid = some u ∧ u < 2 ^ 24) ∧
    tagBcc uid = uid.foldl (fun b x => b ^^^ x) 0 ∧ (∀ a b c d : Byte, tagBcc [a, b, c, d] = a ^^^ b ^^^ c ^^^ d) ∧
    (s.tag.field = true → s.tag.iso = .ready → exec (.anticollision 0 v own) s = .next (send s (.answer 2 (uid ++ [tagBcc uid])))) ∧
    (s.tag.field = true → s.tag.iso = .ready → leNat uid = v.toNat → Yields (.select v own) s fun t => t.sent.getLast? = some (.answer 2 [0x20]))
end

