-- ==== Sys2Proof/Laws/State.lean ====
section
/-! SUPPORT. One lemma for each field of State under each of its updates, true by rfl. -/

namespace Sys2Proof.Machine

/-! ### rset -/

@[simp] theorem rset_regs (s : State) (a : Nat) (v : W32) : (rset s a v).regs = tput regReset s.regs a v := rfl
@[simp] theorem rset_locks (s : State) (a : Nat) (v : W32) : (rset s a v).locks = s.locks := rfl
@[simp] theorem rset_cnts (s : State) (a : Nat) (v : W32) : (rset s a v).cnts = s.cnts := rfl
@[simp] theorem rset_latches (s : State) (a : Nat) (v : W32) : (rset s a v).latches = s.latches := rfl
@[simp] theorem rset_reply (s : State) (a : Nat) (v : W32) : (rset s a v).reply = s.reply := rfl
@[simp] theorem rset_sent (s : State) (a : Nat) (v : W32) : (rset s a v).sent = s.sent := rfl
@[simp] theorem rset_now (s : State) (a : Nat) (v : W32) : (rset s a v).now = s.now := rfl
@[simp] theorem rset_freeCtr (s : State) (a : Nat) (v : W32) : (rset s a v).freeCtr = s.freeCtr := rfl
@[simp] theorem rset_line (s : State) (a : Nat) (v : W32) : (rset s a v).line = s.line := rfl
@[simp] theorem rset_saCnt (s : State) (a : Nat) (v : W32) : (rset s a v).saCnt = s.saCnt := rfl
@[simp] theorem rset_domCnt (s : State) (a : Nat) (v : W32) : (rset s a v).domCnt = s.domCnt := rfl
@[simp] theorem rset_bank (s : State) (a : Nat) (v : W32) : (rset s a v).bank = s.bank := rfl
@[simp] theorem rset_mt (s : State) (a : Nat) (v : W32) : (rset s a v).mt = s.mt := rfl
@[simp] theorem rset_gran (s : State) (a : Nat) (v : W32) : (rset s a v).gran = s.gran := rfl
@[simp] theorem rset_culm (s : State) (a : Nat) (v : W32) : (rset s a v).culm = s.culm := rfl
@[simp] theorem rset_ev (s : State) (a : Nat) (v : W32) : (rset s a v).ev = s.ev := rfl
@[simp] theorem rset_host (s : State) (a : Nat) (v : W32) : (rset s a v).host = s.host := rfl
@[simp] theorem rset_hstate (s : State) (a : Nat) (v : W32) : (rset s a v).hstate = s.hstate := rfl
@[simp] theorem rset_harts (s : State) (a : Nat) (v : W32) : (rset s a v).harts = s.harts := rfl
@[simp] theorem rset_sram (s : State) (a : Nat) (v : W32) : (rset s a v).sram = s.sram := rfl
@[simp] theorem rset_tags (s : State) (a : Nat) (v : W32) : (rset s a v).tags = s.tags := rfl
@[simp] theorem rset_badTag (s : State) (a : Nat) (v : W32) : (rset s a v).badTag = s.badTag := rfl
@[simp] theorem rset_badLane (s : State) (a : Nat) (v : W32) : (rset s a v).badLane = s.badLane := rfl
@[simp] theorem rset_rc (s : State) (a : Nat) (v : W32) : (rset s a v).rc = s.rc := rfl
@[simp] theorem rset_dma (s : State) (a : Nat) (v : W32) : (rset s a v).dma = s.dma := rfl
@[simp] theorem rset_ord (s : State) (a : Nat) (v : W32) : (rset s a v).ord = s.ord := rfl
@[simp] theorem rset_rng (s : State) (a : Nat) (v : W32) : (rset s a v).rng = s.rng := rfl
@[simp] theorem rset_fl (s : State) (a : Nat) (v : W32) : (rset s a v).fl = s.fl := rfl
@[simp] theorem rset_li (s : State) (a : Nat) (v : W32) : (rset s a v).li = s.li := rfl
@[simp] theorem rset_lc (s : State) (a : Nat) (v : W32) : (rset s a v).lc = s.lc := rfl
@[simp] theorem rset_level (s : State) (a : Nat) (v : W32) : (rset s a v).level = s.level := rfl
@[simp] theorem rset_tm (s : State) (a : Nat) (v : W32) : (rset s a v).tm = s.tm := rfl
@[simp] theorem rset_pw (s : State) (a : Nat) (v : W32) : (rset s a v).pw = s.pw := rfl
@[simp] theorem rset_tag (s : State) (a : Nat) (v : W32) : (rset s a v).tag = s.tag := rfl
@[simp] theorem rset_cs (s : State) (a : Nat) (v : W32) : (rset s a v).cs = s.cs := rfl
@[simp] theorem rset_rmSram (s : State) (a : Nat) (v : W32) : (rset s a v).rmSram = s.rmSram := rfl
@[simp] theorem rset_rmLine (s : State) (a : Nat) (v : W32) : (rset s a v).rmLine = s.rmLine := rfl
@[simp] theorem rset_upd (s : State) (a : Nat) (v : W32) : (rset s a v).upd = s.upd := rfl
@[simp] theorem rset_pending (s : State) (a : Nat) (v : W32) : (rset s a v).pending = s.pending := rfl

/-! ### cadd -/

@[simp] theorem cadd_regs (s : State) (a n : Nat) : (cadd s a n).regs = s.regs := rfl
@[simp] theorem cadd_locks (s : State) (a n : Nat) : (cadd s a n).locks = s.locks := rfl
@[simp] theorem cadd_cnts (s : State) (a n : Nat) : (cadd s a n).cnts = tput (fun _ => 0) s.cnts a (cget s a + BitVec.ofNat 64 n) := rfl
@[simp] theorem cadd_latches (s : State) (a n : Nat) : (cadd s a n).latches = s.latches := rfl
@[simp] theorem cadd_reply (s : State) (a n : Nat) : (cadd s a n).reply = s.reply := rfl
@[simp] theorem cadd_sent (s : State) (a n : Nat) : (cadd s a n).sent = s.sent := rfl
@[simp] theorem cadd_now (s : State) (a n : Nat) : (cadd s a n).now = s.now := rfl
@[simp] theorem cadd_freeCtr (s : State) (a n : Nat) : (cadd s a n).freeCtr = s.freeCtr := rfl
@[simp] theorem cadd_line (s : State) (a n : Nat) : (cadd s a n).line = s.line := rfl
@[simp] theorem cadd_saCnt (s : State) (a n : Nat) : (cadd s a n).saCnt = s.saCnt := rfl
@[simp] theorem cadd_domCnt (s : State) (a n : Nat) : (cadd s a n).domCnt = s.domCnt := rfl
@[simp] theorem cadd_bank (s : State) (a n : Nat) : (cadd s a n).bank = s.bank := rfl
@[simp] theorem cadd_mt (s : State) (a n : Nat) : (cadd s a n).mt = s.mt := rfl
@[simp] theorem cadd_gran (s : State) (a n : Nat) : (cadd s a n).gran = s.gran := rfl
@[simp] theorem cadd_culm (s : State) (a n : Nat) : (cadd s a n).culm = s.culm := rfl
@[simp] theorem cadd_ev (s : State) (a n : Nat) : (cadd s a n).ev = s.ev := rfl
@[simp] theorem cadd_host (s : State) (a n : Nat) : (cadd s a n).host = s.host := rfl
@[simp] theorem cadd_hstate (s : State) (a n : Nat) : (cadd s a n).hstate = s.hstate := rfl
@[simp] theorem cadd_harts (s : State) (a n : Nat) : (cadd s a n).harts = s.harts := rfl
@[simp] theorem cadd_sram (s : State) (a n : Nat) : (cadd s a n).sram = s.sram := rfl
@[simp] theorem cadd_tags (s : State) (a n : Nat) : (cadd s a n).tags = s.tags := rfl
@[simp] theorem cadd_badTag (s : State) (a n : Nat) : (cadd s a n).badTag = s.badTag := rfl
@[simp] theorem cadd_badLane (s : State) (a n : Nat) : (cadd s a n).badLane = s.badLane := rfl
@[simp] theorem cadd_rc (s : State) (a n : Nat) : (cadd s a n).rc = s.rc := rfl
@[simp] theorem cadd_dma (s : State) (a n : Nat) : (cadd s a n).dma = s.dma := rfl
@[simp] theorem cadd_ord (s : State) (a n : Nat) : (cadd s a n).ord = s.ord := rfl
@[simp] theorem cadd_rng (s : State) (a n : Nat) : (cadd s a n).rng = s.rng := rfl
@[simp] theorem cadd_fl (s : State) (a n : Nat) : (cadd s a n).fl = s.fl := rfl
@[simp] theorem cadd_li (s : State) (a n : Nat) : (cadd s a n).li = s.li := rfl
@[simp] theorem cadd_lc (s : State) (a n : Nat) : (cadd s a n).lc = s.lc := rfl
@[simp] theorem cadd_level (s : State) (a n : Nat) : (cadd s a n).level = s.level := rfl
@[simp] theorem cadd_tm (s : State) (a n : Nat) : (cadd s a n).tm = s.tm := rfl
@[simp] theorem cadd_pw (s : State) (a n : Nat) : (cadd s a n).pw = s.pw := rfl
@[simp] theorem cadd_tag (s : State) (a n : Nat) : (cadd s a n).tag = s.tag := rfl
@[simp] theorem cadd_cs (s : State) (a n : Nat) : (cadd s a n).cs = s.cs := rfl
@[simp] theorem cadd_rmSram (s : State) (a n : Nat) : (cadd s a n).rmSram = s.rmSram := rfl
@[simp] theorem cadd_rmLine (s : State) (a n : Nat) : (cadd s a n).rmLine = s.rmLine := rfl
@[simp] theorem cadd_upd (s : State) (a n : Nat) : (cadd s a n).upd = s.upd := rfl
@[simp] theorem cadd_pending (s : State) (a n : Nat) : (cadd s a n).pending = s.pending := rfl

/-! ### send -/

@[simp] theorem send_regs (s : State) (x : Sent) : (send s x).regs = s.regs := rfl
@[simp] theorem send_locks (s : State) (x : Sent) : (send s x).locks = s.locks := rfl
@[simp] theorem send_cnts (s : State) (x : Sent) : (send s x).cnts = s.cnts := rfl
@[simp] theorem send_latches (s : State) (x : Sent) : (send s x).latches = s.latches := rfl
@[simp] theorem send_reply (s : State) (x : Sent) : (send s x).reply = s.reply := rfl
@[simp] theorem send_sent (s : State) (x : Sent) : (send s x).sent = s.sent ++ [x] := rfl
@[simp] theorem send_now (s : State) (x : Sent) : (send s x).now = s.now := rfl
@[simp] theorem send_freeCtr (s : State) (x : Sent) : (send s x).freeCtr = s.freeCtr := rfl
@[simp] theorem send_line (s : State) (x : Sent) : (send s x).line = s.line := rfl
@[simp] theorem send_saCnt (s : State) (x : Sent) : (send s x).saCnt = s.saCnt := rfl
@[simp] theorem send_domCnt (s : State) (x : Sent) : (send s x).domCnt = s.domCnt := rfl
@[simp] theorem send_bank (s : State) (x : Sent) : (send s x).bank = s.bank := rfl
@[simp] theorem send_mt (s : State) (x : Sent) : (send s x).mt = s.mt := rfl
@[simp] theorem send_gran (s : State) (x : Sent) : (send s x).gran = s.gran := rfl
@[simp] theorem send_culm (s : State) (x : Sent) : (send s x).culm = s.culm := rfl
@[simp] theorem send_ev (s : State) (x : Sent) : (send s x).ev = s.ev := rfl
@[simp] theorem send_host (s : State) (x : Sent) : (send s x).host = s.host := rfl
@[simp] theorem send_hstate (s : State) (x : Sent) : (send s x).hstate = s.hstate := rfl
@[simp] theorem send_harts (s : State) (x : Sent) : (send s x).harts = s.harts := rfl
@[simp] theorem send_sram (s : State) (x : Sent) : (send s x).sram = s.sram := rfl
@[simp] theorem send_tags (s : State) (x : Sent) : (send s x).tags = s.tags := rfl
@[simp] theorem send_badTag (s : State) (x : Sent) : (send s x).badTag = s.badTag := rfl
@[simp] theorem send_badLane (s : State) (x : Sent) : (send s x).badLane = s.badLane := rfl
@[simp] theorem send_rc (s : State) (x : Sent) : (send s x).rc = s.rc := rfl
@[simp] theorem send_dma (s : State) (x : Sent) : (send s x).dma = s.dma := rfl
@[simp] theorem send_ord (s : State) (x : Sent) : (send s x).ord = s.ord := rfl
@[simp] theorem send_rng (s : State) (x : Sent) : (send s x).rng = s.rng := rfl
@[simp] theorem send_fl (s : State) (x : Sent) : (send s x).fl = s.fl := rfl
@[simp] theorem send_li (s : State) (x : Sent) : (send s x).li = s.li := rfl
@[simp] theorem send_lc (s : State) (x : Sent) : (send s x).lc = s.lc := rfl
@[simp] theorem send_level (s : State) (x : Sent) : (send s x).level = s.level := rfl
@[simp] theorem send_tm (s : State) (x : Sent) : (send s x).tm = s.tm := rfl
@[simp] theorem send_pw (s : State) (x : Sent) : (send s x).pw = s.pw := rfl
@[simp] theorem send_tag (s : State) (x : Sent) : (send s x).tag = s.tag := rfl
@[simp] theorem send_cs (s : State) (x : Sent) : (send s x).cs = s.cs := rfl
@[simp] theorem send_rmSram (s : State) (x : Sent) : (send s x).rmSram = s.rmSram := rfl
@[simp] theorem send_rmLine (s : State) (x : Sent) : (send s x).rmLine = s.rmLine := rfl
@[simp] theorem send_upd (s : State) (x : Sent) : (send s x).upd = s.upd := rfl
@[simp] theorem send_pending (s : State) (x : Sent) : (send s x).pending = s.pending := rfl

/-! ### answer -/

@[simp] theorem answer_regs (s : State) (l : List Nat) : (answer s l).regs = s.regs := rfl
@[simp] theorem answer_locks (s : State) (l : List Nat) : (answer s l).locks = s.locks := rfl
@[simp] theorem answer_cnts (s : State) (l : List Nat) : (answer s l).cnts = s.cnts := rfl
@[simp] theorem answer_latches (s : State) (l : List Nat) : (answer s l).latches = s.latches := rfl
@[simp] theorem answer_reply (s : State) (l : List Nat) : (answer s l).reply = l := rfl
@[simp] theorem answer_sent (s : State) (l : List Nat) : (answer s l).sent = s.sent := rfl
@[simp] theorem answer_now (s : State) (l : List Nat) : (answer s l).now = s.now := rfl
@[simp] theorem answer_freeCtr (s : State) (l : List Nat) : (answer s l).freeCtr = s.freeCtr := rfl
@[simp] theorem answer_line (s : State) (l : List Nat) : (answer s l).line = s.line := rfl
@[simp] theorem answer_saCnt (s : State) (l : List Nat) : (answer s l).saCnt = s.saCnt := rfl
@[simp] theorem answer_domCnt (s : State) (l : List Nat) : (answer s l).domCnt = s.domCnt := rfl
@[simp] theorem answer_bank (s : State) (l : List Nat) : (answer s l).bank = s.bank := rfl
@[simp] theorem answer_mt (s : State) (l : List Nat) : (answer s l).mt = s.mt := rfl
@[simp] theorem answer_gran (s : State) (l : List Nat) : (answer s l).gran = s.gran := rfl
@[simp] theorem answer_culm (s : State) (l : List Nat) : (answer s l).culm = s.culm := rfl
@[simp] theorem answer_ev (s : State) (l : List Nat) : (answer s l).ev = s.ev := rfl
@[simp] theorem answer_host (s : State) (l : List Nat) : (answer s l).host = s.host := rfl
@[simp] theorem answer_hstate (s : State) (l : List Nat) : (answer s l).hstate = s.hstate := rfl
@[simp] theorem answer_harts (s : State) (l : List Nat) : (answer s l).harts = s.harts := rfl
@[simp] theorem answer_sram (s : State) (l : List Nat) : (answer s l).sram = s.sram := rfl
@[simp] theorem answer_tags (s : State) (l : List Nat) : (answer s l).tags = s.tags := rfl
@[simp] theorem answer_badTag (s : State) (l : List Nat) : (answer s l).badTag = s.badTag := rfl
@[simp] theorem answer_badLane (s : State) (l : List Nat) : (answer s l).badLane = s.badLane := rfl
@[simp] theorem answer_rc (s : State) (l : List Nat) : (answer s l).rc = s.rc := rfl
@[simp] theorem answer_dma (s : State) (l : List Nat) : (answer s l).dma = s.dma := rfl
@[simp] theorem answer_ord (s : State) (l : List Nat) : (answer s l).ord = s.ord := rfl
@[simp] theorem answer_rng (s : State) (l : List Nat) : (answer s l).rng = s.rng := rfl
@[simp] theorem answer_fl (s : State) (l : List Nat) : (answer s l).fl = s.fl := rfl
@[simp] theorem answer_li (s : State) (l : List Nat) : (answer s l).li = s.li := rfl
@[simp] theorem answer_lc (s : State) (l : List Nat) : (answer s l).lc = s.lc := rfl
@[simp] theorem answer_level (s : State) (l : List Nat) : (answer s l).level = s.level := rfl
@[simp] theorem answer_tm (s : State) (l : List Nat) : (answer s l).tm = s.tm := rfl
@[simp] theorem answer_pw (s : State) (l : List Nat) : (answer s l).pw = s.pw := rfl
@[simp] theorem answer_tag (s : State) (l : List Nat) : (answer s l).tag = s.tag := rfl
@[simp] theorem answer_cs (s : State) (l : List Nat) : (answer s l).cs = s.cs := rfl
@[simp] theorem answer_rmSram (s : State) (l : List Nat) : (answer s l).rmSram = s.rmSram := rfl
@[simp] theorem answer_rmLine (s : State) (l : List Nat) : (answer s l).rmLine = s.rmLine := rfl
@[simp] theorem answer_upd (s : State) (l : List Nat) : (answer s l).upd = s.upd := rfl
@[simp] theorem answer_pending (s : State) (l : List Nat) : (answer s l).pending = s.pending := rfl

/-! ### freed -/

@[simp] theorem freed_regs (s : State) : (freed s).regs = s.regs := rfl
@[simp] theorem freed_locks (s : State) : (freed s).locks = s.locks := rfl
@[simp] theorem freed_cnts (s : State) : (freed s).cnts = s.cnts := rfl
@[simp] theorem freed_latches (s : State) : (freed s).latches = s.latches := rfl
@[simp] theorem freed_reply (s : State) : (freed s).reply = s.reply := rfl
@[simp] theorem freed_sent (s : State) : (freed s).sent = s.sent := rfl
@[simp] theorem freed_now (s : State) : (freed s).now = s.now := rfl
@[simp] theorem freed_freeCtr (s : State) : (freed s).freeCtr = s.freeCtr + 1 := rfl
@[simp] theorem freed_line (s : State) : (freed s).line = s.line := rfl
@[simp] theorem freed_saCnt (s : State) : (freed s).saCnt = s.saCnt := rfl
@[simp] theorem freed_domCnt (s : State) : (freed s).domCnt = s.domCnt := rfl
@[simp] theorem freed_bank (s : State) : (freed s).bank = s.bank := rfl
@[simp] theorem freed_mt (s : State) : (freed s).mt = s.mt := rfl
@[simp] theorem freed_gran (s : State) : (freed s).gran = s.gran := rfl
@[simp] theorem freed_culm (s : State) : (freed s).culm = s.culm := rfl
@[simp] theorem freed_ev (s : State) : (freed s).ev = s.ev := rfl
@[simp] theorem freed_host (s : State) : (freed s).host = s.host := rfl
@[simp] theorem freed_hstate (s : State) : (freed s).hstate = s.hstate := rfl
@[simp] theorem freed_harts (s : State) : (freed s).harts = s.harts := rfl
@[simp] theorem freed_sram (s : State) : (freed s).sram = s.sram := rfl
@[simp] theorem freed_tags (s : State) : (freed s).tags = s.tags := rfl
@[simp] theorem freed_badTag (s : State) : (freed s).badTag = s.badTag := rfl
@[simp] theorem freed_badLane (s : State) : (freed s).badLane = s.badLane := rfl
@[simp] theorem freed_rc (s : State) : (freed s).rc = s.rc := rfl
@[simp] theorem freed_dma (s : State) : (freed s).dma = s.dma := rfl
@[simp] theorem freed_ord (s : State) : (freed s).ord = s.ord := rfl
@[simp] theorem freed_rng (s : State) : (freed s).rng = s.rng := rfl
@[simp] theorem freed_fl (s : State) : (freed s).fl = s.fl := rfl
@[simp] theorem freed_li (s : State) : (freed s).li = s.li := rfl
@[simp] theorem freed_lc (s : State) : (freed s).lc = s.lc := rfl
@[simp] theorem freed_level (s : State) : (freed s).level = s.level := rfl
@[simp] theorem freed_tm (s : State) : (freed s).tm = s.tm := rfl
@[simp] theorem freed_pw (s : State) : (freed s).pw = s.pw := rfl
@[simp] theorem freed_tag (s : State) : (freed s).tag = s.tag := rfl
@[simp] theorem freed_cs (s : State) : (freed s).cs = s.cs := rfl
@[simp] theorem freed_rmSram (s : State) : (freed s).rmSram = s.rmSram := rfl
@[simp] theorem freed_rmLine (s : State) : (freed s).rmLine = s.rmLine := rfl
@[simp] theorem freed_upd (s : State) : (freed s).upd = s.upd := rfl
@[simp] theorem freed_pending (s : State) : (freed s).pending = s.pending := rfl

/-! ### setFn -/

@[simp] theorem setFn_regs (s : State) (f : Nat) (x : FnSt) : (setFn s f x).regs = s.regs := rfl
@[simp] theorem setFn_locks (s : State) (f : Nat) (x : FnSt) : (setFn s f x).locks = s.locks := rfl
@[simp] theorem setFn_cnts (s : State) (f : Nat) (x : FnSt) : (setFn s f x).cnts = s.cnts := rfl
@[simp] theorem setFn_latches (s : State) (f : Nat) (x : FnSt) : (setFn s f x).latches = s.latches := rfl
@[simp] theorem setFn_reply (s : State) (f : Nat) (x : FnSt) : (setFn s f x).reply = s.reply := rfl
@[simp] theorem setFn_sent (s : State) (f : Nat) (x : FnSt) : (setFn s f x).sent = s.sent := rfl
@[simp] theorem setFn_now (s : State) (f : Nat) (x : FnSt) : (setFn s f x).now = s.now := rfl
@[simp] theorem setFn_freeCtr (s : State) (f : Nat) (x : FnSt) : (setFn s f x).freeCtr = s.freeCtr := rfl
@[simp] theorem setFn_line (s : State) (f : Nat) (x : FnSt) : (setFn s f x).line = s.line := rfl
@[simp] theorem setFn_saCnt (s : State) (f : Nat) (x : FnSt) : (setFn s f x).saCnt = s.saCnt := rfl
@[simp] theorem setFn_domCnt (s : State) (f : Nat) (x : FnSt) : (setFn s f x).domCnt = s.domCnt := rfl
@[simp] theorem setFn_bank (s : State) (f : Nat) (x : FnSt) : (setFn s f x).bank = s.bank := rfl
@[simp] theorem setFn_mt (s : State) (f : Nat) (x : FnSt) : (setFn s f x).mt = s.mt := rfl
@[simp] theorem setFn_gran (s : State) (f : Nat) (x : FnSt) : (setFn s f x).gran = s.gran := rfl
@[simp] theorem setFn_culm (s : State) (f : Nat) (x : FnSt) : (setFn s f x).culm = s.culm := rfl
@[simp] theorem setFn_ev (s : State) (f : Nat) (x : FnSt) : (setFn s f x).ev = s.ev := rfl
@[simp] theorem setFn_host (s : State) (f : Nat) (x : FnSt) : (setFn s f x).host = { s.host with fns := tput fnInit s.host.fns f x } := rfl
@[simp] theorem setFn_hstate (s : State) (f : Nat) (x : FnSt) : (setFn s f x).hstate = s.hstate := rfl
@[simp] theorem setFn_harts (s : State) (f : Nat) (x : FnSt) : (setFn s f x).harts = s.harts := rfl
@[simp] theorem setFn_sram (s : State) (f : Nat) (x : FnSt) : (setFn s f x).sram = s.sram := rfl
@[simp] theorem setFn_tags (s : State) (f : Nat) (x : FnSt) : (setFn s f x).tags = s.tags := rfl
@[simp] theorem setFn_badTag (s : State) (f : Nat) (x : FnSt) : (setFn s f x).badTag = s.badTag := rfl
@[simp] theorem setFn_badLane (s : State) (f : Nat) (x : FnSt) : (setFn s f x).badLane = s.badLane := rfl
@[simp] theorem setFn_rc (s : State) (f : Nat) (x : FnSt) : (setFn s f x).rc = s.rc := rfl
@[simp] theorem setFn_dma (s : State) (f : Nat) (x : FnSt) : (setFn s f x).dma = s.dma := rfl
@[simp] theorem setFn_ord (s : State) (f : Nat) (x : FnSt) : (setFn s f x).ord = s.ord := rfl
@[simp] theorem setFn_rng (s : State) (f : Nat) (x : FnSt) : (setFn s f x).rng = s.rng := rfl
@[simp] theorem setFn_fl (s : State) (f : Nat) (x : FnSt) : (setFn s f x).fl = s.fl := rfl
@[simp] theorem setFn_li (s : State) (f : Nat) (x : FnSt) : (setFn s f x).li = s.li := rfl
@[simp] theorem setFn_lc (s : State) (f : Nat) (x : FnSt) : (setFn s f x).lc = s.lc := rfl
@[simp] theorem setFn_level (s : State) (f : Nat) (x : FnSt) : (setFn s f x).level = s.level := rfl
@[simp] theorem setFn_tm (s : State) (f : Nat) (x : FnSt) : (setFn s f x).tm = s.tm := rfl
@[simp] theorem setFn_pw (s : State) (f : Nat) (x : FnSt) : (setFn s f x).pw = s.pw := rfl
@[simp] theorem setFn_tag (s : State) (f : Nat) (x : FnSt) : (setFn s f x).tag = s.tag := rfl
@[simp] theorem setFn_cs (s : State) (f : Nat) (x : FnSt) : (setFn s f x).cs = s.cs := rfl
@[simp] theorem setFn_rmSram (s : State) (f : Nat) (x : FnSt) : (setFn s f x).rmSram = s.rmSram := rfl
@[simp] theorem setFn_rmLine (s : State) (f : Nat) (x : FnSt) : (setFn s f x).rmLine = s.rmLine := rfl
@[simp] theorem setFn_upd (s : State) (f : Nat) (x : FnSt) : (setFn s f x).upd = s.upd := rfl
@[simp] theorem setFn_pending (s : State) (f : Nat) (x : FnSt) : (setFn s f x).pending = s.pending := rfl

/-! ### setEp -/

@[simp] theorem setEp_regs (s : State) (e : Nat) (x : EpSt) : (setEp s e x).regs = s.regs := rfl
@[simp] theorem setEp_locks (s : State) (e : Nat) (x : EpSt) : (setEp s e x).locks = s.locks := rfl
@[simp] theorem setEp_cnts (s : State) (e : Nat) (x : EpSt) : (setEp s e x).cnts = s.cnts := rfl
@[simp] theorem setEp_latches (s : State) (e : Nat) (x : EpSt) : (setEp s e x).latches = s.latches := rfl
@[simp] theorem setEp_reply (s : State) (e : Nat) (x : EpSt) : (setEp s e x).reply = s.reply := rfl
@[simp] theorem setEp_sent (s : State) (e : Nat) (x : EpSt) : (setEp s e x).sent = s.sent := rfl
@[simp] theorem setEp_now (s : State) (e : Nat) (x : EpSt) : (setEp s e x).now = s.now := rfl
@[simp] theorem setEp_freeCtr (s : State) (e : Nat) (x : EpSt) : (setEp s e x).freeCtr = s.freeCtr := rfl
@[simp] theorem setEp_line (s : State) (e : Nat) (x : EpSt) : (setEp s e x).line = s.line := rfl
@[simp] theorem setEp_saCnt (s : State) (e : Nat) (x : EpSt) : (setEp s e x).saCnt = s.saCnt := rfl
@[simp] theorem setEp_domCnt (s : State) (e : Nat) (x : EpSt) : (setEp s e x).domCnt = s.domCnt := rfl
@[simp] theorem setEp_bank (s : State) (e : Nat) (x : EpSt) : (setEp s e x).bank = s.bank := rfl
@[simp] theorem setEp_mt (s : State) (e : Nat) (x : EpSt) : (setEp s e x).mt = s.mt := rfl
@[simp] theorem setEp_gran (s : State) (e : Nat) (x : EpSt) : (setEp s e x).gran = s.gran := rfl
@[simp] theorem setEp_culm (s : State) (e : Nat) (x : EpSt) : (setEp s e x).culm = s.culm := rfl
@[simp] theorem setEp_ev (s : State) (e : Nat) (x : EpSt) : (setEp s e x).ev = s.ev := rfl
@[simp] theorem setEp_host (s : State) (e : Nat) (x : EpSt) : (setEp s e x).host = { s.host with eps := tput (fun _ => {}) s.host.eps e x } := rfl
@[simp] theorem setEp_hstate (s : State) (e : Nat) (x : EpSt) : (setEp s e x).hstate = s.hstate := rfl
@[simp] theorem setEp_harts (s : State) (e : Nat) (x : EpSt) : (setEp s e x).harts = s.harts := rfl
@[simp] theorem setEp_sram (s : State) (e : Nat) (x : EpSt) : (setEp s e x).sram = s.sram := rfl
@[simp] theorem setEp_tags (s : State) (e : Nat) (x : EpSt) : (setEp s e x).tags = s.tags := rfl
@[simp] theorem setEp_badTag (s : State) (e : Nat) (x : EpSt) : (setEp s e x).badTag = s.badTag := rfl
@[simp] theorem setEp_badLane (s : State) (e : Nat) (x : EpSt) : (setEp s e x).badLane = s.badLane := rfl
@[simp] theorem setEp_rc (s : State) (e : Nat) (x : EpSt) : (setEp s e x).rc = s.rc := rfl
@[simp] theorem setEp_dma (s : State) (e : Nat) (x : EpSt) : (setEp s e x).dma = s.dma := rfl
@[simp] theorem setEp_ord (s : State) (e : Nat) (x : EpSt) : (setEp s e x).ord = s.ord := rfl
@[simp] theorem setEp_rng (s : State) (e : Nat) (x : EpSt) : (setEp s e x).rng = s.rng := rfl
@[simp] theorem setEp_fl (s : State) (e : Nat) (x : EpSt) : (setEp s e x).fl = s.fl := rfl
@[simp] theorem setEp_li (s : State) (e : Nat) (x : EpSt) : (setEp s e x).li = s.li := rfl
@[simp] theorem setEp_lc (s : State) (e : Nat) (x : EpSt) : (setEp s e x).lc = s.lc := rfl
@[simp] theorem setEp_level (s : State) (e : Nat) (x : EpSt) : (setEp s e x).level = s.level := rfl
@[simp] theorem setEp_tm (s : State) (e : Nat) (x : EpSt) : (setEp s e x).tm = s.tm := rfl
@[simp] theorem setEp_pw (s : State) (e : Nat) (x : EpSt) : (setEp s e x).pw = s.pw := rfl
@[simp] theorem setEp_tag (s : State) (e : Nat) (x : EpSt) : (setEp s e x).tag = s.tag := rfl
@[simp] theorem setEp_cs (s : State) (e : Nat) (x : EpSt) : (setEp s e x).cs = s.cs := rfl
@[simp] theorem setEp_rmSram (s : State) (e : Nat) (x : EpSt) : (setEp s e x).rmSram = s.rmSram := rfl
@[simp] theorem setEp_rmLine (s : State) (e : Nat) (x : EpSt) : (setEp s e x).rmLine = s.rmLine := rfl
@[simp] theorem setEp_upd (s : State) (e : Nat) (x : EpSt) : (setEp s e x).upd = s.upd := rfl
@[simp] theorem setEp_pending (s : State) (e : Nat) (x : EpSt) : (setEp s e x).pending = s.pending := rfl

/-! ### setVec -/

@[simp] theorem setVec_regs (s : State) (f v : Nat) (x : VecSt) : (setVec s f v x).regs = s.regs := rfl
@[simp] theorem setVec_locks (s : State) (f v : Nat) (x : VecSt) : (setVec s f v x).locks = s.locks := rfl
@[simp] theorem setVec_cnts (s : State) (f v : Nat) (x : VecSt) : (setVec s f v x).cnts = s.cnts := rfl
@[simp] theorem setVec_latches (s : State) (f v : Nat) (x : VecSt) : (setVec s f v x).latches = s.latches := rfl
@[simp] theorem setVec_reply (s : State) (f v : Nat) (x : VecSt) : (setVec s f v x).reply = s.reply := rfl
@[simp] theorem setVec_sent (s : State) (f v : Nat) (x : VecSt) : (setVec s f v x).sent = s.sent := rfl
@[simp] theorem setVec_now (s : State) (f v : Nat) (x : VecSt) : (setVec s f v x).now = s.now := rfl
@[simp] theorem setVec_freeCtr (s : State) (f v : Nat) (x : VecSt) : (setVec s f v x).freeCtr = s.freeCtr := rfl
@[simp] theorem setVec_line (s : State) (f v : Nat) (x : VecSt) : (setVec s f v x).line = s.line := rfl
@[simp] theorem setVec_saCnt (s : State) (f v : Nat) (x : VecSt) : (setVec s f v x).saCnt = s.saCnt := rfl
@[simp] theorem setVec_domCnt (s : State) (f v : Nat) (x : VecSt) : (setVec s f v x).domCnt = s.domCnt := rfl
@[simp] theorem setVec_bank (s : State) (f v : Nat) (x : VecSt) : (setVec s f v x).bank = s.bank := rfl
@[simp] theorem setVec_mt (s : State) (f v : Nat) (x : VecSt) : (setVec s f v x).mt = s.mt := rfl
@[simp] theorem setVec_gran (s : State) (f v : Nat) (x : VecSt) : (setVec s f v x).gran = s.gran := rfl
@[simp] theorem setVec_culm (s : State) (f v : Nat) (x : VecSt) : (setVec s f v x).culm = s.culm := rfl
@[simp] theorem setVec_ev (s : State) (f v : Nat) (x : VecSt) : (setVec s f v x).ev = s.ev := rfl
@[simp] theorem setVec_host (s : State) (f v : Nat) (x : VecSt) : (setVec s f v x).host = { s.host with vecs := tput (fun _ => {}) s.host.vecs (64 * f + v) x } := rfl
@[simp] theorem setVec_hstate (s : State) (f v : Nat) (x : VecSt) : (setVec s f v x).hstate = s.hstate := rfl
@[simp] theorem setVec_harts (s : State) (f v : Nat) (x : VecSt) : (setVec s f v x).harts = s.harts := rfl
@[simp] theorem setVec_sram (s : State) (f v : Nat) (x : VecSt) : (setVec s f v x).sram = s.sram := rfl
@[simp] theorem setVec_tags (s : State) (f v : Nat) (x : VecSt) : (setVec s f v x).tags = s.tags := rfl
@[simp] theorem setVec_badTag (s : State) (f v : Nat) (x : VecSt) : (setVec s f v x).badTag = s.badTag := rfl
@[simp] theorem setVec_badLane (s : State) (f v : Nat) (x : VecSt) : (setVec s f v x).badLane = s.badLane := rfl
@[simp] theorem setVec_rc (s : State) (f v : Nat) (x : VecSt) : (setVec s f v x).rc = s.rc := rfl
@[simp] theorem setVec_dma (s : State) (f v : Nat) (x : VecSt) : (setVec s f v x).dma = s.dma := rfl
@[simp] theorem setVec_ord (s : State) (f v : Nat) (x : VecSt) : (setVec s f v x).ord = s.ord := rfl
@[simp] theorem setVec_rng (s : State) (f v : Nat) (x : VecSt) : (setVec s f v x).rng = s.rng := rfl
@[simp] theorem setVec_fl (s : State) (f v : Nat) (x : VecSt) : (setVec s f v x).fl = s.fl := rfl
@[simp] theorem setVec_li (s : State) (f v : Nat) (x : VecSt) : (setVec s f v x).li = s.li := rfl
@[simp] theorem setVec_lc (s : State) (f v : Nat) (x : VecSt) : (setVec s f v x).lc = s.lc := rfl
@[simp] theorem setVec_level (s : State) (f v : Nat) (x : VecSt) : (setVec s f v x).level = s.level := rfl
@[simp] theorem setVec_tm (s : State) (f v : Nat) (x : VecSt) : (setVec s f v x).tm = s.tm := rfl
@[simp] theorem setVec_pw (s : State) (f v : Nat) (x : VecSt) : (setVec s f v x).pw = s.pw := rfl
@[simp] theorem setVec_tag (s : State) (f v : Nat) (x : VecSt) : (setVec s f v x).tag = s.tag := rfl
@[simp] theorem setVec_cs (s : State) (f v : Nat) (x : VecSt) : (setVec s f v x).cs = s.cs := rfl
@[simp] theorem setVec_rmSram (s : State) (f v : Nat) (x : VecSt) : (setVec s f v x).rmSram = s.rmSram := rfl
@[simp] theorem setVec_rmLine (s : State) (f v : Nat) (x : VecSt) : (setVec s f v x).rmLine = s.rmLine := rfl
@[simp] theorem setVec_upd (s : State) (f v : Nat) (x : VecSt) : (setVec s f v x).upd = s.upd := rfl
@[simp] theorem setVec_pending (s : State) (f v : Nat) (x : VecSt) : (setVec s f v x).pending = s.pending := rfl

/-! ### setSide -/

@[simp] theorem setSide_regs (s : State) (p : Nat) (d : Side) (x : SideSt) : (setSide s p d x).regs = s.regs := rfl
@[simp] theorem setSide_locks (s : State) (p : Nat) (d : Side) (x : SideSt) : (setSide s p d x).locks = s.locks := rfl
@[simp] theorem setSide_cnts (s : State) (p : Nat) (d : Side) (x : SideSt) : (setSide s p d x).cnts = s.cnts := rfl
@[simp] theorem setSide_latches (s : State) (p : Nat) (d : Side) (x : SideSt) : (setSide s p d x).latches = s.latches := rfl
@[simp] theorem setSide_reply (s : State) (p : Nat) (d : Side) (x : SideSt) : (setSide s p d x).reply = s.reply := rfl
@[simp] theorem setSide_sent (s : State) (p : Nat) (d : Side) (x : SideSt) : (setSide s p d x).sent = s.sent := rfl
@[simp] theorem setSide_now (s : State) (p : Nat) (d : Side) (x : SideSt) : (setSide s p d x).now = s.now := rfl
@[simp] theorem setSide_freeCtr (s : State) (p : Nat) (d : Side) (x : SideSt) : (setSide s p d x).freeCtr = s.freeCtr := rfl
@[simp] theorem setSide_line (s : State) (p : Nat) (d : Side) (x : SideSt) : (setSide s p d x).line = { s.line with sides := tput (fun _ => {}) s.line.sides (2 * p + sideNum d) x } := rfl
@[simp] theorem setSide_saCnt (s : State) (p : Nat) (d : Side) (x : SideSt) : (setSide s p d x).saCnt = s.saCnt := rfl
@[simp] theorem setSide_domCnt (s : State) (p : Nat) (d : Side) (x : SideSt) : (setSide s p d x).domCnt = s.domCnt := rfl
@[simp] theorem setSide_bank (s : State) (p : Nat) (d : Side) (x : SideSt) : (setSide s p d x).bank = s.bank := rfl
@[simp] theorem setSide_mt (s : State) (p : Nat) (d : Side) (x : SideSt) : (setSide s p d x).mt = s.mt := rfl
@[simp] theorem setSide_gran (s : State) (p : Nat) (d : Side) (x : SideSt) : (setSide s p d x).gran = s.gran := rfl
@[simp] theorem setSide_culm (s : State) (p : Nat) (d : Side) (x : SideSt) : (setSide s p d x).culm = s.culm := rfl
@[simp] theorem setSide_ev (s : State) (p : Nat) (d : Side) (x : SideSt) : (setSide s p d x).ev = s.ev := rfl
@[simp] theorem setSide_host (s : State) (p : Nat) (d : Side) (x : SideSt) : (setSide s p d x).host = s.host := rfl
@[simp] theorem setSide_hstate (s : State) (p : Nat) (d : Side) (x : SideSt) : (setSide s p d x).hstate = s.hstate := rfl
@[simp] theorem setSide_harts (s : State) (p : Nat) (d : Side) (x : SideSt) : (setSide s p d x).harts = s.harts := rfl
@[simp] theorem setSide_sram (s : State) (p : Nat) (d : Side) (x : SideSt) : (setSide s p d x).sram = s.sram := rfl
@[simp] theorem setSide_tags (s : State) (p : Nat) (d : Side) (x : SideSt) : (setSide s p d x).tags = s.tags := rfl
@[simp] theorem setSide_badTag (s : State) (p : Nat) (d : Side) (x : SideSt) : (setSide s p d x).badTag = s.badTag := rfl
@[simp] theorem setSide_badLane (s : State) (p : Nat) (d : Side) (x : SideSt) : (setSide s p d x).badLane = s.badLane := rfl
@[simp] theorem setSide_rc (s : State) (p : Nat) (d : Side) (x : SideSt) : (setSide s p d x).rc = s.rc := rfl
@[simp] theorem setSide_dma (s : State) (p : Nat) (d : Side) (x : SideSt) : (setSide s p d x).dma = s.dma := rfl
@[simp] theorem setSide_ord (s : State) (p : Nat) (d : Side) (x : SideSt) : (setSide s p d x).ord = s.ord := rfl
@[simp] theorem setSide_rng (s : State) (p : Nat) (d : Side) (x : SideSt) : (setSide s p d x).rng = s.rng := rfl
@[simp] theorem setSide_fl (s : State) (p : Nat) (d : Side) (x : SideSt) : (setSide s p d x).fl = s.fl := rfl
@[simp] theorem setSide_li (s : State) (p : Nat) (d : Side) (x : SideSt) : (setSide s p d x).li = s.li := rfl
@[simp] theorem setSide_lc (s : State) (p : Nat) (d : Side) (x : SideSt) : (setSide s p d x).lc = s.lc := rfl
@[simp] theorem setSide_level (s : State) (p : Nat) (d : Side) (x : SideSt) : (setSide s p d x).level = s.level := rfl
@[simp] theorem setSide_tm (s : State) (p : Nat) (d : Side) (x : SideSt) : (setSide s p d x).tm = s.tm := rfl
@[simp] theorem setSide_pw (s : State) (p : Nat) (d : Side) (x : SideSt) : (setSide s p d x).pw = s.pw := rfl
@[simp] theorem setSide_tag (s : State) (p : Nat) (d : Side) (x : SideSt) : (setSide s p d x).tag = s.tag := rfl
@[simp] theorem setSide_cs (s : State) (p : Nat) (d : Side) (x : SideSt) : (setSide s p d x).cs = s.cs := rfl
@[simp] theorem setSide_rmSram (s : State) (p : Nat) (d : Side) (x : SideSt) : (setSide s p d x).rmSram = s.rmSram := rfl
@[simp] theorem setSide_rmLine (s : State) (p : Nat) (d : Side) (x : SideSt) : (setSide s p d x).rmLine = s.rmLine := rfl
@[simp] theorem setSide_upd (s : State) (p : Nat) (d : Side) (x : SideSt) : (setSide s p d x).upd = s.upd := rfl
@[simp] theorem setSide_pending (s : State) (p : Nat) (d : Side) (x : SideSt) : (setSide s p d x).pending = s.pending := rfl

/-! ### setBlock -/

@[simp] theorem setBlock_regs (s : State) (b : Nat) (x : BlockSt) : (setBlock s b x).regs = s.regs := rfl
@[simp] theorem setBlock_locks (s : State) (b : Nat) (x : BlockSt) : (setBlock s b x).locks = s.locks := rfl
@[simp] theorem setBlock_cnts (s : State) (b : Nat) (x : BlockSt) : (setBlock s b x).cnts = s.cnts := rfl
@[simp] theorem setBlock_latches (s : State) (b : Nat) (x : BlockSt) : (setBlock s b x).latches = s.latches := rfl
@[simp] theorem setBlock_reply (s : State) (b : Nat) (x : BlockSt) : (setBlock s b x).reply = s.reply := rfl
@[simp] theorem setBlock_sent (s : State) (b : Nat) (x : BlockSt) : (setBlock s b x).sent = s.sent := rfl
@[simp] theorem setBlock_now (s : State) (b : Nat) (x : BlockSt) : (setBlock s b x).now = s.now := rfl
@[simp] theorem setBlock_freeCtr (s : State) (b : Nat) (x : BlockSt) : (setBlock s b x).freeCtr = s.freeCtr := rfl
@[simp] theorem setBlock_line (s : State) (b : Nat) (x : BlockSt) : (setBlock s b x).line = { s.line with blocks := tput (fun _ => {}) s.line.blocks b x } := rfl
@[simp] theorem setBlock_saCnt (s : State) (b : Nat) (x : BlockSt) : (setBlock s b x).saCnt = s.saCnt := rfl
@[simp] theorem setBlock_domCnt (s : State) (b : Nat) (x : BlockSt) : (setBlock s b x).domCnt = s.domCnt := rfl
@[simp] theorem setBlock_bank (s : State) (b : Nat) (x : BlockSt) : (setBlock s b x).bank = s.bank := rfl
@[simp] theorem setBlock_mt (s : State) (b : Nat) (x : BlockSt) : (setBlock s b x).mt = s.mt := rfl
@[simp] theorem setBlock_gran (s : State) (b : Nat) (x : BlockSt) : (setBlock s b x).gran = s.gran := rfl
@[simp] theorem setBlock_culm (s : State) (b : Nat) (x : BlockSt) : (setBlock s b x).culm = s.culm := rfl
@[simp] theorem setBlock_ev (s : State) (b : Nat) (x : BlockSt) : (setBlock s b x).ev = s.ev := rfl
@[simp] theorem setBlock_host (s : State) (b : Nat) (x : BlockSt) : (setBlock s b x).host = s.host := rfl
@[simp] theorem setBlock_hstate (s : State) (b : Nat) (x : BlockSt) : (setBlock s b x).hstate = s.hstate := rfl
@[simp] theorem setBlock_harts (s : State) (b : Nat) (x : BlockSt) : (setBlock s b x).harts = s.harts := rfl
@[simp] theorem setBlock_sram (s : State) (b : Nat) (x : BlockSt) : (setBlock s b x).sram = s.sram := rfl
@[simp] theorem setBlock_tags (s : State) (b : Nat) (x : BlockSt) : (setBlock s b x).tags = s.tags := rfl
@[simp] theorem setBlock_badTag (s : State) (b : Nat) (x : BlockSt) : (setBlock s b x).badTag = s.badTag := rfl
@[simp] theorem setBlock_badLane (s : State) (b : Nat) (x : BlockSt) : (setBlock s b x).badLane = s.badLane := rfl
@[simp] theorem setBlock_rc (s : State) (b : Nat) (x : BlockSt) : (setBlock s b x).rc = s.rc := rfl
@[simp] theorem setBlock_dma (s : State) (b : Nat) (x : BlockSt) : (setBlock s b x).dma = s.dma := rfl
@[simp] theorem setBlock_ord (s : State) (b : Nat) (x : BlockSt) : (setBlock s b x).ord = s.ord := rfl
@[simp] theorem setBlock_rng (s : State) (b : Nat) (x : BlockSt) : (setBlock s b x).rng = s.rng := rfl
@[simp] theorem setBlock_fl (s : State) (b : Nat) (x : BlockSt) : (setBlock s b x).fl = s.fl := rfl
@[simp] theorem setBlock_li (s : State) (b : Nat) (x : BlockSt) : (setBlock s b x).li = s.li := rfl
@[simp] theorem setBlock_lc (s : State) (b : Nat) (x : BlockSt) : (setBlock s b x).lc = s.lc := rfl
@[simp] theorem setBlock_level (s : State) (b : Nat) (x : BlockSt) : (setBlock s b x).level = s.level := rfl
@[simp] theorem setBlock_tm (s : State) (b : Nat) (x : BlockSt) : (setBlock s b x).tm = s.tm := rfl
@[simp] theorem setBlock_pw (s : State) (b : Nat) (x : BlockSt) : (setBlock s b x).pw = s.pw := rfl
@[simp] theorem setBlock_tag (s : State) (b : Nat) (x : BlockSt) : (setBlock s b x).tag = s.tag := rfl
@[simp] theorem setBlock_cs (s : State) (b : Nat) (x : BlockSt) : (setBlock s b x).cs = s.cs := rfl
@[simp] theorem setBlock_rmSram (s : State) (b : Nat) (x : BlockSt) : (setBlock s b x).rmSram = s.rmSram := rfl
@[simp] theorem setBlock_rmLine (s : State) (b : Nat) (x : BlockSt) : (setBlock s b x).rmLine = s.rmLine := rfl
@[simp] theorem setBlock_upd (s : State) (b : Nat) (x : BlockSt) : (setBlock s b x).upd = s.upd := rfl
@[simp] theorem setBlock_pending (s : State) (b : Nat) (x : BlockSt) : (setBlock s b x).pending = s.pending := rfl

/-! ### setLane -/

@[simp] theorem setLane_regs (s : State) (b n : Nat) (x : LaneSt) : (setLane s b n x).regs = s.regs := rfl
@[simp] theorem setLane_locks (s : State) (b n : Nat) (x : LaneSt) : (setLane s b n x).locks = s.locks := rfl
@[simp] theorem setLane_cnts (s : State) (b n : Nat) (x : LaneSt) : (setLane s b n x).cnts = s.cnts := rfl
@[simp] theorem setLane_latches (s : State) (b n : Nat) (x : LaneSt) : (setLane s b n x).latches = s.latches := rfl
@[simp] theorem setLane_reply (s : State) (b n : Nat) (x : LaneSt) : (setLane s b n x).reply = s.reply := rfl
@[simp] theorem setLane_sent (s : State) (b n : Nat) (x : LaneSt) : (setLane s b n x).sent = s.sent := rfl
@[simp] theorem setLane_now (s : State) (b n : Nat) (x : LaneSt) : (setLane s b n x).now = s.now := rfl
@[simp] theorem setLane_freeCtr (s : State) (b n : Nat) (x : LaneSt) : (setLane s b n x).freeCtr = s.freeCtr := rfl
@[simp] theorem setLane_line (s : State) (b n : Nat) (x : LaneSt) : (setLane s b n x).line = { s.line with lanes := tput (fun _ => {}) s.line.lanes (8 * b + n) x } := rfl
@[simp] theorem setLane_saCnt (s : State) (b n : Nat) (x : LaneSt) : (setLane s b n x).saCnt = s.saCnt := rfl
@[simp] theorem setLane_domCnt (s : State) (b n : Nat) (x : LaneSt) : (setLane s b n x).domCnt = s.domCnt := rfl
@[simp] theorem setLane_bank (s : State) (b n : Nat) (x : LaneSt) : (setLane s b n x).bank = s.bank := rfl
@[simp] theorem setLane_mt (s : State) (b n : Nat) (x : LaneSt) : (setLane s b n x).mt = s.mt := rfl
@[simp] theorem setLane_gran (s : State) (b n : Nat) (x : LaneSt) : (setLane s b n x).gran = s.gran := rfl
@[simp] theorem setLane_culm (s : State) (b n : Nat) (x : LaneSt) : (setLane s b n x).culm = s.culm := rfl
@[simp] theorem setLane_ev (s : State) (b n : Nat) (x : LaneSt) : (setLane s b n x).ev = s.ev := rfl
@[simp] theorem setLane_host (s : State) (b n : Nat) (x : LaneSt) : (setLane s b n x).host = s.host := rfl
@[simp] theorem setLane_hstate (s : State) (b n : Nat) (x : LaneSt) : (setLane s b n x).hstate = s.hstate := rfl
@[simp] theorem setLane_harts (s : State) (b n : Nat) (x : LaneSt) : (setLane s b n x).harts = s.harts := rfl
@[simp] theorem setLane_sram (s : State) (b n : Nat) (x : LaneSt) : (setLane s b n x).sram = s.sram := rfl
@[simp] theorem setLane_tags (s : State) (b n : Nat) (x : LaneSt) : (setLane s b n x).tags = s.tags := rfl
@[simp] theorem setLane_badTag (s : State) (b n : Nat) (x : LaneSt) : (setLane s b n x).badTag = s.badTag := rfl
@[simp] theorem setLane_badLane (s : State) (b n : Nat) (x : LaneSt) : (setLane s b n x).badLane = s.badLane := rfl
@[simp] theorem setLane_rc (s : State) (b n : Nat) (x : LaneSt) : (setLane s b n x).rc = s.rc := rfl
@[simp] theorem setLane_dma (s : State) (b n : Nat) (x : LaneSt) : (setLane s b n x).dma = s.dma := rfl
@[simp] theorem setLane_ord (s : State) (b n : Nat) (x : LaneSt) : (setLane s b n x).ord = s.ord := rfl
@[simp] theorem setLane_rng (s : State) (b n : Nat) (x : LaneSt) : (setLane s b n x).rng = s.rng := rfl
@[simp] theorem setLane_fl (s : State) (b n : Nat) (x : LaneSt) : (setLane s b n x).fl = s.fl := rfl
@[simp] theorem setLane_li (s : State) (b n : Nat) (x : LaneSt) : (setLane s b n x).li = s.li := rfl
@[simp] theorem setLane_lc (s : State) (b n : Nat) (x : LaneSt) : (setLane s b n x).lc = s.lc := rfl
@[simp] theorem setLane_level (s : State) (b n : Nat) (x : LaneSt) : (setLane s b n x).level = s.level := rfl
@[simp] theorem setLane_tm (s : State) (b n : Nat) (x : LaneSt) : (setLane s b n x).tm = s.tm := rfl
@[simp] theorem setLane_pw (s : State) (b n : Nat) (x : LaneSt) : (setLane s b n x).pw = s.pw := rfl
@[simp] theorem setLane_tag (s : State) (b n : Nat) (x : LaneSt) : (setLane s b n x).tag = s.tag := rfl
@[simp] theorem setLane_cs (s : State) (b n : Nat) (x : LaneSt) : (setLane s b n x).cs = s.cs := rfl
@[simp] theorem setLane_rmSram (s : State) (b n : Nat) (x : LaneSt) : (setLane s b n x).rmSram = s.rmSram := rfl
@[simp] theorem setLane_rmLine (s : State) (b n : Nat) (x : LaneSt) : (setLane s b n x).rmLine = s.rmLine := rfl
@[simp] theorem setLane_upd (s : State) (b n : Nat) (x : LaneSt) : (setLane s b n x).upd = s.upd := rfl
@[simp] theorem setLane_pending (s : State) (b n : Nat) (x : LaneSt) : (setLane s b n x).pending = s.pending := rfl

/-! ### setFrames -/

@[simp] theorem setFrames_regs (s : State) (p : Nat) (d : Dir) (l : List Frame) : (setFrames s p d l).regs = s.regs := rfl
@[simp] theorem setFrames_locks (s : State) (p : Nat) (d : Dir) (l : List Frame) : (setFrames s p d l).locks = s.locks := rfl
@[simp] theorem setFrames_cnts (s : State) (p : Nat) (d : Dir) (l : List Frame) : (setFrames s p d l).cnts = s.cnts := rfl
@[simp] theorem setFrames_latches (s : State) (p : Nat) (d : Dir) (l : List Frame) : (setFrames s p d l).latches = s.latches := rfl
@[simp] theorem setFrames_reply (s : State) (p : Nat) (d : Dir) (l : List Frame) : (setFrames s p d l).reply = s.reply := rfl
@[simp] theorem setFrames_sent (s : State) (p : Nat) (d : Dir) (l : List Frame) : (setFrames s p d l).sent = s.sent := rfl
@[simp] theorem setFrames_now (s : State) (p : Nat) (d : Dir) (l : List Frame) : (setFrames s p d l).now = s.now := rfl
@[simp] theorem setFrames_freeCtr (s : State) (p : Nat) (d : Dir) (l : List Frame) : (setFrames s p d l).freeCtr = s.freeCtr := rfl
@[simp] theorem setFrames_line (s : State) (p : Nat) (d : Dir) (l : List Frame) : (setFrames s p d l).line = { s.line with frames := tput (fun _ => []) s.line.frames (2 * p + dirNum d) l } := rfl
@[simp] theorem setFrames_saCnt (s : State) (p : Nat) (d : Dir) (l : List Frame) : (setFrames s p d l).saCnt = s.saCnt := rfl
@[simp] theorem setFrames_domCnt (s : State) (p : Nat) (d : Dir) (l : List Frame) : (setFrames s p d l).domCnt = s.domCnt := rfl
@[simp] theorem setFrames_bank (s : State) (p : Nat) (d : Dir) (l : List Frame) : (setFrames s p d l).bank = s.bank := rfl
@[simp] theorem setFrames_mt (s : State) (p : Nat) (d : Dir) (l : List Frame) : (setFrames s p d l).mt = s.mt := rfl
@[simp] theorem setFrames_gran (s : State) (p : Nat) (d : Dir) (l : List Frame) : (setFrames s p d l).gran = s.gran := rfl
@[simp] theorem setFrames_culm (s : State) (p : Nat) (d : Dir) (l : List Frame) : (setFrames s p d l).culm = s.culm := rfl
@[simp] theorem setFrames_ev (s : State) (p : Nat) (d : Dir) (l : List Frame) : (setFrames s p d l).ev = s.ev := rfl
@[simp] theorem setFrames_host (s : State) (p : Nat) (d : Dir) (l : List Frame) : (setFrames s p d l).host = s.host := rfl
@[simp] theorem setFrames_hstate (s : State) (p : Nat) (d : Dir) (l : List Frame) : (setFrames s p d l).hstate = s.hstate := rfl
@[simp] theorem setFrames_harts (s : State) (p : Nat) (d : Dir) (l : List Frame) : (setFrames s p d l).harts = s.harts := rfl
@[simp] theorem setFrames_sram (s : State) (p : Nat) (d : Dir) (l : List Frame) : (setFrames s p d l).sram = s.sram := rfl
@[simp] theorem setFrames_tags (s : State) (p : Nat) (d : Dir) (l : List Frame) : (setFrames s p d l).tags = s.tags := rfl
@[simp] theorem setFrames_badTag (s : State) (p : Nat) (d : Dir) (l : List Frame) : (setFrames s p d l).badTag = s.badTag := rfl
@[simp] theorem setFrames_badLane (s : State) (p : Nat) (d : Dir) (l : List Frame) : (setFrames s p d l).badLane = s.badLane := rfl
@[simp] theorem setFrames_rc (s : State) (p : Nat) (d : Dir) (l : List Frame) : (setFrames s p d l).rc = s.rc := rfl
@[simp] theorem setFrames_dma (s : State) (p : Nat) (d : Dir) (l : List Frame) : (setFrames s p d l).dma = s.dma := rfl
@[simp] theorem setFrames_ord (s : State) (p : Nat) (d : Dir) (l : List Frame) : (setFrames s p d l).ord = s.ord := rfl
@[simp] theorem setFrames_rng (s : State) (p : Nat) (d : Dir) (l : List Frame) : (setFrames s p d l).rng = s.rng := rfl
@[simp] theorem setFrames_fl (s : State) (p : Nat) (d : Dir) (l : List Frame) : (setFrames s p d l).fl = s.fl := rfl
@[simp] theorem setFrames_li (s : State) (p : Nat) (d : Dir) (l : List Frame) : (setFrames s p d l).li = s.li := rfl
@[simp] theorem setFrames_lc (s : State) (p : Nat) (d : Dir) (l : List Frame) : (setFrames s p d l).lc = s.lc := rfl
@[simp] theorem setFrames_level (s : State) (p : Nat) (d : Dir) (l : List Frame) : (setFrames s p d l).level = s.level := rfl
@[simp] theorem setFrames_tm (s : State) (p : Nat) (d : Dir) (l : List Frame) : (setFrames s p d l).tm = s.tm := rfl
@[simp] theorem setFrames_pw (s : State) (p : Nat) (d : Dir) (l : List Frame) : (setFrames s p d l).pw = s.pw := rfl
@[simp] theorem setFrames_tag (s : State) (p : Nat) (d : Dir) (l : List Frame) : (setFrames s p d l).tag = s.tag := rfl
@[simp] theorem setFrames_cs (s : State) (p : Nat) (d : Dir) (l : List Frame) : (setFrames s p d l).cs = s.cs := rfl
@[simp] theorem setFrames_rmSram (s : State) (p : Nat) (d : Dir) (l : List Frame) : (setFrames s p d l).rmSram = s.rmSram := rfl
@[simp] theorem setFrames_rmLine (s : State) (p : Nat) (d : Dir) (l : List Frame) : (setFrames s p d l).rmLine = s.rmLine := rfl
@[simp] theorem setFrames_upd (s : State) (p : Nat) (d : Dir) (l : List Frame) : (setFrames s p d l).upd = s.upd := rfl
@[simp] theorem setFrames_pending (s : State) (p : Nat) (d : Dir) (l : List Frame) : (setFrames s p d l).pending = s.pending := rfl

/-! ### setSlot -/

@[simp] theorem setSlot_regs (s : State) (n : Nat) (e : SaEntry) : (setSlot s n e).regs = s.regs := rfl
@[simp] theorem setSlot_locks (s : State) (n : Nat) (e : SaEntry) : (setSlot s n e).locks = s.locks := rfl
@[simp] theorem setSlot_cnts (s : State) (n : Nat) (e : SaEntry) : (setSlot s n e).cnts = s.cnts := rfl
@[simp] theorem setSlot_latches (s : State) (n : Nat) (e : SaEntry) : (setSlot s n e).latches = s.latches := rfl
@[simp] theorem setSlot_reply (s : State) (n : Nat) (e : SaEntry) : (setSlot s n e).reply = s.reply := rfl
@[simp] theorem setSlot_sent (s : State) (n : Nat) (e : SaEntry) : (setSlot s n e).sent = s.sent := rfl
@[simp] theorem setSlot_now (s : State) (n : Nat) (e : SaEntry) : (setSlot s n e).now = s.now := rfl
@[simp] theorem setSlot_freeCtr (s : State) (n : Nat) (e : SaEntry) : (setSlot s n e).freeCtr = s.freeCtr := rfl
@[simp] theorem setSlot_line (s : State) (n : Nat) (e : SaEntry) : (setSlot s n e).line = s.line := rfl
@[simp] theorem setSlot_saCnt (s : State) (n : Nat) (e : SaEntry) : (setSlot s n e).saCnt = s.saCnt := rfl
@[simp] theorem setSlot_domCnt (s : State) (n : Nat) (e : SaEntry) : (setSlot s n e).domCnt = s.domCnt := rfl
@[simp] theorem setSlot_bank (s : State) (n : Nat) (e : SaEntry) : (setSlot s n e).bank = s.bank := rfl
@[simp] theorem setSlot_mt (s : State) (n : Nat) (e : SaEntry) : (setSlot s n e).mt = s.mt := rfl
@[simp] theorem setSlot_gran (s : State) (n : Nat) (e : SaEntry) : (setSlot s n e).gran = { s.gran with slots := tput (fun _ => {}) s.gran.slots n e } := rfl
@[simp] theorem setSlot_culm (s : State) (n : Nat) (e : SaEntry) : (setSlot s n e).culm = s.culm := rfl
@[simp] theorem setSlot_ev (s : State) (n : Nat) (e : SaEntry) : (setSlot s n e).ev = s.ev := rfl
@[simp] theorem setSlot_host (s : State) (n : Nat) (e : SaEntry) : (setSlot s n e).host = s.host := rfl
@[simp] theorem setSlot_hstate (s : State) (n : Nat) (e : SaEntry) : (setSlot s n e).hstate = s.hstate := rfl
@[simp] theorem setSlot_harts (s : State) (n : Nat) (e : SaEntry) : (setSlot s n e).harts = s.harts := rfl
@[simp] theorem setSlot_sram (s : State) (n : Nat) (e : SaEntry) : (setSlot s n e).sram = s.sram := rfl
@[simp] theorem setSlot_tags (s : State) (n : Nat) (e : SaEntry) : (setSlot s n e).tags = s.tags := rfl
@[simp] theorem setSlot_badTag (s : State) (n : Nat) (e : SaEntry) : (setSlot s n e).badTag = s.badTag := rfl
@[simp] theorem setSlot_badLane (s : State) (n : Nat) (e : SaEntry) : (setSlot s n e).badLane = s.badLane := rfl
@[simp] theorem setSlot_rc (s : State) (n : Nat) (e : SaEntry) : (setSlot s n e).rc = s.rc := rfl
@[simp] theorem setSlot_dma (s : State) (n : Nat) (e : SaEntry) : (setSlot s n e).dma = s.dma := rfl
@[simp] theorem setSlot_ord (s : State) (n : Nat) (e : SaEntry) : (setSlot s n e).ord = s.ord := rfl
@[simp] theorem setSlot_rng (s : State) (n : Nat) (e : SaEntry) : (setSlot s n e).rng = s.rng := rfl
@[simp] theorem setSlot_fl (s : State) (n : Nat) (e : SaEntry) : (setSlot s n e).fl = s.fl := rfl
@[simp] theorem setSlot_li (s : State) (n : Nat) (e : SaEntry) : (setSlot s n e).li = s.li := rfl
@[simp] theorem setSlot_lc (s : State) (n : Nat) (e : SaEntry) : (setSlot s n e).lc = s.lc := rfl
@[simp] theorem setSlot_level (s : State) (n : Nat) (e : SaEntry) : (setSlot s n e).level = s.level := rfl
@[simp] theorem setSlot_tm (s : State) (n : Nat) (e : SaEntry) : (setSlot s n e).tm = s.tm := rfl
@[simp] theorem setSlot_pw (s : State) (n : Nat) (e : SaEntry) : (setSlot s n e).pw = s.pw := rfl
@[simp] theorem setSlot_tag (s : State) (n : Nat) (e : SaEntry) : (setSlot s n e).tag = s.tag := rfl
@[simp] theorem setSlot_cs (s : State) (n : Nat) (e : SaEntry) : (setSlot s n e).cs = s.cs := rfl
@[simp] theorem setSlot_rmSram (s : State) (n : Nat) (e : SaEntry) : (setSlot s n e).rmSram = s.rmSram := rfl
@[simp] theorem setSlot_rmLine (s : State) (n : Nat) (e : SaEntry) : (setSlot s n e).rmLine = s.rmLine := rfl
@[simp] theorem setSlot_upd (s : State) (n : Nat) (e : SaEntry) : (setSlot s n e).upd = s.upd := rfl
@[simp] theorem setSlot_pending (s : State) (n : Nat) (e : SaEntry) : (setSlot s n e).pending = s.pending := rfl

/-! ### setHart -/

@[simp] theorem setHart_regs (s : State) (h : Nat) (x : Hart) : (setHart s h x).regs = s.regs := rfl
@[simp] theorem setHart_locks (s : State) (h : Nat) (x : Hart) : (setHart s h x).locks = s.locks := rfl
@[simp] theorem setHart_cnts (s : State) (h : Nat) (x : Hart) : (setHart s h x).cnts = s.cnts := rfl
@[simp] theorem setHart_latches (s : State) (h : Nat) (x : Hart) : (setHart s h x).latches = s.latches := rfl
@[simp] theorem setHart_reply (s : State) (h : Nat) (x : Hart) : (setHart s h x).reply = s.reply := rfl
@[simp] theorem setHart_sent (s : State) (h : Nat) (x : Hart) : (setHart s h x).sent = s.sent := rfl
@[simp] theorem setHart_now (s : State) (h : Nat) (x : Hart) : (setHart s h x).now = s.now := rfl
@[simp] theorem setHart_freeCtr (s : State) (h : Nat) (x : Hart) : (setHart s h x).freeCtr = s.freeCtr := rfl
@[simp] theorem setHart_line (s : State) (h : Nat) (x : Hart) : (setHart s h x).line = s.line := rfl
@[simp] theorem setHart_saCnt (s : State) (h : Nat) (x : Hart) : (setHart s h x).saCnt = s.saCnt := rfl
@[simp] theorem setHart_domCnt (s : State) (h : Nat) (x : Hart) : (setHart s h x).domCnt = s.domCnt := rfl
@[simp] theorem setHart_bank (s : State) (h : Nat) (x : Hart) : (setHart s h x).bank = s.bank := rfl
@[simp] theorem setHart_mt (s : State) (h : Nat) (x : Hart) : (setHart s h x).mt = s.mt := rfl
@[simp] theorem setHart_gran (s : State) (h : Nat) (x : Hart) : (setHart s h x).gran = s.gran := rfl
@[simp] theorem setHart_culm (s : State) (h : Nat) (x : Hart) : (setHart s h x).culm = s.culm := rfl
@[simp] theorem setHart_ev (s : State) (h : Nat) (x : Hart) : (setHart s h x).ev = s.ev := rfl
@[simp] theorem setHart_host (s : State) (h : Nat) (x : Hart) : (setHart s h x).host = s.host := rfl
@[simp] theorem setHart_hstate (s : State) (h : Nat) (x : Hart) : (setHart s h x).hstate = s.hstate := rfl
@[simp] theorem setHart_harts (s : State) (h : Nat) (x : Hart) : (setHart s h x).harts = tput hartInit s.harts h x := rfl
@[simp] theorem setHart_sram (s : State) (h : Nat) (x : Hart) : (setHart s h x).sram = s.sram := rfl
@[simp] theorem setHart_tags (s : State) (h : Nat) (x : Hart) : (setHart s h x).tags = s.tags := rfl
@[simp] theorem setHart_badTag (s : State) (h : Nat) (x : Hart) : (setHart s h x).badTag = s.badTag := rfl
@[simp] theorem setHart_badLane (s : State) (h : Nat) (x : Hart) : (setHart s h x).badLane = s.badLane := rfl
@[simp] theorem setHart_rc (s : State) (h : Nat) (x : Hart) : (setHart s h x).rc = s.rc := rfl
@[simp] theorem setHart_dma (s : State) (h : Nat) (x : Hart) : (setHart s h x).dma = s.dma := rfl
@[simp] theorem setHart_ord (s : State) (h : Nat) (x : Hart) : (setHart s h x).ord = s.ord := rfl
@[simp] theorem setHart_rng (s : State) (h : Nat) (x : Hart) : (setHart s h x).rng = s.rng := rfl
@[simp] theorem setHart_fl (s : State) (h : Nat) (x : Hart) : (setHart s h x).fl = s.fl := rfl
@[simp] theorem setHart_li (s : State) (h : Nat) (x : Hart) : (setHart s h x).li = s.li := rfl
@[simp] theorem setHart_lc (s : State) (h : Nat) (x : Hart) : (setHart s h x).lc = s.lc := rfl
@[simp] theorem setHart_level (s : State) (h : Nat) (x : Hart) : (setHart s h x).level = s.level := rfl
@[simp] theorem setHart_tm (s : State) (h : Nat) (x : Hart) : (setHart s h x).tm = s.tm := rfl
@[simp] theorem setHart_pw (s : State) (h : Nat) (x : Hart) : (setHart s h x).pw = s.pw := rfl
@[simp] theorem setHart_tag (s : State) (h : Nat) (x : Hart) : (setHart s h x).tag = s.tag := rfl
@[simp] theorem setHart_cs (s : State) (h : Nat) (x : Hart) : (setHart s h x).cs = s.cs := rfl
@[simp] theorem setHart_rmSram (s : State) (h : Nat) (x : Hart) : (setHart s h x).rmSram = s.rmSram := rfl
@[simp] theorem setHart_rmLine (s : State) (h : Nat) (x : Hart) : (setHart s h x).rmLine = s.rmLine := rfl
@[simp] theorem setHart_upd (s : State) (h : Nat) (x : Hart) : (setHart s h x).upd = s.upd := rfl
@[simp] theorem setHart_pending (s : State) (h : Nat) (x : Hart) : (setHart s h x).pending = s.pending := rfl

/-! ### setHst -/

@[simp] theorem setHst_regs (s : State) (h : Nat) (x : HState) : (setHst s h x).regs = s.regs := rfl
@[simp] theorem setHst_locks (s : State) (h : Nat) (x : HState) : (setHst s h x).locks = s.locks := rfl
@[simp] theorem setHst_cnts (s : State) (h : Nat) (x : HState) : (setHst s h x).cnts = s.cnts := rfl
@[simp] theorem setHst_latches (s : State) (h : Nat) (x : HState) : (setHst s h x).latches = s.latches := rfl
@[simp] theorem setHst_reply (s : State) (h : Nat) (x : HState) : (setHst s h x).reply = s.reply := rfl
@[simp] theorem setHst_sent (s : State) (h : Nat) (x : HState) : (setHst s h x).sent = s.sent := rfl
@[simp] theorem setHst_now (s : State) (h : Nat) (x : HState) : (setHst s h x).now = s.now := rfl
@[simp] theorem setHst_freeCtr (s : State) (h : Nat) (x : HState) : (setHst s h x).freeCtr = s.freeCtr := rfl
@[simp] theorem setHst_line (s : State) (h : Nat) (x : HState) : (setHst s h x).line = s.line := rfl
@[simp] theorem setHst_saCnt (s : State) (h : Nat) (x : HState) : (setHst s h x).saCnt = s.saCnt := rfl
@[simp] theorem setHst_domCnt (s : State) (h : Nat) (x : HState) : (setHst s h x).domCnt = s.domCnt := rfl
@[simp] theorem setHst_bank (s : State) (h : Nat) (x : HState) : (setHst s h x).bank = s.bank := rfl
@[simp] theorem setHst_mt (s : State) (h : Nat) (x : HState) : (setHst s h x).mt = s.mt := rfl
@[simp] theorem setHst_gran (s : State) (h : Nat) (x : HState) : (setHst s h x).gran = s.gran := rfl
@[simp] theorem setHst_culm (s : State) (h : Nat) (x : HState) : (setHst s h x).culm = s.culm := rfl
@[simp] theorem setHst_ev (s : State) (h : Nat) (x : HState) : (setHst s h x).ev = s.ev := rfl
@[simp] theorem setHst_host (s : State) (h : Nat) (x : HState) : (setHst s h x).host = s.host := rfl
@[simp] theorem setHst_hstate (s : State) (h : Nat) (x : HState) : (setHst s h x).hstate = tput hstInit s.hstate h x := rfl
@[simp] theorem setHst_harts (s : State) (h : Nat) (x : HState) : (setHst s h x).harts = s.harts := rfl
@[simp] theorem setHst_sram (s : State) (h : Nat) (x : HState) : (setHst s h x).sram = s.sram := rfl
@[simp] theorem setHst_tags (s : State) (h : Nat) (x : HState) : (setHst s h x).tags = s.tags := rfl
@[simp] theorem setHst_badTag (s : State) (h : Nat) (x : HState) : (setHst s h x).badTag = s.badTag := rfl
@[simp] theorem setHst_badLane (s : State) (h : Nat) (x : HState) : (setHst s h x).badLane = s.badLane := rfl
@[simp] theorem setHst_rc (s : State) (h : Nat) (x : HState) : (setHst s h x).rc = s.rc := rfl
@[simp] theorem setHst_dma (s : State) (h : Nat) (x : HState) : (setHst s h x).dma = s.dma := rfl
@[simp] theorem setHst_ord (s : State) (h : Nat) (x : HState) : (setHst s h x).ord = s.ord := rfl
@[simp] theorem setHst_rng (s : State) (h : Nat) (x : HState) : (setHst s h x).rng = s.rng := rfl
@[simp] theorem setHst_fl (s : State) (h : Nat) (x : HState) : (setHst s h x).fl = s.fl := rfl
@[simp] theorem setHst_li (s : State) (h : Nat) (x : HState) : (setHst s h x).li = s.li := rfl
@[simp] theorem setHst_lc (s : State) (h : Nat) (x : HState) : (setHst s h x).lc = s.lc := rfl
@[simp] theorem setHst_level (s : State) (h : Nat) (x : HState) : (setHst s h x).level = s.level := rfl
@[simp] theorem setHst_tm (s : State) (h : Nat) (x : HState) : (setHst s h x).tm = s.tm := rfl
@[simp] theorem setHst_pw (s : State) (h : Nat) (x : HState) : (setHst s h x).pw = s.pw := rfl
@[simp] theorem setHst_tag (s : State) (h : Nat) (x : HState) : (setHst s h x).tag = s.tag := rfl
@[simp] theorem setHst_cs (s : State) (h : Nat) (x : HState) : (setHst s h x).cs = s.cs := rfl
@[simp] theorem setHst_rmSram (s : State) (h : Nat) (x : HState) : (setHst s h x).rmSram = s.rmSram := rfl
@[simp] theorem setHst_rmLine (s : State) (h : Nat) (x : HState) : (setHst s h x).rmLine = s.rmLine := rfl
@[simp] theorem setHst_upd (s : State) (h : Nat) (x : HState) : (setHst s h x).upd = s.upd := rfl
@[simp] theorem setHst_pending (s : State) (h : Nat) (x : HState) : (setHst s h x).pending = s.pending := rfl

/-! ### setJobs -/

@[simp] theorem setJobs_regs (s : State) (l : List Job) : (setJobs s l).regs = s.regs := rfl
@[simp] theorem setJobs_locks (s : State) (l : List Job) : (setJobs s l).locks = s.locks := rfl
@[simp] theorem setJobs_cnts (s : State) (l : List Job) : (setJobs s l).cnts = s.cnts := rfl
@[simp] theorem setJobs_latches (s : State) (l : List Job) : (setJobs s l).latches = s.latches := rfl
@[simp] theorem setJobs_reply (s : State) (l : List Job) : (setJobs s l).reply = s.reply := rfl
@[simp] theorem setJobs_sent (s : State) (l : List Job) : (setJobs s l).sent = s.sent := rfl
@[simp] theorem setJobs_now (s : State) (l : List Job) : (setJobs s l).now = s.now := rfl
@[simp] theorem setJobs_freeCtr (s : State) (l : List Job) : (setJobs s l).freeCtr = s.freeCtr := rfl
@[simp] theorem setJobs_line (s : State) (l : List Job) : (setJobs s l).line = s.line := rfl
@[simp] theorem setJobs_saCnt (s : State) (l : List Job) : (setJobs s l).saCnt = s.saCnt := rfl
@[simp] theorem setJobs_domCnt (s : State) (l : List Job) : (setJobs s l).domCnt = s.domCnt := rfl
@[simp] theorem setJobs_bank (s : State) (l : List Job) : (setJobs s l).bank = s.bank := rfl
@[simp] theorem setJobs_mt (s : State) (l : List Job) : (setJobs s l).mt = s.mt := rfl
@[simp] theorem setJobs_gran (s : State) (l : List Job) : (setJobs s l).gran = s.gran := rfl
@[simp] theorem setJobs_culm (s : State) (l : List Job) : (setJobs s l).culm = s.culm := rfl
@[simp] theorem setJobs_ev (s : State) (l : List Job) : (setJobs s l).ev = s.ev := rfl
@[simp] theorem setJobs_host (s : State) (l : List Job) : (setJobs s l).host = s.host := rfl
@[simp] theorem setJobs_hstate (s : State) (l : List Job) : (setJobs s l).hstate = s.hstate := rfl
@[simp] theorem setJobs_harts (s : State) (l : List Job) : (setJobs s l).harts = s.harts := rfl
@[simp] theorem setJobs_sram (s : State) (l : List Job) : (setJobs s l).sram = s.sram := rfl
@[simp] theorem setJobs_tags (s : State) (l : List Job) : (setJobs s l).tags = s.tags := rfl
@[simp] theorem setJobs_badTag (s : State) (l : List Job) : (setJobs s l).badTag = s.badTag := rfl
@[simp] theorem setJobs_badLane (s : State) (l : List Job) : (setJobs s l).badLane = s.badLane := rfl
@[simp] theorem setJobs_rc (s : State) (l : List Job) : (setJobs s l).rc = s.rc := rfl
@[simp] theorem setJobs_dma (s : State) (l : List Job) : (setJobs s l).dma = s.dma := rfl
@[simp] theorem setJobs_ord (s : State) (l : List Job) : (setJobs s l).ord = { s.ord with jobs := l } := rfl
@[simp] theorem setJobs_rng (s : State) (l : List Job) : (setJobs s l).rng = s.rng := rfl
@[simp] theorem setJobs_fl (s : State) (l : List Job) : (setJobs s l).fl = s.fl := rfl
@[simp] theorem setJobs_li (s : State) (l : List Job) : (setJobs s l).li = s.li := rfl
@[simp] theorem setJobs_lc (s : State) (l : List Job) : (setJobs s l).lc = s.lc := rfl
@[simp] theorem setJobs_level (s : State) (l : List Job) : (setJobs s l).level = s.level := rfl
@[simp] theorem setJobs_tm (s : State) (l : List Job) : (setJobs s l).tm = s.tm := rfl
@[simp] theorem setJobs_pw (s : State) (l : List Job) : (setJobs s l).pw = s.pw := rfl
@[simp] theorem setJobs_tag (s : State) (l : List Job) : (setJobs s l).tag = s.tag := rfl
@[simp] theorem setJobs_cs (s : State) (l : List Job) : (setJobs s l).cs = s.cs := rfl
@[simp] theorem setJobs_rmSram (s : State) (l : List Job) : (setJobs s l).rmSram = s.rmSram := rfl
@[simp] theorem setJobs_rmLine (s : State) (l : List Job) : (setJobs s l).rmLine = s.rmLine := rfl
@[simp] theorem setJobs_upd (s : State) (l : List Job) : (setJobs s l).upd = s.upd := rfl
@[simp] theorem setJobs_pending (s : State) (l : List Job) : (setJobs s l).pending = s.pending := rfl

/-! ### setDma -/

@[simp] theorem setDma_regs (s : State) (c : Nat) (x : DmaSt) : (setDma s c x).regs = s.regs := rfl
@[simp] theorem setDma_locks (s : State) (c : Nat) (x : DmaSt) : (setDma s c x).locks = s.locks := rfl
@[simp] theorem setDma_cnts (s : State) (c : Nat) (x : DmaSt) : (setDma s c x).cnts = s.cnts := rfl
@[simp] theorem setDma_latches (s : State) (c : Nat) (x : DmaSt) : (setDma s c x).latches = s.latches := rfl
@[simp] theorem setDma_reply (s : State) (c : Nat) (x : DmaSt) : (setDma s c x).reply = s.reply := rfl
@[simp] theorem setDma_sent (s : State) (c : Nat) (x : DmaSt) : (setDma s c x).sent = s.sent := rfl
@[simp] theorem setDma_now (s : State) (c : Nat) (x : DmaSt) : (setDma s c x).now = s.now := rfl
@[simp] theorem setDma_freeCtr (s : State) (c : Nat) (x : DmaSt) : (setDma s c x).freeCtr = s.freeCtr := rfl
@[simp] theorem setDma_line (s : State) (c : Nat) (x : DmaSt) : (setDma s c x).line = s.line := rfl
@[simp] theorem setDma_saCnt (s : State) (c : Nat) (x : DmaSt) : (setDma s c x).saCnt = s.saCnt := rfl
@[simp] theorem setDma_domCnt (s : State) (c : Nat) (x : DmaSt) : (setDma s c x).domCnt = s.domCnt := rfl
@[simp] theorem setDma_bank (s : State) (c : Nat) (x : DmaSt) : (setDma s c x).bank = s.bank := rfl
@[simp] theorem setDma_mt (s : State) (c : Nat) (x : DmaSt) : (setDma s c x).mt = s.mt := rfl
@[simp] theorem setDma_gran (s : State) (c : Nat) (x : DmaSt) : (setDma s c x).gran = s.gran := rfl
@[simp] theorem setDma_culm (s : State) (c : Nat) (x : DmaSt) : (setDma s c x).culm = s.culm := rfl
@[simp] theorem setDma_ev (s : State) (c : Nat) (x : DmaSt) : (setDma s c x).ev = s.ev := rfl
@[simp] theorem setDma_host (s : State) (c : Nat) (x : DmaSt) : (setDma s c x).host = s.host := rfl
@[simp] theorem setDma_hstate (s : State) (c : Nat) (x : DmaSt) : (setDma s c x).hstate = s.hstate := rfl
@[simp] theorem setDma_harts (s : State) (c : Nat) (x : DmaSt) : (setDma s c x).harts = s.harts := rfl
@[simp] theorem setDma_sram (s : State) (c : Nat) (x : DmaSt) : (setDma s c x).sram = s.sram := rfl
@[simp] theorem setDma_tags (s : State) (c : Nat) (x : DmaSt) : (setDma s c x).tags = s.tags := rfl
@[simp] theorem setDma_badTag (s : State) (c : Nat) (x : DmaSt) : (setDma s c x).badTag = s.badTag := rfl
@[simp] theorem setDma_badLane (s : State) (c : Nat) (x : DmaSt) : (setDma s c x).badLane = s.badLane := rfl
@[simp] theorem setDma_rc (s : State) (c : Nat) (x : DmaSt) : (setDma s c x).rc = s.rc := rfl
@[simp] theorem setDma_dma (s : State) (c : Nat) (x : DmaSt) : (setDma s c x).dma = tput (fun _ => {}) s.dma c x := rfl
@[simp] theorem setDma_ord (s : State) (c : Nat) (x : DmaSt) : (setDma s c x).ord = s.ord := rfl
@[simp] theorem setDma_rng (s : State) (c : Nat) (x : DmaSt) : (setDma s c x).rng = s.rng := rfl
@[simp] theorem setDma_fl (s : State) (c : Nat) (x : DmaSt) : (setDma s c x).fl = s.fl := rfl
@[simp] theorem setDma_li (s : State) (c : Nat) (x : DmaSt) : (setDma s c x).li = s.li := rfl
@[simp] theorem setDma_lc (s : State) (c : Nat) (x : DmaSt) : (setDma s c x).lc = s.lc := rfl
@[simp] theorem setDma_level (s : State) (c : Nat) (x : DmaSt) : (setDma s c x).level = s.level := rfl
@[simp] theorem setDma_tm (s : State) (c : Nat) (x : DmaSt) : (setDma s c x).tm = s.tm := rfl
@[simp] theorem setDma_pw (s : State) (c : Nat) (x : DmaSt) : (setDma s c x).pw = s.pw := rfl
@[simp] theorem setDma_tag (s : State) (c : Nat) (x : DmaSt) : (setDma s c x).tag = s.tag := rfl
@[simp] theorem setDma_cs (s : State) (c : Nat) (x : DmaSt) : (setDma s c x).cs = s.cs := rfl
@[simp] theorem setDma_rmSram (s : State) (c : Nat) (x : DmaSt) : (setDma s c x).rmSram = s.rmSram := rfl
@[simp] theorem setDma_rmLine (s : State) (c : Nat) (x : DmaSt) : (setDma s c x).rmLine = s.rmLine := rfl
@[simp] theorem setDma_upd (s : State) (c : Nat) (x : DmaSt) : (setDma s c x).upd = s.upd := rfl
@[simp] theorem setDma_pending (s : State) (c : Nat) (x : DmaSt) : (setDma s c x).pending = s.pending := rfl

/-! ### setMon -/

@[simp] theorem setMon_regs (s : State) (m : Nat) (x : MonSt) : (setMon s m x).regs = s.regs := rfl
@[simp] theorem setMon_locks (s : State) (m : Nat) (x : MonSt) : (setMon s m x).locks = s.locks := rfl
@[simp] theorem setMon_cnts (s : State) (m : Nat) (x : MonSt) : (setMon s m x).cnts = s.cnts := rfl
@[simp] theorem setMon_latches (s : State) (m : Nat) (x : MonSt) : (setMon s m x).latches = s.latches := rfl
@[simp] theorem setMon_reply (s : State) (m : Nat) (x : MonSt) : (setMon s m x).reply = s.reply := rfl
@[simp] theorem setMon_sent (s : State) (m : Nat) (x : MonSt) : (setMon s m x).sent = s.sent := rfl
@[simp] theorem setMon_now (s : State) (m : Nat) (x : MonSt) : (setMon s m x).now = s.now := rfl
@[simp] theorem setMon_freeCtr (s : State) (m : Nat) (x : MonSt) : (setMon s m x).freeCtr = s.freeCtr := rfl
@[simp] theorem setMon_line (s : State) (m : Nat) (x : MonSt) : (setMon s m x).line = s.line := rfl
@[simp] theorem setMon_saCnt (s : State) (m : Nat) (x : MonSt) : (setMon s m x).saCnt = s.saCnt := rfl
@[simp] theorem setMon_domCnt (s : State) (m : Nat) (x : MonSt) : (setMon s m x).domCnt = s.domCnt := rfl
@[simp] theorem setMon_bank (s : State) (m : Nat) (x : MonSt) : (setMon s m x).bank = s.bank := rfl
@[simp] theorem setMon_mt (s : State) (m : Nat) (x : MonSt) : (setMon s m x).mt = s.mt := rfl
@[simp] theorem setMon_gran (s : State) (m : Nat) (x : MonSt) : (setMon s m x).gran = s.gran := rfl
@[simp] theorem setMon_culm (s : State) (m : Nat) (x : MonSt) : (setMon s m x).culm = s.culm := rfl
@[simp] theorem setMon_ev (s : State) (m : Nat) (x : MonSt) : (setMon s m x).ev = s.ev := rfl
@[simp] theorem setMon_host (s : State) (m : Nat) (x : MonSt) : (setMon s m x).host = s.host := rfl
@[simp] theorem setMon_hstate (s : State) (m : Nat) (x : MonSt) : (setMon s m x).hstate = s.hstate := rfl
@[simp] theorem setMon_harts (s : State) (m : Nat) (x : MonSt) : (setMon s m x).harts = s.harts := rfl
@[simp] theorem setMon_sram (s : State) (m : Nat) (x : MonSt) : (setMon s m x).sram = s.sram := rfl
@[simp] theorem setMon_tags (s : State) (m : Nat) (x : MonSt) : (setMon s m x).tags = s.tags := rfl
@[simp] theorem setMon_badTag (s : State) (m : Nat) (x : MonSt) : (setMon s m x).badTag = s.badTag := rfl
@[simp] theorem setMon_badLane (s : State) (m : Nat) (x : MonSt) : (setMon s m x).badLane = s.badLane := rfl
@[simp] theorem setMon_rc (s : State) (m : Nat) (x : MonSt) : (setMon s m x).rc = s.rc := rfl
@[simp] theorem setMon_dma (s : State) (m : Nat) (x : MonSt) : (setMon s m x).dma = s.dma := rfl
@[simp] theorem setMon_ord (s : State) (m : Nat) (x : MonSt) : (setMon s m x).ord = s.ord := rfl
@[simp] theorem setMon_rng (s : State) (m : Nat) (x : MonSt) : (setMon s m x).rng = s.rng := rfl
@[simp] theorem setMon_fl (s : State) (m : Nat) (x : MonSt) : (setMon s m x).fl = s.fl := rfl
@[simp] theorem setMon_li (s : State) (m : Nat) (x : MonSt) : (setMon s m x).li = s.li := rfl
@[simp] theorem setMon_lc (s : State) (m : Nat) (x : MonSt) : (setMon s m x).lc = s.lc := rfl
@[simp] theorem setMon_level (s : State) (m : Nat) (x : MonSt) : (setMon s m x).level = s.level := rfl
@[simp] theorem setMon_tm (s : State) (m : Nat) (x : MonSt) : (setMon s m x).tm = { s.tm with mons := tput (fun _ => {}) s.tm.mons m x } := rfl
@[simp] theorem setMon_pw (s : State) (m : Nat) (x : MonSt) : (setMon s m x).pw = s.pw := rfl
@[simp] theorem setMon_tag (s : State) (m : Nat) (x : MonSt) : (setMon s m x).tag = s.tag := rfl
@[simp] theorem setMon_cs (s : State) (m : Nat) (x : MonSt) : (setMon s m x).cs = s.cs := rfl
@[simp] theorem setMon_rmSram (s : State) (m : Nat) (x : MonSt) : (setMon s m x).rmSram = s.rmSram := rfl
@[simp] theorem setMon_rmLine (s : State) (m : Nat) (x : MonSt) : (setMon s m x).rmLine = s.rmLine := rfl
@[simp] theorem setMon_upd (s : State) (m : Nat) (x : MonSt) : (setMon s m x).upd = s.upd := rfl
@[simp] theorem setMon_pending (s : State) (m : Nat) (x : MonSt) : (setMon s m x).pending = s.pending := rfl

/-! ### setPw -/

@[simp] theorem setPw_regs (s : State) (x : PwSt) : (setPw s x).regs = s.regs := rfl
@[simp] theorem setPw_locks (s : State) (x : PwSt) : (setPw s x).locks = s.locks := rfl
@[simp] theorem setPw_cnts (s : State) (x : PwSt) : (setPw s x).cnts = s.cnts := rfl
@[simp] theorem setPw_latches (s : State) (x : PwSt) : (setPw s x).latches = s.latches := rfl
@[simp] theorem setPw_reply (s : State) (x : PwSt) : (setPw s x).reply = s.reply := rfl
@[simp] theorem setPw_sent (s : State) (x : PwSt) : (setPw s x).sent = s.sent := rfl
@[simp] theorem setPw_now (s : State) (x : PwSt) : (setPw s x).now = s.now := rfl
@[simp] theorem setPw_freeCtr (s : State) (x : PwSt) : (setPw s x).freeCtr = s.freeCtr := rfl
@[simp] theorem setPw_line (s : State) (x : PwSt) : (setPw s x).line = s.line := rfl
@[simp] theorem setPw_saCnt (s : State) (x : PwSt) : (setPw s x).saCnt = s.saCnt := rfl
@[simp] theorem setPw_domCnt (s : State) (x : PwSt) : (setPw s x).domCnt = s.domCnt := rfl
@[simp] theorem setPw_bank (s : State) (x : PwSt) : (setPw s x).bank = s.bank := rfl
@[simp] theorem setPw_mt (s : State) (x : PwSt) : (setPw s x).mt = s.mt := rfl
@[simp] theorem setPw_gran (s : State) (x : PwSt) : (setPw s x).gran = s.gran := rfl
@[simp] theorem setPw_culm (s : State) (x : PwSt) : (setPw s x).culm = s.culm := rfl
@[simp] theorem setPw_ev (s : State) (x : PwSt) : (setPw s x).ev = s.ev := rfl
@[simp] theorem setPw_host (s : State) (x : PwSt) : (setPw s x).host = s.host := rfl
@[simp] theorem setPw_hstate (s : State) (x : PwSt) : (setPw s x).hstate = s.hstate := rfl
@[simp] theorem setPw_harts (s : State) (x : PwSt) : (setPw s x).harts = s.harts := rfl
@[simp] theorem setPw_sram (s : State) (x : PwSt) : (setPw s x).sram = s.sram := rfl
@[simp] theorem setPw_tags (s : State) (x : PwSt) : (setPw s x).tags = s.tags := rfl
@[simp] theorem setPw_badTag (s : State) (x : PwSt) : (setPw s x).badTag = s.badTag := rfl
@[simp] theorem setPw_badLane (s : State) (x : PwSt) : (setPw s x).badLane = s.badLane := rfl
@[simp] theorem setPw_rc (s : State) (x : PwSt) : (setPw s x).rc = s.rc := rfl
@[simp] theorem setPw_dma (s : State) (x : PwSt) : (setPw s x).dma = s.dma := rfl
@[simp] theorem setPw_ord (s : State) (x : PwSt) : (setPw s x).ord = s.ord := rfl
@[simp] theorem setPw_rng (s : State) (x : PwSt) : (setPw s x).rng = s.rng := rfl
@[simp] theorem setPw_fl (s : State) (x : PwSt) : (setPw s x).fl = s.fl := rfl
@[simp] theorem setPw_li (s : State) (x : PwSt) : (setPw s x).li = s.li := rfl
@[simp] theorem setPw_lc (s : State) (x : PwSt) : (setPw s x).lc = s.lc := rfl
@[simp] theorem setPw_level (s : State) (x : PwSt) : (setPw s x).level = s.level := rfl
@[simp] theorem setPw_tm (s : State) (x : PwSt) : (setPw s x).tm = s.tm := rfl
@[simp] theorem setPw_pw (s : State) (x : PwSt) : (setPw s x).pw = x := rfl
@[simp] theorem setPw_tag (s : State) (x : PwSt) : (setPw s x).tag = s.tag := rfl
@[simp] theorem setPw_cs (s : State) (x : PwSt) : (setPw s x).cs = s.cs := rfl
@[simp] theorem setPw_rmSram (s : State) (x : PwSt) : (setPw s x).rmSram = s.rmSram := rfl
@[simp] theorem setPw_rmLine (s : State) (x : PwSt) : (setPw s x).rmLine = s.rmLine := rfl
@[simp] theorem setPw_upd (s : State) (x : PwSt) : (setPw s x).upd = s.upd := rfl
@[simp] theorem setPw_pending (s : State) (x : PwSt) : (setPw s x).pending = s.pending := rfl

/-! ### setLc -/

@[simp] theorem setLc_regs (s : State) (x : LcSt) : (setLc s x).regs = s.regs := rfl
@[simp] theorem setLc_locks (s : State) (x : LcSt) : (setLc s x).locks = s.locks := rfl
@[simp] theorem setLc_cnts (s : State) (x : LcSt) : (setLc s x).cnts = s.cnts := rfl
@[simp] theorem setLc_latches (s : State) (x : LcSt) : (setLc s x).latches = s.latches := rfl
@[simp] theorem setLc_reply (s : State) (x : LcSt) : (setLc s x).reply = s.reply := rfl
@[simp] theorem setLc_sent (s : State) (x : LcSt) : (setLc s x).sent = s.sent := rfl
@[simp] theorem setLc_now (s : State) (x : LcSt) : (setLc s x).now = s.now := rfl
@[simp] theorem setLc_freeCtr (s : State) (x : LcSt) : (setLc s x).freeCtr = s.freeCtr := rfl
@[simp] theorem setLc_line (s : State) (x : LcSt) : (setLc s x).line = s.line := rfl
@[simp] theorem setLc_saCnt (s : State) (x : LcSt) : (setLc s x).saCnt = s.saCnt := rfl
@[simp] theorem setLc_domCnt (s : State) (x : LcSt) : (setLc s x).domCnt = s.domCnt := rfl
@[simp] theorem setLc_bank (s : State) (x : LcSt) : (setLc s x).bank = s.bank := rfl
@[simp] theorem setLc_mt (s : State) (x : LcSt) : (setLc s x).mt = s.mt := rfl
@[simp] theorem setLc_gran (s : State) (x : LcSt) : (setLc s x).gran = s.gran := rfl
@[simp] theorem setLc_culm (s : State) (x : LcSt) : (setLc s x).culm = s.culm := rfl
@[simp] theorem setLc_ev (s : State) (x : LcSt) : (setLc s x).ev = s.ev := rfl
@[simp] theorem setLc_host (s : State) (x : LcSt) : (setLc s x).host = s.host := rfl
@[simp] theorem setLc_hstate (s : State) (x : LcSt) : (setLc s x).hstate = s.hstate := rfl
@[simp] theorem setLc_harts (s : State) (x : LcSt) : (setLc s x).harts = s.harts := rfl
@[simp] theorem setLc_sram (s : State) (x : LcSt) : (setLc s x).sram = s.sram := rfl
@[simp] theorem setLc_tags (s : State) (x : LcSt) : (setLc s x).tags = s.tags := rfl
@[simp] theorem setLc_badTag (s : State) (x : LcSt) : (setLc s x).badTag = s.badTag := rfl
@[simp] theorem setLc_badLane (s : State) (x : LcSt) : (setLc s x).badLane = s.badLane := rfl
@[simp] theorem setLc_rc (s : State) (x : LcSt) : (setLc s x).rc = s.rc := rfl
@[simp] theorem setLc_dma (s : State) (x : LcSt) : (setLc s x).dma = s.dma := rfl
@[simp] theorem setLc_ord (s : State) (x : LcSt) : (setLc s x).ord = s.ord := rfl
@[simp] theorem setLc_rng (s : State) (x : LcSt) : (setLc s x).rng = s.rng := rfl
@[simp] theorem setLc_fl (s : State) (x : LcSt) : (setLc s x).fl = s.fl := rfl
@[simp] theorem setLc_li (s : State) (x : LcSt) : (setLc s x).li = s.li := rfl
@[simp] theorem setLc_lc (s : State) (x : LcSt) : (setLc s x).lc = x := rfl
@[simp] theorem setLc_level (s : State) (x : LcSt) : (setLc s x).level = s.level := rfl
@[simp] theorem setLc_tm (s : State) (x : LcSt) : (setLc s x).tm = s.tm := rfl
@[simp] theorem setLc_pw (s : State) (x : LcSt) : (setLc s x).pw = s.pw := rfl
@[simp] theorem setLc_tag (s : State) (x : LcSt) : (setLc s x).tag = s.tag := rfl
@[simp] theorem setLc_cs (s : State) (x : LcSt) : (setLc s x).cs = s.cs := rfl
@[simp] theorem setLc_rmSram (s : State) (x : LcSt) : (setLc s x).rmSram = s.rmSram := rfl
@[simp] theorem setLc_rmLine (s : State) (x : LcSt) : (setLc s x).rmLine = s.rmLine := rfl
@[simp] theorem setLc_upd (s : State) (x : LcSt) : (setLc s x).upd = s.upd := rfl
@[simp] theorem setLc_pending (s : State) (x : LcSt) : (setLc s x).pending = s.pending := rfl

/-! ### setCs -/

@[simp] theorem setCs_regs (s : State) (x : CsSt) : (setCs s x).regs = s.regs := rfl
@[simp] theorem setCs_locks (s : State) (x : CsSt) : (setCs s x).locks = s.locks := rfl
@[simp] theorem setCs_cnts (s : State) (x : CsSt) : (setCs s x).cnts = s.cnts := rfl
@[simp] theorem setCs_latches (s : State) (x : CsSt) : (setCs s x).latches = s.latches := rfl
@[simp] theorem setCs_reply (s : State) (x : CsSt) : (setCs s x).reply = s.reply := rfl
@[simp] theorem setCs_sent (s : State) (x : CsSt) : (setCs s x).sent = s.sent := rfl
@[simp] theorem setCs_now (s : State) (x : CsSt) : (setCs s x).now = s.now := rfl
@[simp] theorem setCs_freeCtr (s : State) (x : CsSt) : (setCs s x).freeCtr = s.freeCtr := rfl
@[simp] theorem setCs_line (s : State) (x : CsSt) : (setCs s x).line = s.line := rfl
@[simp] theorem setCs_saCnt (s : State) (x : CsSt) : (setCs s x).saCnt = s.saCnt := rfl
@[simp] theorem setCs_domCnt (s : State) (x : CsSt) : (setCs s x).domCnt = s.domCnt := rfl
@[simp] theorem setCs_bank (s : State) (x : CsSt) : (setCs s x).bank = s.bank := rfl
@[simp] theorem setCs_mt (s : State) (x : CsSt) : (setCs s x).mt = s.mt := rfl
@[simp] theorem setCs_gran (s : State) (x : CsSt) : (setCs s x).gran = s.gran := rfl
@[simp] theorem setCs_culm (s : State) (x : CsSt) : (setCs s x).culm = s.culm := rfl
@[simp] theorem setCs_ev (s : State) (x : CsSt) : (setCs s x).ev = s.ev := rfl
@[simp] theorem setCs_host (s : State) (x : CsSt) : (setCs s x).host = s.host := rfl
@[simp] theorem setCs_hstate (s : State) (x : CsSt) : (setCs s x).hstate = s.hstate := rfl
@[simp] theorem setCs_harts (s : State) (x : CsSt) : (setCs s x).harts = s.harts := rfl
@[simp] theorem setCs_sram (s : State) (x : CsSt) : (setCs s x).sram = s.sram := rfl
@[simp] theorem setCs_tags (s : State) (x : CsSt) : (setCs s x).tags = s.tags := rfl
@[simp] theorem setCs_badTag (s : State) (x : CsSt) : (setCs s x).badTag = s.badTag := rfl
@[simp] theorem setCs_badLane (s : State) (x : CsSt) : (setCs s x).badLane = s.badLane := rfl
@[simp] theorem setCs_rc (s : State) (x : CsSt) : (setCs s x).rc = s.rc := rfl
@[simp] theorem setCs_dma (s : State) (x : CsSt) : (setCs s x).dma = s.dma := rfl
@[simp] theorem setCs_ord (s : State) (x : CsSt) : (setCs s x).ord = s.ord := rfl
@[simp] theorem setCs_rng (s : State) (x : CsSt) : (setCs s x).rng = s.rng := rfl
@[simp] theorem setCs_fl (s : State) (x : CsSt) : (setCs s x).fl = s.fl := rfl
@[simp] theorem setCs_li (s : State) (x : CsSt) : (setCs s x).li = s.li := rfl
@[simp] theorem setCs_lc (s : State) (x : CsSt) : (setCs s x).lc = s.lc := rfl
@[simp] theorem setCs_level (s : State) (x : CsSt) : (setCs s x).level = s.level := rfl
@[simp] theorem setCs_tm (s : State) (x : CsSt) : (setCs s x).tm = s.tm := rfl
@[simp] theorem setCs_pw (s : State) (x : CsSt) : (setCs s x).pw = s.pw := rfl
@[simp] theorem setCs_tag (s : State) (x : CsSt) : (setCs s x).tag = s.tag := rfl
@[simp] theorem setCs_cs (s : State) (x : CsSt) : (setCs s x).cs = x := rfl
@[simp] theorem setCs_rmSram (s : State) (x : CsSt) : (setCs s x).rmSram = s.rmSram := rfl
@[simp] theorem setCs_rmLine (s : State) (x : CsSt) : (setCs s x).rmLine = s.rmLine := rfl
@[simp] theorem setCs_upd (s : State) (x : CsSt) : (setCs s x).upd = s.upd := rfl
@[simp] theorem setCs_pending (s : State) (x : CsSt) : (setCs s x).pending = s.pending := rfl

/-! ### setFl -/

@[simp] theorem setFl_regs (s : State) (x : FlSt) : (setFl s x).regs = s.regs := rfl
@[simp] theorem setFl_locks (s : State) (x : FlSt) : (setFl s x).locks = s.locks := rfl
@[simp] theorem setFl_cnts (s : State) (x : FlSt) : (setFl s x).cnts = s.cnts := rfl
@[simp] theorem setFl_latches (s : State) (x : FlSt) : (setFl s x).latches = s.latches := rfl
@[simp] theorem setFl_reply (s : State) (x : FlSt) : (setFl s x).reply = s.reply := rfl
@[simp] theorem setFl_sent (s : State) (x : FlSt) : (setFl s x).sent = s.sent := rfl
@[simp] theorem setFl_now (s : State) (x : FlSt) : (setFl s x).now = s.now := rfl
@[simp] theorem setFl_freeCtr (s : State) (x : FlSt) : (setFl s x).freeCtr = s.freeCtr := rfl
@[simp] theorem setFl_line (s : State) (x : FlSt) : (setFl s x).line = s.line := rfl
@[simp] theorem setFl_saCnt (s : State) (x : FlSt) : (setFl s x).saCnt = s.saCnt := rfl
@[simp] theorem setFl_domCnt (s : State) (x : FlSt) : (setFl s x).domCnt = s.domCnt := rfl
@[simp] theorem setFl_bank (s : State) (x : FlSt) : (setFl s x).bank = s.bank := rfl
@[simp] theorem setFl_mt (s : State) (x : FlSt) : (setFl s x).mt = s.mt := rfl
@[simp] theorem setFl_gran (s : State) (x : FlSt) : (setFl s x).gran = s.gran := rfl
@[simp] theorem setFl_culm (s : State) (x : FlSt) : (setFl s x).culm = s.culm := rfl
@[simp] theorem setFl_ev (s : State) (x : FlSt) : (setFl s x).ev = s.ev := rfl
@[simp] theorem setFl_host (s : State) (x : FlSt) : (setFl s x).host = s.host := rfl
@[simp] theorem setFl_hstate (s : State) (x : FlSt) : (setFl s x).hstate = s.hstate := rfl
@[simp] theorem setFl_harts (s : State) (x : FlSt) : (setFl s x).harts = s.harts := rfl
@[simp] theorem setFl_sram (s : State) (x : FlSt) : (setFl s x).sram = s.sram := rfl
@[simp] theorem setFl_tags (s : State) (x : FlSt) : (setFl s x).tags = s.tags := rfl
@[simp] theorem setFl_badTag (s : State) (x : FlSt) : (setFl s x).badTag = s.badTag := rfl
@[simp] theorem setFl_badLane (s : State) (x : FlSt) : (setFl s x).badLane = s.badLane := rfl
@[simp] theorem setFl_rc (s : State) (x : FlSt) : (setFl s x).rc = s.rc := rfl
@[simp] theorem setFl_dma (s : State) (x : FlSt) : (setFl s x).dma = s.dma := rfl
@[simp] theorem setFl_ord (s : State) (x : FlSt) : (setFl s x).ord = s.ord := rfl
@[simp] theorem setFl_rng (s : State) (x : FlSt) : (setFl s x).rng = s.rng := rfl
@[simp] theorem setFl_fl (s : State) (x : FlSt) : (setFl s x).fl = x := rfl
@[simp] theorem setFl_li (s : State) (x : FlSt) : (setFl s x).li = s.li := rfl
@[simp] theorem setFl_lc (s : State) (x : FlSt) : (setFl s x).lc = s.lc := rfl
@[simp] theorem setFl_level (s : State) (x : FlSt) : (setFl s x).level = s.level := rfl
@[simp] theorem setFl_tm (s : State) (x : FlSt) : (setFl s x).tm = s.tm := rfl
@[simp] theorem setFl_pw (s : State) (x : FlSt) : (setFl s x).pw = s.pw := rfl
@[simp] theorem setFl_tag (s : State) (x : FlSt) : (setFl s x).tag = s.tag := rfl
@[simp] theorem setFl_cs (s : State) (x : FlSt) : (setFl s x).cs = s.cs := rfl
@[simp] theorem setFl_rmSram (s : State) (x : FlSt) : (setFl s x).rmSram = s.rmSram := rfl
@[simp] theorem setFl_rmLine (s : State) (x : FlSt) : (setFl s x).rmLine = s.rmLine := rfl
@[simp] theorem setFl_upd (s : State) (x : FlSt) : (setFl s x).upd = s.upd := rfl
@[simp] theorem setFl_pending (s : State) (x : FlSt) : (setFl s x).pending = s.pending := rfl

/-! ### setLi -/

@[simp] theorem setLi_regs (s : State) (x : LiSt) : (setLi s x).regs = s.regs := rfl
@[simp] theorem setLi_locks (s : State) (x : LiSt) : (setLi s x).locks = s.locks := rfl
@[simp] theorem setLi_cnts (s : State) (x : LiSt) : (setLi s x).cnts = s.cnts := rfl
@[simp] theorem setLi_latches (s : State) (x : LiSt) : (setLi s x).latches = s.latches := rfl
@[simp] theorem setLi_reply (s : State) (x : LiSt) : (setLi s x).reply = s.reply := rfl
@[simp] theorem setLi_sent (s : State) (x : LiSt) : (setLi s x).sent = s.sent := rfl
@[simp] theorem setLi_now (s : State) (x : LiSt) : (setLi s x).now = s.now := rfl
@[simp] theorem setLi_freeCtr (s : State) (x : LiSt) : (setLi s x).freeCtr = s.freeCtr := rfl
@[simp] theorem setLi_line (s : State) (x : LiSt) : (setLi s x).line = s.line := rfl
@[simp] theorem setLi_saCnt (s : State) (x : LiSt) : (setLi s x).saCnt = s.saCnt := rfl
@[simp] theorem setLi_domCnt (s : State) (x : LiSt) : (setLi s x).domCnt = s.domCnt := rfl
@[simp] theorem setLi_bank (s : State) (x : LiSt) : (setLi s x).bank = s.bank := rfl
@[simp] theorem setLi_mt (s : State) (x : LiSt) : (setLi s x).mt = s.mt := rfl
@[simp] theorem setLi_gran (s : State) (x : LiSt) : (setLi s x).gran = s.gran := rfl
@[simp] theorem setLi_culm (s : State) (x : LiSt) : (setLi s x).culm = s.culm := rfl
@[simp] theorem setLi_ev (s : State) (x : LiSt) : (setLi s x).ev = s.ev := rfl
@[simp] theorem setLi_host (s : State) (x : LiSt) : (setLi s x).host = s.host := rfl
@[simp] theorem setLi_hstate (s : State) (x : LiSt) : (setLi s x).hstate = s.hstate := rfl
@[simp] theorem setLi_harts (s : State) (x : LiSt) : (setLi s x).harts = s.harts := rfl
@[simp] theorem setLi_sram (s : State) (x : LiSt) : (setLi s x).sram = s.sram := rfl
@[simp] theorem setLi_tags (s : State) (x : LiSt) : (setLi s x).tags = s.tags := rfl
@[simp] theorem setLi_badTag (s : State) (x : LiSt) : (setLi s x).badTag = s.badTag := rfl
@[simp] theorem setLi_badLane (s : State) (x : LiSt) : (setLi s x).badLane = s.badLane := rfl
@[simp] theorem setLi_rc (s : State) (x : LiSt) : (setLi s x).rc = s.rc := rfl
@[simp] theorem setLi_dma (s : State) (x : LiSt) : (setLi s x).dma = s.dma := rfl
@[simp] theorem setLi_ord (s : State) (x : LiSt) : (setLi s x).ord = s.ord := rfl
@[simp] theorem setLi_rng (s : State) (x : LiSt) : (setLi s x).rng = s.rng := rfl
@[simp] theorem setLi_fl (s : State) (x : LiSt) : (setLi s x).fl = s.fl := rfl
@[simp] theorem setLi_li (s : State) (x : LiSt) : (setLi s x).li = x := rfl
@[simp] theorem setLi_lc (s : State) (x : LiSt) : (setLi s x).lc = s.lc := rfl
@[simp] theorem setLi_level (s : State) (x : LiSt) : (setLi s x).level = s.level := rfl
@[simp] theorem setLi_tm (s : State) (x : LiSt) : (setLi s x).tm = s.tm := rfl
@[simp] theorem setLi_pw (s : State) (x : LiSt) : (setLi s x).pw = s.pw := rfl
@[simp] theorem setLi_tag (s : State) (x : LiSt) : (setLi s x).tag = s.tag := rfl
@[simp] theorem setLi_cs (s : State) (x : LiSt) : (setLi s x).cs = s.cs := rfl
@[simp] theorem setLi_rmSram (s : State) (x : LiSt) : (setLi s x).rmSram = s.rmSram := rfl
@[simp] theorem setLi_rmLine (s : State) (x : LiSt) : (setLi s x).rmLine = s.rmLine := rfl
@[simp] theorem setLi_upd (s : State) (x : LiSt) : (setLi s x).upd = s.upd := rfl
@[simp] theorem setLi_pending (s : State) (x : LiSt) : (setLi s x).pending = s.pending := rfl

/-! ### setMt -/

@[simp] theorem setMt_regs (s : State) (x : MtSt) : (setMt s x).regs = s.regs := rfl
@[simp] theorem setMt_locks (s : State) (x : MtSt) : (setMt s x).locks = s.locks := rfl
@[simp] theorem setMt_cnts (s : State) (x : MtSt) : (setMt s x).cnts = s.cnts := rfl
@[simp] theorem setMt_latches (s : State) (x : MtSt) : (setMt s x).latches = s.latches := rfl
@[simp] theorem setMt_reply (s : State) (x : MtSt) : (setMt s x).reply = s.reply := rfl
@[simp] theorem setMt_sent (s : State) (x : MtSt) : (setMt s x).sent = s.sent := rfl
@[simp] theorem setMt_now (s : State) (x : MtSt) : (setMt s x).now = s.now := rfl
@[simp] theorem setMt_freeCtr (s : State) (x : MtSt) : (setMt s x).freeCtr = s.freeCtr := rfl
@[simp] theorem setMt_line (s : State) (x : MtSt) : (setMt s x).line = s.line := rfl
@[simp] theorem setMt_saCnt (s : State) (x : MtSt) : (setMt s x).saCnt = s.saCnt := rfl
@[simp] theorem setMt_domCnt (s : State) (x : MtSt) : (setMt s x).domCnt = s.domCnt := rfl
@[simp] theorem setMt_bank (s : State) (x : MtSt) : (setMt s x).bank = s.bank := rfl
@[simp] theorem setMt_mt (s : State) (x : MtSt) : (setMt s x).mt = x := rfl
@[simp] theorem setMt_gran (s : State) (x : MtSt) : (setMt s x).gran = s.gran := rfl
@[simp] theorem setMt_culm (s : State) (x : MtSt) : (setMt s x).culm = s.culm := rfl
@[simp] theorem setMt_ev (s : State) (x : MtSt) : (setMt s x).ev = s.ev := rfl
@[simp] theorem setMt_host (s : State) (x : MtSt) : (setMt s x).host = s.host := rfl
@[simp] theorem setMt_hstate (s : State) (x : MtSt) : (setMt s x).hstate = s.hstate := rfl
@[simp] theorem setMt_harts (s : State) (x : MtSt) : (setMt s x).harts = s.harts := rfl
@[simp] theorem setMt_sram (s : State) (x : MtSt) : (setMt s x).sram = s.sram := rfl
@[simp] theorem setMt_tags (s : State) (x : MtSt) : (setMt s x).tags = s.tags := rfl
@[simp] theorem setMt_badTag (s : State) (x : MtSt) : (setMt s x).badTag = s.badTag := rfl
@[simp] theorem setMt_badLane (s : State) (x : MtSt) : (setMt s x).badLane = s.badLane := rfl
@[simp] theorem setMt_rc (s : State) (x : MtSt) : (setMt s x).rc = s.rc := rfl
@[simp] theorem setMt_dma (s : State) (x : MtSt) : (setMt s x).dma = s.dma := rfl
@[simp] theorem setMt_ord (s : State) (x : MtSt) : (setMt s x).ord = s.ord := rfl
@[simp] theorem setMt_rng (s : State) (x : MtSt) : (setMt s x).rng = s.rng := rfl
@[simp] theorem setMt_fl (s : State) (x : MtSt) : (setMt s x).fl = s.fl := rfl
@[simp] theorem setMt_li (s : State) (x : MtSt) : (setMt s x).li = s.li := rfl
@[simp] theorem setMt_lc (s : State) (x : MtSt) : (setMt s x).lc = s.lc := rfl
@[simp] theorem setMt_level (s : State) (x : MtSt) : (setMt s x).level = s.level := rfl
@[simp] theorem setMt_tm (s : State) (x : MtSt) : (setMt s x).tm = s.tm := rfl
@[simp] theorem setMt_pw (s : State) (x : MtSt) : (setMt s x).pw = s.pw := rfl
@[simp] theorem setMt_tag (s : State) (x : MtSt) : (setMt s x).tag = s.tag := rfl
@[simp] theorem setMt_cs (s : State) (x : MtSt) : (setMt s x).cs = s.cs := rfl
@[simp] theorem setMt_rmSram (s : State) (x : MtSt) : (setMt s x).rmSram = s.rmSram := rfl
@[simp] theorem setMt_rmLine (s : State) (x : MtSt) : (setMt s x).rmLine = s.rmLine := rfl
@[simp] theorem setMt_upd (s : State) (x : MtSt) : (setMt s x).upd = s.upd := rfl
@[simp] theorem setMt_pending (s : State) (x : MtSt) : (setMt s x).pending = s.pending := rfl

/-! ### setRng -/

@[simp] theorem setRng_regs (s : State) (x : RngSt) : (setRng s x).regs = s.regs := rfl
@[simp] theorem setRng_locks (s : State) (x : RngSt) : (setRng s x).locks = s.locks := rfl
@[simp] theorem setRng_cnts (s : State) (x : RngSt) : (setRng s x).cnts = s.cnts := rfl
@[simp] theorem setRng_latches (s : State) (x : RngSt) : (setRng s x).latches = s.latches := rfl
@[simp] theorem setRng_reply (s : State) (x : RngSt) : (setRng s x).reply = s.reply := rfl
@[simp] theorem setRng_sent (s : State) (x : RngSt) : (setRng s x).sent = s.sent := rfl
@[simp] theorem setRng_now (s : State) (x : RngSt) : (setRng s x).now = s.now := rfl
@[simp] theorem setRng_freeCtr (s : State) (x : RngSt) : (setRng s x).freeCtr = s.freeCtr := rfl
@[simp] theorem setRng_line (s : State) (x : RngSt) : (setRng s x).line = s.line := rfl
@[simp] theorem setRng_saCnt (s : State) (x : RngSt) : (setRng s x).saCnt = s.saCnt := rfl
@[simp] theorem setRng_domCnt (s : State) (x : RngSt) : (setRng s x).domCnt = s.domCnt := rfl
@[simp] theorem setRng_bank (s : State) (x : RngSt) : (setRng s x).bank = s.bank := rfl
@[simp] theorem setRng_mt (s : State) (x : RngSt) : (setRng s x).mt = s.mt := rfl
@[simp] theorem setRng_gran (s : State) (x : RngSt) : (setRng s x).gran = s.gran := rfl
@[simp] theorem setRng_culm (s : State) (x : RngSt) : (setRng s x).culm = s.culm := rfl
@[simp] theorem setRng_ev (s : State) (x : RngSt) : (setRng s x).ev = s.ev := rfl
@[simp] theorem setRng_host (s : State) (x : RngSt) : (setRng s x).host = s.host := rfl
@[simp] theorem setRng_hstate (s : State) (x : RngSt) : (setRng s x).hstate = s.hstate := rfl
@[simp] theorem setRng_harts (s : State) (x : RngSt) : (setRng s x).harts = s.harts := rfl
@[simp] theorem setRng_sram (s : State) (x : RngSt) : (setRng s x).sram = s.sram := rfl
@[simp] theorem setRng_tags (s : State) (x : RngSt) : (setRng s x).tags = s.tags := rfl
@[simp] theorem setRng_badTag (s : State) (x : RngSt) : (setRng s x).badTag = s.badTag := rfl
@[simp] theorem setRng_badLane (s : State) (x : RngSt) : (setRng s x).badLane = s.badLane := rfl
@[simp] theorem setRng_rc (s : State) (x : RngSt) : (setRng s x).rc = s.rc := rfl
@[simp] theorem setRng_dma (s : State) (x : RngSt) : (setRng s x).dma = s.dma := rfl
@[simp] theorem setRng_ord (s : State) (x : RngSt) : (setRng s x).ord = s.ord := rfl
@[simp] theorem setRng_rng (s : State) (x : RngSt) : (setRng s x).rng = x := rfl
@[simp] theorem setRng_fl (s : State) (x : RngSt) : (setRng s x).fl = s.fl := rfl
@[simp] theorem setRng_li (s : State) (x : RngSt) : (setRng s x).li = s.li := rfl
@[simp] theorem setRng_lc (s : State) (x : RngSt) : (setRng s x).lc = s.lc := rfl
@[simp] theorem setRng_level (s : State) (x : RngSt) : (setRng s x).level = s.level := rfl
@[simp] theorem setRng_tm (s : State) (x : RngSt) : (setRng s x).tm = s.tm := rfl
@[simp] theorem setRng_pw (s : State) (x : RngSt) : (setRng s x).pw = s.pw := rfl
@[simp] theorem setRng_tag (s : State) (x : RngSt) : (setRng s x).tag = s.tag := rfl
@[simp] theorem setRng_cs (s : State) (x : RngSt) : (setRng s x).cs = s.cs := rfl
@[simp] theorem setRng_rmSram (s : State) (x : RngSt) : (setRng s x).rmSram = s.rmSram := rfl
@[simp] theorem setRng_rmLine (s : State) (x : RngSt) : (setRng s x).rmLine = s.rmLine := rfl
@[simp] theorem setRng_upd (s : State) (x : RngSt) : (setRng s x).upd = s.upd := rfl
@[simp] theorem setRng_pending (s : State) (x : RngSt) : (setRng s x).pending = s.pending := rfl

/-! ### setEv -/

@[simp] theorem setEv_regs (s : State) (x : EvSt) : (setEv s x).regs = s.regs := rfl
@[simp] theorem setEv_locks (s : State) (x : EvSt) : (setEv s x).locks = s.locks := rfl
@[simp] theorem setEv_cnts (s : State) (x : EvSt) : (setEv s x).cnts = s.cnts := rfl
@[simp] theorem setEv_latches (s : State) (x : EvSt) : (setEv s x).latches = s.latches := rfl
@[simp] theorem setEv_reply (s : State) (x : EvSt) : (setEv s x).reply = s.reply := rfl
@[simp] theorem setEv_sent (s : State) (x : EvSt) : (setEv s x).sent = s.sent := rfl
@[simp] theorem setEv_now (s : State) (x : EvSt) : (setEv s x).now = s.now := rfl
@[simp] theorem setEv_freeCtr (s : State) (x : EvSt) : (setEv s x).freeCtr = s.freeCtr := rfl
@[simp] theorem setEv_line (s : State) (x : EvSt) : (setEv s x).line = s.line := rfl
@[simp] theorem setEv_saCnt (s : State) (x : EvSt) : (setEv s x).saCnt = s.saCnt := rfl
@[simp] theorem setEv_domCnt (s : State) (x : EvSt) : (setEv s x).domCnt = s.domCnt := rfl
@[simp] theorem setEv_bank (s : State) (x : EvSt) : (setEv s x).bank = s.bank := rfl
@[simp] theorem setEv_mt (s : State) (x : EvSt) : (setEv s x).mt = s.mt := rfl
@[simp] theorem setEv_gran (s : State) (x : EvSt) : (setEv s x).gran = s.gran := rfl
@[simp] theorem setEv_culm (s : State) (x : EvSt) : (setEv s x).culm = s.culm := rfl
@[simp] theorem setEv_ev (s : State) (x : EvSt) : (setEv s x).ev = x := rfl
@[simp] theorem setEv_host (s : State) (x : EvSt) : (setEv s x).host = s.host := rfl
@[simp] theorem setEv_hstate (s : State) (x : EvSt) : (setEv s x).hstate = s.hstate := rfl
@[simp] theorem setEv_harts (s : State) (x : EvSt) : (setEv s x).harts = s.harts := rfl
@[simp] theorem setEv_sram (s : State) (x : EvSt) : (setEv s x).sram = s.sram := rfl
@[simp] theorem setEv_tags (s : State) (x : EvSt) : (setEv s x).tags = s.tags := rfl
@[simp] theorem setEv_badTag (s : State) (x : EvSt) : (setEv s x).badTag = s.badTag := rfl
@[simp] theorem setEv_badLane (s : State) (x : EvSt) : (setEv s x).badLane = s.badLane := rfl
@[simp] theorem setEv_rc (s : State) (x : EvSt) : (setEv s x).rc = s.rc := rfl
@[simp] theorem setEv_dma (s : State) (x : EvSt) : (setEv s x).dma = s.dma := rfl
@[simp] theorem setEv_ord (s : State) (x : EvSt) : (setEv s x).ord = s.ord := rfl
@[simp] theorem setEv_rng (s : State) (x : EvSt) : (setEv s x).rng = s.rng := rfl
@[simp] theorem setEv_fl (s : State) (x : EvSt) : (setEv s x).fl = s.fl := rfl
@[simp] theorem setEv_li (s : State) (x : EvSt) : (setEv s x).li = s.li := rfl
@[simp] theorem setEv_lc (s : State) (x : EvSt) : (setEv s x).lc = s.lc := rfl
@[simp] theorem setEv_level (s : State) (x : EvSt) : (setEv s x).level = s.level := rfl
@[simp] theorem setEv_tm (s : State) (x : EvSt) : (setEv s x).tm = s.tm := rfl
@[simp] theorem setEv_pw (s : State) (x : EvSt) : (setEv s x).pw = s.pw := rfl
@[simp] theorem setEv_tag (s : State) (x : EvSt) : (setEv s x).tag = s.tag := rfl
@[simp] theorem setEv_cs (s : State) (x : EvSt) : (setEv s x).cs = s.cs := rfl
@[simp] theorem setEv_rmSram (s : State) (x : EvSt) : (setEv s x).rmSram = s.rmSram := rfl
@[simp] theorem setEv_rmLine (s : State) (x : EvSt) : (setEv s x).rmLine = s.rmLine := rfl
@[simp] theorem setEv_upd (s : State) (x : EvSt) : (setEv s x).upd = s.upd := rfl
@[simp] theorem setEv_pending (s : State) (x : EvSt) : (setEv s x).pending = s.pending := rfl

/-! ### setUpd -/

@[simp] theorem setUpd_regs (s : State) (x : UpdSt) : (setUpd s x).regs = s.regs := rfl
@[simp] theorem setUpd_locks (s : State) (x : UpdSt) : (setUpd s x).locks = s.locks := rfl
@[simp] theorem setUpd_cnts (s : State) (x : UpdSt) : (setUpd s x).cnts = s.cnts := rfl
@[simp] theorem setUpd_latches (s : State) (x : UpdSt) : (setUpd s x).latches = s.latches := rfl
@[simp] theorem setUpd_reply (s : State) (x : UpdSt) : (setUpd s x).reply = s.reply := rfl
@[simp] theorem setUpd_sent (s : State) (x : UpdSt) : (setUpd s x).sent = s.sent := rfl
@[simp] theorem setUpd_now (s : State) (x : UpdSt) : (setUpd s x).now = s.now := rfl
@[simp] theorem setUpd_freeCtr (s : State) (x : UpdSt) : (setUpd s x).freeCtr = s.freeCtr := rfl
@[simp] theorem setUpd_line (s : State) (x : UpdSt) : (setUpd s x).line = s.line := rfl
@[simp] theorem setUpd_saCnt (s : State) (x : UpdSt) : (setUpd s x).saCnt = s.saCnt := rfl
@[simp] theorem setUpd_domCnt (s : State) (x : UpdSt) : (setUpd s x).domCnt = s.domCnt := rfl
@[simp] theorem setUpd_bank (s : State) (x : UpdSt) : (setUpd s x).bank = s.bank := rfl
@[simp] theorem setUpd_mt (s : State) (x : UpdSt) : (setUpd s x).mt = s.mt := rfl
@[simp] theorem setUpd_gran (s : State) (x : UpdSt) : (setUpd s x).gran = s.gran := rfl
@[simp] theorem setUpd_culm (s : State) (x : UpdSt) : (setUpd s x).culm = s.culm := rfl
@[simp] theorem setUpd_ev (s : State) (x : UpdSt) : (setUpd s x).ev = s.ev := rfl
@[simp] theorem setUpd_host (s : State) (x : UpdSt) : (setUpd s x).host = s.host := rfl
@[simp] theorem setUpd_hstate (s : State) (x : UpdSt) : (setUpd s x).hstate = s.hstate := rfl
@[simp] theorem setUpd_harts (s : State) (x : UpdSt) : (setUpd s x).harts = s.harts := rfl
@[simp] theorem setUpd_sram (s : State) (x : UpdSt) : (setUpd s x).sram = s.sram := rfl
@[simp] theorem setUpd_tags (s : State) (x : UpdSt) : (setUpd s x).tags = s.tags := rfl
@[simp] theorem setUpd_badTag (s : State) (x : UpdSt) : (setUpd s x).badTag = s.badTag := rfl
@[simp] theorem setUpd_badLane (s : State) (x : UpdSt) : (setUpd s x).badLane = s.badLane := rfl
@[simp] theorem setUpd_rc (s : State) (x : UpdSt) : (setUpd s x).rc = s.rc := rfl
@[simp] theorem setUpd_dma (s : State) (x : UpdSt) : (setUpd s x).dma = s.dma := rfl
@[simp] theorem setUpd_ord (s : State) (x : UpdSt) : (setUpd s x).ord = s.ord := rfl
@[simp] theorem setUpd_rng (s : State) (x : UpdSt) : (setUpd s x).rng = s.rng := rfl
@[simp] theorem setUpd_fl (s : State) (x : UpdSt) : (setUpd s x).fl = s.fl := rfl
@[simp] theorem setUpd_li (s : State) (x : UpdSt) : (setUpd s x).li = s.li := rfl
@[simp] theorem setUpd_lc (s : State) (x : UpdSt) : (setUpd s x).lc = s.lc := rfl
@[simp] theorem setUpd_level (s : State) (x : UpdSt) : (setUpd s x).level = s.level := rfl
@[simp] theorem setUpd_tm (s : State) (x : UpdSt) : (setUpd s x).tm = s.tm := rfl
@[simp] theorem setUpd_pw (s : State) (x : UpdSt) : (setUpd s x).pw = s.pw := rfl
@[simp] theorem setUpd_tag (s : State) (x : UpdSt) : (setUpd s x).tag = s.tag := rfl
@[simp] theorem setUpd_cs (s : State) (x : UpdSt) : (setUpd s x).cs = s.cs := rfl
@[simp] theorem setUpd_rmSram (s : State) (x : UpdSt) : (setUpd s x).rmSram = s.rmSram := rfl
@[simp] theorem setUpd_rmLine (s : State) (x : UpdSt) : (setUpd s x).rmLine = s.rmLine := rfl
@[simp] theorem setUpd_upd (s : State) (x : UpdSt) : (setUpd s x).upd = x := rfl
@[simp] theorem setUpd_pending (s : State) (x : UpdSt) : (setUpd s x).pending = s.pending := rfl

/-! ### setTagSt -/

@[simp] theorem setTagSt_regs (s : State) (x : TagSt) : (setTagSt s x).regs = s.regs := rfl
@[simp] theorem setTagSt_locks (s : State) (x : TagSt) : (setTagSt s x).locks = s.locks := rfl
@[simp] theorem setTagSt_cnts (s : State) (x : TagSt) : (setTagSt s x).cnts = s.cnts := rfl
@[simp] theorem setTagSt_latches (s : State) (x : TagSt) : (setTagSt s x).latches = s.latches := rfl
@[simp] theorem setTagSt_reply (s : State) (x : TagSt) : (setTagSt s x).reply = s.reply := rfl
@[simp] theorem setTagSt_sent (s : State) (x : TagSt) : (setTagSt s x).sent = s.sent := rfl
@[simp] theorem setTagSt_now (s : State) (x : TagSt) : (setTagSt s x).now = s.now := rfl
@[simp] theorem setTagSt_freeCtr (s : State) (x : TagSt) : (setTagSt s x).freeCtr = s.freeCtr := rfl
@[simp] theorem setTagSt_line (s : State) (x : TagSt) : (setTagSt s x).line = s.line := rfl
@[simp] theorem setTagSt_saCnt (s : State) (x : TagSt) : (setTagSt s x).saCnt = s.saCnt := rfl
@[simp] theorem setTagSt_domCnt (s : State) (x : TagSt) : (setTagSt s x).domCnt = s.domCnt := rfl
@[simp] theorem setTagSt_bank (s : State) (x : TagSt) : (setTagSt s x).bank = s.bank := rfl
@[simp] theorem setTagSt_mt (s : State) (x : TagSt) : (setTagSt s x).mt = s.mt := rfl
@[simp] theorem setTagSt_gran (s : State) (x : TagSt) : (setTagSt s x).gran = s.gran := rfl
@[simp] theorem setTagSt_culm (s : State) (x : TagSt) : (setTagSt s x).culm = s.culm := rfl
@[simp] theorem setTagSt_ev (s : State) (x : TagSt) : (setTagSt s x).ev = s.ev := rfl
@[simp] theorem setTagSt_host (s : State) (x : TagSt) : (setTagSt s x).host = s.host := rfl
@[simp] theorem setTagSt_hstate (s : State) (x : TagSt) : (setTagSt s x).hstate = s.hstate := rfl
@[simp] theorem setTagSt_harts (s : State) (x : TagSt) : (setTagSt s x).harts = s.harts := rfl
@[simp] theorem setTagSt_sram (s : State) (x : TagSt) : (setTagSt s x).sram = s.sram := rfl
@[simp] theorem setTagSt_tags (s : State) (x : TagSt) : (setTagSt s x).tags = s.tags := rfl
@[simp] theorem setTagSt_badTag (s : State) (x : TagSt) : (setTagSt s x).badTag = s.badTag := rfl
@[simp] theorem setTagSt_badLane (s : State) (x : TagSt) : (setTagSt s x).badLane = s.badLane := rfl
@[simp] theorem setTagSt_rc (s : State) (x : TagSt) : (setTagSt s x).rc = s.rc := rfl
@[simp] theorem setTagSt_dma (s : State) (x : TagSt) : (setTagSt s x).dma = s.dma := rfl
@[simp] theorem setTagSt_ord (s : State) (x : TagSt) : (setTagSt s x).ord = s.ord := rfl
@[simp] theorem setTagSt_rng (s : State) (x : TagSt) : (setTagSt s x).rng = s.rng := rfl
@[simp] theorem setTagSt_fl (s : State) (x : TagSt) : (setTagSt s x).fl = s.fl := rfl
@[simp] theorem setTagSt_li (s : State) (x : TagSt) : (setTagSt s x).li = s.li := rfl
@[simp] theorem setTagSt_lc (s : State) (x : TagSt) : (setTagSt s x).lc = s.lc := rfl
@[simp] theorem setTagSt_level (s : State) (x : TagSt) : (setTagSt s x).level = s.level := rfl
@[simp] theorem setTagSt_tm (s : State) (x : TagSt) : (setTagSt s x).tm = s.tm := rfl
@[simp] theorem setTagSt_pw (s : State) (x : TagSt) : (setTagSt s x).pw = s.pw := rfl
@[simp] theorem setTagSt_tag (s : State) (x : TagSt) : (setTagSt s x).tag = x := rfl
@[simp] theorem setTagSt_cs (s : State) (x : TagSt) : (setTagSt s x).cs = s.cs := rfl
@[simp] theorem setTagSt_rmSram (s : State) (x : TagSt) : (setTagSt s x).rmSram = s.rmSram := rfl
@[simp] theorem setTagSt_rmLine (s : State) (x : TagSt) : (setTagSt s x).rmLine = s.rmLine := rfl
@[simp] theorem setTagSt_upd (s : State) (x : TagSt) : (setTagSt s x).upd = s.upd := rfl
@[simp] theorem setTagSt_pending (s : State) (x : TagSt) : (setTagSt s x).pending = s.pending := rfl

/-! ### memWrite -/

@[simp] theorem memWrite_regs (s : State) (a : Nat) (l : List Byte) : (memWrite s a l).regs = s.regs := rfl
@[simp] theorem memWrite_locks (s : State) (a : Nat) (l : List Byte) : (memWrite s a l).locks = s.locks := rfl
@[simp] theorem memWrite_cnts (s : State) (a : Nat) (l : List Byte) : (memWrite s a l).cnts = s.cnts := rfl
@[simp] theorem memWrite_latches (s : State) (a : Nat) (l : List Byte) : (memWrite s a l).latches = s.latches := rfl
@[simp] theorem memWrite_reply (s : State) (a : Nat) (l : List Byte) : (memWrite s a l).reply = s.reply := rfl
@[simp] theorem memWrite_sent (s : State) (a : Nat) (l : List Byte) : (memWrite s a l).sent = s.sent := rfl
@[simp] theorem memWrite_now (s : State) (a : Nat) (l : List Byte) : (memWrite s a l).now = s.now := rfl
@[simp] theorem memWrite_freeCtr (s : State) (a : Nat) (l : List Byte) : (memWrite s a l).freeCtr = s.freeCtr := rfl
@[simp] theorem memWrite_line (s : State) (a : Nat) (l : List Byte) : (memWrite s a l).line = s.line := rfl
@[simp] theorem memWrite_saCnt (s : State) (a : Nat) (l : List Byte) : (memWrite s a l).saCnt = s.saCnt := rfl
@[simp] theorem memWrite_domCnt (s : State) (a : Nat) (l : List Byte) : (memWrite s a l).domCnt = s.domCnt := rfl
@[simp] theorem memWrite_bank (s : State) (a : Nat) (l : List Byte) : (memWrite s a l).bank = s.bank := rfl
@[simp] theorem memWrite_mt (s : State) (a : Nat) (l : List Byte) : (memWrite s a l).mt = s.mt := rfl
@[simp] theorem memWrite_gran (s : State) (a : Nat) (l : List Byte) : (memWrite s a l).gran = s.gran := rfl
@[simp] theorem memWrite_culm (s : State) (a : Nat) (l : List Byte) : (memWrite s a l).culm = s.culm := rfl
@[simp] theorem memWrite_ev (s : State) (a : Nat) (l : List Byte) : (memWrite s a l).ev = s.ev := rfl
@[simp] theorem memWrite_host (s : State) (a : Nat) (l : List Byte) : (memWrite s a l).host = s.host := rfl
@[simp] theorem memWrite_hstate (s : State) (a : Nat) (l : List Byte) : (memWrite s a l).hstate = s.hstate := rfl
@[simp] theorem memWrite_harts (s : State) (a : Nat) (l : List Byte) : (memWrite s a l).harts = s.harts := rfl
@[simp] theorem memWrite_sram (s : State) (a : Nat) (l : List Byte) : (memWrite s a l).sram = tputs (fun _ => 0) s.sram a l := rfl
@[simp] theorem memWrite_tags (s : State) (a : Nat) (l : List Byte) : (memWrite s a l).tags = s.tags := rfl
@[simp] theorem memWrite_badTag (s : State) (a : Nat) (l : List Byte) : (memWrite s a l).badTag = s.badTag := rfl
@[simp] theorem memWrite_badLane (s : State) (a : Nat) (l : List Byte) : (memWrite s a l).badLane = s.badLane := rfl
@[simp] theorem memWrite_rc (s : State) (a : Nat) (l : List Byte) : (memWrite s a l).rc = s.rc := rfl
@[simp] theorem memWrite_dma (s : State) (a : Nat) (l : List Byte) : (memWrite s a l).dma = s.dma := rfl
@[simp] theorem memWrite_ord (s : State) (a : Nat) (l : List Byte) : (memWrite s a l).ord = s.ord := rfl
@[simp] theorem memWrite_rng (s : State) (a : Nat) (l : List Byte) : (memWrite s a l).rng = s.rng := rfl
@[simp] theorem memWrite_fl (s : State) (a : Nat) (l : List Byte) : (memWrite s a l).fl = s.fl := rfl
@[simp] theorem memWrite_li (s : State) (a : Nat) (l : List Byte) : (memWrite s a l).li = s.li := rfl
@[simp] theorem memWrite_lc (s : State) (a : Nat) (l : List Byte) : (memWrite s a l).lc = s.lc := rfl
@[simp] theorem memWrite_level (s : State) (a : Nat) (l : List Byte) : (memWrite s a l).level = s.level := rfl
@[simp] theorem memWrite_tm (s : State) (a : Nat) (l : List Byte) : (memWrite s a l).tm = s.tm := rfl
@[simp] theorem memWrite_pw (s : State) (a : Nat) (l : List Byte) : (memWrite s a l).pw = s.pw := rfl
@[simp] theorem memWrite_tag (s : State) (a : Nat) (l : List Byte) : (memWrite s a l).tag = s.tag := rfl
@[simp] theorem memWrite_cs (s : State) (a : Nat) (l : List Byte) : (memWrite s a l).cs = s.cs := rfl
@[simp] theorem memWrite_rmSram (s : State) (a : Nat) (l : List Byte) : (memWrite s a l).rmSram = s.rmSram := rfl
@[simp] theorem memWrite_rmLine (s : State) (a : Nat) (l : List Byte) : (memWrite s a l).rmLine = s.rmLine := rfl
@[simp] theorem memWrite_upd (s : State) (a : Nat) (l : List Byte) : (memWrite s a l).upd = s.upd := rfl
@[simp] theorem memWrite_pending (s : State) (a : Nat) (l : List Byte) : (memWrite s a l).pending = s.pending := rfl

/-! ### memZero -/

@[simp] theorem memZero_regs (s : State) (a n : Nat) : (memZero s a n).regs = s.regs := rfl
@[simp] theorem memZero_locks (s : State) (a n : Nat) : (memZero s a n).locks = s.locks := rfl
@[simp] theorem memZero_cnts (s : State) (a n : Nat) : (memZero s a n).cnts = s.cnts := rfl
@[simp] theorem memZero_latches (s : State) (a n : Nat) : (memZero s a n).latches = s.latches := rfl
@[simp] theorem memZero_reply (s : State) (a n : Nat) : (memZero s a n).reply = s.reply := rfl
@[simp] theorem memZero_sent (s : State) (a n : Nat) : (memZero s a n).sent = s.sent := rfl
@[simp] theorem memZero_now (s : State) (a n : Nat) : (memZero s a n).now = s.now := rfl
@[simp] theorem memZero_freeCtr (s : State) (a n : Nat) : (memZero s a n).freeCtr = s.freeCtr := rfl
@[simp] theorem memZero_line (s : State) (a n : Nat) : (memZero s a n).line = s.line := rfl
@[simp] theorem memZero_saCnt (s : State) (a n : Nat) : (memZero s a n).saCnt = s.saCnt := rfl
@[simp] theorem memZero_domCnt (s : State) (a n : Nat) : (memZero s a n).domCnt = s.domCnt := rfl
@[simp] theorem memZero_bank (s : State) (a n : Nat) : (memZero s a n).bank = s.bank := rfl
@[simp] theorem memZero_mt (s : State) (a n : Nat) : (memZero s a n).mt = s.mt := rfl
@[simp] theorem memZero_gran (s : State) (a n : Nat) : (memZero s a n).gran = s.gran := rfl
@[simp] theorem memZero_culm (s : State) (a n : Nat) : (memZero s a n).culm = s.culm := rfl
@[simp] theorem memZero_ev (s : State) (a n : Nat) : (memZero s a n).ev = s.ev := rfl
@[simp] theorem memZero_host (s : State) (a n : Nat) : (memZero s a n).host = s.host := rfl
@[simp] theorem memZero_hstate (s : State) (a n : Nat) : (memZero s a n).hstate = s.hstate := rfl
@[simp] theorem memZero_harts (s : State) (a n : Nat) : (memZero s a n).harts = s.harts := rfl
@[simp] theorem memZero_sram (s : State) (a n : Nat) : (memZero s a n).sram = s.sram.filter (fun e => !(decide (a ≤ e.1 ∧ e.1 < a + n))) := rfl
@[simp] theorem memZero_tags (s : State) (a n : Nat) : (memZero s a n).tags = s.tags := rfl
@[simp] theorem memZero_badTag (s : State) (a n : Nat) : (memZero s a n).badTag = s.badTag := rfl
@[simp] theorem memZero_badLane (s : State) (a n : Nat) : (memZero s a n).badLane = s.badLane := rfl
@[simp] theorem memZero_rc (s : State) (a n : Nat) : (memZero s a n).rc = s.rc := rfl
@[simp] theorem memZero_dma (s : State) (a n : Nat) : (memZero s a n).dma = s.dma := rfl
@[simp] theorem memZero_ord (s : State) (a n : Nat) : (memZero s a n).ord = s.ord := rfl
@[simp] theorem memZero_rng (s : State) (a n : Nat) : (memZero s a n).rng = s.rng := rfl
@[simp] theorem memZero_fl (s : State) (a n : Nat) : (memZero s a n).fl = s.fl := rfl
@[simp] theorem memZero_li (s : State) (a n : Nat) : (memZero s a n).li = s.li := rfl
@[simp] theorem memZero_lc (s : State) (a n : Nat) : (memZero s a n).lc = s.lc := rfl
@[simp] theorem memZero_level (s : State) (a n : Nat) : (memZero s a n).level = s.level := rfl
@[simp] theorem memZero_tm (s : State) (a n : Nat) : (memZero s a n).tm = s.tm := rfl
@[simp] theorem memZero_pw (s : State) (a n : Nat) : (memZero s a n).pw = s.pw := rfl
@[simp] theorem memZero_tag (s : State) (a n : Nat) : (memZero s a n).tag = s.tag := rfl
@[simp] theorem memZero_cs (s : State) (a n : Nat) : (memZero s a n).cs = s.cs := rfl
@[simp] theorem memZero_rmSram (s : State) (a n : Nat) : (memZero s a n).rmSram = s.rmSram := rfl
@[simp] theorem memZero_rmLine (s : State) (a n : Nat) : (memZero s a n).rmLine = s.rmLine := rfl
@[simp] theorem memZero_upd (s : State) (a n : Nat) : (memZero s a n).upd = s.upd := rfl
@[simp] theorem memZero_pending (s : State) (a n : Nat) : (memZero s a n).pending = s.pending := rfl

/-! ### setTag -/

@[simp] theorem setTag_regs (s : State) (g v : Nat) : (setTag s g v).regs = s.regs := rfl
@[simp] theorem setTag_locks (s : State) (g v : Nat) : (setTag s g v).locks = s.locks := rfl
@[simp] theorem setTag_cnts (s : State) (g v : Nat) : (setTag s g v).cnts = s.cnts := rfl
@[simp] theorem setTag_latches (s : State) (g v : Nat) : (setTag s g v).latches = s.latches := rfl
@[simp] theorem setTag_reply (s : State) (g v : Nat) : (setTag s g v).reply = s.reply := rfl
@[simp] theorem setTag_sent (s : State) (g v : Nat) : (setTag s g v).sent = s.sent := rfl
@[simp] theorem setTag_now (s : State) (g v : Nat) : (setTag s g v).now = s.now := rfl
@[simp] theorem setTag_freeCtr (s : State) (g v : Nat) : (setTag s g v).freeCtr = s.freeCtr := rfl
@[simp] theorem setTag_line (s : State) (g v : Nat) : (setTag s g v).line = s.line := rfl
@[simp] theorem setTag_saCnt (s : State) (g v : Nat) : (setTag s g v).saCnt = s.saCnt := rfl
@[simp] theorem setTag_domCnt (s : State) (g v : Nat) : (setTag s g v).domCnt = s.domCnt := rfl
@[simp] theorem setTag_bank (s : State) (g v : Nat) : (setTag s g v).bank = s.bank := rfl
@[simp] theorem setTag_mt (s : State) (g v : Nat) : (setTag s g v).mt = s.mt := rfl
@[simp] theorem setTag_gran (s : State) (g v : Nat) : (setTag s g v).gran = s.gran := rfl
@[simp] theorem setTag_culm (s : State) (g v : Nat) : (setTag s g v).culm = s.culm := rfl
@[simp] theorem setTag_ev (s : State) (g v : Nat) : (setTag s g v).ev = s.ev := rfl
@[simp] theorem setTag_host (s : State) (g v : Nat) : (setTag s g v).host = s.host := rfl
@[simp] theorem setTag_hstate (s : State) (g v : Nat) : (setTag s g v).hstate = s.hstate := rfl
@[simp] theorem setTag_harts (s : State) (g v : Nat) : (setTag s g v).harts = s.harts := rfl
@[simp] theorem setTag_sram (s : State) (g v : Nat) : (setTag s g v).sram = s.sram := rfl
@[simp] theorem setTag_tags (s : State) (g v : Nat) : (setTag s g v).tags = tput (fun _ => 0) s.tags g v := rfl
@[simp] theorem setTag_badTag (s : State) (g v : Nat) : (setTag s g v).badTag = tput (fun _ => false) s.badTag g false := rfl
@[simp] theorem setTag_badLane (s : State) (g v : Nat) : (setTag s g v).badLane = s.badLane := rfl
@[simp] theorem setTag_rc (s : State) (g v : Nat) : (setTag s g v).rc = s.rc := rfl
@[simp] theorem setTag_dma (s : State) (g v : Nat) : (setTag s g v).dma = s.dma := rfl
@[simp] theorem setTag_ord (s : State) (g v : Nat) : (setTag s g v).ord = s.ord := rfl
@[simp] theorem setTag_rng (s : State) (g v : Nat) : (setTag s g v).rng = s.rng := rfl
@[simp] theorem setTag_fl (s : State) (g v : Nat) : (setTag s g v).fl = s.fl := rfl
@[simp] theorem setTag_li (s : State) (g v : Nat) : (setTag s g v).li = s.li := rfl
@[simp] theorem setTag_lc (s : State) (g v : Nat) : (setTag s g v).lc = s.lc := rfl
@[simp] theorem setTag_level (s : State) (g v : Nat) : (setTag s g v).level = s.level := rfl
@[simp] theorem setTag_tm (s : State) (g v : Nat) : (setTag s g v).tm = s.tm := rfl
@[simp] theorem setTag_pw (s : State) (g v : Nat) : (setTag s g v).pw = s.pw := rfl
@[simp] theorem setTag_tag (s : State) (g v : Nat) : (setTag s g v).tag = s.tag := rfl
@[simp] theorem setTag_cs (s : State) (g v : Nat) : (setTag s g v).cs = s.cs := rfl
@[simp] theorem setTag_rmSram (s : State) (g v : Nat) : (setTag s g v).rmSram = s.rmSram := rfl
@[simp] theorem setTag_rmLine (s : State) (g v : Nat) : (setTag s g v).rmLine = s.rmLine := rfl
@[simp] theorem setTag_upd (s : State) (g v : Nat) : (setTag s g v).upd = s.upd := rfl
@[simp] theorem setTag_pending (s : State) (g v : Nat) : (setTag s g v).pending = s.pending := rfl

end Sys2Proof.Machine
end

