-- ==== Sys2Proof/Laws/Tbl.lean ====
section
/-! SUPPORT. Laws of sparse tables: a read after a write, writes that leave other keys alone, and the canonical form, which every
table operation keeps. -/

namespace Sys2Proof.Machine

variable {α : Type}

/-! ### Reads and writes, of any table -/

theorem tget_tins (d : Nat → α) (k : Nat) (v : α) : ∀ t : Tbl α, tget d (tins t k v) k = v
  | [] => by simp [tins, tget]
  | (j, w) :: r => by
    unfold tins
    split
    · simp [tget]
    · split
      · simp [tget]
      · rename_i hne _; simp [tget, hne, tget_tins d k v r]

theorem tget_tins_ne (d : Nat → α) {k m : Nat} (v : α) (hm : m ≠ k) : ∀ t : Tbl α, tget d (tins t k v) m = tget d t m
  | [] => by simp [tins, tget, Ne.symm hm]
  | (j, w) :: r => by
    unfold tins
    split
    · rename_i e; subst e; simp [tget, Ne.symm hm]
    · split
      · simp [tget, Ne.symm hm]
      · simp [tget, tget_tins_ne d v hm r]

theorem tget_erase (d : Nat → α) (k : Nat) : ∀ t : Tbl α, tget d (t.filter (fun e => e.1 != k)) k = d k
  | [] => rfl
  | (j, w) :: r => by
    by_cases h : j = k
    · simp [List.filter, h, tget_erase d k r]
    · have hb : (j != k) = true := by simp [h]
      simp [List.filter, hb, tget, h, tget_erase d k r]

theorem tget_erase_ne (d : Nat → α) {k m : Nat} (hm : m ≠ k) : ∀ t : Tbl α, tget d (t.filter (fun e => e.1 != k)) m = tget d t m
  | [] => rfl
  | (j, w) :: r => by
    by_cases h : j = k
    · subst h; simp [List.filter, tget, Ne.symm hm, tget_erase_ne d hm r]
    · have hb : (j != k) = true := by simp [h]
      simp [List.filter, hb, tget, tget_erase_ne d hm r]

section
variable [DecidableEq α]

/-- A read after a write: the value written at its key. -/
@[simp] theorem tget_tput (d : Nat → α) (t : Tbl α) (k : Nat) (v : α) : tget d (tput d t k v) k = v := by
  unfold tput; split
  · rename_i h; rw [tget_erase, h]
  · exact tget_tins d k v t

/-- A write leaves every other key as it was. -/
theorem tget_tput_ne (d : Nat → α) (t : Tbl α) {k m : Nat} (v : α) (hm : m ≠ k) : tget d (tput d t k v) m = tget d t m := by
  unfold tput; split
  · exact tget_erase_ne d hm t
  · exact tget_tins_ne d v hm t

theorem tget_tput_if (d : Nat → α) (t : Tbl α) (k m : Nat) (v : α) : tget d (tput d t k v) m = if m = k then v else tget d t m := by
  split
  · rename_i h; subst h; simp
  · rename_i h; exact tget_tput_ne d t v h

theorem tget_tputs_out (d : Nat → α) : ∀ (l : List α) (k m : Nat) (t : Tbl α), (m < k ∨ k + l.length ≤ m) →
    tget d (tputs d t k l) m = tget d t m
  | [], _, _, _, _ => rfl
  | v :: r, k, m, t, h => by
    simp only [List.length_cons] at h
    rw [tputs, tget_tputs_out d r (k + 1) m _ (by omega), tget_tput_ne d t v (by omega)]

theorem tgets_tputs (d : Nat → α) : ∀ (l : List α) (k : Nat) (t : Tbl α), tgets d (tputs d t k l) k l.length = l
  | [], _, _ => rfl
  | v :: r, k, t => by
    simp only [tputs, List.length_cons, tgets]
    rw [tget_tputs_out d r (k + 1) k _ (by omega), tget_tput, tgets_tputs d r (k + 1)]

end

/-! ### The canonical form -/

theorem keysAbove_mono {b c : Nat} (h : b ≤ c) : ∀ {t : Tbl α}, keysAbove c t = true → keysAbove b t = true
  | [], _ => rfl
  | (j, v) :: r, hk => by
    simp only [keysAbove, Bool.and_eq_true, decide_eq_true_eq] at hk ⊢
    exact ⟨by omega, keysAbove_mono h hk.2⟩

theorem keysAbove_tins {b k : Nat} {v : α} (hb : b < k) : ∀ {t : Tbl α}, keysAbove b t = true → keysAbove b (tins t k v) = true
  | [], _ => by simp [tins, keysAbove, hb]
  | (j, w) :: r, hk => by
    simp only [keysAbove, Bool.and_eq_true, decide_eq_true_eq] at hk
    unfold tins
    split
    · simp [keysAbove, hb, hk.2]
    · split
      · simp [keysAbove, hb, hk.1, hk.2]
      · simp [keysAbove, hk.1, keysAbove_tins hb hk.2]

theorem keysAbove_filter {b : Nat} (p : Nat × α → Bool) : ∀ {t : Tbl α}, keysAbove b t = true → keysAbove b (t.filter p) = true
  | [], _ => rfl
  | (j, v) :: r, h => by
    simp only [keysAbove, Bool.and_eq_true, decide_eq_true_eq] at h
    simp only [List.filter]
    split
    · simp [keysAbove, h.1, keysAbove_filter p h.2]
    · exact keysAbove_filter p h.2

section
variable [DecidableEq α]

/-- Entries taken out of a table leave it canonical. -/
theorem tblWf_filter (d : Nat → α) (p : Nat × α → Bool) : ∀ {t : Tbl α}, tblWf d t = true → tblWf d (t.filter p) = true
  | [], _ => rfl
  | (j, v) :: r, h => by
    simp only [tblWf, Bool.and_eq_true, decide_eq_true_eq] at h
    simp only [List.filter]
    split
    · simp [tblWf, h.1.1, keysAbove_filter p h.1.2, tblWf_filter d p h.2]
    · exact tblWf_filter d p h.2

theorem tblWf_tins (d : Nat → α) (k : Nat) (v : α) (hv : v ≠ d k) : ∀ {t : Tbl α}, tblWf d t = true → tblWf d (tins t k v) = true
  | [], _ => by simp [tins, tblWf, keysAbove, hv]
  | (j, w) :: r, h => by
    simp only [tblWf, Bool.and_eq_true, decide_eq_true_eq] at h
    obtain ⟨⟨hw, hk⟩, hr⟩ := h
    unfold tins
    split
    · rename_i e; subst e; simp [tblWf, hv, hk, hr]
    · split
      · rename_i hlt
        simp only [tblWf, keysAbove, Bool.and_eq_true, decide_eq_true_eq]
        exact ⟨⟨hv, hlt, keysAbove_mono (by omega) hk⟩, ⟨hw, hk⟩, hr⟩
      · simp only [tblWf, Bool.and_eq_true, decide_eq_true_eq]
        exact ⟨⟨hw, keysAbove_tins (by omega) hk⟩, tblWf_tins d k v hv hr⟩

/-- A write keeps the canonical form. -/
theorem tblWf_tput (d : Nat → α) (k : Nat) (v : α) {t : Tbl α} (h : tblWf d t = true) : tblWf d (tput d t k v) = true := by
  unfold tput; split
  · exact tblWf_filter d _ h
  · rename_i hv; exact tblWf_tins d k v hv h

theorem tblWf_tputs (d : Nat → α) : ∀ (l : List α) (k : Nat) {t : Tbl α}, tblWf d t = true → tblWf d (tputs d t k l) = true
  | [], _, _, h => h
  | v :: r, k, _, h => tblWf_tputs d r (k + 1) (tblWf_tput d k v h)

theorem keysAbove_tmap (d : Nat → α) (g : Nat → α → α) {b : Nat} : ∀ {t : Tbl α}, keysAbove b t = true → keysAbove b (tmap d g t) = true
  | [], _ => rfl
  | (j, v) :: r, h => by
    simp only [keysAbove, Bool.and_eq_true, decide_eq_true_eq] at h
    unfold tmap
    split
    · exact keysAbove_tmap d g h.2
    · simp [keysAbove, h.1, keysAbove_tmap d g h.2]

theorem tblWf_tmap (d : Nat → α) (g : Nat → α → α) : ∀ {t : Tbl α}, tblWf d t = true → tblWf d (tmap d g t) = true
  | [], _ => rfl
  | (j, v) :: r, h => by
    simp only [tblWf, Bool.and_eq_true, decide_eq_true_eq] at h
    unfold tmap
    split
    · exact tblWf_tmap d g h.2
    · rename_i hv; simp [tblWf, hv, keysAbove_tmap d g h.1.2, tblWf_tmap d g h.2]

end

end Sys2Proof.Machine
end

