-- ==== Sys2Proof/Laws/Ops.lean ====
section
/-! SUPPORT. What the shared operations can do, said once: raising an event source changes nothing but the counters, the router and
recorder, the MSI-X vectors and what has been sent. -/

namespace Sys2Proof.Machine

/-- Only counters, the router and recorder, vectors and what was sent differ between two states. -/
def SameButEvents (s t : State) : Prop :=
  ∃ c e v q, t = { s with cnts := c, ev := e, host := { s.host with vecs := v }, sent := q }

theorem SameButEvents.refl (s : State) : SameButEvents s s := ⟨_, _, _, _, rfl⟩

theorem SameButEvents.trans {s t u : State} (h : SameButEvents s t) (k : SameButEvents t u) : SameButEvents s u := by
  obtain ⟨c, e, v, q, rfl⟩ := h; obtain ⟨c', e', v', q', rfl⟩ := k; exact ⟨c', e', v', q', rfl⟩

theorem cadd_events (s : State) (a n : Nat) : SameButEvents s (cadd s a n) := ⟨_, _, _, _, rfl⟩
theorem cinc_events (s : State) (a : Nat) : SameButEvents s (cinc s a) := ⟨_, _, _, _, rfl⟩
theorem setVec_events (s : State) (f v : Nat) (x : VecSt) : SameButEvents s (setVec s f v x) := ⟨_, _, _, _, rfl⟩
theorem send_events (s : State) (x : Sent) : SameButEvents s (send s x) := ⟨_, _, _, _, rfl⟩

theorem vecTry_events (s : State) (f v : Nat) : SameButEvents s (vecTry s f v) := by
  unfold vecTry
  dsimp only
  split
  · exact .refl s
  · split
    · split
      · exact .refl s
      · exact (setVec_events s f v _).trans (cinc_events _ _)
    · split
      · split
        · exact .refl s
        · exact (setVec_events s f v _).trans (cinc_events _ _)
      · exact ((setVec_events s f v _).trans (send_events _ _)).trans (cinc_events _ _)

theorem vecCause_events (s : State) (f v : Nat) : SameButEvents s (vecCause s f v) := by
  unfold vecCause
  dsimp only
  split
  · exact .refl s
  · exact (setVec_events s f v _).trans (vecTry_events _ _ _)

theorem loseEv_events (s : State) (k n : Nat) : SameButEvents s (loseEv s k n).1 := ⟨_, _, _, _, rfl⟩

theorem offerEv_events (s : State) (r : Raising) : SameButEvents s (offerEv s r).1 := by
  unfold offerEv
  split
  · split
    · exact ⟨_, _, _, _, rfl⟩
    · split
      · exact .refl s
      · exact loseEv_events _ _ _
  · split
    · exact ⟨_, _, _, _, rfl⟩
    · split
      · exact ⟨_, _, _, _, rfl⟩
      · exact loseEv_events _ _ _

theorem routeEv_events (s : State) (src : Nat) : SameButEvents s (routeEv s src) := by
  unfold routeEv
  dsimp only
  split
  · split
    · exact ⟨_, _, _, _, rfl⟩
    · exact ⟨_, _, _, _, rfl⟩
  · exact (cinc_events s _).trans (vecCause_events _ _ _)
  · exact .refl s

theorem raiseOne_events (s : State) (r : Raising) : SameButEvents s (raiseOne s r).1 :=
  ((cinc_events s _).trans (offerEv_events _ r)).trans (routeEv_events _ _)

/-- A raising changes nothing but counters, the router and recorder, vectors and what was sent (R385). -/
theorem raiseEv_events (s : State) (src code : Nat) (d : List Nat) : SameButEvents s (raiseEv s src code d) := by
  unfold raiseEv
  dsimp only
  split
  · exact (raiseOne_events s _).trans (raiseOne_events _ _)
  · exact raiseOne_events s _

theorem raise_events (s : State) (src : Nat) (d : List Nat) : SameButEvents s (raise s src d) := raiseEv_events s src 0 d

/-- A refused write does nothing but raise its source (R18). -/
theorem refuse_events (s : State) (a : Nat) : SameButEvents s (refuse s a) := raiseEv_events s _ _ _


@[simp] theorem vecTry_regs (s : State) (f v : Nat) : (vecTry s f v).regs = s.regs := by obtain ⟨_, _, _, _, h⟩ := vecTry_events s f v; rw [h]
@[simp] theorem vecTry_locks (s : State) (f v : Nat) : (vecTry s f v).locks = s.locks := by obtain ⟨_, _, _, _, h⟩ := vecTry_events s f v; rw [h]
@[simp] theorem vecTry_latches (s : State) (f v : Nat) : (vecTry s f v).latches = s.latches := by obtain ⟨_, _, _, _, h⟩ := vecTry_events s f v; rw [h]
@[simp] theorem vecTry_reply (s : State) (f v : Nat) : (vecTry s f v).reply = s.reply := by obtain ⟨_, _, _, _, h⟩ := vecTry_events s f v; rw [h]
@[simp] theorem vecTry_now (s : State) (f v : Nat) : (vecTry s f v).now = s.now := by obtain ⟨_, _, _, _, h⟩ := vecTry_events s f v; rw [h]
@[simp] theorem vecTry_freeCtr (s : State) (f v : Nat) : (vecTry s f v).freeCtr = s.freeCtr := by obtain ⟨_, _, _, _, h⟩ := vecTry_events s f v; rw [h]
@[simp] theorem vecTry_line (s : State) (f v : Nat) : (vecTry s f v).line = s.line := by obtain ⟨_, _, _, _, h⟩ := vecTry_events s f v; rw [h]
@[simp] theorem vecTry_saCnt (s : State) (f v : Nat) : (vecTry s f v).saCnt = s.saCnt := by obtain ⟨_, _, _, _, h⟩ := vecTry_events s f v; rw [h]
@[simp] theorem vecTry_domCnt (s : State) (f v : Nat) : (vecTry s f v).domCnt = s.domCnt := by obtain ⟨_, _, _, _, h⟩ := vecTry_events s f v; rw [h]
@[simp] theorem vecTry_bank (s : State) (f v : Nat) : (vecTry s f v).bank = s.bank := by obtain ⟨_, _, _, _, h⟩ := vecTry_events s f v; rw [h]
@[simp] theorem vecTry_mt (s : State) (f v : Nat) : (vecTry s f v).mt = s.mt := by obtain ⟨_, _, _, _, h⟩ := vecTry_events s f v; rw [h]
@[simp] theorem vecTry_gran (s : State) (f v : Nat) : (vecTry s f v).gran = s.gran := by obtain ⟨_, _, _, _, h⟩ := vecTry_events s f v; rw [h]
@[simp] theorem vecTry_culm (s : State) (f v : Nat) : (vecTry s f v).culm = s.culm := by obtain ⟨_, _, _, _, h⟩ := vecTry_events s f v; rw [h]
@[simp] theorem vecTry_hstate (s : State) (f v : Nat) : (vecTry s f v).hstate = s.hstate := by obtain ⟨_, _, _, _, h⟩ := vecTry_events s f v; rw [h]
@[simp] theorem vecTry_harts (s : State) (f v : Nat) : (vecTry s f v).harts = s.harts := by obtain ⟨_, _, _, _, h⟩ := vecTry_events s f v; rw [h]
@[simp] theorem vecTry_sram (s : State) (f v : Nat) : (vecTry s f v).sram = s.sram := by obtain ⟨_, _, _, _, h⟩ := vecTry_events s f v; rw [h]
@[simp] theorem vecTry_tags (s : State) (f v : Nat) : (vecTry s f v).tags = s.tags := by obtain ⟨_, _, _, _, h⟩ := vecTry_events s f v; rw [h]
@[simp] theorem vecTry_badTag (s : State) (f v : Nat) : (vecTry s f v).badTag = s.badTag := by obtain ⟨_, _, _, _, h⟩ := vecTry_events s f v; rw [h]
@[simp] theorem vecTry_badLane (s : State) (f v : Nat) : (vecTry s f v).badLane = s.badLane := by obtain ⟨_, _, _, _, h⟩ := vecTry_events s f v; rw [h]
@[simp] theorem vecTry_rc (s : State) (f v : Nat) : (vecTry s f v).rc = s.rc := by obtain ⟨_, _, _, _, h⟩ := vecTry_events s f v; rw [h]
@[simp] theorem vecTry_dma (s : State) (f v : Nat) : (vecTry s f v).dma = s.dma := by obtain ⟨_, _, _, _, h⟩ := vecTry_events s f v; rw [h]
@[simp] theorem vecTry_ord (s : State) (f v : Nat) : (vecTry s f v).ord = s.ord := by obtain ⟨_, _, _, _, h⟩ := vecTry_events s f v; rw [h]
@[simp] theorem vecTry_rng (s : State) (f v : Nat) : (vecTry s f v).rng = s.rng := by obtain ⟨_, _, _, _, h⟩ := vecTry_events s f v; rw [h]
@[simp] theorem vecTry_fl (s : State) (f v : Nat) : (vecTry s f v).fl = s.fl := by obtain ⟨_, _, _, _, h⟩ := vecTry_events s f v; rw [h]
@[simp] theorem vecTry_li (s : State) (f v : Nat) : (vecTry s f v).li = s.li := by obtain ⟨_, _, _, _, h⟩ := vecTry_events s f v; rw [h]
@[simp] theorem vecTry_lc (s : State) (f v : Nat) : (vecTry s f v).lc = s.lc := by obtain ⟨_, _, _, _, h⟩ := vecTry_events s f v; rw [h]
@[simp] theorem vecTry_level (s : State) (f v : Nat) : (vecTry s f v).level = s.level := by obtain ⟨_, _, _, _, h⟩ := vecTry_events s f v; rw [h]
@[simp] theorem vecTry_tm (s : State) (f v : Nat) : (vecTry s f v).tm = s.tm := by obtain ⟨_, _, _, _, h⟩ := vecTry_events s f v; rw [h]
@[simp] theorem vecTry_pw (s : State) (f v : Nat) : (vecTry s f v).pw = s.pw := by obtain ⟨_, _, _, _, h⟩ := vecTry_events s f v; rw [h]
@[simp] theorem vecTry_tag (s : State) (f v : Nat) : (vecTry s f v).tag = s.tag := by obtain ⟨_, _, _, _, h⟩ := vecTry_events s f v; rw [h]
@[simp] theorem vecTry_cs (s : State) (f v : Nat) : (vecTry s f v).cs = s.cs := by obtain ⟨_, _, _, _, h⟩ := vecTry_events s f v; rw [h]
@[simp] theorem vecTry_rmSram (s : State) (f v : Nat) : (vecTry s f v).rmSram = s.rmSram := by obtain ⟨_, _, _, _, h⟩ := vecTry_events s f v; rw [h]
@[simp] theorem vecTry_rmLine (s : State) (f v : Nat) : (vecTry s f v).rmLine = s.rmLine := by obtain ⟨_, _, _, _, h⟩ := vecTry_events s f v; rw [h]
@[simp] theorem vecTry_upd (s : State) (f v : Nat) : (vecTry s f v).upd = s.upd := by obtain ⟨_, _, _, _, h⟩ := vecTry_events s f v; rw [h]
@[simp] theorem vecTry_pending (s : State) (f v : Nat) : (vecTry s f v).pending = s.pending := by obtain ⟨_, _, _, _, h⟩ := vecTry_events s f v; rw [h]
@[simp] theorem vecTry_host_fns (s : State) (f v : Nat) : (vecTry s f v).host.fns = s.host.fns := by obtain ⟨_, _, _, _, h⟩ := vecTry_events s f v; rw [h]
@[simp] theorem vecTry_host_eps (s : State) (f v : Nat) : (vecTry s f v).host.eps = s.host.eps := by obtain ⟨_, _, _, _, h⟩ := vecTry_events s f v; rw [h]
@[simp] theorem vecTry_host_quotas (s : State) (f v : Nat) : (vecTry s f v).host.quotas = s.host.quotas := by obtain ⟨_, _, _, _, h⟩ := vecTry_events s f v; rw [h]
@[simp] theorem vecTry_host_lines (s : State) (f v : Nat) : (vecTry s f v).host.lines = s.host.lines := by obtain ⟨_, _, _, _, h⟩ := vecTry_events s f v; rw [h]
@[simp] theorem vecTry_host_flushErr (s : State) (f v : Nat) : (vecTry s f v).host.flushErr = s.host.flushErr := by obtain ⟨_, _, _, _, h⟩ := vecTry_events s f v; rw [h]
@[simp] theorem vecCause_regs (s : State) (f v : Nat) : (vecCause s f v).regs = s.regs := by obtain ⟨_, _, _, _, h⟩ := vecCause_events s f v; rw [h]
@[simp] theorem vecCause_locks (s : State) (f v : Nat) : (vecCause s f v).locks = s.locks := by obtain ⟨_, _, _, _, h⟩ := vecCause_events s f v; rw [h]
@[simp] theorem vecCause_latches (s : State) (f v : Nat) : (vecCause s f v).latches = s.latches := by obtain ⟨_, _, _, _, h⟩ := vecCause_events s f v; rw [h]
@[simp] theorem vecCause_reply (s : State) (f v : Nat) : (vecCause s f v).reply = s.reply := by obtain ⟨_, _, _, _, h⟩ := vecCause_events s f v; rw [h]
@[simp] theorem vecCause_now (s : State) (f v : Nat) : (vecCause s f v).now = s.now := by obtain ⟨_, _, _, _, h⟩ := vecCause_events s f v; rw [h]
@[simp] theorem vecCause_freeCtr (s : State) (f v : Nat) : (vecCause s f v).freeCtr = s.freeCtr := by obtain ⟨_, _, _, _, h⟩ := vecCause_events s f v; rw [h]
@[simp] theorem vecCause_line (s : State) (f v : Nat) : (vecCause s f v).line = s.line := by obtain ⟨_, _, _, _, h⟩ := vecCause_events s f v; rw [h]
@[simp] theorem vecCause_saCnt (s : State) (f v : Nat) : (vecCause s f v).saCnt = s.saCnt := by obtain ⟨_, _, _, _, h⟩ := vecCause_events s f v; rw [h]
@[simp] theorem vecCause_domCnt (s : State) (f v : Nat) : (vecCause s f v).domCnt = s.domCnt := by obtain ⟨_, _, _, _, h⟩ := vecCause_events s f v; rw [h]
@[simp] theorem vecCause_bank (s : State) (f v : Nat) : (vecCause s f v).bank = s.bank := by obtain ⟨_, _, _, _, h⟩ := vecCause_events s f v; rw [h]
@[simp] theorem vecCause_mt (s : State) (f v : Nat) : (vecCause s f v).mt = s.mt := by obtain ⟨_, _, _, _, h⟩ := vecCause_events s f v; rw [h]
@[simp] theorem vecCause_gran (s : State) (f v : Nat) : (vecCause s f v).gran = s.gran := by obtain ⟨_, _, _, _, h⟩ := vecCause_events s f v; rw [h]
@[simp] theorem vecCause_culm (s : State) (f v : Nat) : (vecCause s f v).culm = s.culm := by obtain ⟨_, _, _, _, h⟩ := vecCause_events s f v; rw [h]
@[simp] theorem vecCause_hstate (s : State) (f v : Nat) : (vecCause s f v).hstate = s.hstate := by obtain ⟨_, _, _, _, h⟩ := vecCause_events s f v; rw [h]
@[simp] theorem vecCause_harts (s : State) (f v : Nat) : (vecCause s f v).harts = s.harts := by obtain ⟨_, _, _, _, h⟩ := vecCause_events s f v; rw [h]
@[simp] theorem vecCause_sram (s : State) (f v : Nat) : (vecCause s f v).sram = s.sram := by obtain ⟨_, _, _, _, h⟩ := vecCause_events s f v; rw [h]
@[simp] theorem vecCause_tags (s : State) (f v : Nat) : (vecCause s f v).tags = s.tags := by obtain ⟨_, _, _, _, h⟩ := vecCause_events s f v; rw [h]
@[simp] theorem vecCause_badTag (s : State) (f v : Nat) : (vecCause s f v).badTag = s.badTag := by obtain ⟨_, _, _, _, h⟩ := vecCause_events s f v; rw [h]
@[simp] theorem vecCause_badLane (s : State) (f v : Nat) : (vecCause s f v).badLane = s.badLane := by obtain ⟨_, _, _, _, h⟩ := vecCause_events s f v; rw [h]
@[simp] theorem vecCause_rc (s : State) (f v : Nat) : (vecCause s f v).rc = s.rc := by obtain ⟨_, _, _, _, h⟩ := vecCause_events s f v; rw [h]
@[simp] theorem vecCause_dma (s : State) (f v : Nat) : (vecCause s f v).dma = s.dma := by obtain ⟨_, _, _, _, h⟩ := vecCause_events s f v; rw [h]
@[simp] theorem vecCause_ord (s : State) (f v : Nat) : (vecCause s f v).ord = s.ord := by obtain ⟨_, _, _, _, h⟩ := vecCause_events s f v; rw [h]
@[simp] theorem vecCause_rng (s : State) (f v : Nat) : (vecCause s f v).rng = s.rng := by obtain ⟨_, _, _, _, h⟩ := vecCause_events s f v; rw [h]
@[simp] theorem vecCause_fl (s : State) (f v : Nat) : (vecCause s f v).fl = s.fl := by obtain ⟨_, _, _, _, h⟩ := vecCause_events s f v; rw [h]
@[simp] theorem vecCause_li (s : State) (f v : Nat) : (vecCause s f v).li = s.li := by obtain ⟨_, _, _, _, h⟩ := vecCause_events s f v; rw [h]
@[simp] theorem vecCause_lc (s : State) (f v : Nat) : (vecCause s f v).lc = s.lc := by obtain ⟨_, _, _, _, h⟩ := vecCause_events s f v; rw [h]
@[simp] theorem vecCause_level (s : State) (f v : Nat) : (vecCause s f v).level = s.level := by obtain ⟨_, _, _, _, h⟩ := vecCause_events s f v; rw [h]
@[simp] theorem vecCause_tm (s : State) (f v : Nat) : (vecCause s f v).tm = s.tm := by obtain ⟨_, _, _, _, h⟩ := vecCause_events s f v; rw [h]
@[simp] theorem vecCause_pw (s : State) (f v : Nat) : (vecCause s f v).pw = s.pw := by obtain ⟨_, _, _, _, h⟩ := vecCause_events s f v; rw [h]
@[simp] theorem vecCause_tag (s : State) (f v : Nat) : (vecCause s f v).tag = s.tag := by obtain ⟨_, _, _, _, h⟩ := vecCause_events s f v; rw [h]
@[simp] theorem vecCause_cs (s : State) (f v : Nat) : (vecCause s f v).cs = s.cs := by obtain ⟨_, _, _, _, h⟩ := vecCause_events s f v; rw [h]
@[simp] theorem vecCause_rmSram (s : State) (f v : Nat) : (vecCause s f v).rmSram = s.rmSram := by obtain ⟨_, _, _, _, h⟩ := vecCause_events s f v; rw [h]
@[simp] theorem vecCause_rmLine (s : State) (f v : Nat) : (vecCause s f v).rmLine = s.rmLine := by obtain ⟨_, _, _, _, h⟩ := vecCause_events s f v; rw [h]
@[simp] theorem vecCause_upd (s : State) (f v : Nat) : (vecCause s f v).upd = s.upd := by obtain ⟨_, _, _, _, h⟩ := vecCause_events s f v; rw [h]
@[simp] theorem vecCause_pending (s : State) (f v : Nat) : (vecCause s f v).pending = s.pending := by obtain ⟨_, _, _, _, h⟩ := vecCause_events s f v; rw [h]
@[simp] theorem vecCause_host_fns (s : State) (f v : Nat) : (vecCause s f v).host.fns = s.host.fns := by obtain ⟨_, _, _, _, h⟩ := vecCause_events s f v; rw [h]
@[simp] theorem vecCause_host_eps (s : State) (f v : Nat) : (vecCause s f v).host.eps = s.host.eps := by obtain ⟨_, _, _, _, h⟩ := vecCause_events s f v; rw [h]
@[simp] theorem vecCause_host_quotas (s : State) (f v : Nat) : (vecCause s f v).host.quotas = s.host.quotas := by obtain ⟨_, _, _, _, h⟩ := vecCause_events s f v; rw [h]
@[simp] theorem vecCause_host_lines (s : State) (f v : Nat) : (vecCause s f v).host.lines = s.host.lines := by obtain ⟨_, _, _, _, h⟩ := vecCause_events s f v; rw [h]
@[simp] theorem vecCause_host_flushErr (s : State) (f v : Nat) : (vecCause s f v).host.flushErr = s.host.flushErr := by obtain ⟨_, _, _, _, h⟩ := vecCause_events s f v; rw [h]
@[simp] theorem raiseEv_regs (s : State) (src code : Nat) (d : List Nat) : (raiseEv s src code d).regs = s.regs := by obtain ⟨_, _, _, _, h⟩ := raiseEv_events s src code d; rw [h]
@[simp] theorem raiseEv_locks (s : State) (src code : Nat) (d : List Nat) : (raiseEv s src code d).locks = s.locks := by obtain ⟨_, _, _, _, h⟩ := raiseEv_events s src code d; rw [h]
@[simp] theorem raiseEv_latches (s : State) (src code : Nat) (d : List Nat) : (raiseEv s src code d).latches = s.latches := by obtain ⟨_, _, _, _, h⟩ := raiseEv_events s src code d; rw [h]
@[simp] theorem raiseEv_reply (s : State) (src code : Nat) (d : List Nat) : (raiseEv s src code d).reply = s.reply := by obtain ⟨_, _, _, _, h⟩ := raiseEv_events s src code d; rw [h]
@[simp] theorem raiseEv_now (s : State) (src code : Nat) (d : List Nat) : (raiseEv s src code d).now = s.now := by obtain ⟨_, _, _, _, h⟩ := raiseEv_events s src code d; rw [h]
@[simp] theorem raiseEv_freeCtr (s : State) (src code : Nat) (d : List Nat) : (raiseEv s src code d).freeCtr = s.freeCtr := by obtain ⟨_, _, _, _, h⟩ := raiseEv_events s src code d; rw [h]
@[simp] theorem raiseEv_line (s : State) (src code : Nat) (d : List Nat) : (raiseEv s src code d).line = s.line := by obtain ⟨_, _, _, _, h⟩ := raiseEv_events s src code d; rw [h]
@[simp] theorem raiseEv_saCnt (s : State) (src code : Nat) (d : List Nat) : (raiseEv s src code d).saCnt = s.saCnt := by obtain ⟨_, _, _, _, h⟩ := raiseEv_events s src code d; rw [h]
@[simp] theorem raiseEv_domCnt (s : State) (src code : Nat) (d : List Nat) : (raiseEv s src code d).domCnt = s.domCnt := by obtain ⟨_, _, _, _, h⟩ := raiseEv_events s src code d; rw [h]
@[simp] theorem raiseEv_bank (s : State) (src code : Nat) (d : List Nat) : (raiseEv s src code d).bank = s.bank := by obtain ⟨_, _, _, _, h⟩ := raiseEv_events s src code d; rw [h]
@[simp] theorem raiseEv_mt (s : State) (src code : Nat) (d : List Nat) : (raiseEv s src code d).mt = s.mt := by obtain ⟨_, _, _, _, h⟩ := raiseEv_events s src code d; rw [h]
@[simp] theorem raiseEv_gran (s : State) (src code : Nat) (d : List Nat) : (raiseEv s src code d).gran = s.gran := by obtain ⟨_, _, _, _, h⟩ := raiseEv_events s src code d; rw [h]
@[simp] theorem raiseEv_culm (s : State) (src code : Nat) (d : List Nat) : (raiseEv s src code d).culm = s.culm := by obtain ⟨_, _, _, _, h⟩ := raiseEv_events s src code d; rw [h]
@[simp] theorem raiseEv_hstate (s : State) (src code : Nat) (d : List Nat) : (raiseEv s src code d).hstate = s.hstate := by obtain ⟨_, _, _, _, h⟩ := raiseEv_events s src code d; rw [h]
@[simp] theorem raiseEv_harts (s : State) (src code : Nat) (d : List Nat) : (raiseEv s src code d).harts = s.harts := by obtain ⟨_, _, _, _, h⟩ := raiseEv_events s src code d; rw [h]
@[simp] theorem raiseEv_sram (s : State) (src code : Nat) (d : List Nat) : (raiseEv s src code d).sram = s.sram := by obtain ⟨_, _, _, _, h⟩ := raiseEv_events s src code d; rw [h]
@[simp] theorem raiseEv_tags (s : State) (src code : Nat) (d : List Nat) : (raiseEv s src code d).tags = s.tags := by obtain ⟨_, _, _, _, h⟩ := raiseEv_events s src code d; rw [h]
@[simp] theorem raiseEv_badTag (s : State) (src code : Nat) (d : List Nat) : (raiseEv s src code d).badTag = s.badTag := by obtain ⟨_, _, _, _, h⟩ := raiseEv_events s src code d; rw [h]
@[simp] theorem raiseEv_badLane (s : State) (src code : Nat) (d : List Nat) : (raiseEv s src code d).badLane = s.badLane := by obtain ⟨_, _, _, _, h⟩ := raiseEv_events s src code d; rw [h]
@[simp] theorem raiseEv_rc (s : State) (src code : Nat) (d : List Nat) : (raiseEv s src code d).rc = s.rc := by obtain ⟨_, _, _, _, h⟩ := raiseEv_events s src code d; rw [h]
@[simp] theorem raiseEv_dma (s : State) (src code : Nat) (d : List Nat) : (raiseEv s src code d).dma = s.dma := by obtain ⟨_, _, _, _, h⟩ := raiseEv_events s src code d; rw [h]
@[simp] theorem raiseEv_ord (s : State) (src code : Nat) (d : List Nat) : (raiseEv s src code d).ord = s.ord := by obtain ⟨_, _, _, _, h⟩ := raiseEv_events s src code d; rw [h]
@[simp] theorem raiseEv_rng (s : State) (src code : Nat) (d : List Nat) : (raiseEv s src code d).rng = s.rng := by obtain ⟨_, _, _, _, h⟩ := raiseEv_events s src code d; rw [h]
@[simp] theorem raiseEv_fl (s : State) (src code : Nat) (d : List Nat) : (raiseEv s src code d).fl = s.fl := by obtain ⟨_, _, _, _, h⟩ := raiseEv_events s src code d; rw [h]
@[simp] theorem raiseEv_li (s : State) (src code : Nat) (d : List Nat) : (raiseEv s src code d).li = s.li := by obtain ⟨_, _, _, _, h⟩ := raiseEv_events s src code d; rw [h]
@[simp] theorem raiseEv_lc (s : State) (src code : Nat) (d : List Nat) : (raiseEv s src code d).lc = s.lc := by obtain ⟨_, _, _, _, h⟩ := raiseEv_events s src code d; rw [h]
@[simp] theorem raiseEv_level (s : State) (src code : Nat) (d : List Nat) : (raiseEv s src code d).level = s.level := by obtain ⟨_, _, _, _, h⟩ := raiseEv_events s src code d; rw [h]
@[simp] theorem raiseEv_tm (s : State) (src code : Nat) (d : List Nat) : (raiseEv s src code d).tm = s.tm := by obtain ⟨_, _, _, _, h⟩ := raiseEv_events s src code d; rw [h]
@[simp] theorem raiseEv_pw (s : State) (src code : Nat) (d : List Nat) : (raiseEv s src code d).pw = s.pw := by obtain ⟨_, _, _, _, h⟩ := raiseEv_events s src code d; rw [h]
@[simp] theorem raiseEv_tag (s : State) (src code : Nat) (d : List Nat) : (raiseEv s src code d).tag = s.tag := by obtain ⟨_, _, _, _, h⟩ := raiseEv_events s src code d; rw [h]
@[simp] theorem raiseEv_cs (s : State) (src code : Nat) (d : List Nat) : (raiseEv s src code d).cs = s.cs := by obtain ⟨_, _, _, _, h⟩ := raiseEv_events s src code d; rw [h]
@[simp] theorem raiseEv_rmSram (s : State) (src code : Nat) (d : List Nat) : (raiseEv s src code d).rmSram = s.rmSram := by obtain ⟨_, _, _, _, h⟩ := raiseEv_events s src code d; rw [h]
@[simp] theorem raiseEv_rmLine (s : State) (src code : Nat) (d : List Nat) : (raiseEv s src code d).rmLine = s.rmLine := by obtain ⟨_, _, _, _, h⟩ := raiseEv_events s src code d; rw [h]
@[simp] theorem raiseEv_upd (s : State) (src code : Nat) (d : List Nat) : (raiseEv s src code d).upd = s.upd := by obtain ⟨_, _, _, _, h⟩ := raiseEv_events s src code d; rw [h]
@[simp] theorem raiseEv_pending (s : State) (src code : Nat) (d : List Nat) : (raiseEv s src code d).pending = s.pending := by obtain ⟨_, _, _, _, h⟩ := raiseEv_events s src code d; rw [h]
@[simp] theorem raiseEv_host_fns (s : State) (src code : Nat) (d : List Nat) : (raiseEv s src code d).host.fns = s.host.fns := by obtain ⟨_, _, _, _, h⟩ := raiseEv_events s src code d; rw [h]
@[simp] theorem raiseEv_host_eps (s : State) (src code : Nat) (d : List Nat) : (raiseEv s src code d).host.eps = s.host.eps := by obtain ⟨_, _, _, _, h⟩ := raiseEv_events s src code d; rw [h]
@[simp] theorem raiseEv_host_quotas (s : State) (src code : Nat) (d : List Nat) : (raiseEv s src code d).host.quotas = s.host.quotas := by obtain ⟨_, _, _, _, h⟩ := raiseEv_events s src code d; rw [h]
@[simp] theorem raiseEv_host_lines (s : State) (src code : Nat) (d : List Nat) : (raiseEv s src code d).host.lines = s.host.lines := by obtain ⟨_, _, _, _, h⟩ := raiseEv_events s src code d; rw [h]
@[simp] theorem raiseEv_host_flushErr (s : State) (src code : Nat) (d : List Nat) : (raiseEv s src code d).host.flushErr = s.host.flushErr := by obtain ⟨_, _, _, _, h⟩ := raiseEv_events s src code d; rw [h]
@[simp] theorem raise_regs (s : State) (src : Nat) (d : List Nat) : (raise s src d).regs = s.regs := by obtain ⟨_, _, _, _, h⟩ := raise_events s src d; rw [h]
@[simp] theorem raise_locks (s : State) (src : Nat) (d : List Nat) : (raise s src d).locks = s.locks := by obtain ⟨_, _, _, _, h⟩ := raise_events s src d; rw [h]
@[simp] theorem raise_latches (s : State) (src : Nat) (d : List Nat) : (raise s src d).latches = s.latches := by obtain ⟨_, _, _, _, h⟩ := raise_events s src d; rw [h]
@[simp] theorem raise_reply (s : State) (src : Nat) (d : List Nat) : (raise s src d).reply = s.reply := by obtain ⟨_, _, _, _, h⟩ := raise_events s src d; rw [h]
@[simp] theorem raise_now (s : State) (src : Nat) (d : List Nat) : (raise s src d).now = s.now := by obtain ⟨_, _, _, _, h⟩ := raise_events s src d; rw [h]
@[simp] theorem raise_freeCtr (s : State) (src : Nat) (d : List Nat) : (raise s src d).freeCtr = s.freeCtr := by obtain ⟨_, _, _, _, h⟩ := raise_events s src d; rw [h]
@[simp] theorem raise_line (s : State) (src : Nat) (d : List Nat) : (raise s src d).line = s.line := by obtain ⟨_, _, _, _, h⟩ := raise_events s src d; rw [h]
@[simp] theorem raise_saCnt (s : State) (src : Nat) (d : List Nat) : (raise s src d).saCnt = s.saCnt := by obtain ⟨_, _, _, _, h⟩ := raise_events s src d; rw [h]
@[simp] theorem raise_domCnt (s : State) (src : Nat) (d : List Nat) : (raise s src d).domCnt = s.domCnt := by obtain ⟨_, _, _, _, h⟩ := raise_events s src d; rw [h]
@[simp] theorem raise_bank (s : State) (src : Nat) (d : List Nat) : (raise s src d).bank = s.bank := by obtain ⟨_, _, _, _, h⟩ := raise_events s src d; rw [h]
@[simp] theorem raise_mt (s : State) (src : Nat) (d : List Nat) : (raise s src d).mt = s.mt := by obtain ⟨_, _, _, _, h⟩ := raise_events s src d; rw [h]
@[simp] theorem raise_gran (s : State) (src : Nat) (d : List Nat) : (raise s src d).gran = s.gran := by obtain ⟨_, _, _, _, h⟩ := raise_events s src d; rw [h]
@[simp] theorem raise_culm (s : State) (src : Nat) (d : List Nat) : (raise s src d).culm = s.culm := by obtain ⟨_, _, _, _, h⟩ := raise_events s src d; rw [h]
@[simp] theorem raise_hstate (s : State) (src : Nat) (d : List Nat) : (raise s src d).hstate = s.hstate := by obtain ⟨_, _, _, _, h⟩ := raise_events s src d; rw [h]
@[simp] theorem raise_harts (s : State) (src : Nat) (d : List Nat) : (raise s src d).harts = s.harts := by obtain ⟨_, _, _, _, h⟩ := raise_events s src d; rw [h]
@[simp] theorem raise_sram (s : State) (src : Nat) (d : List Nat) : (raise s src d).sram = s.sram := by obtain ⟨_, _, _, _, h⟩ := raise_events s src d; rw [h]
@[simp] theorem raise_tags (s : State) (src : Nat) (d : List Nat) : (raise s src d).tags = s.tags := by obtain ⟨_, _, _, _, h⟩ := raise_events s src d; rw [h]
@[simp] theorem raise_badTag (s : State) (src : Nat) (d : List Nat) : (raise s src d).badTag = s.badTag := by obtain ⟨_, _, _, _, h⟩ := raise_events s src d; rw [h]
@[simp] theorem raise_badLane (s : State) (src : Nat) (d : List Nat) : (raise s src d).badLane = s.badLane := by obtain ⟨_, _, _, _, h⟩ := raise_events s src d; rw [h]
@[simp] theorem raise_rc (s : State) (src : Nat) (d : List Nat) : (raise s src d).rc = s.rc := by obtain ⟨_, _, _, _, h⟩ := raise_events s src d; rw [h]
@[simp] theorem raise_dma (s : State) (src : Nat) (d : List Nat) : (raise s src d).dma = s.dma := by obtain ⟨_, _, _, _, h⟩ := raise_events s src d; rw [h]
@[simp] theorem raise_ord (s : State) (src : Nat) (d : List Nat) : (raise s src d).ord = s.ord := by obtain ⟨_, _, _, _, h⟩ := raise_events s src d; rw [h]
@[simp] theorem raise_rng (s : State) (src : Nat) (d : List Nat) : (raise s src d).rng = s.rng := by obtain ⟨_, _, _, _, h⟩ := raise_events s src d; rw [h]
@[simp] theorem raise_fl (s : State) (src : Nat) (d : List Nat) : (raise s src d).fl = s.fl := by obtain ⟨_, _, _, _, h⟩ := raise_events s src d; rw [h]
@[simp] theorem raise_li (s : State) (src : Nat) (d : List Nat) : (raise s src d).li = s.li := by obtain ⟨_, _, _, _, h⟩ := raise_events s src d; rw [h]
@[simp] theorem raise_lc (s : State) (src : Nat) (d : List Nat) : (raise s src d).lc = s.lc := by obtain ⟨_, _, _, _, h⟩ := raise_events s src d; rw [h]
@[simp] theorem raise_level (s : State) (src : Nat) (d : List Nat) : (raise s src d).level = s.level := by obtain ⟨_, _, _, _, h⟩ := raise_events s src d; rw [h]
@[simp] theorem raise_tm (s : State) (src : Nat) (d : List Nat) : (raise s src d).tm = s.tm := by obtain ⟨_, _, _, _, h⟩ := raise_events s src d; rw [h]
@[simp] theorem raise_pw (s : State) (src : Nat) (d : List Nat) : (raise s src d).pw = s.pw := by obtain ⟨_, _, _, _, h⟩ := raise_events s src d; rw [h]
@[simp] theorem raise_tag (s : State) (src : Nat) (d : List Nat) : (raise s src d).tag = s.tag := by obtain ⟨_, _, _, _, h⟩ := raise_events s src d; rw [h]
@[simp] theorem raise_cs (s : State) (src : Nat) (d : List Nat) : (raise s src d).cs = s.cs := by obtain ⟨_, _, _, _, h⟩ := raise_events s src d; rw [h]
@[simp] theorem raise_rmSram (s : State) (src : Nat) (d : List Nat) : (raise s src d).rmSram = s.rmSram := by obtain ⟨_, _, _, _, h⟩ := raise_events s src d; rw [h]
@[simp] theorem raise_rmLine (s : State) (src : Nat) (d : List Nat) : (raise s src d).rmLine = s.rmLine := by obtain ⟨_, _, _, _, h⟩ := raise_events s src d; rw [h]
@[simp] theorem raise_upd (s : State) (src : Nat) (d : List Nat) : (raise s src d).upd = s.upd := by obtain ⟨_, _, _, _, h⟩ := raise_events s src d; rw [h]
@[simp] theorem raise_pending (s : State) (src : Nat) (d : List Nat) : (raise s src d).pending = s.pending := by obtain ⟨_, _, _, _, h⟩ := raise_events s src d; rw [h]
@[simp] theorem raise_host_fns (s : State) (src : Nat) (d : List Nat) : (raise s src d).host.fns = s.host.fns := by obtain ⟨_, _, _, _, h⟩ := raise_events s src d; rw [h]
@[simp] theorem raise_host_eps (s : State) (src : Nat) (d : List Nat) : (raise s src d).host.eps = s.host.eps := by obtain ⟨_, _, _, _, h⟩ := raise_events s src d; rw [h]
@[simp] theorem raise_host_quotas (s : State) (src : Nat) (d : List Nat) : (raise s src d).host.quotas = s.host.quotas := by obtain ⟨_, _, _, _, h⟩ := raise_events s src d; rw [h]
@[simp] theorem raise_host_lines (s : State) (src : Nat) (d : List Nat) : (raise s src d).host.lines = s.host.lines := by obtain ⟨_, _, _, _, h⟩ := raise_events s src d; rw [h]
@[simp] theorem raise_host_flushErr (s : State) (src : Nat) (d : List Nat) : (raise s src d).host.flushErr = s.host.flushErr := by obtain ⟨_, _, _, _, h⟩ := raise_events s src d; rw [h]
@[simp] theorem refuse_regs (s : State) (a : Nat) : (refuse s a).regs = s.regs := by obtain ⟨_, _, _, _, h⟩ := refuse_events s a; rw [h]
@[simp] theorem refuse_locks (s : State) (a : Nat) : (refuse s a).locks = s.locks := by obtain ⟨_, _, _, _, h⟩ := refuse_events s a; rw [h]
@[simp] theorem refuse_latches (s : State) (a : Nat) : (refuse s a).latches = s.latches := by obtain ⟨_, _, _, _, h⟩ := refuse_events s a; rw [h]
@[simp] theorem refuse_reply (s : State) (a : Nat) : (refuse s a).reply = s.reply := by obtain ⟨_, _, _, _, h⟩ := refuse_events s a; rw [h]
@[simp] theorem refuse_now (s : State) (a : Nat) : (refuse s a).now = s.now := by obtain ⟨_, _, _, _, h⟩ := refuse_events s a; rw [h]
@[simp] theorem refuse_freeCtr (s : State) (a : Nat) : (refuse s a).freeCtr = s.freeCtr := by obtain ⟨_, _, _, _, h⟩ := refuse_events s a; rw [h]
@[simp] theorem refuse_line (s : State) (a : Nat) : (refuse s a).line = s.line := by obtain ⟨_, _, _, _, h⟩ := refuse_events s a; rw [h]
@[simp] theorem refuse_saCnt (s : State) (a : Nat) : (refuse s a).saCnt = s.saCnt := by obtain ⟨_, _, _, _, h⟩ := refuse_events s a; rw [h]
@[simp] theorem refuse_domCnt (s : State) (a : Nat) : (refuse s a).domCnt = s.domCnt := by obtain ⟨_, _, _, _, h⟩ := refuse_events s a; rw [h]
@[simp] theorem refuse_bank (s : State) (a : Nat) : (refuse s a).bank = s.bank := by obtain ⟨_, _, _, _, h⟩ := refuse_events s a; rw [h]
@[simp] theorem refuse_mt (s : State) (a : Nat) : (refuse s a).mt = s.mt := by obtain ⟨_, _, _, _, h⟩ := refuse_events s a; rw [h]
@[simp] theorem refuse_gran (s : State) (a : Nat) : (refuse s a).gran = s.gran := by obtain ⟨_, _, _, _, h⟩ := refuse_events s a; rw [h]
@[simp] theorem refuse_culm (s : State) (a : Nat) : (refuse s a).culm = s.culm := by obtain ⟨_, _, _, _, h⟩ := refuse_events s a; rw [h]
@[simp] theorem refuse_hstate (s : State) (a : Nat) : (refuse s a).hstate = s.hstate := by obtain ⟨_, _, _, _, h⟩ := refuse_events s a; rw [h]
@[simp] theorem refuse_harts (s : State) (a : Nat) : (refuse s a).harts = s.harts := by obtain ⟨_, _, _, _, h⟩ := refuse_events s a; rw [h]
@[simp] theorem refuse_sram (s : State) (a : Nat) : (refuse s a).sram = s.sram := by obtain ⟨_, _, _, _, h⟩ := refuse_events s a; rw [h]
@[simp] theorem refuse_tags (s : State) (a : Nat) : (refuse s a).tags = s.tags := by obtain ⟨_, _, _, _, h⟩ := refuse_events s a; rw [h]
@[simp] theorem refuse_badTag (s : State) (a : Nat) : (refuse s a).badTag = s.badTag := by obtain ⟨_, _, _, _, h⟩ := refuse_events s a; rw [h]
@[simp] theorem refuse_badLane (s : State) (a : Nat) : (refuse s a).badLane = s.badLane := by obtain ⟨_, _, _, _, h⟩ := refuse_events s a; rw [h]
@[simp] theorem refuse_rc (s : State) (a : Nat) : (refuse s a).rc = s.rc := by obtain ⟨_, _, _, _, h⟩ := refuse_events s a; rw [h]
@[simp] theorem refuse_dma (s : State) (a : Nat) : (refuse s a).dma = s.dma := by obtain ⟨_, _, _, _, h⟩ := refuse_events s a; rw [h]
@[simp] theorem refuse_ord (s : State) (a : Nat) : (refuse s a).ord = s.ord := by obtain ⟨_, _, _, _, h⟩ := refuse_events s a; rw [h]
@[simp] theorem refuse_rng (s : State) (a : Nat) : (refuse s a).rng = s.rng := by obtain ⟨_, _, _, _, h⟩ := refuse_events s a; rw [h]
@[simp] theorem refuse_fl (s : State) (a : Nat) : (refuse s a).fl = s.fl := by obtain ⟨_, _, _, _, h⟩ := refuse_events s a; rw [h]
@[simp] theorem refuse_li (s : State) (a : Nat) : (refuse s a).li = s.li := by obtain ⟨_, _, _, _, h⟩ := refuse_events s a; rw [h]
@[simp] theorem refuse_lc (s : State) (a : Nat) : (refuse s a).lc = s.lc := by obtain ⟨_, _, _, _, h⟩ := refuse_events s a; rw [h]
@[simp] theorem refuse_level (s : State) (a : Nat) : (refuse s a).level = s.level := by obtain ⟨_, _, _, _, h⟩ := refuse_events s a; rw [h]
@[simp] theorem refuse_tm (s : State) (a : Nat) : (refuse s a).tm = s.tm := by obtain ⟨_, _, _, _, h⟩ := refuse_events s a; rw [h]
@[simp] theorem refuse_pw (s : State) (a : Nat) : (refuse s a).pw = s.pw := by obtain ⟨_, _, _, _, h⟩ := refuse_events s a; rw [h]
@[simp] theorem refuse_tag (s : State) (a : Nat) : (refuse s a).tag = s.tag := by obtain ⟨_, _, _, _, h⟩ := refuse_events s a; rw [h]
@[simp] theorem refuse_cs (s : State) (a : Nat) : (refuse s a).cs = s.cs := by obtain ⟨_, _, _, _, h⟩ := refuse_events s a; rw [h]
@[simp] theorem refuse_rmSram (s : State) (a : Nat) : (refuse s a).rmSram = s.rmSram := by obtain ⟨_, _, _, _, h⟩ := refuse_events s a; rw [h]
@[simp] theorem refuse_rmLine (s : State) (a : Nat) : (refuse s a).rmLine = s.rmLine := by obtain ⟨_, _, _, _, h⟩ := refuse_events s a; rw [h]
@[simp] theorem refuse_upd (s : State) (a : Nat) : (refuse s a).upd = s.upd := by obtain ⟨_, _, _, _, h⟩ := refuse_events s a; rw [h]
@[simp] theorem refuse_pending (s : State) (a : Nat) : (refuse s a).pending = s.pending := by obtain ⟨_, _, _, _, h⟩ := refuse_events s a; rw [h]
@[simp] theorem refuse_host_fns (s : State) (a : Nat) : (refuse s a).host.fns = s.host.fns := by obtain ⟨_, _, _, _, h⟩ := refuse_events s a; rw [h]
@[simp] theorem refuse_host_eps (s : State) (a : Nat) : (refuse s a).host.eps = s.host.eps := by obtain ⟨_, _, _, _, h⟩ := refuse_events s a; rw [h]
@[simp] theorem refuse_host_quotas (s : State) (a : Nat) : (refuse s a).host.quotas = s.host.quotas := by obtain ⟨_, _, _, _, h⟩ := refuse_events s a; rw [h]
@[simp] theorem refuse_host_lines (s : State) (a : Nat) : (refuse s a).host.lines = s.host.lines := by obtain ⟨_, _, _, _, h⟩ := refuse_events s a; rw [h]
@[simp] theorem refuse_host_flushErr (s : State) (a : Nat) : (refuse s a).host.flushErr = s.host.flushErr := by obtain ⟨_, _, _, _, h⟩ := refuse_events s a; rw [h]
@[simp] theorem cinc_regs (s : State) (a : Nat) : (cinc s a).regs = s.regs := rfl
@[simp] theorem cinc_locks (s : State) (a : Nat) : (cinc s a).locks = s.locks := rfl
@[simp] theorem cinc_latches (s : State) (a : Nat) : (cinc s a).latches = s.latches := rfl
@[simp] theorem cinc_reply (s : State) (a : Nat) : (cinc s a).reply = s.reply := rfl
@[simp] theorem cinc_sent (s : State) (a : Nat) : (cinc s a).sent = s.sent := rfl
@[simp] theorem cinc_now (s : State) (a : Nat) : (cinc s a).now = s.now := rfl
@[simp] theorem cinc_freeCtr (s : State) (a : Nat) : (cinc s a).freeCtr = s.freeCtr := rfl
@[simp] theorem cinc_line (s : State) (a : Nat) : (cinc s a).line = s.line := rfl
@[simp] theorem cinc_saCnt (s : State) (a : Nat) : (cinc s a).saCnt = s.saCnt := rfl
@[simp] theorem cinc_domCnt (s : State) (a : Nat) : (cinc s a).domCnt = s.domCnt := rfl
@[simp] theorem cinc_bank (s : State) (a : Nat) : (cinc s a).bank = s.bank := rfl
@[simp] theorem cinc_mt (s : State) (a : Nat) : (cinc s a).mt = s.mt := rfl
@[simp] theorem cinc_gran (s : State) (a : Nat) : (cinc s a).gran = s.gran := rfl
@[simp] theorem cinc_culm (s : State) (a : Nat) : (cinc s a).culm = s.culm := rfl
@[simp] theorem cinc_ev (s : State) (a : Nat) : (cinc s a).ev = s.ev := rfl
@[simp] theorem cinc_host (s : State) (a : Nat) : (cinc s a).host = s.host := rfl
@[simp] theorem cinc_hstate (s : State) (a : Nat) : (cinc s a).hstate = s.hstate := rfl
@[simp] theorem cinc_harts (s : State) (a : Nat) : (cinc s a).harts = s.harts := rfl
@[simp] theorem cinc_sram (s : State) (a : Nat) : (cinc s a).sram = s.sram := rfl
@[simp] theorem cinc_tags (s : State) (a : Nat) : (cinc s a).tags = s.tags := rfl
@[simp] theorem cinc_badTag (s : State) (a : Nat) : (cinc s a).badTag = s.badTag := rfl
@[simp] theorem cinc_badLane (s : State) (a : Nat) : (cinc s a).badLane = s.badLane := rfl
@[simp] theorem cinc_rc (s : State) (a : Nat) : (cinc s a).rc = s.rc := rfl
@[simp] theorem cinc_dma (s : State) (a : Nat) : (cinc s a).dma = s.dma := rfl
@[simp] theorem cinc_ord (s : State) (a : Nat) : (cinc s a).ord = s.ord := rfl
@[simp] theorem cinc_rng (s : State) (a : Nat) : (cinc s a).rng = s.rng := rfl
@[simp] theorem cinc_fl (s : State) (a : Nat) : (cinc s a).fl = s.fl := rfl
@[simp] theorem cinc_li (s : State) (a : Nat) : (cinc s a).li = s.li := rfl
@[simp] theorem cinc_lc (s : State) (a : Nat) : (cinc s a).lc = s.lc := rfl
@[simp] theorem cinc_level (s : State) (a : Nat) : (cinc s a).level = s.level := rfl
@[simp] theorem cinc_tm (s : State) (a : Nat) : (cinc s a).tm = s.tm := rfl
@[simp] theorem cinc_pw (s : State) (a : Nat) : (cinc s a).pw = s.pw := rfl
@[simp] theorem cinc_tag (s : State) (a : Nat) : (cinc s a).tag = s.tag := rfl
@[simp] theorem cinc_cs (s : State) (a : Nat) : (cinc s a).cs = s.cs := rfl
@[simp] theorem cinc_rmSram (s : State) (a : Nat) : (cinc s a).rmSram = s.rmSram := rfl
@[simp] theorem cinc_rmLine (s : State) (a : Nat) : (cinc s a).rmLine = s.rmLine := rfl
@[simp] theorem cinc_upd (s : State) (a : Nat) : (cinc s a).upd = s.upd := rfl
@[simp] theorem cinc_pending (s : State) (a : Nat) : (cinc s a).pending = s.pending := rfl

/-! ### Reads that an update leaves alone -/

@[simp] theorem rget_rset (s : State) (a : Nat) (v : W32) : rget (rset s a v) a = v := by simp [rget]
theorem rget_rset_ne (s : State) {a b : Nat} (v : W32) (h : b ≠ a) : rget (rset s a v) b = rget s b := by
  simp [rget, tget_tput_ne _ _ _ h]
theorem rget_rset_if (s : State) (a b : Nat) (v : W32) : rget (rset s a v) b = if b = a then v else rget s b := by
  simp [rget, tget_tput_if]
@[simp] theorem sideOf_setSide (s : State) (p : Nat) (d : Side) (x : SideSt) : sideOf (setSide s p d x) p d = x := by simp [sideOf]
@[simp] theorem fnOf_setFn (s : State) (f : Nat) (x : FnSt) : fnOf (setFn s f x) f = x := by simp [fnOf]
@[simp] theorem epOf_setEp (s : State) (e : Nat) (x : EpSt) : epOf (setEp s e x) e = x := by simp [epOf]
@[simp] theorem vecOf_setVec (s : State) (f v : Nat) (x : VecSt) : vecOf (setVec s f v x) f v = x := by simp [vecOf]
@[simp] theorem blockOf_setBlock (s : State) (b : Nat) (x : BlockSt) : blockOf (setBlock s b x) b = x := by simp [blockOf]
@[simp] theorem framesOf_setFrames (s : State) (p : Nat) (d : Dir) (l : List Frame) : framesOf (setFrames s p d l) p d = l := by
  simp [framesOf]
@[simp] theorem slotOf_setSlot (s : State) (n : Nat) (e : SaEntry) : slotOf (setSlot s n e) n = e := by simp [slotOf]
@[simp] theorem hartOf_setHart (s : State) (h : Nat) (x : Hart) : hartOf (setHart s h x) h = x := by simp [hartOf]
@[simp] theorem hstOf_setHst (s : State) (h : Nat) (x : HState) : hstOf (setHst s h x) h = x := by simp [hstOf]
theorem hartOf_setHart_ne (s : State) {h k : Nat} (x : Hart) (n : k ≠ h) : hartOf (setHart s h x) k = hartOf s k := by
  simp [hartOf, tget_tput_ne _ _ _ n]
@[simp] theorem tillerOf_setTiller (s : State) (t : Nat) (x : Tiller) : tillerOf (setTiller s t x) t = x := by simp [tillerOf, setTiller]
/-- A read of SRAM octets just written gives them. -/
theorem memRead_memWrite (s : State) (a : Nat) (l : List Byte) : memRead (memWrite s a l) a l.length = l := by
  simp [memRead, tgets_tputs]

end Sys2Proof.Machine
end

