-- ==== Sys2Proof/Laws/Access.lean ====
section
/-! SUPPORT. Each reading of the state through each update that leaves it alone. -/

namespace Sys2Proof.Machine

/-! ### fnOf -/

@[simp] theorem fnOf_rset (s : State) (a : Nat) (v : W32) (i' : Nat) : fnOf (rset s a v) i' = fnOf s i' := rfl
@[simp] theorem fnOf_cadd (s : State) (a n : Nat) (i' : Nat) : fnOf (cadd s a n) i' = fnOf s i' := rfl
@[simp] theorem fnOf_send (s : State) (x : Sent) (i' : Nat) : fnOf (send s x) i' = fnOf s i' := rfl
@[simp] theorem fnOf_answer (s : State) (l : List Nat) (i' : Nat) : fnOf (answer s l) i' = fnOf s i' := rfl
@[simp] theorem fnOf_freed (s : State) (i' : Nat) : fnOf (freed s) i' = fnOf s i' := rfl
@[simp] theorem fnOf_setEp (s : State) (e : Nat) (x : EpSt) (i' : Nat) : fnOf (setEp s e x) i' = fnOf s i' := rfl
@[simp] theorem fnOf_setVec (s : State) (f v : Nat) (x : VecSt) (i' : Nat) : fnOf (setVec s f v x) i' = fnOf s i' := rfl
@[simp] theorem fnOf_setSide (s : State) (p : Nat) (d : Side) (x : SideSt) (i' : Nat) : fnOf (setSide s p d x) i' = fnOf s i' := rfl
@[simp] theorem fnOf_setBlock (s : State) (b : Nat) (x : BlockSt) (i' : Nat) : fnOf (setBlock s b x) i' = fnOf s i' := rfl
@[simp] theorem fnOf_setLane (s : State) (b n : Nat) (x : LaneSt) (i' : Nat) : fnOf (setLane s b n x) i' = fnOf s i' := rfl
@[simp] theorem fnOf_setFrames (s : State) (p : Nat) (d : Dir) (l : List Frame) (i' : Nat) : fnOf (setFrames s p d l) i' = fnOf s i' := rfl
@[simp] theorem fnOf_setSlot (s : State) (n : Nat) (e : SaEntry) (i' : Nat) : fnOf (setSlot s n e) i' = fnOf s i' := rfl
@[simp] theorem fnOf_setHart (s : State) (h : Nat) (x : Hart) (i' : Nat) : fnOf (setHart s h x) i' = fnOf s i' := rfl
@[simp] theorem fnOf_setHst (s : State) (h : Nat) (x : HState) (i' : Nat) : fnOf (setHst s h x) i' = fnOf s i' := rfl
@[simp] theorem fnOf_setJobs (s : State) (l : List Job) (i' : Nat) : fnOf (setJobs s l) i' = fnOf s i' := rfl
@[simp] theorem fnOf_setDma (s : State) (c : Nat) (x : DmaSt) (i' : Nat) : fnOf (setDma s c x) i' = fnOf s i' := rfl
@[simp] theorem fnOf_setMon (s : State) (m : Nat) (x : MonSt) (i' : Nat) : fnOf (setMon s m x) i' = fnOf s i' := rfl
@[simp] theorem fnOf_setPw (s : State) (x : PwSt) (i' : Nat) : fnOf (setPw s x) i' = fnOf s i' := rfl
@[simp] theorem fnOf_setLc (s : State) (x : LcSt) (i' : Nat) : fnOf (setLc s x) i' = fnOf s i' := rfl
@[simp] theorem fnOf_setCs (s : State) (x : CsSt) (i' : Nat) : fnOf (setCs s x) i' = fnOf s i' := rfl
@[simp] theorem fnOf_setFl (s : State) (x : FlSt) (i' : Nat) : fnOf (setFl s x) i' = fnOf s i' := rfl
@[simp] theorem fnOf_setLi (s : State) (x : LiSt) (i' : Nat) : fnOf (setLi s x) i' = fnOf s i' := rfl
@[simp] theorem fnOf_setMt (s : State) (x : MtSt) (i' : Nat) : fnOf (setMt s x) i' = fnOf s i' := rfl
@[simp] theorem fnOf_setRng (s : State) (x : RngSt) (i' : Nat) : fnOf (setRng s x) i' = fnOf s i' := rfl
@[simp] theorem fnOf_setEv (s : State) (x : EvSt) (i' : Nat) : fnOf (setEv s x) i' = fnOf s i' := rfl
@[simp] theorem fnOf_setUpd (s : State) (x : UpdSt) (i' : Nat) : fnOf (setUpd s x) i' = fnOf s i' := rfl
@[simp] theorem fnOf_setTagSt (s : State) (x : TagSt) (i' : Nat) : fnOf (setTagSt s x) i' = fnOf s i' := rfl
@[simp] theorem fnOf_memWrite (s : State) (a : Nat) (l : List Byte) (i' : Nat) : fnOf (memWrite s a l) i' = fnOf s i' := rfl
@[simp] theorem fnOf_memZero (s : State) (a n : Nat) (i' : Nat) : fnOf (memZero s a n) i' = fnOf s i' := rfl
@[simp] theorem fnOf_setTag (s : State) (g v : Nat) (i' : Nat) : fnOf (setTag s g v) i' = fnOf s i' := rfl
@[simp] theorem fnOf_cinc (s : State) (y : Nat) (i' : Nat) : fnOf (cinc s y) i' = fnOf s i' := rfl
@[simp] theorem fnOf_modFn (s : State) (f : Nat) (y : FnSt → FnSt) : fnOf (modFn s f y) f = y (fnOf s f) := by simp [modFn]
@[simp] theorem fnOf_rsetf (s : State) (y m0 l0 v : Nat) (i' : Nat) : fnOf (rsetf s y m0 l0 v) i' = fnOf s i' := rfl
@[simp] theorem fnOf_vecTry (s : State) (f v : Nat) (i' : Nat) : fnOf (vecTry s f v) i' = fnOf s i' := by simp [fnOf]
@[simp] theorem fnOf_vecCause (s : State) (f v : Nat) (i' : Nat) : fnOf (vecCause s f v) i' = fnOf s i' := by simp [fnOf]
@[simp] theorem fnOf_raiseEv (s : State) (src code : Nat) (d : List Nat) (i' : Nat) : fnOf (raiseEv s src code d) i' = fnOf s i' := by simp [fnOf]
@[simp] theorem fnOf_raise (s : State) (src : Nat) (d : List Nat) (i' : Nat) : fnOf (raise s src d) i' = fnOf s i' := by simp [fnOf]
@[simp] theorem fnOf_refuse (s : State) (a : Nat) (i' : Nat) : fnOf (refuse s a) i' = fnOf s i' := by simp [fnOf]

/-! ### epOf -/

@[simp] theorem epOf_rset (s : State) (a : Nat) (v : W32) (i' : Nat) : epOf (rset s a v) i' = epOf s i' := rfl
@[simp] theorem epOf_cadd (s : State) (a n : Nat) (i' : Nat) : epOf (cadd s a n) i' = epOf s i' := rfl
@[simp] theorem epOf_send (s : State) (x : Sent) (i' : Nat) : epOf (send s x) i' = epOf s i' := rfl
@[simp] theorem epOf_answer (s : State) (l : List Nat) (i' : Nat) : epOf (answer s l) i' = epOf s i' := rfl
@[simp] theorem epOf_freed (s : State) (i' : Nat) : epOf (freed s) i' = epOf s i' := rfl
@[simp] theorem epOf_setFn (s : State) (f : Nat) (x : FnSt) (i' : Nat) : epOf (setFn s f x) i' = epOf s i' := rfl
@[simp] theorem epOf_setVec (s : State) (f v : Nat) (x : VecSt) (i' : Nat) : epOf (setVec s f v x) i' = epOf s i' := rfl
@[simp] theorem epOf_setSide (s : State) (p : Nat) (d : Side) (x : SideSt) (i' : Nat) : epOf (setSide s p d x) i' = epOf s i' := rfl
@[simp] theorem epOf_setBlock (s : State) (b : Nat) (x : BlockSt) (i' : Nat) : epOf (setBlock s b x) i' = epOf s i' := rfl
@[simp] theorem epOf_setLane (s : State) (b n : Nat) (x : LaneSt) (i' : Nat) : epOf (setLane s b n x) i' = epOf s i' := rfl
@[simp] theorem epOf_setFrames (s : State) (p : Nat) (d : Dir) (l : List Frame) (i' : Nat) : epOf (setFrames s p d l) i' = epOf s i' := rfl
@[simp] theorem epOf_setSlot (s : State) (n : Nat) (e : SaEntry) (i' : Nat) : epOf (setSlot s n e) i' = epOf s i' := rfl
@[simp] theorem epOf_setHart (s : State) (h : Nat) (x : Hart) (i' : Nat) : epOf (setHart s h x) i' = epOf s i' := rfl
@[simp] theorem epOf_setHst (s : State) (h : Nat) (x : HState) (i' : Nat) : epOf (setHst s h x) i' = epOf s i' := rfl
@[simp] theorem epOf_setJobs (s : State) (l : List Job) (i' : Nat) : epOf (setJobs s l) i' = epOf s i' := rfl
@[simp] theorem epOf_setDma (s : State) (c : Nat) (x : DmaSt) (i' : Nat) : epOf (setDma s c x) i' = epOf s i' := rfl
@[simp] theorem epOf_setMon (s : State) (m : Nat) (x : MonSt) (i' : Nat) : epOf (setMon s m x) i' = epOf s i' := rfl
@[simp] theorem epOf_setPw (s : State) (x : PwSt) (i' : Nat) : epOf (setPw s x) i' = epOf s i' := rfl
@[simp] theorem epOf_setLc (s : State) (x : LcSt) (i' : Nat) : epOf (setLc s x) i' = epOf s i' := rfl
@[simp] theorem epOf_setCs (s : State) (x : CsSt) (i' : Nat) : epOf (setCs s x) i' = epOf s i' := rfl
@[simp] theorem epOf_setFl (s : State) (x : FlSt) (i' : Nat) : epOf (setFl s x) i' = epOf s i' := rfl
@[simp] theorem epOf_setLi (s : State) (x : LiSt) (i' : Nat) : epOf (setLi s x) i' = epOf s i' := rfl
@[simp] theorem epOf_setMt (s : State) (x : MtSt) (i' : Nat) : epOf (setMt s x) i' = epOf s i' := rfl
@[simp] theorem epOf_setRng (s : State) (x : RngSt) (i' : Nat) : epOf (setRng s x) i' = epOf s i' := rfl
@[simp] theorem epOf_setEv (s : State) (x : EvSt) (i' : Nat) : epOf (setEv s x) i' = epOf s i' := rfl
@[simp] theorem epOf_setUpd (s : State) (x : UpdSt) (i' : Nat) : epOf (setUpd s x) i' = epOf s i' := rfl
@[simp] theorem epOf_setTagSt (s : State) (x : TagSt) (i' : Nat) : epOf (setTagSt s x) i' = epOf s i' := rfl
@[simp] theorem epOf_memWrite (s : State) (a : Nat) (l : List Byte) (i' : Nat) : epOf (memWrite s a l) i' = epOf s i' := rfl
@[simp] theorem epOf_memZero (s : State) (a n : Nat) (i' : Nat) : epOf (memZero s a n) i' = epOf s i' := rfl
@[simp] theorem epOf_setTag (s : State) (g v : Nat) (i' : Nat) : epOf (setTag s g v) i' = epOf s i' := rfl
@[simp] theorem epOf_cinc (s : State) (y : Nat) (i' : Nat) : epOf (cinc s y) i' = epOf s i' := rfl
@[simp] theorem epOf_modFn (s : State) (f : Nat) (y : FnSt → FnSt) (i' : Nat) : epOf (modFn s f y) i' = epOf s i' := rfl
@[simp] theorem epOf_rsetf (s : State) (y m0 l0 v : Nat) (i' : Nat) : epOf (rsetf s y m0 l0 v) i' = epOf s i' := rfl
@[simp] theorem epOf_vecTry (s : State) (f v : Nat) (i' : Nat) : epOf (vecTry s f v) i' = epOf s i' := by simp [epOf]
@[simp] theorem epOf_vecCause (s : State) (f v : Nat) (i' : Nat) : epOf (vecCause s f v) i' = epOf s i' := by simp [epOf]
@[simp] theorem epOf_raiseEv (s : State) (src code : Nat) (d : List Nat) (i' : Nat) : epOf (raiseEv s src code d) i' = epOf s i' := by simp [epOf]
@[simp] theorem epOf_raise (s : State) (src : Nat) (d : List Nat) (i' : Nat) : epOf (raise s src d) i' = epOf s i' := by simp [epOf]
@[simp] theorem epOf_refuse (s : State) (a : Nat) (i' : Nat) : epOf (refuse s a) i' = epOf s i' := by simp [epOf]

/-! ### vecOf -/

@[simp] theorem vecOf_rset (s : State) (a : Nat) (v : W32) (i' j' : Nat) : vecOf (rset s a v) i' j' = vecOf s i' j' := rfl
@[simp] theorem vecOf_cadd (s : State) (a n : Nat) (i' j' : Nat) : vecOf (cadd s a n) i' j' = vecOf s i' j' := rfl
@[simp] theorem vecOf_send (s : State) (x : Sent) (i' j' : Nat) : vecOf (send s x) i' j' = vecOf s i' j' := rfl
@[simp] theorem vecOf_answer (s : State) (l : List Nat) (i' j' : Nat) : vecOf (answer s l) i' j' = vecOf s i' j' := rfl
@[simp] theorem vecOf_freed (s : State) (i' j' : Nat) : vecOf (freed s) i' j' = vecOf s i' j' := rfl
@[simp] theorem vecOf_setFn (s : State) (f : Nat) (x : FnSt) (i' j' : Nat) : vecOf (setFn s f x) i' j' = vecOf s i' j' := rfl
@[simp] theorem vecOf_setEp (s : State) (e : Nat) (x : EpSt) (i' j' : Nat) : vecOf (setEp s e x) i' j' = vecOf s i' j' := rfl
@[simp] theorem vecOf_setSide (s : State) (p : Nat) (d : Side) (x : SideSt) (i' j' : Nat) : vecOf (setSide s p d x) i' j' = vecOf s i' j' := rfl
@[simp] theorem vecOf_setBlock (s : State) (b : Nat) (x : BlockSt) (i' j' : Nat) : vecOf (setBlock s b x) i' j' = vecOf s i' j' := rfl
@[simp] theorem vecOf_setLane (s : State) (b n : Nat) (x : LaneSt) (i' j' : Nat) : vecOf (setLane s b n x) i' j' = vecOf s i' j' := rfl
@[simp] theorem vecOf_setFrames (s : State) (p : Nat) (d : Dir) (l : List Frame) (i' j' : Nat) : vecOf (setFrames s p d l) i' j' = vecOf s i' j' := rfl
@[simp] theorem vecOf_setSlot (s : State) (n : Nat) (e : SaEntry) (i' j' : Nat) : vecOf (setSlot s n e) i' j' = vecOf s i' j' := rfl
@[simp] theorem vecOf_setHart (s : State) (h : Nat) (x : Hart) (i' j' : Nat) : vecOf (setHart s h x) i' j' = vecOf s i' j' := rfl
@[simp] theorem vecOf_setHst (s : State) (h : Nat) (x : HState) (i' j' : Nat) : vecOf (setHst s h x) i' j' = vecOf s i' j' := rfl
@[simp] theorem vecOf_setJobs (s : State) (l : List Job) (i' j' : Nat) : vecOf (setJobs s l) i' j' = vecOf s i' j' := rfl
@[simp] theorem vecOf_setDma (s : State) (c : Nat) (x : DmaSt) (i' j' : Nat) : vecOf (setDma s c x) i' j' = vecOf s i' j' := rfl
@[simp] theorem vecOf_setMon (s : State) (m : Nat) (x : MonSt) (i' j' : Nat) : vecOf (setMon s m x) i' j' = vecOf s i' j' := rfl
@[simp] theorem vecOf_setPw (s : State) (x : PwSt) (i' j' : Nat) : vecOf (setPw s x) i' j' = vecOf s i' j' := rfl
@[simp] theorem vecOf_setLc (s : State) (x : LcSt) (i' j' : Nat) : vecOf (setLc s x) i' j' = vecOf s i' j' := rfl
@[simp] theorem vecOf_setCs (s : State) (x : CsSt) (i' j' : Nat) : vecOf (setCs s x) i' j' = vecOf s i' j' := rfl
@[simp] theorem vecOf_setFl (s : State) (x : FlSt) (i' j' : Nat) : vecOf (setFl s x) i' j' = vecOf s i' j' := rfl
@[simp] theorem vecOf_setLi (s : State) (x : LiSt) (i' j' : Nat) : vecOf (setLi s x) i' j' = vecOf s i' j' := rfl
@[simp] theorem vecOf_setMt (s : State) (x : MtSt) (i' j' : Nat) : vecOf (setMt s x) i' j' = vecOf s i' j' := rfl
@[simp] theorem vecOf_setRng (s : State) (x : RngSt) (i' j' : Nat) : vecOf (setRng s x) i' j' = vecOf s i' j' := rfl
@[simp] theorem vecOf_setEv (s : State) (x : EvSt) (i' j' : Nat) : vecOf (setEv s x) i' j' = vecOf s i' j' := rfl
@[simp] theorem vecOf_setUpd (s : State) (x : UpdSt) (i' j' : Nat) : vecOf (setUpd s x) i' j' = vecOf s i' j' := rfl
@[simp] theorem vecOf_setTagSt (s : State) (x : TagSt) (i' j' : Nat) : vecOf (setTagSt s x) i' j' = vecOf s i' j' := rfl
@[simp] theorem vecOf_memWrite (s : State) (a : Nat) (l : List Byte) (i' j' : Nat) : vecOf (memWrite s a l) i' j' = vecOf s i' j' := rfl
@[simp] theorem vecOf_memZero (s : State) (a n : Nat) (i' j' : Nat) : vecOf (memZero s a n) i' j' = vecOf s i' j' := rfl
@[simp] theorem vecOf_setTag (s : State) (g v : Nat) (i' j' : Nat) : vecOf (setTag s g v) i' j' = vecOf s i' j' := rfl
@[simp] theorem vecOf_cinc (s : State) (y : Nat) (i' j' : Nat) : vecOf (cinc s y) i' j' = vecOf s i' j' := rfl
@[simp] theorem vecOf_modFn (s : State) (f : Nat) (y : FnSt → FnSt) (i' j' : Nat) : vecOf (modFn s f y) i' j' = vecOf s i' j' := rfl
@[simp] theorem vecOf_rsetf (s : State) (y m0 l0 v : Nat) (i' j' : Nat) : vecOf (rsetf s y m0 l0 v) i' j' = vecOf s i' j' := rfl

/-! ### rget -/

@[simp] theorem rget_cadd (s : State) (a n : Nat) (i' : Nat) : rget (cadd s a n) i' = rget s i' := rfl
@[simp] theorem rget_send (s : State) (x : Sent) (i' : Nat) : rget (send s x) i' = rget s i' := rfl
@[simp] theorem rget_answer (s : State) (l : List Nat) (i' : Nat) : rget (answer s l) i' = rget s i' := rfl
@[simp] theorem rget_freed (s : State) (i' : Nat) : rget (freed s) i' = rget s i' := rfl
@[simp] theorem rget_setFn (s : State) (f : Nat) (x : FnSt) (i' : Nat) : rget (setFn s f x) i' = rget s i' := rfl
@[simp] theorem rget_setEp (s : State) (e : Nat) (x : EpSt) (i' : Nat) : rget (setEp s e x) i' = rget s i' := rfl
@[simp] theorem rget_setVec (s : State) (f v : Nat) (x : VecSt) (i' : Nat) : rget (setVec s f v x) i' = rget s i' := rfl
@[simp] theorem rget_setSide (s : State) (p : Nat) (d : Side) (x : SideSt) (i' : Nat) : rget (setSide s p d x) i' = rget s i' := rfl
@[simp] theorem rget_setBlock (s : State) (b : Nat) (x : BlockSt) (i' : Nat) : rget (setBlock s b x) i' = rget s i' := rfl
@[simp] theorem rget_setLane (s : State) (b n : Nat) (x : LaneSt) (i' : Nat) : rget (setLane s b n x) i' = rget s i' := rfl
@[simp] theorem rget_setFrames (s : State) (p : Nat) (d : Dir) (l : List Frame) (i' : Nat) : rget (setFrames s p d l) i' = rget s i' := rfl
@[simp] theorem rget_setSlot (s : State) (n : Nat) (e : SaEntry) (i' : Nat) : rget (setSlot s n e) i' = rget s i' := rfl
@[simp] theorem rget_setHart (s : State) (h : Nat) (x : Hart) (i' : Nat) : rget (setHart s h x) i' = rget s i' := rfl
@[simp] theorem rget_setHst (s : State) (h : Nat) (x : HState) (i' : Nat) : rget (setHst s h x) i' = rget s i' := rfl
@[simp] theorem rget_setJobs (s : State) (l : List Job) (i' : Nat) : rget (setJobs s l) i' = rget s i' := rfl
@[simp] theorem rget_setDma (s : State) (c : Nat) (x : DmaSt) (i' : Nat) : rget (setDma s c x) i' = rget s i' := rfl
@[simp] theorem rget_setMon (s : State) (m : Nat) (x : MonSt) (i' : Nat) : rget (setMon s m x) i' = rget s i' := rfl
@[simp] theorem rget_setPw (s : State) (x : PwSt) (i' : Nat) : rget (setPw s x) i' = rget s i' := rfl
@[simp] theorem rget_setLc (s : State) (x : LcSt) (i' : Nat) : rget (setLc s x) i' = rget s i' := rfl
@[simp] theorem rget_setCs (s : State) (x : CsSt) (i' : Nat) : rget (setCs s x) i' = rget s i' := rfl
@[simp] theorem rget_setFl (s : State) (x : FlSt) (i' : Nat) : rget (setFl s x) i' = rget s i' := rfl
@[simp] theorem rget_setLi (s : State) (x : LiSt) (i' : Nat) : rget (setLi s x) i' = rget s i' := rfl
@[simp] theorem rget_setMt (s : State) (x : MtSt) (i' : Nat) : rget (setMt s x) i' = rget s i' := rfl
@[simp] theorem rget_setRng (s : State) (x : RngSt) (i' : Nat) : rget (setRng s x) i' = rget s i' := rfl
@[simp] theorem rget_setEv (s : State) (x : EvSt) (i' : Nat) : rget (setEv s x) i' = rget s i' := rfl
@[simp] theorem rget_setUpd (s : State) (x : UpdSt) (i' : Nat) : rget (setUpd s x) i' = rget s i' := rfl
@[simp] theorem rget_setTagSt (s : State) (x : TagSt) (i' : Nat) : rget (setTagSt s x) i' = rget s i' := rfl
@[simp] theorem rget_memWrite (s : State) (a : Nat) (l : List Byte) (i' : Nat) : rget (memWrite s a l) i' = rget s i' := rfl
@[simp] theorem rget_memZero (s : State) (a n : Nat) (i' : Nat) : rget (memZero s a n) i' = rget s i' := rfl
@[simp] theorem rget_setTag (s : State) (g v : Nat) (i' : Nat) : rget (setTag s g v) i' = rget s i' := rfl
@[simp] theorem rget_cinc (s : State) (y : Nat) (i' : Nat) : rget (cinc s y) i' = rget s i' := rfl
@[simp] theorem rget_modFn (s : State) (f : Nat) (y : FnSt → FnSt) (i' : Nat) : rget (modFn s f y) i' = rget s i' := rfl
@[simp] theorem rget_vecTry (s : State) (f v : Nat) (i' : Nat) : rget (vecTry s f v) i' = rget s i' := by simp [rget]
@[simp] theorem rget_vecCause (s : State) (f v : Nat) (i' : Nat) : rget (vecCause s f v) i' = rget s i' := by simp [rget]
@[simp] theorem rget_raiseEv (s : State) (src code : Nat) (d : List Nat) (i' : Nat) : rget (raiseEv s src code d) i' = rget s i' := by simp [rget]
@[simp] theorem rget_raise (s : State) (src : Nat) (d : List Nat) (i' : Nat) : rget (raise s src d) i' = rget s i' := by simp [rget]
@[simp] theorem rget_refuse (s : State) (a : Nat) (i' : Nat) : rget (refuse s a) i' = rget s i' := by simp [rget]

/-! ### rf -/

@[simp] theorem rf_cadd (s : State) (a n : Nat) (i' k' l' : Nat) : rf (cadd s a n) i' k' l' = rf s i' k' l' := rfl
@[simp] theorem rf_send (s : State) (x : Sent) (i' k' l' : Nat) : rf (send s x) i' k' l' = rf s i' k' l' := rfl
@[simp] theorem rf_answer (s : State) (l : List Nat) (i' k' l' : Nat) : rf (answer s l) i' k' l' = rf s i' k' l' := rfl
@[simp] theorem rf_freed (s : State) (i' k' l' : Nat) : rf (freed s) i' k' l' = rf s i' k' l' := rfl
@[simp] theorem rf_setFn (s : State) (f : Nat) (x : FnSt) (i' k' l' : Nat) : rf (setFn s f x) i' k' l' = rf s i' k' l' := rfl
@[simp] theorem rf_setEp (s : State) (e : Nat) (x : EpSt) (i' k' l' : Nat) : rf (setEp s e x) i' k' l' = rf s i' k' l' := rfl
@[simp] theorem rf_setVec (s : State) (f v : Nat) (x : VecSt) (i' k' l' : Nat) : rf (setVec s f v x) i' k' l' = rf s i' k' l' := rfl
@[simp] theorem rf_setSide (s : State) (p : Nat) (d : Side) (x : SideSt) (i' k' l' : Nat) : rf (setSide s p d x) i' k' l' = rf s i' k' l' := rfl
@[simp] theorem rf_setBlock (s : State) (b : Nat) (x : BlockSt) (i' k' l' : Nat) : rf (setBlock s b x) i' k' l' = rf s i' k' l' := rfl
@[simp] theorem rf_setLane (s : State) (b n : Nat) (x : LaneSt) (i' k' l' : Nat) : rf (setLane s b n x) i' k' l' = rf s i' k' l' := rfl
@[simp] theorem rf_setFrames (s : State) (p : Nat) (d : Dir) (l : List Frame) (i' k' l' : Nat) : rf (setFrames s p d l) i' k' l' = rf s i' k' l' := rfl
@[simp] theorem rf_setSlot (s : State) (n : Nat) (e : SaEntry) (i' k' l' : Nat) : rf (setSlot s n e) i' k' l' = rf s i' k' l' := rfl
@[simp] theorem rf_setHart (s : State) (h : Nat) (x : Hart) (i' k' l' : Nat) : rf (setHart s h x) i' k' l' = rf s i' k' l' := rfl
@[simp] theorem rf_setHst (s : State) (h : Nat) (x : HState) (i' k' l' : Nat) : rf (setHst s h x) i' k' l' = rf s i' k' l' := rfl
@[simp] theorem rf_setJobs (s : State) (l : List Job) (i' k' l' : Nat) : rf (setJobs s l) i' k' l' = rf s i' k' l' := rfl
@[simp] theorem rf_setDma (s : State) (c : Nat) (x : DmaSt) (i' k' l' : Nat) : rf (setDma s c x) i' k' l' = rf s i' k' l' := rfl
@[simp] theorem rf_setMon (s : State) (m : Nat) (x : MonSt) (i' k' l' : Nat) : rf (setMon s m x) i' k' l' = rf s i' k' l' := rfl
@[simp] theorem rf_setPw (s : State) (x : PwSt) (i' k' l' : Nat) : rf (setPw s x) i' k' l' = rf s i' k' l' := rfl
@[simp] theorem rf_setLc (s : State) (x : LcSt) (i' k' l' : Nat) : rf (setLc s x) i' k' l' = rf s i' k' l' := rfl
@[simp] theorem rf_setCs (s : State) (x : CsSt) (i' k' l' : Nat) : rf (setCs s x) i' k' l' = rf s i' k' l' := rfl
@[simp] theorem rf_setFl (s : State) (x : FlSt) (i' k' l' : Nat) : rf (setFl s x) i' k' l' = rf s i' k' l' := rfl
@[simp] theorem rf_setLi (s : State) (x : LiSt) (i' k' l' : Nat) : rf (setLi s x) i' k' l' = rf s i' k' l' := rfl
@[simp] theorem rf_setMt (s : State) (x : MtSt) (i' k' l' : Nat) : rf (setMt s x) i' k' l' = rf s i' k' l' := rfl
@[simp] theorem rf_setRng (s : State) (x : RngSt) (i' k' l' : Nat) : rf (setRng s x) i' k' l' = rf s i' k' l' := rfl
@[simp] theorem rf_setEv (s : State) (x : EvSt) (i' k' l' : Nat) : rf (setEv s x) i' k' l' = rf s i' k' l' := rfl
@[simp] theorem rf_setUpd (s : State) (x : UpdSt) (i' k' l' : Nat) : rf (setUpd s x) i' k' l' = rf s i' k' l' := rfl
@[simp] theorem rf_setTagSt (s : State) (x : TagSt) (i' k' l' : Nat) : rf (setTagSt s x) i' k' l' = rf s i' k' l' := rfl
@[simp] theorem rf_memWrite (s : State) (a : Nat) (l : List Byte) (i' k' l' : Nat) : rf (memWrite s a l) i' k' l' = rf s i' k' l' := rfl
@[simp] theorem rf_memZero (s : State) (a n : Nat) (i' k' l' : Nat) : rf (memZero s a n) i' k' l' = rf s i' k' l' := rfl
@[simp] theorem rf_setTag (s : State) (g v : Nat) (i' k' l' : Nat) : rf (setTag s g v) i' k' l' = rf s i' k' l' := rfl
@[simp] theorem rf_cinc (s : State) (y : Nat) (i' k' l' : Nat) : rf (cinc s y) i' k' l' = rf s i' k' l' := rfl
@[simp] theorem rf_modFn (s : State) (f : Nat) (y : FnSt → FnSt) (i' k' l' : Nat) : rf (modFn s f y) i' k' l' = rf s i' k' l' := rfl
@[simp] theorem rf_vecTry (s : State) (f v : Nat) (i' k' l' : Nat) : rf (vecTry s f v) i' k' l' = rf s i' k' l' := by simp [rf, rget]
@[simp] theorem rf_vecCause (s : State) (f v : Nat) (i' k' l' : Nat) : rf (vecCause s f v) i' k' l' = rf s i' k' l' := by simp [rf, rget]
@[simp] theorem rf_raiseEv (s : State) (src code : Nat) (d : List Nat) (i' k' l' : Nat) : rf (raiseEv s src code d) i' k' l' = rf s i' k' l' := by simp [rf, rget]
@[simp] theorem rf_raise (s : State) (src : Nat) (d : List Nat) (i' k' l' : Nat) : rf (raise s src d) i' k' l' = rf s i' k' l' := by simp [rf, rget]
@[simp] theorem rf_refuse (s : State) (a : Nat) (i' k' l' : Nat) : rf (refuse s a) i' k' l' = rf s i' k' l' := by simp [rf, rget]

/-! ### rbit -/

@[simp] theorem rbit_cadd (s : State) (a n : Nat) (i' j' : Nat) : rbit (cadd s a n) i' j' = rbit s i' j' := rfl
@[simp] theorem rbit_send (s : State) (x : Sent) (i' j' : Nat) : rbit (send s x) i' j' = rbit s i' j' := rfl
@[simp] theorem rbit_answer (s : State) (l : List Nat) (i' j' : Nat) : rbit (answer s l) i' j' = rbit s i' j' := rfl
@[simp] theorem rbit_freed (s : State) (i' j' : Nat) : rbit (freed s) i' j' = rbit s i' j' := rfl
@[simp] theorem rbit_setFn (s : State) (f : Nat) (x : FnSt) (i' j' : Nat) : rbit (setFn s f x) i' j' = rbit s i' j' := rfl
@[simp] theorem rbit_setEp (s : State) (e : Nat) (x : EpSt) (i' j' : Nat) : rbit (setEp s e x) i' j' = rbit s i' j' := rfl
@[simp] theorem rbit_setVec (s : State) (f v : Nat) (x : VecSt) (i' j' : Nat) : rbit (setVec s f v x) i' j' = rbit s i' j' := rfl
@[simp] theorem rbit_setSide (s : State) (p : Nat) (d : Side) (x : SideSt) (i' j' : Nat) : rbit (setSide s p d x) i' j' = rbit s i' j' := rfl
@[simp] theorem rbit_setBlock (s : State) (b : Nat) (x : BlockSt) (i' j' : Nat) : rbit (setBlock s b x) i' j' = rbit s i' j' := rfl
@[simp] theorem rbit_setLane (s : State) (b n : Nat) (x : LaneSt) (i' j' : Nat) : rbit (setLane s b n x) i' j' = rbit s i' j' := rfl
@[simp] theorem rbit_setFrames (s : State) (p : Nat) (d : Dir) (l : List Frame) (i' j' : Nat) : rbit (setFrames s p d l) i' j' = rbit s i' j' := rfl
@[simp] theorem rbit_setSlot (s : State) (n : Nat) (e : SaEntry) (i' j' : Nat) : rbit (setSlot s n e) i' j' = rbit s i' j' := rfl
@[simp] theorem rbit_setHart (s : State) (h : Nat) (x : Hart) (i' j' : Nat) : rbit (setHart s h x) i' j' = rbit s i' j' := rfl
@[simp] theorem rbit_setHst (s : State) (h : Nat) (x : HState) (i' j' : Nat) : rbit (setHst s h x) i' j' = rbit s i' j' := rfl
@[simp] theorem rbit_setJobs (s : State) (l : List Job) (i' j' : Nat) : rbit (setJobs s l) i' j' = rbit s i' j' := rfl
@[simp] theorem rbit_setDma (s : State) (c : Nat) (x : DmaSt) (i' j' : Nat) : rbit (setDma s c x) i' j' = rbit s i' j' := rfl
@[simp] theorem rbit_setMon (s : State) (m : Nat) (x : MonSt) (i' j' : Nat) : rbit (setMon s m x) i' j' = rbit s i' j' := rfl
@[simp] theorem rbit_setPw (s : State) (x : PwSt) (i' j' : Nat) : rbit (setPw s x) i' j' = rbit s i' j' := rfl
@[simp] theorem rbit_setLc (s : State) (x : LcSt) (i' j' : Nat) : rbit (setLc s x) i' j' = rbit s i' j' := rfl
@[simp] theorem rbit_setCs (s : State) (x : CsSt) (i' j' : Nat) : rbit (setCs s x) i' j' = rbit s i' j' := rfl
@[simp] theorem rbit_setFl (s : State) (x : FlSt) (i' j' : Nat) : rbit (setFl s x) i' j' = rbit s i' j' := rfl
@[simp] theorem rbit_setLi (s : State) (x : LiSt) (i' j' : Nat) : rbit (setLi s x) i' j' = rbit s i' j' := rfl
@[simp] theorem rbit_setMt (s : State) (x : MtSt) (i' j' : Nat) : rbit (setMt s x) i' j' = rbit s i' j' := rfl
@[simp] theorem rbit_setRng (s : State) (x : RngSt) (i' j' : Nat) : rbit (setRng s x) i' j' = rbit s i' j' := rfl
@[simp] theorem rbit_setEv (s : State) (x : EvSt) (i' j' : Nat) : rbit (setEv s x) i' j' = rbit s i' j' := rfl
@[simp] theorem rbit_setUpd (s : State) (x : UpdSt) (i' j' : Nat) : rbit (setUpd s x) i' j' = rbit s i' j' := rfl
@[simp] theorem rbit_setTagSt (s : State) (x : TagSt) (i' j' : Nat) : rbit (setTagSt s x) i' j' = rbit s i' j' := rfl
@[simp] theorem rbit_memWrite (s : State) (a : Nat) (l : List Byte) (i' j' : Nat) : rbit (memWrite s a l) i' j' = rbit s i' j' := rfl
@[simp] theorem rbit_memZero (s : State) (a n : Nat) (i' j' : Nat) : rbit (memZero s a n) i' j' = rbit s i' j' := rfl
@[simp] theorem rbit_setTag (s : State) (g v : Nat) (i' j' : Nat) : rbit (setTag s g v) i' j' = rbit s i' j' := rfl
@[simp] theorem rbit_cinc (s : State) (y : Nat) (i' j' : Nat) : rbit (cinc s y) i' j' = rbit s i' j' := rfl
@[simp] theorem rbit_modFn (s : State) (f : Nat) (y : FnSt → FnSt) (i' j' : Nat) : rbit (modFn s f y) i' j' = rbit s i' j' := rfl
@[simp] theorem rbit_vecTry (s : State) (f v : Nat) (i' j' : Nat) : rbit (vecTry s f v) i' j' = rbit s i' j' := by simp [rbit, rf, rget]
@[simp] theorem rbit_vecCause (s : State) (f v : Nat) (i' j' : Nat) : rbit (vecCause s f v) i' j' = rbit s i' j' := by simp [rbit, rf, rget]
@[simp] theorem rbit_raiseEv (s : State) (src code : Nat) (d : List Nat) (i' j' : Nat) : rbit (raiseEv s src code d) i' j' = rbit s i' j' := by simp [rbit, rf, rget]
@[simp] theorem rbit_raise (s : State) (src : Nat) (d : List Nat) (i' j' : Nat) : rbit (raise s src d) i' j' = rbit s i' j' := by simp [rbit, rf, rget]
@[simp] theorem rbit_refuse (s : State) (a : Nat) (i' j' : Nat) : rbit (refuse s a) i' j' = rbit s i' j' := by simp [rbit, rf, rget]

/-! ### hartOf -/

@[simp] theorem hartOf_rset (s : State) (a : Nat) (v : W32) (i' : Nat) : hartOf (rset s a v) i' = hartOf s i' := rfl
@[simp] theorem hartOf_cadd (s : State) (a n : Nat) (i' : Nat) : hartOf (cadd s a n) i' = hartOf s i' := rfl
@[simp] theorem hartOf_send (s : State) (x : Sent) (i' : Nat) : hartOf (send s x) i' = hartOf s i' := rfl
@[simp] theorem hartOf_answer (s : State) (l : List Nat) (i' : Nat) : hartOf (answer s l) i' = hartOf s i' := rfl
@[simp] theorem hartOf_freed (s : State) (i' : Nat) : hartOf (freed s) i' = hartOf s i' := rfl
@[simp] theorem hartOf_setFn (s : State) (f : Nat) (x : FnSt) (i' : Nat) : hartOf (setFn s f x) i' = hartOf s i' := rfl
@[simp] theorem hartOf_setEp (s : State) (e : Nat) (x : EpSt) (i' : Nat) : hartOf (setEp s e x) i' = hartOf s i' := rfl
@[simp] theorem hartOf_setVec (s : State) (f v : Nat) (x : VecSt) (i' : Nat) : hartOf (setVec s f v x) i' = hartOf s i' := rfl
@[simp] theorem hartOf_setSide (s : State) (p : Nat) (d : Side) (x : SideSt) (i' : Nat) : hartOf (setSide s p d x) i' = hartOf s i' := rfl
@[simp] theorem hartOf_setBlock (s : State) (b : Nat) (x : BlockSt) (i' : Nat) : hartOf (setBlock s b x) i' = hartOf s i' := rfl
@[simp] theorem hartOf_setLane (s : State) (b n : Nat) (x : LaneSt) (i' : Nat) : hartOf (setLane s b n x) i' = hartOf s i' := rfl
@[simp] theorem hartOf_setFrames (s : State) (p : Nat) (d : Dir) (l : List Frame) (i' : Nat) : hartOf (setFrames s p d l) i' = hartOf s i' := rfl
@[simp] theorem hartOf_setSlot (s : State) (n : Nat) (e : SaEntry) (i' : Nat) : hartOf (setSlot s n e) i' = hartOf s i' := rfl
@[simp] theorem hartOf_setHst (s : State) (h : Nat) (x : HState) (i' : Nat) : hartOf (setHst s h x) i' = hartOf s i' := rfl
@[simp] theorem hartOf_setJobs (s : State) (l : List Job) (i' : Nat) : hartOf (setJobs s l) i' = hartOf s i' := rfl
@[simp] theorem hartOf_setDma (s : State) (c : Nat) (x : DmaSt) (i' : Nat) : hartOf (setDma s c x) i' = hartOf s i' := rfl
@[simp] theorem hartOf_setMon (s : State) (m : Nat) (x : MonSt) (i' : Nat) : hartOf (setMon s m x) i' = hartOf s i' := rfl
@[simp] theorem hartOf_setPw (s : State) (x : PwSt) (i' : Nat) : hartOf (setPw s x) i' = hartOf s i' := rfl
@[simp] theorem hartOf_setLc (s : State) (x : LcSt) (i' : Nat) : hartOf (setLc s x) i' = hartOf s i' := rfl
@[simp] theorem hartOf_setCs (s : State) (x : CsSt) (i' : Nat) : hartOf (setCs s x) i' = hartOf s i' := rfl
@[simp] theorem hartOf_setFl (s : State) (x : FlSt) (i' : Nat) : hartOf (setFl s x) i' = hartOf s i' := rfl
@[simp] theorem hartOf_setLi (s : State) (x : LiSt) (i' : Nat) : hartOf (setLi s x) i' = hartOf s i' := rfl
@[simp] theorem hartOf_setMt (s : State) (x : MtSt) (i' : Nat) : hartOf (setMt s x) i' = hartOf s i' := rfl
@[simp] theorem hartOf_setRng (s : State) (x : RngSt) (i' : Nat) : hartOf (setRng s x) i' = hartOf s i' := rfl
@[simp] theorem hartOf_setEv (s : State) (x : EvSt) (i' : Nat) : hartOf (setEv s x) i' = hartOf s i' := rfl
@[simp] theorem hartOf_setUpd (s : State) (x : UpdSt) (i' : Nat) : hartOf (setUpd s x) i' = hartOf s i' := rfl
@[simp] theorem hartOf_setTagSt (s : State) (x : TagSt) (i' : Nat) : hartOf (setTagSt s x) i' = hartOf s i' := rfl
@[simp] theorem hartOf_memWrite (s : State) (a : Nat) (l : List Byte) (i' : Nat) : hartOf (memWrite s a l) i' = hartOf s i' := rfl
@[simp] theorem hartOf_memZero (s : State) (a n : Nat) (i' : Nat) : hartOf (memZero s a n) i' = hartOf s i' := rfl
@[simp] theorem hartOf_setTag (s : State) (g v : Nat) (i' : Nat) : hartOf (setTag s g v) i' = hartOf s i' := rfl
@[simp] theorem hartOf_cinc (s : State) (y : Nat) (i' : Nat) : hartOf (cinc s y) i' = hartOf s i' := rfl
@[simp] theorem hartOf_modFn (s : State) (f : Nat) (y : FnSt → FnSt) (i' : Nat) : hartOf (modFn s f y) i' = hartOf s i' := rfl
@[simp] theorem hartOf_rsetf (s : State) (y m0 l0 v : Nat) (i' : Nat) : hartOf (rsetf s y m0 l0 v) i' = hartOf s i' := rfl
@[simp] theorem hartOf_vecTry (s : State) (f v : Nat) (i' : Nat) : hartOf (vecTry s f v) i' = hartOf s i' := by simp [hartOf]
@[simp] theorem hartOf_vecCause (s : State) (f v : Nat) (i' : Nat) : hartOf (vecCause s f v) i' = hartOf s i' := by simp [hartOf]
@[simp] theorem hartOf_raiseEv (s : State) (src code : Nat) (d : List Nat) (i' : Nat) : hartOf (raiseEv s src code d) i' = hartOf s i' := by simp [hartOf]
@[simp] theorem hartOf_raise (s : State) (src : Nat) (d : List Nat) (i' : Nat) : hartOf (raise s src d) i' = hartOf s i' := by simp [hartOf]
@[simp] theorem hartOf_refuse (s : State) (a : Nat) (i' : Nat) : hartOf (refuse s a) i' = hartOf s i' := by simp [hartOf]

/-! ### hstOf -/

@[simp] theorem hstOf_rset (s : State) (a : Nat) (v : W32) (i' : Nat) : hstOf (rset s a v) i' = hstOf s i' := rfl
@[simp] theorem hstOf_cadd (s : State) (a n : Nat) (i' : Nat) : hstOf (cadd s a n) i' = hstOf s i' := rfl
@[simp] theorem hstOf_send (s : State) (x : Sent) (i' : Nat) : hstOf (send s x) i' = hstOf s i' := rfl
@[simp] theorem hstOf_answer (s : State) (l : List Nat) (i' : Nat) : hstOf (answer s l) i' = hstOf s i' := rfl
@[simp] theorem hstOf_freed (s : State) (i' : Nat) : hstOf (freed s) i' = hstOf s i' := rfl
@[simp] theorem hstOf_setFn (s : State) (f : Nat) (x : FnSt) (i' : Nat) : hstOf (setFn s f x) i' = hstOf s i' := rfl
@[simp] theorem hstOf_setEp (s : State) (e : Nat) (x : EpSt) (i' : Nat) : hstOf (setEp s e x) i' = hstOf s i' := rfl
@[simp] theorem hstOf_setVec (s : State) (f v : Nat) (x : VecSt) (i' : Nat) : hstOf (setVec s f v x) i' = hstOf s i' := rfl
@[simp] theorem hstOf_setSide (s : State) (p : Nat) (d : Side) (x : SideSt) (i' : Nat) : hstOf (setSide s p d x) i' = hstOf s i' := rfl
@[simp] theorem hstOf_setBlock (s : State) (b : Nat) (x : BlockSt) (i' : Nat) : hstOf (setBlock s b x) i' = hstOf s i' := rfl
@[simp] theorem hstOf_setLane (s : State) (b n : Nat) (x : LaneSt) (i' : Nat) : hstOf (setLane s b n x) i' = hstOf s i' := rfl
@[simp] theorem hstOf_setFrames (s : State) (p : Nat) (d : Dir) (l : List Frame) (i' : Nat) : hstOf (setFrames s p d l) i' = hstOf s i' := rfl
@[simp] theorem hstOf_setSlot (s : State) (n : Nat) (e : SaEntry) (i' : Nat) : hstOf (setSlot s n e) i' = hstOf s i' := rfl
@[simp] theorem hstOf_setHart (s : State) (h : Nat) (x : Hart) (i' : Nat) : hstOf (setHart s h x) i' = hstOf s i' := rfl
@[simp] theorem hstOf_setJobs (s : State) (l : List Job) (i' : Nat) : hstOf (setJobs s l) i' = hstOf s i' := rfl
@[simp] theorem hstOf_setDma (s : State) (c : Nat) (x : DmaSt) (i' : Nat) : hstOf (setDma s c x) i' = hstOf s i' := rfl
@[simp] theorem hstOf_setMon (s : State) (m : Nat) (x : MonSt) (i' : Nat) : hstOf (setMon s m x) i' = hstOf s i' := rfl
@[simp] theorem hstOf_setPw (s : State) (x : PwSt) (i' : Nat) : hstOf (setPw s x) i' = hstOf s i' := rfl
@[simp] theorem hstOf_setLc (s : State) (x : LcSt) (i' : Nat) : hstOf (setLc s x) i' = hstOf s i' := rfl
@[simp] theorem hstOf_setCs (s : State) (x : CsSt) (i' : Nat) : hstOf (setCs s x) i' = hstOf s i' := rfl
@[simp] theorem hstOf_setFl (s : State) (x : FlSt) (i' : Nat) : hstOf (setFl s x) i' = hstOf s i' := rfl
@[simp] theorem hstOf_setLi (s : State) (x : LiSt) (i' : Nat) : hstOf (setLi s x) i' = hstOf s i' := rfl
@[simp] theorem hstOf_setMt (s : State) (x : MtSt) (i' : Nat) : hstOf (setMt s x) i' = hstOf s i' := rfl
@[simp] theorem hstOf_setRng (s : State) (x : RngSt) (i' : Nat) : hstOf (setRng s x) i' = hstOf s i' := rfl
@[simp] theorem hstOf_setEv (s : State) (x : EvSt) (i' : Nat) : hstOf (setEv s x) i' = hstOf s i' := rfl
@[simp] theorem hstOf_setUpd (s : State) (x : UpdSt) (i' : Nat) : hstOf (setUpd s x) i' = hstOf s i' := rfl
@[simp] theorem hstOf_setTagSt (s : State) (x : TagSt) (i' : Nat) : hstOf (setTagSt s x) i' = hstOf s i' := rfl
@[simp] theorem hstOf_memWrite (s : State) (a : Nat) (l : List Byte) (i' : Nat) : hstOf (memWrite s a l) i' = hstOf s i' := rfl
@[simp] theorem hstOf_memZero (s : State) (a n : Nat) (i' : Nat) : hstOf (memZero s a n) i' = hstOf s i' := rfl
@[simp] theorem hstOf_setTag (s : State) (g v : Nat) (i' : Nat) : hstOf (setTag s g v) i' = hstOf s i' := rfl
@[simp] theorem hstOf_cinc (s : State) (y : Nat) (i' : Nat) : hstOf (cinc s y) i' = hstOf s i' := rfl
@[simp] theorem hstOf_modFn (s : State) (f : Nat) (y : FnSt → FnSt) (i' : Nat) : hstOf (modFn s f y) i' = hstOf s i' := rfl
@[simp] theorem hstOf_rsetf (s : State) (y m0 l0 v : Nat) (i' : Nat) : hstOf (rsetf s y m0 l0 v) i' = hstOf s i' := rfl
@[simp] theorem hstOf_vecTry (s : State) (f v : Nat) (i' : Nat) : hstOf (vecTry s f v) i' = hstOf s i' := by simp [hstOf]
@[simp] theorem hstOf_vecCause (s : State) (f v : Nat) (i' : Nat) : hstOf (vecCause s f v) i' = hstOf s i' := by simp [hstOf]
@[simp] theorem hstOf_raiseEv (s : State) (src code : Nat) (d : List Nat) (i' : Nat) : hstOf (raiseEv s src code d) i' = hstOf s i' := by simp [hstOf]
@[simp] theorem hstOf_raise (s : State) (src : Nat) (d : List Nat) (i' : Nat) : hstOf (raise s src d) i' = hstOf s i' := by simp [hstOf]
@[simp] theorem hstOf_refuse (s : State) (a : Nat) (i' : Nat) : hstOf (refuse s a) i' = hstOf s i' := by simp [hstOf]

/-! ### slotOf -/

@[simp] theorem slotOf_rset (s : State) (a : Nat) (v : W32) (i' : Nat) : slotOf (rset s a v) i' = slotOf s i' := rfl
@[simp] theorem slotOf_cadd (s : State) (a n : Nat) (i' : Nat) : slotOf (cadd s a n) i' = slotOf s i' := rfl
@[simp] theorem slotOf_send (s : State) (x : Sent) (i' : Nat) : slotOf (send s x) i' = slotOf s i' := rfl
@[simp] theorem slotOf_answer (s : State) (l : List Nat) (i' : Nat) : slotOf (answer s l) i' = slotOf s i' := rfl
@[simp] theorem slotOf_freed (s : State) (i' : Nat) : slotOf (freed s) i' = slotOf s i' := rfl
@[simp] theorem slotOf_setFn (s : State) (f : Nat) (x : FnSt) (i' : Nat) : slotOf (setFn s f x) i' = slotOf s i' := rfl
@[simp] theorem slotOf_setEp (s : State) (e : Nat) (x : EpSt) (i' : Nat) : slotOf (setEp s e x) i' = slotOf s i' := rfl
@[simp] theorem slotOf_setVec (s : State) (f v : Nat) (x : VecSt) (i' : Nat) : slotOf (setVec s f v x) i' = slotOf s i' := rfl
@[simp] theorem slotOf_setSide (s : State) (p : Nat) (d : Side) (x : SideSt) (i' : Nat) : slotOf (setSide s p d x) i' = slotOf s i' := rfl
@[simp] theorem slotOf_setBlock (s : State) (b : Nat) (x : BlockSt) (i' : Nat) : slotOf (setBlock s b x) i' = slotOf s i' := rfl
@[simp] theorem slotOf_setLane (s : State) (b n : Nat) (x : LaneSt) (i' : Nat) : slotOf (setLane s b n x) i' = slotOf s i' := rfl
@[simp] theorem slotOf_setFrames (s : State) (p : Nat) (d : Dir) (l : List Frame) (i' : Nat) : slotOf (setFrames s p d l) i' = slotOf s i' := rfl
@[simp] theorem slotOf_setHart (s : State) (h : Nat) (x : Hart) (i' : Nat) : slotOf (setHart s h x) i' = slotOf s i' := rfl
@[simp] theorem slotOf_setHst (s : State) (h : Nat) (x : HState) (i' : Nat) : slotOf (setHst s h x) i' = slotOf s i' := rfl
@[simp] theorem slotOf_setJobs (s : State) (l : List Job) (i' : Nat) : slotOf (setJobs s l) i' = slotOf s i' := rfl
@[simp] theorem slotOf_setDma (s : State) (c : Nat) (x : DmaSt) (i' : Nat) : slotOf (setDma s c x) i' = slotOf s i' := rfl
@[simp] theorem slotOf_setMon (s : State) (m : Nat) (x : MonSt) (i' : Nat) : slotOf (setMon s m x) i' = slotOf s i' := rfl
@[simp] theorem slotOf_setPw (s : State) (x : PwSt) (i' : Nat) : slotOf (setPw s x) i' = slotOf s i' := rfl
@[simp] theorem slotOf_setLc (s : State) (x : LcSt) (i' : Nat) : slotOf (setLc s x) i' = slotOf s i' := rfl
@[simp] theorem slotOf_setCs (s : State) (x : CsSt) (i' : Nat) : slotOf (setCs s x) i' = slotOf s i' := rfl
@[simp] theorem slotOf_setFl (s : State) (x : FlSt) (i' : Nat) : slotOf (setFl s x) i' = slotOf s i' := rfl
@[simp] theorem slotOf_setLi (s : State) (x : LiSt) (i' : Nat) : slotOf (setLi s x) i' = slotOf s i' := rfl
@[simp] theorem slotOf_setMt (s : State) (x : MtSt) (i' : Nat) : slotOf (setMt s x) i' = slotOf s i' := rfl
@[simp] theorem slotOf_setRng (s : State) (x : RngSt) (i' : Nat) : slotOf (setRng s x) i' = slotOf s i' := rfl
@[simp] theorem slotOf_setEv (s : State) (x : EvSt) (i' : Nat) : slotOf (setEv s x) i' = slotOf s i' := rfl
@[simp] theorem slotOf_setUpd (s : State) (x : UpdSt) (i' : Nat) : slotOf (setUpd s x) i' = slotOf s i' := rfl
@[simp] theorem slotOf_setTagSt (s : State) (x : TagSt) (i' : Nat) : slotOf (setTagSt s x) i' = slotOf s i' := rfl
@[simp] theorem slotOf_memWrite (s : State) (a : Nat) (l : List Byte) (i' : Nat) : slotOf (memWrite s a l) i' = slotOf s i' := rfl
@[simp] theorem slotOf_memZero (s : State) (a n : Nat) (i' : Nat) : slotOf (memZero s a n) i' = slotOf s i' := rfl
@[simp] theorem slotOf_setTag (s : State) (g v : Nat) (i' : Nat) : slotOf (setTag s g v) i' = slotOf s i' := rfl
@[simp] theorem slotOf_cinc (s : State) (y : Nat) (i' : Nat) : slotOf (cinc s y) i' = slotOf s i' := rfl
@[simp] theorem slotOf_modFn (s : State) (f : Nat) (y : FnSt → FnSt) (i' : Nat) : slotOf (modFn s f y) i' = slotOf s i' := rfl
@[simp] theorem slotOf_rsetf (s : State) (y m0 l0 v : Nat) (i' : Nat) : slotOf (rsetf s y m0 l0 v) i' = slotOf s i' := rfl
@[simp] theorem slotOf_vecTry (s : State) (f v : Nat) (i' : Nat) : slotOf (vecTry s f v) i' = slotOf s i' := by simp [slotOf]
@[simp] theorem slotOf_vecCause (s : State) (f v : Nat) (i' : Nat) : slotOf (vecCause s f v) i' = slotOf s i' := by simp [slotOf]
@[simp] theorem slotOf_raiseEv (s : State) (src code : Nat) (d : List Nat) (i' : Nat) : slotOf (raiseEv s src code d) i' = slotOf s i' := by simp [slotOf]
@[simp] theorem slotOf_raise (s : State) (src : Nat) (d : List Nat) (i' : Nat) : slotOf (raise s src d) i' = slotOf s i' := by simp [slotOf]
@[simp] theorem slotOf_refuse (s : State) (a : Nat) (i' : Nat) : slotOf (refuse s a) i' = slotOf s i' := by simp [slotOf]

/-! ### sideOf -/

@[simp] theorem sideOf_rset (s : State) (a : Nat) (v : W32) (i' : Nat) (c' : Side) : sideOf (rset s a v) i' c' = sideOf s i' c' := rfl
@[simp] theorem sideOf_cadd (s : State) (a n : Nat) (i' : Nat) (c' : Side) : sideOf (cadd s a n) i' c' = sideOf s i' c' := rfl
@[simp] theorem sideOf_send (s : State) (x : Sent) (i' : Nat) (c' : Side) : sideOf (send s x) i' c' = sideOf s i' c' := rfl
@[simp] theorem sideOf_answer (s : State) (l : List Nat) (i' : Nat) (c' : Side) : sideOf (answer s l) i' c' = sideOf s i' c' := rfl
@[simp] theorem sideOf_freed (s : State) (i' : Nat) (c' : Side) : sideOf (freed s) i' c' = sideOf s i' c' := rfl
@[simp] theorem sideOf_setFn (s : State) (f : Nat) (x : FnSt) (i' : Nat) (c' : Side) : sideOf (setFn s f x) i' c' = sideOf s i' c' := rfl
@[simp] theorem sideOf_setEp (s : State) (e : Nat) (x : EpSt) (i' : Nat) (c' : Side) : sideOf (setEp s e x) i' c' = sideOf s i' c' := rfl
@[simp] theorem sideOf_setVec (s : State) (f v : Nat) (x : VecSt) (i' : Nat) (c' : Side) : sideOf (setVec s f v x) i' c' = sideOf s i' c' := rfl
@[simp] theorem sideOf_setBlock (s : State) (b : Nat) (x : BlockSt) (i' : Nat) (c' : Side) : sideOf (setBlock s b x) i' c' = sideOf s i' c' := rfl
@[simp] theorem sideOf_setLane (s : State) (b n : Nat) (x : LaneSt) (i' : Nat) (c' : Side) : sideOf (setLane s b n x) i' c' = sideOf s i' c' := rfl
@[simp] theorem sideOf_setFrames (s : State) (p : Nat) (d : Dir) (l : List Frame) (i' : Nat) (c' : Side) : sideOf (setFrames s p d l) i' c' = sideOf s i' c' := rfl
@[simp] theorem sideOf_setSlot (s : State) (n : Nat) (e : SaEntry) (i' : Nat) (c' : Side) : sideOf (setSlot s n e) i' c' = sideOf s i' c' := rfl
@[simp] theorem sideOf_setHart (s : State) (h : Nat) (x : Hart) (i' : Nat) (c' : Side) : sideOf (setHart s h x) i' c' = sideOf s i' c' := rfl
@[simp] theorem sideOf_setHst (s : State) (h : Nat) (x : HState) (i' : Nat) (c' : Side) : sideOf (setHst s h x) i' c' = sideOf s i' c' := rfl
@[simp] theorem sideOf_setJobs (s : State) (l : List Job) (i' : Nat) (c' : Side) : sideOf (setJobs s l) i' c' = sideOf s i' c' := rfl
@[simp] theorem sideOf_setDma (s : State) (c : Nat) (x : DmaSt) (i' : Nat) (c' : Side) : sideOf (setDma s c x) i' c' = sideOf s i' c' := rfl
@[simp] theorem sideOf_setMon (s : State) (m : Nat) (x : MonSt) (i' : Nat) (c' : Side) : sideOf (setMon s m x) i' c' = sideOf s i' c' := rfl
@[simp] theorem sideOf_setPw (s : State) (x : PwSt) (i' : Nat) (c' : Side) : sideOf (setPw s x) i' c' = sideOf s i' c' := rfl
@[simp] theorem sideOf_setLc (s : State) (x : LcSt) (i' : Nat) (c' : Side) : sideOf (setLc s x) i' c' = sideOf s i' c' := rfl
@[simp] theorem sideOf_setCs (s : State) (x : CsSt) (i' : Nat) (c' : Side) : sideOf (setCs s x) i' c' = sideOf s i' c' := rfl
@[simp] theorem sideOf_setFl (s : State) (x : FlSt) (i' : Nat) (c' : Side) : sideOf (setFl s x) i' c' = sideOf s i' c' := rfl
@[simp] theorem sideOf_setLi (s : State) (x : LiSt) (i' : Nat) (c' : Side) : sideOf (setLi s x) i' c' = sideOf s i' c' := rfl
@[simp] theorem sideOf_setMt (s : State) (x : MtSt) (i' : Nat) (c' : Side) : sideOf (setMt s x) i' c' = sideOf s i' c' := rfl
@[simp] theorem sideOf_setRng (s : State) (x : RngSt) (i' : Nat) (c' : Side) : sideOf (setRng s x) i' c' = sideOf s i' c' := rfl
@[simp] theorem sideOf_setEv (s : State) (x : EvSt) (i' : Nat) (c' : Side) : sideOf (setEv s x) i' c' = sideOf s i' c' := rfl
@[simp] theorem sideOf_setUpd (s : State) (x : UpdSt) (i' : Nat) (c' : Side) : sideOf (setUpd s x) i' c' = sideOf s i' c' := rfl
@[simp] theorem sideOf_setTagSt (s : State) (x : TagSt) (i' : Nat) (c' : Side) : sideOf (setTagSt s x) i' c' = sideOf s i' c' := rfl
@[simp] theorem sideOf_memWrite (s : State) (a : Nat) (l : List Byte) (i' : Nat) (c' : Side) : sideOf (memWrite s a l) i' c' = sideOf s i' c' := rfl
@[simp] theorem sideOf_memZero (s : State) (a n : Nat) (i' : Nat) (c' : Side) : sideOf (memZero s a n) i' c' = sideOf s i' c' := rfl
@[simp] theorem sideOf_setTag (s : State) (g v : Nat) (i' : Nat) (c' : Side) : sideOf (setTag s g v) i' c' = sideOf s i' c' := rfl
@[simp] theorem sideOf_cinc (s : State) (y : Nat) (i' : Nat) (c' : Side) : sideOf (cinc s y) i' c' = sideOf s i' c' := rfl
@[simp] theorem sideOf_modFn (s : State) (f : Nat) (y : FnSt → FnSt) (i' : Nat) (c' : Side) : sideOf (modFn s f y) i' c' = sideOf s i' c' := rfl
@[simp] theorem sideOf_rsetf (s : State) (y m0 l0 v : Nat) (i' : Nat) (c' : Side) : sideOf (rsetf s y m0 l0 v) i' c' = sideOf s i' c' := rfl
@[simp] theorem sideOf_vecTry (s : State) (f v : Nat) (i' : Nat) (c' : Side) : sideOf (vecTry s f v) i' c' = sideOf s i' c' := by simp [sideOf]
@[simp] theorem sideOf_vecCause (s : State) (f v : Nat) (i' : Nat) (c' : Side) : sideOf (vecCause s f v) i' c' = sideOf s i' c' := by simp [sideOf]
@[simp] theorem sideOf_raiseEv (s : State) (src code : Nat) (d : List Nat) (i' : Nat) (c' : Side) : sideOf (raiseEv s src code d) i' c' = sideOf s i' c' := by simp [sideOf]
@[simp] theorem sideOf_raise (s : State) (src : Nat) (d : List Nat) (i' : Nat) (c' : Side) : sideOf (raise s src d) i' c' = sideOf s i' c' := by simp [sideOf]
@[simp] theorem sideOf_refuse (s : State) (a : Nat) (i' : Nat) (c' : Side) : sideOf (refuse s a) i' c' = sideOf s i' c' := by simp [sideOf]

/-! ### blockOf -/

@[simp] theorem blockOf_rset (s : State) (a : Nat) (v : W32) (i' : Nat) : blockOf (rset s a v) i' = blockOf s i' := rfl
@[simp] theorem blockOf_cadd (s : State) (a n : Nat) (i' : Nat) : blockOf (cadd s a n) i' = blockOf s i' := rfl
@[simp] theorem blockOf_send (s : State) (x : Sent) (i' : Nat) : blockOf (send s x) i' = blockOf s i' := rfl
@[simp] theorem blockOf_answer (s : State) (l : List Nat) (i' : Nat) : blockOf (answer s l) i' = blockOf s i' := rfl
@[simp] theorem blockOf_freed (s : State) (i' : Nat) : blockOf (freed s) i' = blockOf s i' := rfl
@[simp] theorem blockOf_setFn (s : State) (f : Nat) (x : FnSt) (i' : Nat) : blockOf (setFn s f x) i' = blockOf s i' := rfl
@[simp] theorem blockOf_setEp (s : State) (e : Nat) (x : EpSt) (i' : Nat) : blockOf (setEp s e x) i' = blockOf s i' := rfl
@[simp] theorem blockOf_setVec (s : State) (f v : Nat) (x : VecSt) (i' : Nat) : blockOf (setVec s f v x) i' = blockOf s i' := rfl
@[simp] theorem blockOf_setSide (s : State) (p : Nat) (d : Side) (x : SideSt) (i' : Nat) : blockOf (setSide s p d x) i' = blockOf s i' := rfl
@[simp] theorem blockOf_setLane (s : State) (b n : Nat) (x : LaneSt) (i' : Nat) : blockOf (setLane s b n x) i' = blockOf s i' := rfl
@[simp] theorem blockOf_setFrames (s : State) (p : Nat) (d : Dir) (l : List Frame) (i' : Nat) : blockOf (setFrames s p d l) i' = blockOf s i' := rfl
@[simp] theorem blockOf_setSlot (s : State) (n : Nat) (e : SaEntry) (i' : Nat) : blockOf (setSlot s n e) i' = blockOf s i' := rfl
@[simp] theorem blockOf_setHart (s : State) (h : Nat) (x : Hart) (i' : Nat) : blockOf (setHart s h x) i' = blockOf s i' := rfl
@[simp] theorem blockOf_setHst (s : State) (h : Nat) (x : HState) (i' : Nat) : blockOf (setHst s h x) i' = blockOf s i' := rfl
@[simp] theorem blockOf_setJobs (s : State) (l : List Job) (i' : Nat) : blockOf (setJobs s l) i' = blockOf s i' := rfl
@[simp] theorem blockOf_setDma (s : State) (c : Nat) (x : DmaSt) (i' : Nat) : blockOf (setDma s c x) i' = blockOf s i' := rfl
@[simp] theorem blockOf_setMon (s : State) (m : Nat) (x : MonSt) (i' : Nat) : blockOf (setMon s m x) i' = blockOf s i' := rfl
@[simp] theorem blockOf_setPw (s : State) (x : PwSt) (i' : Nat) : blockOf (setPw s x) i' = blockOf s i' := rfl
@[simp] theorem blockOf_setLc (s : State) (x : LcSt) (i' : Nat) : blockOf (setLc s x) i' = blockOf s i' := rfl
@[simp] theorem blockOf_setCs (s : State) (x : CsSt) (i' : Nat) : blockOf (setCs s x) i' = blockOf s i' := rfl
@[simp] theorem blockOf_setFl (s : State) (x : FlSt) (i' : Nat) : blockOf (setFl s x) i' = blockOf s i' := rfl
@[simp] theorem blockOf_setLi (s : State) (x : LiSt) (i' : Nat) : blockOf (setLi s x) i' = blockOf s i' := rfl
@[simp] theorem blockOf_setMt (s : State) (x : MtSt) (i' : Nat) : blockOf (setMt s x) i' = blockOf s i' := rfl
@[simp] theorem blockOf_setRng (s : State) (x : RngSt) (i' : Nat) : blockOf (setRng s x) i' = blockOf s i' := rfl
@[simp] theorem blockOf_setEv (s : State) (x : EvSt) (i' : Nat) : blockOf (setEv s x) i' = blockOf s i' := rfl
@[simp] theorem blockOf_setUpd (s : State) (x : UpdSt) (i' : Nat) : blockOf (setUpd s x) i' = blockOf s i' := rfl
@[simp] theorem blockOf_setTagSt (s : State) (x : TagSt) (i' : Nat) : blockOf (setTagSt s x) i' = blockOf s i' := rfl
@[simp] theorem blockOf_memWrite (s : State) (a : Nat) (l : List Byte) (i' : Nat) : blockOf (memWrite s a l) i' = blockOf s i' := rfl
@[simp] theorem blockOf_memZero (s : State) (a n : Nat) (i' : Nat) : blockOf (memZero s a n) i' = blockOf s i' := rfl
@[simp] theorem blockOf_setTag (s : State) (g v : Nat) (i' : Nat) : blockOf (setTag s g v) i' = blockOf s i' := rfl
@[simp] theorem blockOf_cinc (s : State) (y : Nat) (i' : Nat) : blockOf (cinc s y) i' = blockOf s i' := rfl
@[simp] theorem blockOf_modFn (s : State) (f : Nat) (y : FnSt → FnSt) (i' : Nat) : blockOf (modFn s f y) i' = blockOf s i' := rfl
@[simp] theorem blockOf_rsetf (s : State) (y m0 l0 v : Nat) (i' : Nat) : blockOf (rsetf s y m0 l0 v) i' = blockOf s i' := rfl
@[simp] theorem blockOf_vecTry (s : State) (f v : Nat) (i' : Nat) : blockOf (vecTry s f v) i' = blockOf s i' := by simp [blockOf]
@[simp] theorem blockOf_vecCause (s : State) (f v : Nat) (i' : Nat) : blockOf (vecCause s f v) i' = blockOf s i' := by simp [blockOf]
@[simp] theorem blockOf_raiseEv (s : State) (src code : Nat) (d : List Nat) (i' : Nat) : blockOf (raiseEv s src code d) i' = blockOf s i' := by simp [blockOf]
@[simp] theorem blockOf_raise (s : State) (src : Nat) (d : List Nat) (i' : Nat) : blockOf (raise s src d) i' = blockOf s i' := by simp [blockOf]
@[simp] theorem blockOf_refuse (s : State) (a : Nat) (i' : Nat) : blockOf (refuse s a) i' = blockOf s i' := by simp [blockOf]

/-! ### framesOf -/

@[simp] theorem framesOf_rset (s : State) (a : Nat) (v : W32) (i' : Nat) (c' : Dir) : framesOf (rset s a v) i' c' = framesOf s i' c' := rfl
@[simp] theorem framesOf_cadd (s : State) (a n : Nat) (i' : Nat) (c' : Dir) : framesOf (cadd s a n) i' c' = framesOf s i' c' := rfl
@[simp] theorem framesOf_send (s : State) (x : Sent) (i' : Nat) (c' : Dir) : framesOf (send s x) i' c' = framesOf s i' c' := rfl
@[simp] theorem framesOf_answer (s : State) (l : List Nat) (i' : Nat) (c' : Dir) : framesOf (answer s l) i' c' = framesOf s i' c' := rfl
@[simp] theorem framesOf_freed (s : State) (i' : Nat) (c' : Dir) : framesOf (freed s) i' c' = framesOf s i' c' := rfl
@[simp] theorem framesOf_setFn (s : State) (f : Nat) (x : FnSt) (i' : Nat) (c' : Dir) : framesOf (setFn s f x) i' c' = framesOf s i' c' := rfl
@[simp] theorem framesOf_setEp (s : State) (e : Nat) (x : EpSt) (i' : Nat) (c' : Dir) : framesOf (setEp s e x) i' c' = framesOf s i' c' := rfl
@[simp] theorem framesOf_setVec (s : State) (f v : Nat) (x : VecSt) (i' : Nat) (c' : Dir) : framesOf (setVec s f v x) i' c' = framesOf s i' c' := rfl
@[simp] theorem framesOf_setSide (s : State) (p : Nat) (d : Side) (x : SideSt) (i' : Nat) (c' : Dir) : framesOf (setSide s p d x) i' c' = framesOf s i' c' := rfl
@[simp] theorem framesOf_setBlock (s : State) (b : Nat) (x : BlockSt) (i' : Nat) (c' : Dir) : framesOf (setBlock s b x) i' c' = framesOf s i' c' := rfl
@[simp] theorem framesOf_setLane (s : State) (b n : Nat) (x : LaneSt) (i' : Nat) (c' : Dir) : framesOf (setLane s b n x) i' c' = framesOf s i' c' := rfl
@[simp] theorem framesOf_setSlot (s : State) (n : Nat) (e : SaEntry) (i' : Nat) (c' : Dir) : framesOf (setSlot s n e) i' c' = framesOf s i' c' := rfl
@[simp] theorem framesOf_setHart (s : State) (h : Nat) (x : Hart) (i' : Nat) (c' : Dir) : framesOf (setHart s h x) i' c' = framesOf s i' c' := rfl
@[simp] theorem framesOf_setHst (s : State) (h : Nat) (x : HState) (i' : Nat) (c' : Dir) : framesOf (setHst s h x) i' c' = framesOf s i' c' := rfl
@[simp] theorem framesOf_setJobs (s : State) (l : List Job) (i' : Nat) (c' : Dir) : framesOf (setJobs s l) i' c' = framesOf s i' c' := rfl
@[simp] theorem framesOf_setDma (s : State) (c : Nat) (x : DmaSt) (i' : Nat) (c' : Dir) : framesOf (setDma s c x) i' c' = framesOf s i' c' := rfl
@[simp] theorem framesOf_setMon (s : State) (m : Nat) (x : MonSt) (i' : Nat) (c' : Dir) : framesOf (setMon s m x) i' c' = framesOf s i' c' := rfl
@[simp] theorem framesOf_setPw (s : State) (x : PwSt) (i' : Nat) (c' : Dir) : framesOf (setPw s x) i' c' = framesOf s i' c' := rfl
@[simp] theorem framesOf_setLc (s : State) (x : LcSt) (i' : Nat) (c' : Dir) : framesOf (setLc s x) i' c' = framesOf s i' c' := rfl
@[simp] theorem framesOf_setCs (s : State) (x : CsSt) (i' : Nat) (c' : Dir) : framesOf (setCs s x) i' c' = framesOf s i' c' := rfl
@[simp] theorem framesOf_setFl (s : State) (x : FlSt) (i' : Nat) (c' : Dir) : framesOf (setFl s x) i' c' = framesOf s i' c' := rfl
@[simp] theorem framesOf_setLi (s : State) (x : LiSt) (i' : Nat) (c' : Dir) : framesOf (setLi s x) i' c' = framesOf s i' c' := rfl
@[simp] theorem framesOf_setMt (s : State) (x : MtSt) (i' : Nat) (c' : Dir) : framesOf (setMt s x) i' c' = framesOf s i' c' := rfl
@[simp] theorem framesOf_setRng (s : State) (x : RngSt) (i' : Nat) (c' : Dir) : framesOf (setRng s x) i' c' = framesOf s i' c' := rfl
@[simp] theorem framesOf_setEv (s : State) (x : EvSt) (i' : Nat) (c' : Dir) : framesOf (setEv s x) i' c' = framesOf s i' c' := rfl
@[simp] theorem framesOf_setUpd (s : State) (x : UpdSt) (i' : Nat) (c' : Dir) : framesOf (setUpd s x) i' c' = framesOf s i' c' := rfl
@[simp] theorem framesOf_setTagSt (s : State) (x : TagSt) (i' : Nat) (c' : Dir) : framesOf (setTagSt s x) i' c' = framesOf s i' c' := rfl
@[simp] theorem framesOf_memWrite (s : State) (a : Nat) (l : List Byte) (i' : Nat) (c' : Dir) : framesOf (memWrite s a l) i' c' = framesOf s i' c' := rfl
@[simp] theorem framesOf_memZero (s : State) (a n : Nat) (i' : Nat) (c' : Dir) : framesOf (memZero s a n) i' c' = framesOf s i' c' := rfl
@[simp] theorem framesOf_setTag (s : State) (g v : Nat) (i' : Nat) (c' : Dir) : framesOf (setTag s g v) i' c' = framesOf s i' c' := rfl
@[simp] theorem framesOf_cinc (s : State) (y : Nat) (i' : Nat) (c' : Dir) : framesOf (cinc s y) i' c' = framesOf s i' c' := rfl
@[simp] theorem framesOf_modFn (s : State) (f : Nat) (y : FnSt → FnSt) (i' : Nat) (c' : Dir) : framesOf (modFn s f y) i' c' = framesOf s i' c' := rfl
@[simp] theorem framesOf_rsetf (s : State) (y m0 l0 v : Nat) (i' : Nat) (c' : Dir) : framesOf (rsetf s y m0 l0 v) i' c' = framesOf s i' c' := rfl
@[simp] theorem framesOf_vecTry (s : State) (f v : Nat) (i' : Nat) (c' : Dir) : framesOf (vecTry s f v) i' c' = framesOf s i' c' := by simp [framesOf]
@[simp] theorem framesOf_vecCause (s : State) (f v : Nat) (i' : Nat) (c' : Dir) : framesOf (vecCause s f v) i' c' = framesOf s i' c' := by simp [framesOf]
@[simp] theorem framesOf_raiseEv (s : State) (src code : Nat) (d : List Nat) (i' : Nat) (c' : Dir) : framesOf (raiseEv s src code d) i' c' = framesOf s i' c' := by simp [framesOf]
@[simp] theorem framesOf_raise (s : State) (src : Nat) (d : List Nat) (i' : Nat) (c' : Dir) : framesOf (raise s src d) i' c' = framesOf s i' c' := by simp [framesOf]
@[simp] theorem framesOf_refuse (s : State) (a : Nat) (i' : Nat) (c' : Dir) : framesOf (refuse s a) i' c' = framesOf s i' c' := by simp [framesOf]

/-! ### jobOf -/

@[simp] theorem jobOf_rset (s : State) (a : Nat) (v : W32) (i' : Nat) : jobOf (rset s a v) i' = jobOf s i' := rfl
@[simp] theorem jobOf_cadd (s : State) (a n : Nat) (i' : Nat) : jobOf (cadd s a n) i' = jobOf s i' := rfl
@[simp] theorem jobOf_send (s : State) (x : Sent) (i' : Nat) : jobOf (send s x) i' = jobOf s i' := rfl
@[simp] theorem jobOf_answer (s : State) (l : List Nat) (i' : Nat) : jobOf (answer s l) i' = jobOf s i' := rfl
@[simp] theorem jobOf_freed (s : State) (i' : Nat) : jobOf (freed s) i' = jobOf s i' := rfl
@[simp] theorem jobOf_setFn (s : State) (f : Nat) (x : FnSt) (i' : Nat) : jobOf (setFn s f x) i' = jobOf s i' := rfl
@[simp] theorem jobOf_setEp (s : State) (e : Nat) (x : EpSt) (i' : Nat) : jobOf (setEp s e x) i' = jobOf s i' := rfl
@[simp] theorem jobOf_setVec (s : State) (f v : Nat) (x : VecSt) (i' : Nat) : jobOf (setVec s f v x) i' = jobOf s i' := rfl
@[simp] theorem jobOf_setSide (s : State) (p : Nat) (d : Side) (x : SideSt) (i' : Nat) : jobOf (setSide s p d x) i' = jobOf s i' := rfl
@[simp] theorem jobOf_setBlock (s : State) (b : Nat) (x : BlockSt) (i' : Nat) : jobOf (setBlock s b x) i' = jobOf s i' := rfl
@[simp] theorem jobOf_setLane (s : State) (b n : Nat) (x : LaneSt) (i' : Nat) : jobOf (setLane s b n x) i' = jobOf s i' := rfl
@[simp] theorem jobOf_setFrames (s : State) (p : Nat) (d : Dir) (l : List Frame) (i' : Nat) : jobOf (setFrames s p d l) i' = jobOf s i' := rfl
@[simp] theorem jobOf_setSlot (s : State) (n : Nat) (e : SaEntry) (i' : Nat) : jobOf (setSlot s n e) i' = jobOf s i' := rfl
@[simp] theorem jobOf_setHart (s : State) (h : Nat) (x : Hart) (i' : Nat) : jobOf (setHart s h x) i' = jobOf s i' := rfl
@[simp] theorem jobOf_setHst (s : State) (h : Nat) (x : HState) (i' : Nat) : jobOf (setHst s h x) i' = jobOf s i' := rfl
@[simp] theorem jobOf_setDma (s : State) (c : Nat) (x : DmaSt) (i' : Nat) : jobOf (setDma s c x) i' = jobOf s i' := rfl
@[simp] theorem jobOf_setMon (s : State) (m : Nat) (x : MonSt) (i' : Nat) : jobOf (setMon s m x) i' = jobOf s i' := rfl
@[simp] theorem jobOf_setPw (s : State) (x : PwSt) (i' : Nat) : jobOf (setPw s x) i' = jobOf s i' := rfl
@[simp] theorem jobOf_setLc (s : State) (x : LcSt) (i' : Nat) : jobOf (setLc s x) i' = jobOf s i' := rfl
@[simp] theorem jobOf_setCs (s : State) (x : CsSt) (i' : Nat) : jobOf (setCs s x) i' = jobOf s i' := rfl
@[simp] theorem jobOf_setFl (s : State) (x : FlSt) (i' : Nat) : jobOf (setFl s x) i' = jobOf s i' := rfl
@[simp] theorem jobOf_setLi (s : State) (x : LiSt) (i' : Nat) : jobOf (setLi s x) i' = jobOf s i' := rfl
@[simp] theorem jobOf_setMt (s : State) (x : MtSt) (i' : Nat) : jobOf (setMt s x) i' = jobOf s i' := rfl
@[simp] theorem jobOf_setRng (s : State) (x : RngSt) (i' : Nat) : jobOf (setRng s x) i' = jobOf s i' := rfl
@[simp] theorem jobOf_setEv (s : State) (x : EvSt) (i' : Nat) : jobOf (setEv s x) i' = jobOf s i' := rfl
@[simp] theorem jobOf_setUpd (s : State) (x : UpdSt) (i' : Nat) : jobOf (setUpd s x) i' = jobOf s i' := rfl
@[simp] theorem jobOf_setTagSt (s : State) (x : TagSt) (i' : Nat) : jobOf (setTagSt s x) i' = jobOf s i' := rfl
@[simp] theorem jobOf_memWrite (s : State) (a : Nat) (l : List Byte) (i' : Nat) : jobOf (memWrite s a l) i' = jobOf s i' := rfl
@[simp] theorem jobOf_memZero (s : State) (a n : Nat) (i' : Nat) : jobOf (memZero s a n) i' = jobOf s i' := rfl
@[simp] theorem jobOf_setTag (s : State) (g v : Nat) (i' : Nat) : jobOf (setTag s g v) i' = jobOf s i' := rfl
@[simp] theorem jobOf_cinc (s : State) (y : Nat) (i' : Nat) : jobOf (cinc s y) i' = jobOf s i' := rfl
@[simp] theorem jobOf_modFn (s : State) (f : Nat) (y : FnSt → FnSt) (i' : Nat) : jobOf (modFn s f y) i' = jobOf s i' := rfl
@[simp] theorem jobOf_rsetf (s : State) (y m0 l0 v : Nat) (i' : Nat) : jobOf (rsetf s y m0 l0 v) i' = jobOf s i' := rfl
@[simp] theorem jobOf_vecTry (s : State) (f v : Nat) (i' : Nat) : jobOf (vecTry s f v) i' = jobOf s i' := by simp [jobOf]
@[simp] theorem jobOf_vecCause (s : State) (f v : Nat) (i' : Nat) : jobOf (vecCause s f v) i' = jobOf s i' := by simp [jobOf]
@[simp] theorem jobOf_raiseEv (s : State) (src code : Nat) (d : List Nat) (i' : Nat) : jobOf (raiseEv s src code d) i' = jobOf s i' := by simp [jobOf]
@[simp] theorem jobOf_raise (s : State) (src : Nat) (d : List Nat) (i' : Nat) : jobOf (raise s src d) i' = jobOf s i' := by simp [jobOf]
@[simp] theorem jobOf_refuse (s : State) (a : Nat) (i' : Nat) : jobOf (refuse s a) i' = jobOf s i' := by simp [jobOf]

/-! ### memRead -/

@[simp] theorem memRead_rset (s : State) (a : Nat) (v : W32) (i' j' : Nat) : memRead (rset s a v) i' j' = memRead s i' j' := rfl
@[simp] theorem memRead_cadd (s : State) (a n : Nat) (i' j' : Nat) : memRead (cadd s a n) i' j' = memRead s i' j' := rfl
@[simp] theorem memRead_send (s : State) (x : Sent) (i' j' : Nat) : memRead (send s x) i' j' = memRead s i' j' := rfl
@[simp] theorem memRead_answer (s : State) (l : List Nat) (i' j' : Nat) : memRead (answer s l) i' j' = memRead s i' j' := rfl
@[simp] theorem memRead_freed (s : State) (i' j' : Nat) : memRead (freed s) i' j' = memRead s i' j' := rfl
@[simp] theorem memRead_setFn (s : State) (f : Nat) (x : FnSt) (i' j' : Nat) : memRead (setFn s f x) i' j' = memRead s i' j' := rfl
@[simp] theorem memRead_setEp (s : State) (e : Nat) (x : EpSt) (i' j' : Nat) : memRead (setEp s e x) i' j' = memRead s i' j' := rfl
@[simp] theorem memRead_setVec (s : State) (f v : Nat) (x : VecSt) (i' j' : Nat) : memRead (setVec s f v x) i' j' = memRead s i' j' := rfl
@[simp] theorem memRead_setSide (s : State) (p : Nat) (d : Side) (x : SideSt) (i' j' : Nat) : memRead (setSide s p d x) i' j' = memRead s i' j' := rfl
@[simp] theorem memRead_setBlock (s : State) (b : Nat) (x : BlockSt) (i' j' : Nat) : memRead (setBlock s b x) i' j' = memRead s i' j' := rfl
@[simp] theorem memRead_setLane (s : State) (b n : Nat) (x : LaneSt) (i' j' : Nat) : memRead (setLane s b n x) i' j' = memRead s i' j' := rfl
@[simp] theorem memRead_setFrames (s : State) (p : Nat) (d : Dir) (l : List Frame) (i' j' : Nat) : memRead (setFrames s p d l) i' j' = memRead s i' j' := rfl
@[simp] theorem memRead_setSlot (s : State) (n : Nat) (e : SaEntry) (i' j' : Nat) : memRead (setSlot s n e) i' j' = memRead s i' j' := rfl
@[simp] theorem memRead_setHart (s : State) (h : Nat) (x : Hart) (i' j' : Nat) : memRead (setHart s h x) i' j' = memRead s i' j' := rfl
@[simp] theorem memRead_setHst (s : State) (h : Nat) (x : HState) (i' j' : Nat) : memRead (setHst s h x) i' j' = memRead s i' j' := rfl
@[simp] theorem memRead_setJobs (s : State) (l : List Job) (i' j' : Nat) : memRead (setJobs s l) i' j' = memRead s i' j' := rfl
@[simp] theorem memRead_setDma (s : State) (c : Nat) (x : DmaSt) (i' j' : Nat) : memRead (setDma s c x) i' j' = memRead s i' j' := rfl
@[simp] theorem memRead_setMon (s : State) (m : Nat) (x : MonSt) (i' j' : Nat) : memRead (setMon s m x) i' j' = memRead s i' j' := rfl
@[simp] theorem memRead_setPw (s : State) (x : PwSt) (i' j' : Nat) : memRead (setPw s x) i' j' = memRead s i' j' := rfl
@[simp] theorem memRead_setLc (s : State) (x : LcSt) (i' j' : Nat) : memRead (setLc s x) i' j' = memRead s i' j' := rfl
@[simp] theorem memRead_setCs (s : State) (x : CsSt) (i' j' : Nat) : memRead (setCs s x) i' j' = memRead s i' j' := rfl
@[simp] theorem memRead_setFl (s : State) (x : FlSt) (i' j' : Nat) : memRead (setFl s x) i' j' = memRead s i' j' := rfl
@[simp] theorem memRead_setLi (s : State) (x : LiSt) (i' j' : Nat) : memRead (setLi s x) i' j' = memRead s i' j' := rfl
@[simp] theorem memRead_setMt (s : State) (x : MtSt) (i' j' : Nat) : memRead (setMt s x) i' j' = memRead s i' j' := rfl
@[simp] theorem memRead_setRng (s : State) (x : RngSt) (i' j' : Nat) : memRead (setRng s x) i' j' = memRead s i' j' := rfl
@[simp] theorem memRead_setEv (s : State) (x : EvSt) (i' j' : Nat) : memRead (setEv s x) i' j' = memRead s i' j' := rfl
@[simp] theorem memRead_setUpd (s : State) (x : UpdSt) (i' j' : Nat) : memRead (setUpd s x) i' j' = memRead s i' j' := rfl
@[simp] theorem memRead_setTagSt (s : State) (x : TagSt) (i' j' : Nat) : memRead (setTagSt s x) i' j' = memRead s i' j' := rfl
@[simp] theorem memRead_setTag (s : State) (g v : Nat) (i' j' : Nat) : memRead (setTag s g v) i' j' = memRead s i' j' := rfl
@[simp] theorem memRead_cinc (s : State) (y : Nat) (i' j' : Nat) : memRead (cinc s y) i' j' = memRead s i' j' := rfl
@[simp] theorem memRead_modFn (s : State) (f : Nat) (y : FnSt → FnSt) (i' j' : Nat) : memRead (modFn s f y) i' j' = memRead s i' j' := rfl
@[simp] theorem memRead_rsetf (s : State) (y m0 l0 v : Nat) (i' j' : Nat) : memRead (rsetf s y m0 l0 v) i' j' = memRead s i' j' := rfl
@[simp] theorem memRead_vecTry (s : State) (f v : Nat) (i' j' : Nat) : memRead (vecTry s f v) i' j' = memRead s i' j' := by simp [memRead]
@[simp] theorem memRead_vecCause (s : State) (f v : Nat) (i' j' : Nat) : memRead (vecCause s f v) i' j' = memRead s i' j' := by simp [memRead]
@[simp] theorem memRead_raiseEv (s : State) (src code : Nat) (d : List Nat) (i' j' : Nat) : memRead (raiseEv s src code d) i' j' = memRead s i' j' := by simp [memRead]
@[simp] theorem memRead_raise (s : State) (src : Nat) (d : List Nat) (i' j' : Nat) : memRead (raise s src d) i' j' = memRead s i' j' := by simp [memRead]
@[simp] theorem memRead_refuse (s : State) (a : Nat) (i' j' : Nat) : memRead (refuse s a) i' j' = memRead s i' j' := by simp [memRead]

/-! ### runs -/

@[simp] theorem runs_rset (s : State) (a : Nat) (v : W32) : runs (rset s a v) = runs s := rfl
@[simp] theorem runs_cadd (s : State) (a n : Nat) : runs (cadd s a n) = runs s := rfl
@[simp] theorem runs_send (s : State) (x : Sent) : runs (send s x) = runs s := rfl
@[simp] theorem runs_answer (s : State) (l : List Nat) : runs (answer s l) = runs s := rfl
@[simp] theorem runs_freed (s : State)  : runs (freed s) = runs s := rfl
@[simp] theorem runs_setFn (s : State) (f : Nat) (x : FnSt) : runs (setFn s f x) = runs s := rfl
@[simp] theorem runs_setEp (s : State) (e : Nat) (x : EpSt) : runs (setEp s e x) = runs s := rfl
@[simp] theorem runs_setVec (s : State) (f v : Nat) (x : VecSt) : runs (setVec s f v x) = runs s := rfl
@[simp] theorem runs_setSide (s : State) (p : Nat) (d : Side) (x : SideSt) : runs (setSide s p d x) = runs s := rfl
@[simp] theorem runs_setBlock (s : State) (b : Nat) (x : BlockSt) : runs (setBlock s b x) = runs s := rfl
@[simp] theorem runs_setLane (s : State) (b n : Nat) (x : LaneSt) : runs (setLane s b n x) = runs s := rfl
@[simp] theorem runs_setFrames (s : State) (p : Nat) (d : Dir) (l : List Frame) : runs (setFrames s p d l) = runs s := rfl
@[simp] theorem runs_setSlot (s : State) (n : Nat) (e : SaEntry) : runs (setSlot s n e) = runs s := rfl
@[simp] theorem runs_setHart (s : State) (h : Nat) (x : Hart) : runs (setHart s h x) = runs s := rfl
@[simp] theorem runs_setHst (s : State) (h : Nat) (x : HState) : runs (setHst s h x) = runs s := rfl
@[simp] theorem runs_setJobs (s : State) (l : List Job) : runs (setJobs s l) = runs s := rfl
@[simp] theorem runs_setDma (s : State) (c : Nat) (x : DmaSt) : runs (setDma s c x) = runs s := rfl
@[simp] theorem runs_setMon (s : State) (m : Nat) (x : MonSt) : runs (setMon s m x) = runs s := rfl
@[simp] theorem runs_setLc (s : State) (x : LcSt) : runs (setLc s x) = runs s := rfl
@[simp] theorem runs_setCs (s : State) (x : CsSt) : runs (setCs s x) = runs s := rfl
@[simp] theorem runs_setFl (s : State) (x : FlSt) : runs (setFl s x) = runs s := rfl
@[simp] theorem runs_setLi (s : State) (x : LiSt) : runs (setLi s x) = runs s := rfl
@[simp] theorem runs_setMt (s : State) (x : MtSt) : runs (setMt s x) = runs s := rfl
@[simp] theorem runs_setRng (s : State) (x : RngSt) : runs (setRng s x) = runs s := rfl
@[simp] theorem runs_setEv (s : State) (x : EvSt) : runs (setEv s x) = runs s := rfl
@[simp] theorem runs_setUpd (s : State) (x : UpdSt) : runs (setUpd s x) = runs s := rfl
@[simp] theorem runs_setTagSt (s : State) (x : TagSt) : runs (setTagSt s x) = runs s := rfl
@[simp] theorem runs_memWrite (s : State) (a : Nat) (l : List Byte) : runs (memWrite s a l) = runs s := rfl
@[simp] theorem runs_memZero (s : State) (a n : Nat) : runs (memZero s a n) = runs s := rfl
@[simp] theorem runs_setTag (s : State) (g v : Nat) : runs (setTag s g v) = runs s := rfl
@[simp] theorem runs_cinc (s : State) (y : Nat) : runs (cinc s y) = runs s := rfl
@[simp] theorem runs_modFn (s : State) (f : Nat) (y : FnSt → FnSt) : runs (modFn s f y) = runs s := rfl
@[simp] theorem runs_rsetf (s : State) (y m0 l0 v : Nat) : runs (rsetf s y m0 l0 v) = runs s := rfl
@[simp] theorem runs_vecTry (s : State) (f v : Nat) : runs (vecTry s f v) = runs s := by simp [runs]
@[simp] theorem runs_vecCause (s : State) (f v : Nat) : runs (vecCause s f v) = runs s := by simp [runs]
@[simp] theorem runs_raiseEv (s : State) (src code : Nat) (d : List Nat) : runs (raiseEv s src code d) = runs s := by simp [runs]
@[simp] theorem runs_raise (s : State) (src : Nat) (d : List Nat) : runs (raise s src d) = runs s := by simp [runs]
@[simp] theorem runs_refuse (s : State) (a : Nat) : runs (refuse s a) = runs s := by simp [runs]

end Sys2Proof.Machine
end

