-- ==== Sys2Proof/Laws/Exec.lean ====
section
/-! SUPPORT. What surrounds a meaning, said once: powered commands, service calls and the issue of instructions. -/

namespace Sys2Proof.Machine

open Sys2Proof.Safety

theorem powered_runs {s : State} (h : runs s = true) (t : State) : powered s t = .next t := by simp [powered, h]

theorem powered_off {s : State} (h : runs s = false) (t : State) : powered s t = .next s := by simp [powered, h]

/-- A call that is in order is its service's own effect. -/
theorem svcCall_in {s : State} {h n : Nat} {op : Bool} {j : Job} (hs : InService s h n op j) (body : State → Job → Hart → State) :
    svcCall s h n op body = body s j (hartOf s h) := by
  obtain ⟨h1, h2, h3, h4, h5, h6, h7, h8⟩ := hs
  unfold svcCall
  simp only [h1, h2, h3, h4, h5, h6, h7]
  cases op
  · simp
  · simp [h8 rfl]

/-- A call made where the hart is not in the service, or its stores have not drained, has no effect. -/
theorem svcCall_out {s : State} {h n : Nat} (op : Bool) (hs : (hartOf s h).svc ≠ some n ∨ (hartOf s h).sbuf ≠ []) (body : State → Job → Hart → State) :
    svcCall s h n op body = s := by
  unfold svcCall
  have : ((hartOf s h).svc ≠ some n ∨ (hartOf s h).sbuf ≠ [] ∨ hstOf s h ≠ .running) := by tauto
  simp only [this, if_true]

/-- An instruction that issues is its own operation on the state that its fetch leaves. -/
theorem issue_ready {s t : State} {i : Issue} (h : Issues s t i) (word : W32) (op : State → Hart → HRes) :
    issue s i word false false op = settle s i.h (op t (hartOf t i.h)) := by
  obtain ⟨h1, h2, h3, h4⟩ := h
  have hr : hstOf s i.h = .running := by
    simp [mayIssue] at h1; exact h1.1.1.2
  unfold issue
  simp only [hr, h1, h2]
  simp [h3, h4]

end Sys2Proof.Machine
end

