-- ==== Sys2Proof/WellFormed.lean ====
section
/-! DEFINITION. Well-formedness of commands: the bounds that the operand types of Syntax do not already give. -/

namespace Sys2Proof

/-- A register address: a word of the 32-bit map (R17), or of the function windows that the model places above it (R231). -/
def wfAddr (a : Nat) : Bool := decide (a % 4 = 0 ∧ a < 0x102000000)

/-- A frame's octets (R38): at least one, and no more than the 14-bit lengths of R57 count. -/
def wfOctets (l : List Byte) : Bool := decide (1 ≤ l.length ∧ l.length ≤ 16383)

/-- What a command's rule requires of its operands beyond their types. -/
def Instr.wellFormed : Instr → Bool
  | .registerWrite _ a _ => wfAddr a
  | .loReadLatch _ a => wfAddr a
  | .trainingComplete _ _ txeq _ => decide (txeq.length ≤ 8)
  | .frameHeadResolve _ _ l _ => decide (l.length = 64)
  | .frameEnd _ _ l _ => wfOctets l
  | .orderEntriesArrive _ l _ => decide (l.length ≤ 8) && l.all (fun e => decide (e.length = 64))
  | .phaseRecheck _ l _ => decide (l.length = 64)
  | .orderEntry _ img buf _ _ => decide (img.length ≤ 4128 ∧ buf.length ≤ 8192)
  | .argRead _ l _ => decide (l.length ≤ 8192)
  | .dmaHostCompletion _ _ _ l _ => decide (l.length ≤ 512)
  | .rngFreqWindow l => decide (l.length = 8)
  | .startWipeComplete l => l.all (fun e => decide (e.1 ≤ 6))
  | .serdesCalibrationComplete l => l.all (fun e => wfAddr e.1)
  | .dbgCmd (.vendor _ l) => decide (1 ≤ l.length)
  | .inboxStage _ l => decide (l.length ≤ 255)
  | .sdCommandComplete _ _ r l => decide (r.length ≤ 4 ∧ l.length ≤ 8192)
  | _ => true

end Sys2Proof
end

