-- ==== Sys2Proof/Tests/Slice0.lean ====
section
/-! SUPPORT. Our own tests: a state that meets the premises of every clause of the obligations (witness_…), single steps with values from the
spec's worked cases (test_…), and an ill-formed command for each check of WellFormed (test_wf_…). -/

set_option Elab.async false

namespace Sys2Proof.Tests

open Sys2Proof Sys2Proof.Machine Sys2Proof.Safety

/-! ### States to test on -/

/-- A device in SERVICE: session up, hart 0's MPU open over the whole map, four granules of colour 5, an owner key of one octet. -/
def S : State := { State.reset with
  pw := { mode := .service, step := 15, wiped := true, decoded := true, rootOk := true, plls := [⟨false, true, true, false, none⟩, ⟨false, true, true, false, none⟩, ⟨false, true, true, false, none⟩] }
  culm := { paired := true, session := true }
  mt := { minute := some 0 }
  lc := { ownKey := [1], flashKey := [1], ownHash := [1] }
  regs := [(mpA 0, 0), (mpA 0 + 4, 0xFFFFFFC0), (mpA 0 + 8, 0x7F), (mpA 0 + 0x200, 0x0505)]
  tags := [(0, 5), (1, 5), (2, 5), (3, 5)] }

/-- Hart 0 at a level with its PC in the coloured granules. -/
def hart0 (level : Nat) : Hart :=
  { pc := 0x20000000, level := level, g := [(1, 0x20000040), (2, 3), (5, 0x80000000), (6, 0xFFFFFFFF), (7, 0x20000048), (8, 1), (9, 0x20000041), (10, 0x60000000)] }

def H (level : Nat) : State := { S with harts := [(0, hart0 level)] }

/-- Hart 0 under LOOPMODE REPEAT. -/
def R : State := { S with harts := [(0, { hart0 0 with rept := true })] }

def I0 : Issue := ⟨0, .ok, 0⟩

/-- Source 20 is pending for hart 0, at level 2 (its route: HART, hart 0). -/
def evState (level : Nat) : State :=
  { S with harts := [(0, { hart0 level with ie := true })], ev := { pend := [(20, true)] }, regs := S.regs ++ [(routeAddr 20, 1)] }

/-- The same source, routed to level 3; hart 0 runs the steward. -/
def critState : State := { evState 1 with regs := S.regs ++ [(routeAddr 20, 0x21)] }

/-- Block 0 in P400 with slot 0 enabled and both sides in a link state. -/
def P (l : Link) : State :=
  { S with regs := S.regs ++ [(pbA 0, 0x11), (slotA 0 + 8, 0x38004000), (slotA 0 + 12, 24576), (slotA 0 + 16, 0x0E001000), (slotA 0 + 20, 8192)], line := { S.line with sides := [(0, { link := l }), (1, { link := l })] } }

/-- Port 0 up with the given frames, egress and ingress. -/
def F (e i : List Frame) : State := { P .up with line := { (P .up).line with frames := [(0, e), (1, i)] } }

/-- A frame as it arrives at port 0, before its head. -/
def A (sd : Side) : State :=
  { P .up with line := { (P .up).line with sides := [(0, { link := .up, recv := if sd = .host then some {} else none }), (1, { link := .up, recv := if sd = .line then some {} else none })],
                                           frames := [(0, if sd = .host then [{}] else []), (1, if sd = .line then [{}] else [])] } }

/-- A valid transmit entry of slot 0, and a valid receive entry. -/
def txE : SaEntry := { nextPn := 1, attr := 1 }
def rxE : SaEntry := { nextPn := 1, attr := 3 }

/-- A rule that every frame hits, of a class. -/
def ruleAny (cls : Nat) : List W32 := List.replicate 16 0 ++ [w32 (1 + 2 * cls), 1, 0, 0]

/-- A frame with a malformed SecTAG (its version bit set), and an untagged frame. -/
def badTagFrame : List Byte := List.replicate 12 0 ++ [0x88, 0xE5, 0x80] ++ List.replicate 49 0
def fullFrame : List Byte := List.replicate 12 0 ++ [0x81, 0, 0, 1, 0x81, 0, 0, 2, 0x88, 0xE5, 0x20] ++ List.replicate 41 0
def plainFrame : List Byte := List.replicate 12 0 ++ [0x08, 0x00] ++ List.replicate 50 0

/-- A frame of EtherType 0x888E in stage 0's staging buffer, an allowed control EtherType of its slot. -/
def injS : State := { P .up with regs := (P .up).regs ++ [(stA 0 + 0x630, 0x888E), (stA 0 + 0x400C, 0x8E88)] }

/-- PF A with its endpoint up, HOST_READY, rings of 16 entries, and the function's state given. -/
def X (x : FnSt) : State :=
  { S with host := { S.host with eps := [(0, { linkUp := true, perst := false, cfgAt := some 0, ltssm := 4, speed := 5, width := 4 })], fns := [(0, x)] }
           regs := S.regs ++ [(epCtl 0, 0x323), (hfWin 0 + 0x28, 0x404)] }

/-- PF A's function, ready; and with its ring enabled. -/
def x0 : FnSt := { present := true, bme := true, mse := true, abi := 0x102, vFmt := 0x100, vSvc := 0x102, liW := 255, evVecs := 62, maxOut := 4096, hartW := 255 }
def xE : FnSt := { x0 with ring := .enabled }

/-- A fetched ring entry: its TYPE, GEN, the words at 8, 16 and 24. -/
def ent (ty gen w8 w16 w24 : Nat) : RawEntry :=
  ⟨0, leBytes 1 (2 * ty) ++ [0] ++ leBytes 2 9 ++ leBytes 2 gen ++ [0, 0] ++ leBytes 4 w8 ++ leBytes 4 0 ++ leBytes 8 w16 ++ leBytes 4 w24 ++ List.replicate 36 0⟩

/-- A HELLO for order format and services 1.0. -/
def entHello : RawEntry := ⟨0, [2, 0, 9, 0] ++ List.replicate 12 0 ++ [2, 0, 0, 0, 1, 0, 0, 1, 2, 0, 0, 1] ++ List.replicate 36 0⟩

/-- A script image of one instruction. -/
def img1 : List Byte := leBytes 2 0x7B1A ++ leBytes 2 0x100 ++ leBytes 2 4 ++ leBytes 2 0 ++ leBytes 2 0x100 ++ leBytes 2 0 ++ leBytes 4 (crc32c [0, 0, 0, 0]) ++ List.replicate 20 0

/-- An order of PF A's domain `dom` in sandbox 0, at a stage. -/
def J (dom : Nat) (st : JStage) : Job :=
  { id := 1, fn := 0, gen := 0, tag := 7, genField := 0, kind := 1, sandbox := some 0, stage := st, domain := dom, argbuf := true, argLen := 64, resLen := 64, budget := 60000 }

def O (j : Job) : State := { X x0 with ord := { S.ord with jobs := [j] }, rng := { S.rng with st := .running } }

/-- That order's script on hart 0 inside service n, with its registers g2 on. -/
def V (dom n : Nat) (args : Tbl W32) (mem : List Byte := []) : State :=
  { O (J dom (.running 0)) with
    host := { (X x0).host with fns := [(0, { x0 with doms := [dom] })] }
    harts := [(0, { hart0 1 with svc := some n, job := some 1, g := args })], sram := tputs (fun _ => 0) [] (scratchA 0) mem }

/-- The same with keys 5 and 6, TX SC 0, quotas, and the granary ready for installs. -/
def K (n : Nat) (args : Tbl W32) (mem : List Byte := []) : State :=
  { V 0 n args mem with
    ord := { (V 0 n args mem).ord with
      keys := [(5, { used := true, len := 16, key := List.replicate 16 1 }), (6, { used := true, len := 32, key := List.replicate 32 2 })], scs := [(0, { held := true })] }
    host := { (V 0 n args mem).host with quotas := [(0, { tx := 9, rx := 9, sa := 9, em := 9, rule := 9 })] }
    locks := [(stA 0 + 8, true), (grA + 8, true), (grA + 12, true)] }

/-- And with slot 1 installed. -/
def K1 (n : Nat) (args : Tbl W32) : State :=
  { K n args with gran := { S.gran with slots := [(1, txE)] }, ord := { (K n args).ord with copies := [(1, List.replicate 16 1)] } }

/-- A MODEXP_PUB descriptor of 1,024 bits. -/
def liDesc : List Byte :=
  leBytes 4 1 ++ leBytes 8 0 ++ leBytes 2 128 ++ leBytes 2 136 ++ leBytes 4 0x1000 ++ leBytes 4 0x2000 ++ leBytes 2 128 ++ List.replicate 6 0

/-- The long-integer engine with an entry in a state, its operation word, and another running. -/
def L (j : Nat) (x : LiJob) (op : W32) (r : Option Nat) : State :=
  { S with li := { S.li with jobs := [(j, x)], running := r }, regs := S.regs ++ [(liRec j 0, op)], rng := { S.rng with st := .running } }

/-- DMA channel 15 with its control word and state; its MPU is open with colour 5. -/
def D (st : W32) : State :=
  { S with regs := S.regs ++ [(mpA 23, 0), (mpA 23 + 4, 0xFFFFFFC0), (mpA 23 + 8, 0x7F), (mpA 23 + 0x200, 0x0505),
      (dmA 15, 0x20000000), (dmA 15 + 8, 0x20000040), (dmA 15 + 0x10, 64), (dmA 15 + 0x20, st)] }

/-- The flash controller in a state. -/
def FL (x : FlSt) : State := { S with fl := x }

/-- A closed minute, not built. -/
def min0 : Minute := { epoch := 0, start := 0, timer := true, stamp := 0, backward := false, us := 60000000, closed := 1 }

/-- Monitor m set to N events in 100 ms at SEAL. -/
def M (m n : Nat) : State := { S with regs := S.regs ++ [(mcfgA m, w32 (1 + 4 * n + 128 * 100 + 2 ^ 21 * 3))] }

/-- The recorder's MPU open over the first record of class 1, with the given router state. -/
def RC (x : EvSt) (mem : Tbl Byte := []) : State :=
  { S with regs := S.regs ++ [(mpA 26, 0), (mpA 26 + 4, 0xFFFFFFC0), (mpA 26 + 8, 0x7F), (mpA 26 + 0x200, 5)], ev := x, sram := mem,
           tags := (List.range 4).map (fun i => (granule (recSlotA 1 0) + i, 5)) }

/-- A tag's session in a strong field, with or without HELLO; a reader's increment of counter 4; and a session with writes. -/
def tgS (hello : Bool) : TagSt := { field := true, strong := true, iso := .active, l4 := true, hello := hello }
def wRd : TagWrite := { kind := 4, ask := .counter 4 1, who := .reader, copy := ⟨true, 6, List.replicate 116 1⟩ }
def tgW (l : List TagWrite) : TagSt := { tgS true with writes := l }

/-- Three PLLs, both of each locked or only the idle one unlocked. -/
def pllsOf (b : Bool) : List Pll := List.replicate 3 ⟨false, true, b, false, none⟩

/-- LC_REQUEST called with a record of 40 octets asking for an operation and a target, at a life-cycle state. -/
def LC (op target : Nat) (x : LcSt) : State :=
  { V 0 0x80 [(3, 40), (4, 64)] (leBytes 2 0x1C5E ++ leBytes 2 0x0100 ++ leBytes 1 op ++ leBytes 1 target ++ List.replicate 34 0) with lc := x }

/-- The custody slot in a state; with a mounted volume of one object, keys and a metering key. -/
def C (x : CsSt) : State := { S with cs := x }
def ent0 : DirEnt := { kind := 1, flags := 0, lba := 386, nblk := 1, len := 1, minute := 0, name := List.replicate 12 0x41, digest := [] }
def CK (n : Nat) (args : Tbl W32) (mem : List Byte) : State :=
  { V 0 n args (mem ++ List.replicate (64 - mem.length) 0 ++ List.replicate 12 0x41) with
    cs := { cd := true, card := 2, vol := 1, sb := { blocks := 587 }, dir := [(0, some ent0)] }
    lc := { S.lc with metKey := true }
    ord := { (V 0 n args).ord with keys := [(5, { used := true }), (0x8000, { used := true })] } }

/-- STEWARD_UPDATE in a state of the update, with something in both slots, the other slot's image of ABI 1.2, format 1.0 and services 1.2. -/
def U (args : Tbl W32) (x : UpdSt) : State :=
  { V 0 0x7F args with
    upd := x, rng := { S.rng with st := .running, dd := 1 }
    fl := { data := [(0x10000000, 0xD5), (0x10800018, 2), (0x10800019, 1), (0x1080001A, 0), (0x1080001B, 1), (0x1080001C, 2), (0x1080001D, 1)] } }

/-! ### One step each, with values from the spec's worked cases and rules -/

/-- The state a meaning answers has a property. -/
def ran (o : Host.Outcome State Fault Refusal) (p : State → Bool) : Bool :=
  match o with
  | .next t => p t
  | _ => false

-- SA slots of the worked cases of chapters 2 to 5, and slot 2,566 of Millet's rekey.
theorem test_slots : scSlot 0 640 + 0 = 2560 ∧ scSlot 0 641 + 1 = 2565 ∧ scSlot 0 641 + 2 = 2566 ∧ scSlot 1 900 + 2 = 36370 ∧ scSlot 0 1200 + 1 = 4801 ∧ scSlot 1 1500 = 38768 := by decide

-- Event sources of the worked cases: VF 7 of endpoint B, verdict stage 12.
theorem test_sources : fnSrc (256 + 7) = 2119 ∧ vdSrc 12 = 2976 := by decide

-- Addresses of the worked cases: steering stage 5, verdict stage 12, the scratch of sandboxes 1 and 5.
theorem test_addresses : stA 5 = 0x44050000 ∧ vdA 12 = 0x4300C000 ∧ scratchA 1 = 0x20104000 ∧ scratchA 5 = 0x20114000 := by decide

-- Sectors of the second bank in chapter 15's worked case.
theorem test_sectors : sectorOf 0x10E0FA00 % 1024 = 775 ∧ sectorOf 0x10E63200 % 1024 = 817 := by decide

-- li g4, 0x2010_4000 is KHI and KLO (chapter 10's worked case).
theorem test_khi : ran (exec (.khi I0 4 0x2010) (H 1)) (fun t => gget (hartOf t 0) 4 == 0x20100000) = true := by decide +kernel
theorem test_klo : ran (exec (.klo I0 4 0x4000) { H 1 with harts := [(0, { hart0 1 with g := [(4, 0x20100000)] })] }) (fun t => gget (hartOf t 0) 4 == 0x20104000) = true := by
  decide +kernel

/-- A hart at level 1 under LOOPMODE REPEAT about to copy four words into granules of which the second is not coloured. -/
def copyS : State :=
  { S with harts := [(0, { hart0 1 with rept := true, g := [(4, 0x200000F8), (5, 0x20000000), (6, 4)] })] }

-- The copy stops before the element that meets the uncoloured granule, its registers where they stand (chapter 10's worked case).
theorem test_bcopy_colour : ran (exec (.bcopy I0 4 5 6 2 9 .ok) copyS) (fun t => let y := hartOf t 0
    gget y 4 == 0x20000100 && gget y 5 == 0x20000008 && gget y 6 == 2 && y.level == 2 && svGet y 2 3 == 0x20000100 && svGet y 2 0 == 0x20000000) = true := by decide +kernel

-- ATOMIC 200 opens a window of 201 cycles (chapter 11's worked case).
theorem test_atomic : ran (exec (.atomic I0 200) (H 1)) (fun t => (hartOf t 0).aw && (hartOf t 0).atw == 201) = true := by decide +kernel

/-- Chapter 6's worked case at steps 6 and 7: 32 entries. -/
def ringS (head tail : Nat) : State :=
  { X { xE with orHead := head, orTail := tail, crTail := 20, crHead := 16 } with regs := S.regs ++ [(epCtl 0, 0x323), (hfWin 0 + 0x28, 0x405)] }

theorem test_doorbell : ran (exec (.orTailDoorbell 0 34) (ringS 20 20)) (fun t => (fnOf t 0).orTail == 34 && (fnOf t 0).ring == .enabled) = true := by decide +kernel
theorem test_doorbell_bad : ran (exec (.orTailDoorbell 0 70) (ringS 28 34)) (fun t => (fnOf t 0).orTail == 34 && (fnOf t 0).ring == .stopped && (fnOf t 0).cause == 1) = true := by decide +kernel

/-- Oscillator 5 has given the same sample 31 times running. -/
def stuckS : State :=
  { S with rng := { S.rng with st := .running, pool := 9, last := [(0, false), (1, false), (2, false), (3, false), (4, false), (5, true), (6, false), (7, false)], run := [(5, 31)] } }

-- The 32nd identical sample: FAILED, bit 5 of OSC_EN cleared and the pool emptied (chapter 14's worked case).
theorem test_stuck : ran (exec (.rngSampleTick 0xFF) stuckS) (fun t => t.rng.st == .failed && t.rng.oscEn == 0xDF && t.rng.pool == 0) = true := by decide +kernel
theorem test_not_stuck : ran (exec (.rngSampleTick 0xDF) stuckS) (fun t => t.rng.st == .running && t.rng.oscEn == 0xFF) = true := by decide +kernel

-- The first minute of the new start follows the highest minute opened (chapter 15's worked case).
theorem test_first_minute : ran (exec .startServiceEntry { S with pw := { S.pw with mode := .starting, step := 14, tested := true }, mt := { highest := some 1052418 } })
    (fun t => t.mt.minute == some 1052419 && t.pw.mode == .service) = true := by decide +kernel

/-- Monitors 3 and 13 fire at their first event, at PURGE and SEAL; the next LSEQ is 41. -/
def lidS : State :=
  { S with regs := S.regs ++ [(mcfgA 3, w32 (1 + 4 + 128 * 100 + 2 ^ 21 * 4)), (mcfgA 13, w32 (1 + 4 + 128 * 100 + 2 ^ 21 * 3))], tm := { S.tm with lseq := 41 }, level := 1 }

-- Two firings in one cycle: PURGE, and records 41, 42 and 43 with one stamp (chapter 17's worked case).
theorem test_concurrent : ran (exec (.monitorTrip 0x2008) lidS) (fun t => t.level == 4 &&
    t.tm.logPend.map (fun r => (r.monitor, r.level, r.tsc)) == [(3, 4, tscOf lidS), (13, 3, tscOf lidS), (0xFF, 4, tscOf lidS)]) = true := by decide +kernel

-- INTENT of RETURN is 0xFF00_00FF in record 3, after TEST, SEALED and OWNED (chapter 18's worked case).
theorem test_intent : ran (exec (.lcIntent 4) S) (fun t => t.lc.burn == some (1, 3, 0xFF0000FF)) = true := by decide +kernel

/-- Counter 4 was 6; its increment was cut off in step 3: copy B holds 7 and copy P is invalid. -/
def palletS : State :=
  { S with tag := { tgS true with nvm := [(4, { b := ⟨true, 8, List.replicate 16 0 ++ [7]⟩, p := ⟨false, 7, []⟩ })] } }

-- The interrupted increment has taken place (chapter 19's worked case).
theorem test_counter : tagCounter palletS 4 = 7 := by decide +kernel
theorem test_counters : ran (exec .counters palletS) (fun t => t.sent.getLast? == some (.answer 2 ([0, 8, 0, 0, 0] ++ List.replicate 16 0 ++ [7] ++ List.replicate 47 0))) = true := by
  decide +kernel

-- ATQA 0x0004 and SAK 0x20 (chapter 19's worked case).
theorem test_atqa : ran (exec (.reqa true) { S with tag := { field := true } }) (fun t => t.sent == [.answer 2 [4, 0]] && t.tag.iso == .ready) = true := by decide +kernel
theorem test_sak : ran (exec (.select 0x12345608 true) { S with tag := { field := true, iso := .ready, uid := some 0x123456 } }) (fun t => t.sent == [.answer 2 [0x20]]) = true := by
  decide +kernel

-- With MAXLEN 9,216 the reservation is 145 cells, and a 96-octet frame takes 2 (chapter 1's worked case).
theorem test_reserve : reserveCells S 0 = 145 ∧ cdiv 96 64 = 2 := by decide +kernel

-- The IDCODE of R582.
theorem test_idcode : ran (exec .idcode S) (fun t => t.sent == [.answer 1 [0xF7, 0x04, 0x40, 0x16]]) = true := by decide +kernel

-- A NOP entry completes OK in entry order (R219).
theorem test_nop : ran (exec (.nopEntry 0) (X { xE with raw := [ent 0 0 0 0 0], out := 1 })) (fun t => (fnOf t 0).compl.map (fun c => (c.tag, c.status)) == [(9, 0)]) = true := by decide +kernel

-- A swap of counter banks (R301).
theorem test_swap : ran (exec .swap S) (fun t => t.bank == 1) = true := by decide +kernel

-- A write to a register and its read back (R12, R57).
theorem test_register : ran (exec (.registerWrite 0 0x4100000C 1518) S) (fun t => rget t 0x4100000C == 1518) = true := by decide +kernel
theorem test_register_read : ran (exec (.loReadLatch 0 0x4100000C) S) (fun t => t.reply == [9216]) = true := by decide +kernel

/-! ### The queue -/

theorem test_step_front : ran (Machine.step { S with pending := [.idcode, .swap] }) (fun t => t.pending == [.swap] && t.bank == 0 && t.sent.length == 1) = true := by decide +kernel
theorem test_step_idle : ran (Machine.step { S with pw := { S.pw with mode := .off } }) (fun t => t.now == 1) = true := by decide +kernel
theorem test_no_word : decodeTableWord 32 0 = none ∧ (S.withFetchWord 32 0 = S) := ⟨rfl, rfl⟩

/-! ### Ill-formed commands -/

theorem test_wf_registerWrite : (Instr.registerWrite 0 2 0).wellFormed = false := by decide
theorem test_wf_loReadLatch : (Instr.loReadLatch 0 0x102000000).wellFormed = false := by decide
theorem test_wf_trainingComplete : (Instr.trainingComplete 0 .host (List.replicate 9 0) false).wellFormed = false := by decide
theorem test_wf_frameHeadResolve : (Instr.frameHeadResolve 0 .host [0] none).wellFormed = false := by decide
theorem test_wf_frameEnd : (Instr.frameEnd 0 .host [] true).wellFormed = false := by decide
theorem test_wf_orderEntriesArrive : (Instr.orderEntriesArrive 0 [[0]] none).wellFormed = false := by decide
theorem test_wf_phaseRecheck : (Instr.phaseRecheck 0 [] none).wellFormed = false := by decide
theorem test_wf_orderEntry : (Instr.orderEntry 0 (List.replicate 4129 0) [] none none).wellFormed = false := by decide +kernel
theorem test_wf_argRead : (Instr.argRead 0 (List.replicate 8193 0) none).wellFormed = false := by decide +kernel
theorem test_wf_dmaHostCompletion : (Instr.dmaHostCompletion 0 0 false (List.replicate 513 0) none).wellFormed = false := by decide +kernel
theorem test_wf_rngFreqWindow : (Instr.rngFreqWindow [1]).wellFormed = false := by decide
theorem test_wf_startWipeComplete : (Instr.startWipeComplete [(7, 0, 0)]).wellFormed = false := by decide
theorem test_wf_serdes : (Instr.serdesCalibrationComplete [(1, 0)]).wellFormed = false := by decide
theorem test_wf_dbgCmd : (Instr.dbgCmd (.vendor 0 [])).wellFormed = false := by decide
theorem test_wf_inboxStage : (Instr.inboxStage 0 (List.replicate 256 0)).wellFormed = false := by decide +kernel
theorem test_wf_sdCommandComplete : (Instr.sdCommandComplete 0 0 (List.replicate 5 0) []).wellFormed = false := by decide
theorem test_wf_good : (Instr.registerWrite 0 4 0).wellFormed = true ∧ (Instr.frameHeadResolve 63 .line (List.replicate 64 0) none).wellFormed = true := by decide

/-! ### Witnesses: states and operands that meet the premises of each clause -/

theorem witness_aluThreeRegister :
    (let s : State := H 0; let t : State := H 0; let i : Issue := I0; Issues s t i) ∧
    (let s : State := H 0; let t : State := H 0; let i : Issue := I0; let rb : Fin 32 := 3; let x := hartOf t i.h; let b := gget x rb; Issues s t i ∧ b = 0) ∧
    (let s : State := H 0; let t : State := H 0; let i : Issue := I0; let rb : Fin 32 := 2; let x := hartOf t i.h; let b := gget x rb; Issues s t i ∧ b ≠ 0) ∧
    (let s : State := H 0; let t : State := H 0; let i : Issue := I0; let ra : Fin 32 := 5; let rb : Fin 32 := 6; let x := hartOf t i.h; let a := gget x ra; let b := gget x rb; Issues s t i ∧ a = 0x80000000 ∧ b = 0xFFFFFFFF) ∧
    (let s : State := H 0; let t : State := H 0; let i : Issue := I0; let ra : Fin 32 := 5; let rb : Fin 32 := 2; let x := hartOf t i.h; let a := gget x ra; let b := gget x rb; Issues s t i ∧ b ≠ 0 ∧ (¬(a = 0x80000000 ∧ b = 0xFFFFFFFF))) ∧
    (let s : State := H 0; let t : State := H 0; let i : Issue := I0; let rb : Fin 32 := 0; Issues s t i ∧ rb = 0) := by
  refine ⟨?_, ?_, ?_, ?_, ?_, ?_⟩
  · unfold Issues; decide +kernel
  · unfold Issues; decide +kernel
  · unfold Issues; decide +kernel
  · unfold Issues; decide +kernel
  · unfold Issues; decide +kernel
  · unfold Issues; decide +kernel

theorem witness_aluImmediate :
    (let s : State := H 0; let t : State := H 0; let i : Issue := I0; Issues s t i) := by
  unfold Issues; decide +kernel

theorem witness_constantInstructions :
    (let s : State := H 0; let t : State := H 0; let i : Issue := I0; Issues s t i) ∧
    (let s : State := H 0; let t : State := H 0; let i : Issue := I0; let imm : BitVec 17 := 0xFFFF; Issues s t i ∧ imm.getLsbD 16 = false) ∧
    (let s : State := H 0; let t : State := H 0; let i : Issue := I0; let imm : BitVec 17 := 0x10000; Issues s t i ∧ imm.getLsbD 16 = true) := by
  refine ⟨?_, ?_, ?_⟩
  · unfold Issues; decide +kernel
  · unfold Issues; decide +kernel
  · unfold Issues; decide +kernel

theorem witness_predicates :
    (let s : State := H 0; let t : State := H 0; let i : Issue := I0; let mode : Fin 4 := 2; let cond : Fin 16 := 11; Issues s t i ∧ mode ≠ 3 ∧ cond.val < 12) ∧
    (let s : State := H 0; let t : State := H 0; let i : Issue := I0; Issues s t i) := by
  refine ⟨?_, ?_⟩
  · unfold Issues; decide +kernel
  · unfold Issues; decide +kernel

theorem witness_gZeroAndPZero :
    (let s : State := H 0; let t : State := H 0; let i : Issue := I0; Issues s t i) ∧
    (let s : State := H 0; let t : State := H 0; let i : Issue := I0; let ra : Fin 32 := 1; let l : List Byte := [0,0,0,0]; let imm : BitVec 12 := 0; let u : State := H 0; let x := hartOf t i.h; Issues s t i ∧ inRegs (effAddr x ra imm) = false ∧ hartLoad t i.h x .load (effAddr x ra imm) 4 .ok = (u, .val l)) ∧
    (let s : State := H 0; let t : State := H 0; let i : Issue := I0; let ra : Fin 32 := 9; let z : Nat := 2; let imm : BitVec 12 := 0; let u : State := H 0; let x := hartOf t i.h; Issues s t i ∧ z ≤ 4 ∧ hartLoad t i.h x .load (effAddr x ra imm) 4 .ok = (u, .bad z) ∧ inRegs (effAddr x ra imm) = false) := by
  refine ⟨?_, ?_, ?_⟩
  · unfold Issues; decide +kernel
  · unfold Issues; decide +kernel
  · unfold Issues; decide +kernel

theorem witness_loads :
    (let s : State := H 0; let t : State := H 0; let u : State := H 0; let i : Issue := I0; let ra : Fin 32 := 1; let imm : BitVec 12 := 0; let res : MemRes := .ok; let l : List Byte := [0]; let x := hartOf t i.h; let a := (gget x ra + imm.signExtend 32).toNat; Issues s t i ∧ hartLoad t i.h x .load a 1 res = (u, .val l)) ∧
    (let s : State := H 0; let t : State := H 0; let u : State := H 0; let i : Issue := I0; let ra : Fin 32 := 1; let imm : BitVec 12 := 0; let res : MemRes := .ok; let l : List Byte := [0,0]; let x := hartOf t i.h; let a := (gget x ra + imm.signExtend 32).toNat; Issues s t i ∧ hartLoad t i.h x .load a 2 res = (u, .val l)) ∧
    (let s : State := H 0; let t : State := H 0; let u : State := H 0; let i : Issue := I0; let ra : Fin 32 := 1; let imm : BitVec 12 := 0; let res : MemRes := .ok; let l : List Byte := [0,0,0,0]; let x := hartOf t i.h; let a := (gget x ra + imm.signExtend 32).toNat; Issues s t i ∧ inRegs a = false ∧ hartLoad t i.h x .load a 4 res = (u, .val l)) ∧
    (let s : State := H 0; let t : State := H 0; let u : State := (hartLoad (H 0) 0 (hartOf (H 0) 0) .load 0x60000000 1 .ok).1; let i : Issue := I0; let ra : Fin 32 := 10; let imm : BitVec 12 := 0; let res : MemRes := .ok; let c : Nat := 3; let x := hartOf t i.h; let a := (gget x ra + imm.signExtend 32).toNat; Issues s t i ∧ hartLoad t i.h x .load a 1 res = (u, .bad c)) ∧
    (let s : State := H 0; let t : State := H 0; let u : State := (hartLoad (H 0) 0 (hartOf (H 0) 0) .load 0x20000041 2 .ok).1; let i : Issue := I0; let ra : Fin 32 := 9; let imm : BitVec 12 := 0; let res : MemRes := .ok; let c : Nat := 2; let x := hartOf t i.h; let a := (gget x ra + imm.signExtend 32).toNat; Issues s t i ∧ hartLoad t i.h x .load a 2 res = (u, .bad c)) ∧
    (let s : State := H 0; let t : State := H 0; let u : State := (hartLoad (H 0) 0 (hartOf (H 0) 0) .load 0x20000041 4 .ok).1; let i : Issue := I0; let ra : Fin 32 := 9; let imm : BitVec 12 := 0; let res : MemRes := .ok; let c : Nat := 2; let x := hartOf t i.h; let a := (gget x ra + imm.signExtend 32).toNat; Issues s t i ∧ inRegs a = false ∧ hartLoad t i.h x .load a 4 res = (u, .bad c)) := by
  refine ⟨?_, ?_, ?_, ?_, ?_, ?_⟩
  · unfold Issues; decide +kernel
  · unfold Issues; decide +kernel
  · unfold Issues; decide +kernel
  · unfold Issues; decide +kernel
  · unfold Issues; decide +kernel
  · unfold Issues; decide +kernel

theorem witness_loadFromSram :
    (let s : State := H 0; let h : Nat := 0; let r : Nat := 0; let a : Nat := 0x20000040; let z : Nat := 4; let x : Hart := hart0 0; (z = 1 ∨ z = 2 ∨ z = 4) ∧ inSram a = true ∧ a % z = 0 ∧ region s h a = some r ∧ permits s h r .load (x.level == 0) = true ∧ colourOf s h r (x.level == 0) ≠ 0 ∧ tget (fun _ => false) s.badTag (granule a) = false ∧ tget (fun _ => 0) s.tags (granule a) = colourOf s h r (x.level == 0) ∧ tget (fun _ => false) s.badLane (memLane a) = false ∧ (∀ e ∈ x.sbuf, a + z ≤ e.addr ∨ e.addr + e.size ≤ a)) := by
  decide +kernel

theorem witness_stores :
    (let s : State := H 0; let t : State := H 0; let u : State := H 0; let i : Issue := I0; let ra : Fin 32 := 1; let imm : BitVec 12 := 0; let tag : MemRes := .ok; let x := hartOf t i.h; let a := (gget x ra + imm.signExtend 32).toNat; Issues s t i ∧ x.sbuf.length < 8 ∧ hartCheck t i.h x .store a 1 tag = (u, none)) ∧
    (let s : State := H 0; let t : State := H 0; let u : State := H 0; let i : Issue := I0; let ra : Fin 32 := 1; let imm : BitVec 12 := 0; let tag : MemRes := .ok; let x := hartOf t i.h; let a := (gget x ra + imm.signExtend 32).toNat; Issues s t i ∧ x.sbuf.length < 8 ∧ hartCheck t i.h x .store a 2 tag = (u, none)) ∧
    (let s : State := H 0; let t : State := H 0; let u : State := H 0; let i : Issue := I0; let ra : Fin 32 := 1; let imm : BitVec 12 := 0; let tag : MemRes := .ok; let x := hartOf t i.h; let a := (gget x ra + imm.signExtend 32).toNat; Issues s t i ∧ x.sbuf.length < 8 ∧ hartCheck t i.h x .store a 4 tag = (u, none)) := by
  refine ⟨?_, ?_, ?_⟩
  · unfold Issues; decide +kernel
  · unfold Issues; decide +kernel
  · unfold Issues; decide +kernel

theorem witness_atomics :
    (let s : State := H 0; let t : State := H 0; let u : State := H 0; let i : Issue := I0; let ra : Fin 32 := 1; let res : MemRes := .ok; let x := hartOf t i.h; let a := (gget x ra).toNat; Issues s t i ∧ x.sbuf = [] ∧ (hartCheck t i.h x .amo a 4 res).2 = none ∧ sramLane (hartCheck t i.h x .amo a 4 res).1 a res = (u, true)) ∧
    (let s : State := H 0; let t : State := H 0; let u : State := H 0; let i : Issue := I0; let rd : Fin 32 := 4; let ra : Fin 32 := 1; let res : MemRes := .ok; let x := hartOf t i.h; let a := (gget x ra).toNat; let old := BitVec.ofNat 32 (leNat (memRead u a 4)); Issues s t i ∧ x.sbuf = [] ∧ (hartCheck t i.h x .amo a 4 res).2 = none ∧ sramLane (hartCheck t i.h x .amo a 4 res).1 a res = (u, true) ∧ old = gget x rd) ∧
    (let s : State := H 0; let t : State := H 0; let u : State := H 0; let i : Issue := I0; let rd : Fin 32 := 2; let ra : Fin 32 := 1; let res : MemRes := .ok; let x := hartOf t i.h; let a := (gget x ra).toNat; let old := BitVec.ofNat 32 (leNat (memRead u a 4)); Issues s t i ∧ x.sbuf = [] ∧ (hartCheck t i.h x .amo a 4 res).2 = none ∧ sramLane (hartCheck t i.h x .amo a 4 res).1 a res = (u, true) ∧ old ≠ gget x rd) := by
  refine ⟨?_, ?_, ?_⟩
  · unfold Issues; decide +kernel
  · unfold Issues; decide +kernel
  · unfold Issues; decide +kernel

theorem witness_storeDrains :
    (let s : State := { S with harts := [(0, { hart0 0 with sbuf := [⟨0x20000040, 4, 7, 0⟩] })] }; let h : Fin 8 := 0; let e : StoreEnt := ⟨0x20000040, 4, 7, 0⟩; let r : List StoreEnt := []; let x := hartOf s h; runs s = true ∧ hstOf s h ≠ .haltedHw ∧ hstOf s h ≠ .retired ∧ x.sbuf = e :: r ∧ inRegs e.addr = false ∧ tget (fun _ => false) s.badLane (memLane e.addr) = false) ∧
    (let s : State := { S with harts := [(0, { hart0 0 with sbuf := [⟨0x20000040, 4, 7, 0⟩] })] }; let h : Fin 8 := 0; let e : StoreEnt := ⟨0x20000040, 4, 7, 0⟩; let r : List StoreEnt := []; let x := hartOf s h; runs s = true ∧ hstOf s h ≠ .haltedHw ∧ hstOf s h ≠ .retired ∧ x.sbuf = e :: r ∧ inRegs e.addr = false ∧ e.level < 3) := by
  refine ⟨?_, ?_⟩
  · decide +kernel
  · decide +kernel

theorem witness_stringsAtCountZero :
    (let s : State := R; let t : State := R; let i : Issue := I0; let rd : Fin 32 := 7; let ra : Fin 32 := 1; let rb : Fin 32 := 3; let func : Fin 128 := 2; let x := hartOf t i.h; gget x rb = 0 ∧ StrIssues s t i .copy rd ra rb func) ∧
    (let s : State := R; let t : State := R; let i : Issue := I0; let rd : Fin 32 := 7; let ra : Fin 32 := 2; let rb : Fin 32 := 3; let func : Fin 128 := 2; let x := hartOf t i.h; gget x rb = 0 ∧ StrIssues s t i .fill rd ra rb func) ∧
    (let s : State := R; let t : State := R; let i : Issue := I0; let rd : Fin 32 := 7; let ra : Fin 32 := 1; let rb : Fin 32 := 3; let func : Fin 128 := 2; let x := hartOf t i.h; gget x rb = 0 ∧ StrIssues s t i .xor rd ra rb func) ∧
    (let s : State := R; let t : State := R; let i : Issue := I0; let rd : Fin 32 := 7; let ra : Fin 32 := 1; let rb : Fin 32 := 3; let func : Fin 128 := 10; let x := hartOf t i.h; gget x rb = 0 ∧ StrIssues s t i .comp rd ra rb func) ∧
    (let s : State := R; let t : State := R; let i : Issue := I0; let rd : Fin 32 := 2; let ra : Fin 32 := 1; let rb : Fin 32 := 3; let func : Fin 128 := 10; let x := hartOf t i.h; gget x rb = 0 ∧ StrIssues s t i .scan rd ra rb func) := by
  refine ⟨?_, ?_, ?_, ?_, ?_⟩
  · unfold StrIssues Issues; decide +kernel
  · unfold StrIssues Issues; decide +kernel
  · unfold StrIssues Issues; decide +kernel
  · unfold StrIssues Issues; decide +kernel
  · unfold StrIssues Issues; decide +kernel

theorem witness_stringsLastElement :
    (let s : State := R; let t : State := R; let u : State := R; let w : State := R; let i : Issue := I0; let rd : Fin 32 := 7; let ra : Fin 32 := 1; let rb : Fin 32 := 8; let func : Fin 128 := 2; let n : Nat := 1; let l : List Byte := [0,0,0,0]; let x := hartOf t i.h; let z := 2 ^ (func.val % 4); let d := (gget x rd).toNat; let a := (gget x ra).toNat; gget x rb = 1 ∧ n ≤ 1 ∧ StrIssues s t i .copy rd ra rb func ∧ x.sbuf.length < 8 ∧ hartLoad t i.h x .eread a z .ok = (u, .val l) ∧ hartCheck u i.h x .ewrite d z .ok = (w, none)) ∧
    (let s : State := R; let t : State := R; let w : State := R; let i : Issue := I0; let rd : Fin 32 := 7; let ra : Fin 32 := 2; let rb : Fin 32 := 8; let func : Fin 128 := 2; let n : Nat := 1; let x := hartOf t i.h; let z := 2 ^ (func.val % 4); let d := (gget x rd).toNat; gget x rb = 1 ∧ n ≤ 1 ∧ StrIssues s t i .fill rd ra rb func ∧ x.sbuf.length < 8 ∧ hartCheck t i.h x .ewrite d z .ok = (w, none)) ∧
    (let s : State := R; let t : State := R; let u : State := R; let v : State := R; let w : State := R; let i : Issue := I0; let rd : Fin 32 := 7; let ra : Fin 32 := 1; let rb : Fin 32 := 8; let func : Fin 128 := 2; let n : Nat := 1; let l : List Byte := [0,0,0,0]; let m : List Byte := [0,0,0,0]; let x := hartOf t i.h; let z := 2 ^ (func.val % 4); let d := (gget x rd).toNat; let a := (gget x ra).toNat; gget x rb = 1 ∧ n ≤ 1 ∧ StrIssues s t i .xor rd ra rb func ∧ x.sbuf.length < 8 ∧ hartLoad t i.h x .eread a z .ok = (u, .val l) ∧ hartLoad u i.h x .eread d z .ok = (v, .val m) ∧ hartCheck v i.h x .ewrite d z .ok = (w, none)) ∧
    (let s : State := R; let t : State := R; let u : State := R; let w : State := R; let i : Issue := I0; let rd : Fin 32 := 7; let ra : Fin 32 := 1; let rb : Fin 32 := 8; let func : Fin 128 := 10; let n : Nat := 1; let l : List Byte := [0,0,0,0]; let m : List Byte := [0,0,0,0]; let x := hartOf t i.h; let z := 2 ^ (func.val % 4); let d := (gget x rd).toNat; let a := (gget x ra).toNat; gget x rb = 1 ∧ n ≤ 1 ∧ StrIssues s t i .comp rd ra rb func ∧ hartLoad t i.h x .eread d z .ok = (u, .val l) ∧ hartLoad u i.h x .eread a z .ok = (w, .val m) ∧ leNat l = leNat m) ∧
    (let s : State := { R with sram := [(0x20000040, 9)] }; let t : State := { R with sram := [(0x20000040, 9)] }; let u : State := { R with sram := [(0x20000040, 9)] }; let w : State := { R with sram := [(0x20000040, 9)] }; let i : Issue := I0; let rd : Fin 32 := 7; let ra : Fin 32 := 1; let rb : Fin 32 := 8; let func : Fin 128 := 10; let n : Nat := 1; let l : List Byte := [0,0,0,0]; let m : List Byte := [9,0,0,0]; let x := hartOf t i.h; let z := 2 ^ (func.val % 4); let d := (gget x rd).toNat; let a := (gget x ra).toNat; gget x rb = 1 ∧ n ≤ 1 ∧ StrIssues s t i .comp rd ra rb func ∧ hartLoad t i.h x .eread d z .ok = (u, .val l) ∧ hartLoad u i.h x .eread a z .ok = (w, .val m) ∧ leNat l ≠ leNat m) ∧
    (let s : State := R; let t : State := R; let w : State := R; let i : Issue := I0; let rd : Fin 32 := 3; let ra : Fin 32 := 1; let rb : Fin 32 := 8; let func : Fin 128 := 10; let n : Nat := 1; let l : List Byte := [0,0,0,0]; let x := hartOf t i.h; let z := 2 ^ (func.val % 4); let d := (gget x rd).toNat; let a := (gget x ra).toNat; gget x rb = 1 ∧ n ≤ 1 ∧ StrIssues s t i .scan rd ra rb func ∧ hartLoad t i.h x .eread a z .ok = (w, .val l) ∧ leNat l = d % 2 ^ (8 * z)) ∧
    (let s : State := R; let t : State := R; let w : State := R; let i : Issue := I0; let rd : Fin 32 := 2; let ra : Fin 32 := 1; let rb : Fin 32 := 8; let func : Fin 128 := 10; let n : Nat := 1; let l : List Byte := [0,0,0,0]; let x := hartOf t i.h; let z := 2 ^ (func.val % 4); let d := (gget x rd).toNat; let a := (gget x ra).toNat; gget x rb = 1 ∧ n ≤ 1 ∧ StrIssues s t i .scan rd ra rb func ∧ hartLoad t i.h x .eread a z .ok = (w, .val l) ∧ leNat l ≠ d % 2 ^ (8 * z)) := by
  refine ⟨?_, ?_, ?_, ?_, ?_, ?_, ?_⟩
  · unfold StrIssues Issues; decide +kernel
  · unfold StrIssues Issues; decide +kernel
  · unfold StrIssues Issues; decide +kernel
  · unfold StrIssues Issues; decide +kernel
  · unfold StrIssues Issues; decide +kernel
  · unfold StrIssues Issues; decide +kernel
  · unfold StrIssues Issues; decide +kernel

theorem witness_transfers :
    (let s : State := H 0; let t : State := H 0; let i : Issue := I0; Issues s t i) ∧
    (let s : State := H 0; let t : State := H 0; let i : Issue := I0; let ra : Fin 32 := 1; let x := hartOf t i.h; let a := gget x ra; Issues s t i ∧ a.toNat % 4 = 0) ∧
    (let s : State := H 0; let t : State := H 0; let i : Issue := I0; let ra : Fin 32 := 9; let x := hartOf t i.h; let a := gget x ra; Issues s t i ∧ a.toNat % 4 ≠ 0) := by
  refine ⟨?_, ?_, ?_⟩
  · unfold Issues; decide +kernel
  · unfold Issues; decide +kernel
  · unfold Issues; decide +kernel

theorem witness_controlRegisters :
    (let s : State := H 1; let t : State := H 1; let i : Issue := I0; let creg : Fin 4096 := 0x140; let rl : Nat := 1; let wl : Option Nat := some 1; let level : Nat := 1; IssuesAt s t i level ∧ crLevels creg = some (rl, wl) ∧ rl ≤ level) ∧
    (let s : State := H 0; let t : State := H 0; let i : Issue := I0; let creg : Fin 4096 := 0x140; let rl : Nat := 1; let wl : Option Nat := some 1; let level : Nat := 0; IssuesAt s t i level ∧ crLevels creg = some (rl, wl) ∧ level < rl) ∧
    (let s : State := H 1; let t : State := H 1; let i : Issue := I0; let creg : Fin 4096 := 0x140; let rl : Nat := 1; let wl : Option Nat := some 1; let level : Nat := 1; IssuesAt s t i level ∧ crLevels creg = some (rl, wl) ∧ wl.getD rl ≤ level) ∧
    (let s : State := H 1; let t : State := H 1; let i : Issue := I0; let creg : Fin 4096 := 0x200; let rl : Nat := 1; let wl : Option Nat := some 3; let level : Nat := 1; IssuesAt s t i level ∧ crLevels creg = some (rl, wl) ∧ level < wl.getD rl) := by
  refine ⟨?_, ?_, ?_, ?_⟩
  · unfold IssuesAt Issues; decide +kernel
  · unfold IssuesAt Issues; decide +kernel
  · unfold IssuesAt Issues; decide +kernel
  · unfold IssuesAt Issues; decide +kernel

theorem witness_loops :
    (let s : State := H 0; let t : State := H 0; let i : Issue := I0; let ra : Fin 32 := 2; let len : Fin 32768 := 1; let x := hartOf t i.h; Issues s t i ∧ (hartOf s i.h).rept = false ∧ len ≠ 0 ∧ gget x ra ≠ 0) ∧
    (let s : State := H 0; let t : State := H 0; let i : Issue := I0; let ra : Fin 32 := 3; let len : Fin 32768 := 1; let x := hartOf t i.h; Issues s t i ∧ (hartOf s i.h).rept = false ∧ len ≠ 0 ∧ gget x ra = 0) ∧
    (let s : State := H 0; let t : State := H 0; let i : Issue := I0; let cnt : Fin 1024 := 1; let lenI : Fin 1024 := 1023; Issues s t i ∧ (hartOf s i.h).rept = false ∧ lenI ≠ 0 ∧ cnt ≠ 0) := by
  refine ⟨?_, ?_, ?_⟩
  · unfold Issues; decide +kernel
  · unfold Issues; decide +kernel
  · unfold Issues; decide +kernel

theorem witness_systemInstructions :
    (let s : State := H 0; let t : State := H 0; let i : Issue := I0; let imm : BitVec 16 := 255; let level : Nat := 0; IssuesAt s t i level ∧ level = 0 ∧ imm.toNat < 256) ∧
    (let s : State := H 1; let t : State := H 1; let i : Issue := I0; let level : Nat := 1; let x := hartOf t i.h; IssuesAt s t i level ∧ x.sbuf = []) ∧
    (let s : State := { S with harts := [(0, { hart0 1 with sbuf := [⟨0x20000040, 4, 7, 1⟩] })] }; let t : State := { S with harts := [(0, { hart0 1 with sbuf := [⟨0x20000040, 4, 7, 1⟩] })] }; let i : Issue := I0; let level : Nat := 1; let x := hartOf t i.h; IssuesAt s t i level ∧ x.sbuf ≠ []) ∧
    (let s : State := H 1; let t : State := H 1; let i : Issue := I0; let imm : BitVec 16 := 255; let level : Nat := 1; let x := hartOf t i.h; IssuesAt s t i level ∧ 1 ≤ level ∧ imm.toNat < 256 ∧ x.aw = false) ∧
    (let s : State := H 1; let t : State := H 1; let i : Issue := I0; let level : Nat := 1; IssuesAt s t i level ∧ 1 ≤ level) ∧
    (let s : State := H 1; let t : State := H 1; let i : Issue := I0; let level : Nat := 1; IssuesAt s t i level ∧ 1 ≤ level ∧ (svGet (hartOf s i.h) level 1).toNat % 4 < level) ∧
    (let s : State := evState 2; let t : State := evState 2; let i : Issue := I0; let level : Nat := 2; IssuesAt s t i level ∧ 1 ≤ level ∧ (hartOf s i.h).aw = false ∧ anyPending t i.h = true) ∧
    (let s : State := H 1; let t : State := H 1; let i : Issue := I0; let level : Nat := 1; IssuesAt s t i level ∧ 1 ≤ level ∧ (hartOf s i.h).aw = false ∧ anyPending t i.h = false) ∧
    (let s : State := { H 1 with lc := { S.lc with dbgOpen := true, scope := 4 } }; let t : State := { H 1 with lc := { S.lc with dbgOpen := true, scope := 4 } }; let i : Issue := I0; let level : Nat := 1; IssuesAt s t i level ∧ s.lc.dbgOpen = true ∧ bitAt s.lc.scope 2 = true) := by
  refine ⟨?_, ?_, ?_, ?_, ?_, ?_, ?_, ?_, ?_⟩
  · unfold IssuesAt Issues; decide +kernel
  · unfold IssuesAt Issues; decide +kernel
  · unfold IssuesAt Issues; decide +kernel
  · unfold IssuesAt Issues; decide +kernel
  · unfold IssuesAt Issues; decide +kernel
  · unfold IssuesAt Issues; decide +kernel
  · unfold IssuesAt Issues; decide +kernel
  · unfold IssuesAt Issues; decide +kernel
  · unfold IssuesAt Issues; decide +kernel

theorem witness_levelEntry :
    (let m : Nat := 3; 1 ≤ m ∧ m ≤ 3) ∧
    (let m : Nat := 3; let n := 1; let k := 3; 1 ≤ m ∧ m ≤ 3 ∧ 1 ≤ n ∧ n ≤ 3 ∧ n ≠ m ∧ k ≤ 3) := by
  refine ⟨?_, ?_⟩
  · decide +kernel
  · decide +kernel

theorem witness_faultsOneLevelUp :
    (let s : State := H 1; let h : Nat := 0; let x := hartOf s h; (x.level = 1 ∨ x.level = 2)) ∧
    (let s : State := H 3; let h : Nat := 0; let x := hartOf s h; 3 ≤ x.level ∧ x.job = none) := by
  refine ⟨?_, ?_⟩
  · decide +kernel
  · decide +kernel

theorem witness_hartEventsTaken :
    (let s : State := evState 1; let h : Fin 8 := 0; let src := 20; runs s = true ∧ hstOf s h = .running ∧ due s h = some (.int false src)) ∧
    (let s : State := critState; let h : Fin 8 := 0; let src := 20; runs s = true ∧ hstOf s h = .running ∧ due s h = some (.int true src) ∧ stewardHart s = h) ∧
    (let s : State := { S with harts := [(0, { hart0 1 with late := [(1, 0x20000044)] })] }; let h : Fin 8 := 0; let l := 1; let a := 0x20000044; runs s = true ∧ l ≠ 0 ∧ hstOf s h = .running ∧ due s h = some (.late l a)) ∧
    (let s : State := { S with harts := [(0, { hart0 2 with ovr := some (2, 0x20000000) })] }; let h : Fin 8 := 0; let l := 2; let a := 0x20000000; runs s = true ∧ hstOf s h = .running ∧ due s h = some (.ovr l a)) ∧
    (let s : State := { S with harts := [(0, { hart0 2 with aw := true, atw := 5 })] }; let h : Fin 8 := 0; let x := hartOf s h; runs s = true ∧ x.aw = true ∧ x.level ≠ 3) ∧
    (let s : State := H 0; let h : Fin 8 := 0; let x := hartOf s h; runs s = true ∧ hstOf s h = .running ∧ x.job = none) ∧
    (let s : State := { evState 1 with hstate := [(0, .waiting)] }; let h : Fin 8 := 0; runs s = true ∧ hstOf s h = .waiting ∧ anyPending s h = true) := by
  refine ⟨?_, ?_, ?_, ?_, ?_, ?_, ?_⟩
  · decide +kernel
  · decide +kernel
  · decide +kernel
  · decide +kernel
  · decide +kernel
  · decide +kernel
  · decide +kernel

theorem witness_hartCommands :
    (let s : State := H 0; let w : Fin 8 := 1; let h : Fin 8 := 0; runs s = true ∧ w ≠ h ∧ (hstOf s h = .running ∨ hstOf s h = .waiting)) ∧
    (let s : State := { S with harts := [(0, { hart0 0 with haltReq := true })] }; let h : Fin 8 := 0; let x := hartOf s h; runs s = true ∧ x.haltReq = true ∧ x.aw = false ∧ x.sbuf = [] ∧ (hstOf s h = .running ∨ hstOf s h = .waiting)) ∧
    (let s : State := { H 0 with hstate := [(0, .haltedCmd)] }; let w : Fin 8 := 1; let h : Fin 8 := 0; runs s = true ∧ w ≠ h ∧ hstOf s h = .haltedCmd) ∧
    (let s : State := { H 0 with hstate := [(0, .haltedDebug)] }; let w : Fin 8 := 1; let h : Fin 8 := 0; let x := hartOf s h; runs s = true ∧ w ≠ h ∧ hartHalted s h = true ∧ x.job = none) ∧
    (let s : State := { H 0 with hstate := [(0, .haltedHw)] }; let w : Fin 8 := 1; let h : Fin 8 := 0; let x := hartOf s h; runs s = true ∧ w ≠ h ∧ hartHalted s h = true ∧ x.job = none) := by
  refine ⟨?_, ?_, ?_, ?_, ?_⟩
  · decide +kernel
  · decide +kernel
  · decide +kernel
  · decide +kernel
  · decide +kernel

theorem witness_routerCommands :
    (let s : State := S; let v : W32 := 1; runs s = true ∧ bitAt v.toNat 0 = true) ∧
    (let s : State := S; let v : W32 := 223; runs s = true ∧ 208 ≤ v.toNat % 4096 ∧ v.toNat % 4096 ≤ 223) ∧
    (let s : State := critState; let h : Fin 8 := 0; let k := 20; runs s = true ∧ selectAt s h true = some k) ∧
    (let s : State := evState 1; let h : Fin 8 := 0; let k := 20; runs s = true ∧ selectAt s h true = none ∧ selectAt s h false = some k) ∧
    (let s : State := S; let v : W32 := 1; let src : Fin 4096 := 3904; runs s = true ∧ (¬(3648 ≤ src.val ∧ src.val ≤ 3903)) ∧ v.toNat % 4 < 2) := by
  refine ⟨?_, ?_, ?_, ?_, ?_⟩
  · decide +kernel
  · decide +kernel
  · decide +kernel
  · decide +kernel
  · decide +kernel

theorem witness_portConfiguration :
    (let s : State := S; let b : Fin 16 := 0; let m : Fin 8 := 1; runs s = true ∧ modeLegal s b m = true) ∧
    (let s : State := { S with regs := S.regs ++ [(pbA 0, 1)] }; let b : Fin 16 := 0; let mask : Fin 16 := 1; runs s = true ∧ modeOf s b = 1 ∧ slotEn s b = 0 ∧ mask.val.testBit 0 = true ∧ (sideOf s (4 * b) .host).link = .disabled ∧ (sideOf s (4 * b) .line).link = .disabled) ∧
    (let s : State := P .waitSignal; let b : Fin 16 := 0; let mask : Fin 16 := 0; runs s = true ∧ modeOf s b = 1 ∧ slotEn s b = 1 ∧ mask.val.testBit 0 = false ∧ (sideOf s (4 * b) .host).link = .waitSignal ∧ (sideOf s (4 * b) .line).link = .waitSignal) ∧
    (let s : State := P .up; let p : Fin 64 := 0; let v : W32 := 0x03FF1800; runs s = true ∧ pcfgLegal s p v = true ∧ fld v 15 13 = rf s (slotA p) 15 13 ∧ fld v 31 29 = 0) := by
  refine ⟨?_, ?_, ?_, ?_⟩
  · decide +kernel
  · decide +kernel
  · decide +kernel
  · decide +kernel

theorem witness_linkCommands :
    (let s : State := { P .waitSignal with regs := S.regs ++ [(pbA 0, 0x11), (slotA 0, 0x03FF1900)] }; let p : Fin 64 := 0; let sd : Side := .line; let l := portLanes s p sd; let lit := laneEvents (modLanes s l (fun y => { y with sig := true, cdr := true })) l 1; runs s = true ∧ portOn s p = true ∧ gated s (p / 4) sd = false ∧ (sideOf lit p sd).link = .waitSignal ∧ sd = .line ∧ rbit lit (slotA p) 8 = true) ∧
    (let s : State := { P .waitSignal with regs := S.regs ++ [(pbA 0, 0x11), (slotA 0, 0x03FF1A00)] }; let p : Fin 64 := 0; let sd : Side := .host; let l := portLanes s p sd; let lit := laneEvents (modLanes s l (fun y => { y with sig := true, cdr := true })) l 1; runs s = true ∧ portOn s p = true ∧ gated s (p / 4) sd = false ∧ (sideOf lit p sd).link = .waitSignal ∧ sd = .host ∧ ltEn lit p .host = true) ∧
    (let s : State := P .waitSignal; let p : Fin 64 := 0; let sd : Side := .host; let l := portLanes s p sd; let lit := laneEvents (modLanes s l (fun y => { y with sig := true, cdr := true })) l 1; runs s = true ∧ portOn s p = true ∧ gated s (p / 4) sd = false ∧ (sideOf lit p sd).link = .waitSignal ∧ sd = .host ∧ ltEn lit p .host = false) ∧
    (let s : State := P .up; let p : Fin 64 := 0; let sd : Side := .host; let lane : Fin 8 := 3; let q : Nat × Nat := (0, 3); let signal : Bool := true; let x := sideOf s p sd; let l := portLanes s p sd; runs s = true ∧ portOn s p = true ∧ l[lane.val]? = some q ∧ (signal = true ∨ sideUp x = true) ∧ sideUp (sideOf (raise (modLanes s [q] (fun y => { y with sig := !signal && y.sig, cdr := false })) (laneSrc q) [if signal then 2 else 3]) p sd) = sideUp x) ∧
    (let s : State := P .an; let p : Fin 64 := 0; runs s = true ∧ (sideOf s p .line).link = .an) ∧
    (let s : State := P .training; let p : Fin 64 := 0; let sd : Side := .host; let x := sideOf s p sd; runs s = true ∧ x.link = .training) ∧
    (let s : State := P .training; let p : Fin 64 := 0; let sd : Side := .host; let lane : Fin 8 := 3; let q : Nat × Nat := (0, 3); let x := sideOf s p sd; let l := portLanes s p sd; runs s = true ∧ x.link = .training ∧ l[lane.val]? = some q) ∧
    (let s : State := P .aligning; let p : Fin 64 := 0; let sd : Side := .host; let x := sideOf s p sd; runs s = true ∧ x.link = .aligning) ∧
    (let s : State := { S with regs := S.regs ++ [(pbA 0, 0x11)], line := { S.line with sides := [(0, { link := .aligning, aligned := true })] } }; let p : Fin 64 := 0; let sd : Side := .host; let x := sideOf s p sd; runs s = true ∧ x.link = .aligning ∧ x.aligned = true) ∧
    (let s : State := P .up; let p : Fin 64 := 0; let sd : Side := .host; let x := sideOf s p sd; runs s = true ∧ sideUp x = true) ∧
    (let s : State := P .fault; let p : Fin 64 := 0; let sd : Side := .host; let x := sideOf s p sd; runs s = true ∧ x.link = .fault) ∧
    (let s : State := P .degraded; let p : Fin 64 := 0; let sd : Side := .host; let x := sideOf s p sd; runs s = true ∧ x.link ≠ .disabled ∧ x.link ≠ .up) := by
  refine ⟨?_, ?_, ?_, ?_, ?_, ?_, ?_, ?_, ?_, ?_, ?_, ?_⟩
  · decide +kernel
  · decide +kernel
  · decide +kernel
  · decide +kernel
  · decide +kernel
  · decide +kernel
  · decide +kernel
  · decide +kernel
  · decide +kernel
  · decide +kernel
  · decide +kernel
  · decide +kernel

theorem witness_framesInAndOut :
    (let s : State := P .up; let p : Fin 64 := 0; let sd : Side := .host; let x := sideOf s p sd; let n := reserveCells s p; let up := sideUp x = true ∧ sideUp (sideOf s p (otherSide sd)) = true; runs s = true ∧ portExists s p = true ∧ x.recv = none ∧ up ∧ hasRoom s p (dirOf sd) n = true) ∧
    (let s : State := F [{ seq := 1, cells := 200000 }] []; let p : Fin 64 := 0; let sd : Side := .host; let x := sideOf s p sd; let n := reserveCells s p; let up := sideUp x = true ∧ sideUp (sideOf s p (otherSide sd)) = true; runs s = true ∧ portExists s p = true ∧ x.recv = none ∧ up ∧ hasRoom s p (dirOf sd) n = false) ∧
    (let s : State := P .waitSignal; let p : Fin 64 := 0; let sd : Side := .host; let x := sideOf s p sd; let up := sideUp x = true ∧ sideUp (sideOf s p (otherSide sd)) = true; runs s = true ∧ portExists s p = true ∧ x.recv = none ∧ (¬up)) ∧
    (let s : State := { P .up with line := { (P .up).line with sides := [(0, { link := .up, recv := some { seq := 1 } }), (1, { link := .up })], frames := [(0, [{ seq := 1 }])] } }; let p : Fin 64 := 0; let sd : Side := .host; let octets : List Byte := plainFrame; let r : Recv := { seq := 1 }; let x := sideOf s p sd; runs s = true ∧ x.recv = some r ∧ r.seq ≠ 0 ∧ r.corrupt = false ∧ r.punt = none ∧ octets.length ≤ sideLimit s p sd) ∧
    (let s : State := F [{ seq := 1, fate := some .pass, started := true, ended := true }] []; let p : Fin 64 := 0; let d : Dir := .egress; let f : Frame := { seq := 1, fate := some .pass, started := true, ended := true }; runs s = true ∧ headOf s p d = some f ∧ f.fate = some .pass ∧ f.started = true ∧ f.ended = true ∧ f.injected = false) ∧
    (let s : State := P .up; let p : Fin 64 := 0; let sd : Side := .host; let x := sideOf s p sd; runs s = true ∧ portExists s p = true ∧ sideUp x = true) := by
  refine ⟨?_, ?_, ?_, ?_, ?_, ?_⟩
  · decide +kernel
  · decide +kernel
  · decide +kernel
  · decide +kernel
  · decide +kernel
  · decide +kernel

theorem witness_pauses :
    (let s : State := { S with regs := S.regs ++ [(pbA 0, 0x11), (slotA 0, 0x03FF3800), (slotA 0 + 0x1C, 0xFFFFFFFF)], line := { S.line with sides := [(0, { link := .up, pauseTot := true }), (1, { link := .up })] } }; let p : Fin 64 := 0; let sd : Side := .host; let x := sideOf s p sd; runs s = true ∧ pausedMask s p x ≠ 0 ∧ rf s (slotA p + 0x1C) 31 16 ≠ 0 ∧ sideUp x = true) ∧
    (let s : State := P .up; let p : Fin 64 := 0; let sd : Side := .host; let classes : Option (Fin 256) := none; let x := sideOf s p sd; let honours := rbit s (slotA p) (match sd with | .host => 16 | .line => 17); runs s = true ∧ portExists s p = true ∧ sideUp x = true ∧ honours = true ∧ classes ≠ some 0) ∧
    (let s : State := P .up; let p : Fin 64 := 0; let sd : Side := .host; let classes : Option (Fin 256) := some 0; let x := sideOf s p sd; let honours := rbit s (slotA p) (match sd with | .host => 16 | .line => 17); runs s = true ∧ portExists s p = true ∧ sideUp x = true ∧ (honours = false ∨ classes = some 0)) ∧
    (let s : State := P .up; runs s = true) := by
  refine ⟨?_, ?_, ?_, ?_⟩
  · decide +kernel
  · decide +kernel
  · decide +kernel
  · decide +kernel

theorem witness_portPower :
    (let s : State := { P .waitSignal with regs := S.regs ++ [(pbA 0, 0x11), (pbA 0 + 0x10, 0x00640064)] }; let b : Fin 16 := 0; runs s = true ∧ rf s (pbA b + 0x10) 31 16 ≠ 0 ∧ anySlotOn s b = true ∧ sideQuiet s b .host = true) ∧
    (let s : State := { P .waitSignal with regs := S.regs ++ [(pbA 0, 0x11), (pbA 0 + 0x10, 0x00640064)] }; let b : Fin 16 := 0; runs s = true ∧ rf s (pbA b + 0x10) 31 16 ≠ 0 ∧ anySlotOn s b = true ∧ sideQuiet s b .line = true) ∧
    (let s : State := { P .waitSignal with regs := S.regs ++ [(pbA 0, 0x11), (pbA 0 + 0x10, 0x00640064)] }; let b : Fin 16 := 0; runs s = true ∧ rf s (pbA b + 0x10) 15 0 ≠ 0) ∧
    (let s : State := { S with line := { S.line with blocks := [(0, { wake := true })] } }; let b : Fin 16 := 0; let x := blockOf s b; runs s = true ∧ x.wake = true) ∧
    (let s : State := { S with line := { S.line with blocks := [(0, { gatedLine := true })] } }; let b : Fin 16 := 0; let sd := .line; runs s = true ∧ gated s b sd = true) ∧
    (let s : State := { P .waitSignal with regs := S.regs ++ [(pbA 0, 0x11), (pbA 0 + 0x10, 0x00640064)] }; runs s = true) := by
  refine ⟨?_, ?_, ?_, ?_, ?_, ?_⟩
  · decide +kernel
  · decide +kernel
  · decide +kernel
  · decide +kernel
  · decide +kernel
  · decide +kernel

theorem witness_steeringTables :
    (let s : State := S; runs s = true) ∧
    (let s : State := { S with locks := [(stA 0 + 8, true)], regs := S.regs ++ [(stA 0 + 0x400, 1)] }; let b : Fin 16 := 0; let e := rgets s (stA b + 0x400) 8; runs s = true ∧ isPairStage s b = false ∧ tget (fun _ => false) s.locks (stA b + 8) = true ∧ emLegal e = true ∧ bitAt (wordAt e 0).toNat 0 = true) ∧
    (let s : State := { S with locks := [(stA 0 + 8, true)] }; let b : Fin 16 := 0; let e := rgets s (stA b + 0x400) 8; runs s = true ∧ isPairStage s b = false ∧ tget (fun _ => false) s.locks (stA b + 8) = true ∧ bitAt (wordAt e 0).toNat 0 = false) ∧
    (let s : State := { S with regs := S.regs ++ [(stA 0 + 0x540, 1)] }; let b : Fin 16 := 0; let r := rgets s (stA b + 0x500) 20; runs s = true ∧ isPairStage s b = false ∧ ruleLegal r = true ∧ bitAt (wordAt r 16).toNat 0 = true) := by
  refine ⟨?_, ?_, ?_, ?_⟩
  · decide +kernel
  · decide +kernel
  · decide +kernel
  · decide +kernel

theorem witness_resolution :
    (let s : State := A .host; let p : Fin 64 := 0; let sd : Side := .host; let octets : List Byte := plainFrame; let x : Result := ⟨0, 0, true⟩; let d := dirOf sd; let key := 2 * p.val + dirNum d; let seq := tget (fun _ => 1) s.line.seqs key; let u := { s with line := { s.line with seqs := tput (fun _ => 1) s.line.seqs key (seq + 1) } }; let stg := stageOf u p seq; let q := parseFrame u stg octets; runs s = true ∧ octets.length = 64 ∧ (sideOf s p sd).recv.map (fun r => r.seq) = some 0 ∧ (framesOf s p d).any (fun f => f.seq == 0) = true ∧ resolve u (leadStage u (p / 4)) d (p % 4) q = some x) ∧
    (let s : State := A .line; let p : Fin 64 := 0; let sd : Side := .line; let octets : List Byte := badTagFrame; let d := dirOf sd; let key := 2 * p.val + dirNum d; let seq := tget (fun _ => 1) s.line.seqs key; let u := { s with line := { s.line with seqs := tput (fun _ => 1) s.line.seqs key (seq + 1) } }; let stg := stageOf u p seq; let q := parseFrame u stg octets; runs s = true ∧ octets.length = 64 ∧ (sideOf s p sd).recv.map (fun r => r.seq) = some 0 ∧ (framesOf s p d).any (fun f => f.seq == 0) = true ∧ resolve u (leadStage u (p / 4)) d (p % 4) q = none) := by
  refine ⟨?_, ?_⟩
  · decide +kernel
  · decide +kernel

theorem witness_resolutionOrder :
    (let s : State := { S with line := { S.line with rules := [(0, ruleAny 0)] } }; let lead : Nat := 0; let d : Dir := .egress; let slot : Nat := 0; let p : Parse := parseFrame S 0 fullFrame; let r : List W32 := ruleAny 0; let key := ruleKey p (dirNum d) slot (free s); ruleFind s lead 0 key = some r) ∧
    (let s : State := S; let lead : Nat := 0; let d : Dir := .ingress; let slot : Nat := 0; let p : Parse := parseFrame S 0 badTagFrame; let key := ruleKey p (dirNum d) slot (free s); ruleFind s lead 0 key = none ∧ d = .ingress ∧ p.malformed = true) ∧
    (let s : State := { S with line := { S.line with rules := [(3, ruleAny 1)] } }; let lead : Nat := 0; let d : Dir := .egress; let slot : Nat := 0; let p : Parse := parseFrame S 0 fullFrame; let r1 : List W32 := ruleAny 1; let key := ruleKey p (dirNum d) slot (free s); let cfg := stA lead + 0x100 + 0x40 * slot; let sel := match d with | .egress => rf s cfg 4 0 | .ingress => rf s cfg 9 5; ruleFind s lead 0 key = none ∧ (d = .egress ∨ p.malformed = false) ∧ emLookup s lead p d slot sel = none ∧ ruleFind s lead 1 key = some r1) ∧
    (let s : State := S; let lead : Nat := 0; let d : Dir := .egress; let slot : Nat := 0; let p : Parse := parseFrame S 0 fullFrame; let key := ruleKey p (dirNum d) slot (free s); let cfg := stA lead + 0x100 + 0x40 * slot; let sel := match d with | .egress => rf s cfg 4 0 | .ingress => rf s cfg 9 5; ruleFind s lead 0 key = none ∧ (d = .egress ∨ p.malformed = false) ∧ emLookup s lead p d slot sel = none ∧ ruleFind s lead 1 key = none) := by
  refine ⟨?_, ?_, ?_, ?_⟩
  · decide +kernel
  · decide +kernel
  · decide +kernel
  · decide +kernel

theorem witness_admission :
    (let s : State := { F [{ seq := 1, stage := .fetchWait }] [] with gran := { S.gran with slots := [(0, txE)] } }; let p : Fin 64 := 0; let d : Dir := .egress; let f : Frame := { seq := 1, stage := .fetchWait }; let n := slotFor s f d; let e := slotOf s n; runs s = true ∧ (framesOf s p .egress).find? (fun f => f.stage == .fetchWait) = some f ∧ d = .egress ∧ queueHeld s p d < queueLimit s p ∧ usable e d = true ∧ e.rx = false ∧ f.ended = false) ∧
    (let s : State := F [{ seq := 1, stage := .granted, entry := txE }] []; let p : Fin 64 := 0; let d : Dir := .egress; let f : Frame := { seq := 1, stage := .granted, entry := txE }; runs s = true ∧ (framesOf s p d).find? (fun f => f.stage == .granted) = some f ∧ f.fetchBad = false ∧ usable f.entry d = true ∧ f.entry.domain = f.domain ∧ f.entry.rx = (d == .ingress) ∧ anyActive s p d = true) ∧
    (let s : State := F [{ seq := 1, stage := .granted }] []; let p : Fin 64 := 0; let d : Dir := .egress; let f : Frame := { seq := 1, stage := .granted }; runs s = true ∧ (framesOf s p d).find? (fun f => f.stage == .granted) = some f ∧ f.fetchBad = false ∧ usable f.entry d = false) ∧
    (let s : State := F [{ seq := 1, stage := .granted, entry := txE, domain := 7 }] []; let p : Fin 64 := 0; let d : Dir := .egress; let f : Frame := { seq := 1, stage := .granted, entry := txE, domain := 7 }; runs s = true ∧ (framesOf s p d).find? (fun f => f.stage == .granted) = some f ∧ f.fetchBad = false ∧ usable f.entry d = true ∧ f.entry.domain ≠ f.domain) := by
  refine ⟨?_, ?_, ?_, ?_⟩
  · decide +kernel
  · decide +kernel
  · decide +kernel
  · decide +kernel

theorem witness_puntAndInjection :
    (let s : State := { S with line := { S.line with punt := [(0, [⟨plainFrame, 0, .ingress, 5, 0, 0, 1⟩])] }, host := { S.host with fns := [(0, { present := true, doms := [5] })] } }; let b : Fin 16 := 0; let f : PuntFrame := ⟨plainFrame, 0, .ingress, 5, 0, 0, 1⟩; let r : List PuntFrame := []; runs s = true ∧ puntOf s b = f :: r ∧ domHeld s f.domain = true ∧ puntsOf s f.domain = [] ∧ s.ord.jobs = []) ∧
    (let s : State := { S with line := { S.line with punt := [(0, [⟨plainFrame, 0, .ingress, 5, 0, 0, 1⟩])] } }; let b : Fin 16 := 0; let f : PuntFrame := ⟨plainFrame, 0, .ingress, 5, 0, 0, 1⟩; let r : List PuntFrame := []; runs s = true ∧ puntOf s b = f :: r) ∧
    (let s : State := S; runs s = true) ∧
    (let s : State := injS; let b : Fin 16 := 0; let slot : Fin 4 := 0; let len : Fin 2048 := 64; let q := 4 * b.val + slot.val; let octets := (octetsOf (rgets s (stA b + 0x4000) 384)).take len; runs s = true ∧ 64 ≤ len.val ∧ len.val ≤ 1536 ∧ tget (fun _ => false) s.line.injWait b = false ∧ portExists s q = true ∧ injectAllowed s b (parseFrame s b octets).etype = true ∧ sideUp (sideOf s q .line) = true ∧ hasRoom s q .egress (reserveCells s q) = true) := by
  refine ⟨?_, ?_, ?_, ?_⟩
  · decide +kernel
  · decide +kernel
  · decide +kernel
  · decide +kernel

theorem witness_tillerAndVerdictCommands :
    (let s : State := { S with line := { S.line with blocks := [(0, { tclk := true })], queues := [(0, [(0, 1)])] } }; let t : Fin 72 := 0; let e : Nat × Nat := (0, 1); let r : List (Nat × Nat) := []; let x := tillerOf s t; let dx := posDir x.pos; let k := 2 * leadBlock s (x.pos / 4) + dirNum dx; runs s = true ∧ x.st = .active ∧ s.level ≠ 5 ∧ (blockOf s (x.pos / 4)).tclk = true ∧ queueOf s k = e :: r) ∧
    (let s : State := { F [{ seq := 1, stage := .inTiller 0 }] [] with line := { (F [{ seq := 1, stage := .inTiller 0 }] []).line with tillers := [(0, { st := .active, pos := 0, held := [(0, 1)] })] } }; let t : Fin 72 := 0; let e : Nat × Nat := (0, 1); let r : List (Nat × Nat) := []; let f : Frame := { seq := 1, stage := .inTiller 0 }; let x := tillerOf s t; let dx := posDir x.pos; runs s = true ∧ attached x = true ∧ x.held = e :: r ∧ frameAt { s with mt := { s.mt with ecc := .clean } } e.1 dx e.2 = some f ∧ f.ended = false) ∧
    (let s : State := F [{ seq := 1, stage := .lane, act := .protect }] []; let p : Fin 64 := 0; let d : Dir := .egress; let f : Frame := { seq := 1, stage := .lane, act := .protect }; runs s = true ∧ headOf s p d = some f ∧ f.headOk = false ∧ handedOn f = true ∧ f.mark = .none ∧ f.bad = .none ∧ f.act = .protect) ∧
    (let s : State := F [{ seq := 1, stage := .lane, act := .bypass, headOk := true, octets := List.replicate 64 0, ended := true, fate := some .pass }] []; let p : Fin 64 := 0; let d : Dir := .egress; let f : Frame := { seq := 1, stage := .lane, act := .bypass, headOk := true, octets := List.replicate 64 0, ended := true, fate := some .pass }; runs s = true ∧ headOf s p d = some f ∧ mayStart s p d f = true) ∧
    (let s : State := S; runs s = true) := by
  refine ⟨?_, ?_, ?_, ?_, ?_⟩
  · decide +kernel
  · decide +kernel
  · decide +kernel
  · decide +kernel
  · decide +kernel

theorem witness_tillerTests :
    (let s : State := { S with line := { S.line with tillers := [(64, { st := .quarantined, pos := 0 })] } }; let t : Fin 72 := 64; let x := tillerOf s t; runs s = true ∧ x.st = .quarantined) ∧
    (let s : State := { S with line := { S.line with tillers := [(64, { st := .testing, pos := 0, strikes := 1 })] } }; let t : Fin 72 := 64; let x := tillerOf s t; runs s = true ∧ x.st = .testing ∧ s.line.startTest = false ∧ x.need ≤ 10 ∧ x.strikes < strikeLimit s ∧ (∀ pos, pos < 64 → (activeAt? s pos).isSome = true)) ∧
    (let s : State := { S with line := { S.line with tillers := [(64, { st := .testing, pos := 0 })] } }; let t : Fin 72 := 64; let x := tillerOf s t; runs s = true ∧ x.st = .testing ∧ s.line.startTest = false) ∧
    (let s : State := S; let t : Fin 72 := 64; runs s = true ∧ free? s t = true) ∧
    (let s : State := S; let t : Fin 72 := 64; let x := tillerOf s t; runs s = true ∧ x.st = .ready ∧ free? s t = true) := by
  refine ⟨?_, ?_, ?_, ?_, ?_⟩
  · decide +kernel
  · decide +kernel
  · decide +kernel
  · decide +kernel
  · decide +kernel

theorem witness_tillerSwaps :
    (let s : State := S; let pos : Fin 64 := 63; let r : Nat := 64; let a : Nat := 63; runs s = true ∧ chooseReserve s = some r ∧ activeAt? s pos = some a ∧ swapAt s pos = none) ∧
    (let s : State := S; let pos : Fin 64 := 63; let t : Fin 72 := 64; let r : Nat := 64; let a : Nat := 63; runs s = true ∧ free? s t = true ∧ activeAt? s pos = some a ∧ swapAt s pos = none ∧ r = t.val) ∧
    (let s : State := { S with line := { S.line with swaps := [⟨63, 64, false, 63, false, false, false, false⟩] } }; let pos : Fin 64 := 63; let w : Swap := ⟨63, 64, false, 63, false, false, false, false⟩; runs s = true ∧ swapAt s pos = some w ∧ w.checked = false ∧ w.planned = false ∧ (tillerOf s w.reserve).need ≤ 10) ∧
    (let s : State := { S with line := { S.line with tillers := [(63, { st := .ready, pos := 0 })], swaps := [⟨63, 64, true, 63, false, true, false, false⟩] } }; let pos : Fin 64 := 63; let w : Swap := ⟨63, 64, true, 63, false, true, false, false⟩; runs s = true ∧ swapAt s pos = some w ∧ w.checked = true ∧ w.planned = true ∧ activeAt? s pos = none ∧ (tillerOf s w.reserve).need ≤ 10) ∧
    (let s : State := { S with regs := S.regs ++ [(tlArr, 0x20)] }; let r : Nat := 64; let a : Nat := 0; runs s = true ∧ rbit s tlArr 5 = true ∧ activeAt? s s.line.rotPtr = some a ∧ swapAt s s.line.rotPtr = none ∧ chooseReserve s = some r) ∧
    (let s : State := S; let k : Fin 16 := 10; runs s = true ∧ maxNeed s ≤ k.val ∧ k.val ≤ 10 ∧ k.val ≠ s.line.step ∧ s.line.stepTo = none) ∧
    (let s : State := { S with line := { S.line with stepTo := some 3 } }; let r : Nat := 3; runs s = true ∧ s.line.stepTo = some r ∧ s.line.stepNext = none) ∧
    (let s : State := S; let t : Fin 72 := 64; let k : Fin 16 := 10; runs s = true ∧ (tillerOf s t).st = .ready ∧ k.val ≤ 10 ∧ stepTarget s < k.val ∧ s.line.stepTo = none ∧ k.val ≠ s.line.step) := by
  refine ⟨?_, ?_, ?_, ?_, ?_, ?_, ?_, ?_⟩
  · decide +kernel
  · decide +kernel
  · decide +kernel
  · decide +kernel
  · decide +kernel
  · decide +kernel
  · decide +kernel
  · decide +kernel

theorem witness_granaryInstall :
    (let s : State := S; runs s = true ∧ s.level < 3 ∧ s.culm.session = true) ∧
    (let s : State := { S with locks := [(grA + 8, true), (grA + 12, true)] }; let n : Fin 65536 := 65535; runs s = true ∧ s.level < 3 ∧ s.culm.session = true ∧ grBusy s = false ∧ rbit s grA 0 = false ∧ s.gran.zeroed = false ∧ scrkeySet s = true ∧ s.culm.paired = true ∧ slotShut s n = false) ∧
    (let s : State := { S with gran := { S.gran with cmd := some ⟨1, 0, 0, {}⟩ } }; let c : GrCmd := ⟨1, 0, 0, {}⟩; runs s = true ∧ s.gran.cmd = some c ∧ c.op = 1 ∧ c.code = 0) ∧
    (let s : State := { S with gran := { S.gran with cmd := some ⟨1, 0, 2, {}⟩ } }; let c : GrCmd := ⟨1, 0, 2, {}⟩; runs s = true ∧ s.gran.cmd = some c ∧ c.op = 1 ∧ c.code ≠ 0) := by
  refine ⟨?_, ?_, ?_, ?_⟩
  · decide +kernel
  · decide +kernel
  · decide +kernel
  · decide +kernel

theorem witness_granaryErase :
    (let s : State := { S with gran := { S.gran with slots := [(65535, rxE)] } }; let n : Fin 65536 := 65535; let e := slotOf s n; runs s = true ∧ s.culm.session = true ∧ grBusy s = false ∧ slotShut s n = false ∧ e.valid = true ∧ s.gran.fences.length < 8) ∧
    (let s : State := { S with gran := { S.gran with slots := [(65535, rxE)] } }; let n : Fin 65536 := 65535; let e := slotOf s n; runs s = true ∧ s.culm.session = true ∧ grBusy s = false ∧ slotShut s n = false ∧ e.valid = true) ∧
    (let s : State := { S with gran := { S.gran with cmd := some ⟨3, 5, 0, {}⟩ } }; let c : GrCmd := ⟨3, 5, 0, {}⟩; runs s = true ∧ s.gran.cmd = some c ∧ c.op = 3) ∧
    (let s : State := { S with gran := { S.gran with slots := [(65535, rxE)] } }; runs s = true ∧ s.culm.session = true ∧ grBusy s = false) ∧
    (let s : State := { S with gran := { S.gran with fences := [⟨5, []⟩] } }; let f : Fence := ⟨5, []⟩; runs s = true ∧ s.gran.fences.find? (fun f => f.waits.all (fenceLeft s)) = some f) ∧
    (let s : State := { S with gran := { S.gran with slots := [(65535, rxE)] } }; runs s = true ∧ s.culm.session = true) ∧
    (let s : State := { S with gran := { S.gran with zeroising := true, cmd := some ⟨5, 0, 0, {}⟩ } }; let c : GrCmd := ⟨5, 0, 0, {}⟩; runs s = true ∧ s.gran.zeroising = true ∧ s.gran.cmd = some c) ∧
    (let s : State := { S with gran := { S.gran with slots := [(65535, rxE)] } }; runs s = true ∧ s.culm.session = true ∧ grBusy s = false ∧ rbit s grA 0 = false) := by
  refine ⟨?_, ?_, ?_, ?_, ?_, ?_, ?_, ?_⟩
  · decide +kernel
  · decide +kernel
  · decide +kernel
  · decide +kernel
  · decide +kernel
  · decide +kernel
  · decide +kernel
  · decide +kernel

theorem witness_remaskWalker :
    (let s : State := { S with gran := { S.gran with seedNext := some 1 } }; let k : BitVec 256 := 1; runs s = true ∧ remaskEn s = true ∧ s.gran.seedNext = some k ∧ s.gran.paused = false) ∧
    (let s : State := { S with gran := { S.gran with sweeping := true, ptr := 65534 } }; runs s = true ∧ remaskEn s = true ∧ s.gran.sweeping = true ∧ s.gran.ptr < 65535) ∧
    (let s : State := S; runs s = true ∧ s.culm.session = true ∧ s.gran.paused = false) ∧
    (let s : State := { S with gran := { S.gran with paused := true } }; runs s = true ∧ s.culm.session = true ∧ s.gran.paused = true) := by
  refine ⟨?_, ?_, ?_, ?_⟩
  · decide +kernel
  · decide +kernel
  · decide +kernel
  · decide +kernel

theorem witness_culm :
    (let s : State := { S with culm := {} }; runs s = true ∧ s.culm.session = false) ∧
    (let s : State := { S with culm := { starting := true } }; runs s = true ∧ s.culm.starting = true ∧ s.pw.pufFail = false ∧ s.pw.mode = .service ∧ s.level < 3 ∧ s.tm.late = [] ∧ s.mt.frozen = .cleared ∧ s.mt.due = false) ∧
    (let s : State := S; runs s = true ∧ s.culm.session = true ∧ s.culm.halted = false) ∧
    (let s : State := { S with culm := { S.culm with failsDown := 3 } }; runs s = true ∧ s.culm.session = true ∧ s.culm.halted = false ∧ s.culm.failsDown = 3) ∧
    (let s : State := { S with culm := { S.culm with spares := 1 } }; let lane : Fin 34 := 33; runs s = true ∧ s.culm.failed.testBit lane = false ∧ s.culm.spares < 2) ∧
    (let s : State := S; runs s = true) := by
  refine ⟨?_, ?_, ?_, ?_, ?_, ?_⟩
  · decide +kernel
  · decide +kernel
  · decide +kernel
  · decide +kernel
  · decide +kernel
  · decide +kernel

theorem witness_randomSource :
    (let s : State := S; runs s = true ∧ s.rng.st = .starting ∧ s.rng.ticks < 110) ∧
    (let s : State := { S with rng := { S.rng with st := .running } }; let counts : List Nat := (List.range 8).map (fun o => 14 * nth oscNominal o 0); runs s = true ∧ rngDown s = false ∧ (∀ o ∈ oscOn s, 6 * nth oscNominal o 0 ≤ nth counts o 0 ∧ nth counts o 0 ≤ 14 * nth oscNominal o 0)) ∧
    (let s : State := { S with rng := { S.rng with startBits := 4224, startOsc := (List.range 8).map (fun o => (o, 384)) } }; runs s = true ∧ s.rng.st = .starting ∧ 4224 ≤ s.rng.startBits ∧ (∀ o ∈ oscOn s, 384 ≤ tget (fun _ => 0) s.rng.startOsc o)) ∧
    (let s : State := S; runs s = true ∧ s.rng.st = .starting ∧ recentFails s = []) ∧
    (let s : State := { S with rng := { S.rng with st := .failed } }; runs s = true ∧ s.rng.st = .failed) ∧
    (let s : State := { S with rng := { S.rng with st := .disabled } }; runs s = true ∧ s.rng.st = .disabled) ∧
    (let s : State := { S with rng := { S.rng with st := .running } }; let kind := s.rng.busy; runs s = true ∧ s.rng.st = .running ∧ kind = 0) ∧
    (let s : State := { S with rng := { S.rng with st := .running, busy := 1 } }; runs s = true ∧ s.rng.st = .running) ∧
    (let s : State := { S with rng := { S.rng with st := .running, calls := 0xFFFFFFFFFF } }; let kind := s.rng.busy; runs s = true ∧ s.rng.st = .running ∧ kind = 0 ∧ reseedDue s = true) ∧
    (let s : State := { S with rng := { S.rng with st := .running, busy := 2, pool := 640 } }; let kind := s.rng.busy; let need := if kind = 2 then 640 else 512; runs s = true ∧ s.rng.st = .running ∧ kind ≠ 0 ∧ need ≤ s.rng.pool) := by
  refine ⟨?_, ?_, ?_, ?_, ?_, ?_, ?_, ?_, ?_, ?_⟩
  · decide +kernel
  · decide +kernel
  · decide +kernel
  · decide +kernel
  · decide +kernel
  · decide +kernel
  · decide +kernel
  · decide +kernel
  · decide +kernel
  · decide +kernel

theorem witness_randomCalls :
    (let s : State := { S with rng := { S.rng with st := .running, reqs := [⟨3, 2⟩] } }; let r : RngReq := ⟨3, 2⟩; runs s = true ∧ canDraw s = true ∧ topReq s.rng.reqs = some r ∧ r.cls = 3) ∧
    (let s : State := { S with rng := { S.rng with st := .running, reqs := [⟨5, 16⟩] } }; let r : RngReq := ⟨5, 16⟩; runs s = true ∧ canDraw s = true ∧ topReq s.rng.reqs = some r ∧ r.cls = 5) ∧
    (let s : State := { S with rng := { S.rng with st := .running, reqs := [⟨3, 2⟩] } }; let k : Fin 2 := 1; let n : Fin 32 := 16; runs s = true ∧ 1 ≤ n.val ∧ n.val ≤ 16 ∧ tget (fun _ => 0) s.rng.portLeft k = 0 ∧ rngDown s = false) ∧
    (let s : State := { S with rng := { S.rng with portBlk := [(1, [7])] } }; let k : Fin 2 := 1; let b : BitVec 128 := 7; let l : List (BitVec 128) := []; runs s = true ∧ tget (fun _ => []) s.rng.portBlk k = b :: l) := by
  refine ⟨?_, ?_, ?_, ?_⟩
  · decide +kernel
  · decide +kernel
  · decide +kernel
  · decide +kernel

theorem witness_endpointLinks :
    (let s : State := { S with host := { S.host with eps := [(0, { perst := false })] }, regs := S.regs ++ [(epCtl 0, 1)] }; let e : Fin 2 := 0; let speed : Fin 8 := 5; let width : Fin 8 := 4; let x := epOf s e; runs s = true ∧ x.linkUp = false ∧ x.perst = false ∧ rf s (epCtl e) 0 0 = 1 ∧ 1 ≤ speed.val ∧ speed.val ≤ 5 ∧ (width.val = 1 ∨ width.val = 2 ∨ width.val = 4)) ∧
    (let s : State := X x0; let e : Fin 2 := 0; let x := epOf s e; runs s = true ∧ x.linkUp = true) ∧
    (let s : State := S; let e : Fin 2 := 0; let x := epOf s e; runs s = true ∧ x.perst = true) ∧
    (let s : State := { S with host := { S.host with eps := [(0, { ltssm := 7 })] } }; let e : Fin 2 := 0; let x := epOf s e; runs s = true ∧ x.ltssm = 7) ∧
    (let s : State := X x0; runs s = true) := by
  refine ⟨?_, ?_, ?_, ?_, ?_⟩
  · decide +kernel
  · decide +kernel
  · decide +kernel
  · decide +kernel
  · decide +kernel

theorem witness_hostConfiguration :
    (let s : State := X x0; let e : Fin 2 := 0; let n : Fin 65536 := 8; let ari : Bool := true; runs s = true ∧ cfgOpen s e = true ∧ (epOf s e).vfEn = false ∧ n.val ≤ totalVfs s e ∧ (n.val ≤ 7 ∨ ari = true)) ∧
    (let s : State := { S with host := { S.host with eps := [(0, { linkUp := true, perst := false, cfgAt := some 0, vfEn := true, numVfs := 4 })] } }; let e : Fin 2 := 0; runs s = true ∧ cfgOpen s e = true ∧ (epOf s e).vfEn = true) ∧
    (let s : State := X x0; let f : Fin 512 := 0; runs s = true ∧ (fnOf s f).present = true ∧ cfgOpen s (f.val / 256) = true) := by
  refine ⟨?_, ?_, ?_⟩
  · decide +kernel
  · decide +kernel
  · decide +kernel

theorem witness_pcieErrors :
    (let s : State := X x0; let f : Fin 512 := 0; runs s = true ∧ (fnOf s f).present = true ∧ cfgOpen s (f.val / 256) = true) ∧
    (let s : State := X x0; let f : Fin 512 := 0; runs s = true ∧ (fnOf s f).present = true ∧ cfgOpen s (f.val / 256) = true ∧ (fnOf s f).mse = true) ∧
    (let s : State := X x0; let e : Fin 2 := 0; runs s = true ∧ (epOf s e).linkUp = true) := by
  refine ⟨?_, ?_, ?_⟩
  · decide +kernel
  · decide +kernel
  · decide +kernel

theorem witness_ringControl :
    (let s : State := X x0; let f : Fin 512 := 0; let v : Fin 65536 := 0x0102; let x := fnOf s f; runs s = true ∧ x.present = true ∧ cfgOpen s (f.val / 256) = true ∧ x.mse = true ∧ fnReady s f = true ∧ x.ring = .disabled ∧ v.val / 256 = 1) ∧
    (let s : State := X x0; let f : Fin 512 := 0; let v : Fin 65536 := 0x0200; let x := fnOf s f; runs s = true ∧ x.present = true ∧ cfgOpen s (f.val / 256) = true ∧ x.mse = true ∧ fnReady s f = true ∧ x.ring = .disabled ∧ v.val / 256 ≠ 1) ∧
    (let s : State := X x0; let f : Fin 512 := 0; let x := fnOf s f; runs s = true ∧ x.present = true ∧ cfgOpen s (f.val / 256) = true ∧ x.mse = true ∧ x.ring = .disabled ∧ fnReady s f = true ∧ x.abi ≠ 0 ∧ sizeOk (orLog s f) = true ∧ sizeOk (crLog s f) = true ∧ x.bme = true ∧ x.ending = false) ∧
    (let s : State := X { xE with out := 1 }; let f : Fin 512 := 0; let x := fnOf s f; runs s = true ∧ x.present = true ∧ cfgOpen s (f.val / 256) = true ∧ x.mse = true ∧ x.ring = .enabled ∧ x.out ≠ 0) ∧
    (let s : State := X xE; let f : Fin 512 := 0; let x := fnOf s f; runs s = true ∧ x.present = true ∧ cfgOpen s (f.val / 256) = true ∧ x.mse = true ∧ x.ring = .enabled ∧ x.out = 0) ∧
    (let s : State := X xE; let f : Fin 512 := 0; let v : Fin 65536 := 16; let x := fnOf s f; let within := dist16 x.orHead v ≤ 2 ^ orLog s f ∧ dist16 x.orHead x.orTail ≤ dist16 x.orHead v; runs s = true ∧ x.present = true ∧ cfgOpen s (f.val / 256) = true ∧ x.mse = true ∧ x.ring = .enabled ∧ within) ∧
    (let s : State := X xE; let f : Fin 512 := 0; let v : Fin 65536 := 17; let x := fnOf s f; let within := dist16 x.orHead v ≤ 2 ^ orLog s f ∧ dist16 x.orHead x.orTail ≤ dist16 x.orHead v; runs s = true ∧ x.present = true ∧ cfgOpen s (f.val / 256) = true ∧ x.mse = true ∧ x.ring = .enabled ∧ (¬ within)) ∧
    (let s : State := X { xE with crTail := 3 }; let f : Fin 512 := 0; let v : Fin 65536 := 3; let x := fnOf s f; runs s = true ∧ x.present = true ∧ cfgOpen s (f.val / 256) = true ∧ x.mse = true ∧ x.ring = .enabled ∧ dist16 x.crHead v ≤ dist16 x.crHead x.crTail) ∧
    (let s : State := X { xE with crTail := 3 }; let f : Fin 512 := 0; let v : Fin 65536 := 4; let x := fnOf s f; runs s = true ∧ x.present = true ∧ cfgOpen s (f.val / 256) = true ∧ x.mse = true ∧ x.ring = .enabled ∧ dist16 x.crHead x.crTail < dist16 x.crHead v) := by
  refine ⟨?_, ?_, ?_, ?_, ?_, ?_, ?_, ?_, ?_⟩
  · decide +kernel
  · decide +kernel
  · decide +kernel
  · decide +kernel
  · decide +kernel
  · decide +kernel
  · decide +kernel
  · decide +kernel
  · decide +kernel

theorem witness_ringFetch :
    (let s : State := X { xE with orTail := 8 }; let f : Fin 512 := 0; let n : Fin 9 := 8; runs s = true ∧ mayFetch s f n = true) ∧
    (let s : State := X { xE with reading := 1 }; let f : Fin 512 := 0; let l : List Byte := [1]; let x := fnOf s f; runs s = true ∧ x.ring = .enabled ∧ x.reading = 1 ∧ x.recheck = false ∧ entryPhase l = phaseOf (orLog s f) x.orHead) ∧
    (let s : State := X { xE with reading := 1 }; let f : Fin 512 := 0; let l : List Byte := [0]; let x := fnOf s f; runs s = true ∧ x.ring = .enabled ∧ x.reading = 1 ∧ entryPhase l ≠ phaseOf (orLog s f) x.orHead) ∧
    (let s : State := X { xE with reading := 1 }; let f : Fin 512 := 0; let x := fnOf s f; runs s = true ∧ x.ring = .enabled ∧ x.reading ≠ 0) ∧
    (let s : State := X { xE with recheck := true }; let f : Fin 512 := 0; let l : List Byte := [1]; let x := fnOf s f; runs s = true ∧ x.ring = .enabled ∧ x.reading = 0 ∧ x.recheck = true ∧ entryPhase l = phaseOf (orLog s f) x.orHead) ∧
    (let s : State := X { xE with recheck := true }; let f : Fin 512 := 0; let l : List Byte := [0]; let x := fnOf s f; runs s = true ∧ x.ring = .enabled ∧ x.recheck = true ∧ entryPhase l ≠ phaseOf (orLog s f) x.orHead) ∧
    (let s : State := X { xE with recheck := true }; let f : Fin 512 := 0; let x := fnOf s f; runs s = true ∧ x.ring = .enabled ∧ x.recheck = true) := by
  refine ⟨?_, ?_, ?_, ?_, ?_, ?_, ?_⟩
  · decide +kernel
  · decide +kernel
  · decide +kernel
  · decide +kernel
  · decide +kernel
  · decide +kernel
  · decide +kernel

theorem witness_ringCompletions :
    (let s : State := X { xE with raw := [ent 0 0 0 0 0] }; let f : Fin 512 := 0; let r : RawEntry := ent 0 0 0 0 0; let rs : List RawEntry := []; let x := fnOf s f; runs s = true ∧ x.raw = r :: rs ∧ r.etype = 0 ∧ r.genField = x.gen) ∧
    (let s : State := X { xE with raw := [ent 0 1 0 0 0] }; let f : Fin 512 := 0; let r : RawEntry := ent 0 1 0 0 0; let rs : List RawEntry := []; let x := fnOf s f; runs s = true ∧ x.raw = r :: rs ∧ r.etype = 0 ∧ r.genField ≠ x.gen) ∧
    (let s : State := X { xE with abi := 0x101, raw := [ent 2 0 0 0 0] }; let f : Fin 512 := 0; let r : RawEntry := ent 2 0 0 0 0; let rs : List RawEntry := []; let x := fnOf s f; runs s = true ∧ x.raw = r :: rs ∧ r.etype = 2 ∧ r.genField = x.gen ∧ x.abi < 0x0102) ∧
    (let s : State := X { xE with raw := [ent 2 0 0 0 0] }; let f : Fin 512 := 0; let r : RawEntry := ent 2 0 0 0 0; let rs : List RawEntry := []; let x := fnOf s f; runs s = true ∧ x.raw = r :: rs ∧ r.etype = 2 ∧ r.genField = x.gen ∧ 0x0102 ≤ x.abi ∧ (∀ j ∈ s.ord.jobs, ¬(j.fn = f.val ∧ j.started = false))) ∧
    (let s : State := { X { xE with raw := [ent 2 0 0 0 0] } with ord := { S.ord with jobs := [{ J 0 .queued with tag := 0 }] } }; let f : Fin 512 := 0; let r : RawEntry := ent 2 0 0 0 0; let rs : List RawEntry := []; let x := fnOf s f; let j := { J 0 .queued with tag := 0 }; runs s = true ∧ x.raw = r :: rs ∧ r.etype = 2 ∧ r.genField = x.gen ∧ 0x0102 ≤ x.abi ∧ s.ord.jobs.find? (fun j => j.fn == f.val && !j.started && j.tag == leNat (octetsAt r.octets 6 2)) = some j) ∧
    (let s : State := X { xE with compl := [⟨0, 7, 0, 0, [], []⟩] }; let f : Fin 512 := 0; let c : Compl := ⟨0, 7, 0, 0, [], []⟩; let cs : List Compl := []; let x := fnOf s f; runs s = true ∧ x.compl = c :: cs ∧ c.gen = x.gen ∧ canMaster x = true ∧ x.ring = .enabled) ∧
    (let s : State := X { xE with compl := [⟨1, 7, 0, 0, [], []⟩] }; let f : Fin 512 := 0; let c : Compl := ⟨1, 7, 0, 0, [], []⟩; let cs : List Compl := []; let x := fnOf s f; runs s = true ∧ x.compl = c :: cs ∧ c.gen ≠ x.gen) := by
  refine ⟨?_, ?_, ?_, ?_, ?_, ?_, ?_⟩
  · decide +kernel
  · decide +kernel
  · decide +kernel
  · decide +kernel
  · decide +kernel
  · decide +kernel
  · decide +kernel

theorem witness_messages :
    (let s : State := { X { xE with msixEn := true } with host := { (X { xE with msixEn := true }).host with vecs := [(0, { masked := false, pend := true })] } }; let f : Fin 512 := 0; let v : Fin 64 := 0; let x := vecOf s f v; let may := x.pend = true ∧ (fnOf s f).present = true ∧ (fnOf s f).msixEn = true ∧ canMaster (fnOf s f) = true ∧ (fnOf s f).fmask = false ∧ x.used < rf s 0x30038020 23 16; runs s = true ∧ may ∧ x.masked = false) ∧
    (let s : State := X xE; let f : Fin 512 := 0; let v : Fin 64 := 0; let x := vecOf s f v; runs s = true ∧ x.pend = false) ∧
    (let s : State := { X { xE with msixEn := true } with host := { (X { xE with msixEn := true }).host with vecs := [(0, { pend := true })] } }; let f : Fin 512 := 0; let v : Fin 64 := 0; let x := vecOf s f v; let may := x.pend = true ∧ (fnOf s f).present = true ∧ (fnOf s f).msixEn = true ∧ canMaster (fnOf s f) = true ∧ (fnOf s f).fmask = false ∧ x.used < rf s 0x30038020 23 16; runs s = true ∧ may ∧ x.running = false ∧ cfgOpen s (f.val / 256) = true ∧ (fnOf s f).mse = true) := by
  refine ⟨?_, ?_, ?_⟩
  · decide +kernel
  · decide +kernel
  · decide +kernel

theorem witness_generations :
    (let s : State := { X x0 with host := { (X x0).host with fns := [(1, x0)] } }; let f : Fin 512 := 1; runs s = true ∧ (fnOf s f).present = true ∧ cfgOpen s (f.val / 256) = true ∧ f.val % 256 ≠ 0) ∧
    (let s : State := X x0; let f : Fin 512 := 0; runs s = true ∧ (fnOf s f).present = true ∧ cfgOpen s (f.val / 256) = true ∧ f.val % 256 = 0) ∧
    (let s : State := X { x0 with ending := true }; let f : Fin 512 := 0; runs s = true ∧ (fnOf s f).ending = true) := by
  refine ⟨?_, ?_, ?_⟩
  · decide +kernel
  · decide +kernel
  · decide +kernel

theorem witness_dirtyLog :
    (let s : State := { X x0 with host := { (X x0).host with lines := [⟨1, 0, 5, 3, true⟩] } }; let f : Fin 512 := 1; let w : Nat := 5; let x : LogLine := ⟨1, 0, 5, 3, true⟩; runs s = true ∧ s.host.lines.find? (fun y => y.fn == f.val && y.word == w && y.filling) = some x) ∧
    (let s : State := { X x0 with host := { (X x0).host with lines := [⟨1, 0, 5, 3, true⟩] } }; let v : W32 := 0xC01; runs s = true ∧ fld v 11 11 = 1 ∧ fld v 10 10 = 1) ∧
    (let s : State := { X x0 with host := { (X x0).host with lines := [⟨1, 0, 5, 3, false⟩] } }; let v : W32 := 0x801; let mine := fun y : LogLine => y.fn == fld v 8 0 && y.bitmap == fld v 9 9; runs s = true ∧ fld v 11 11 = 1 ∧ fld v 10 10 = 0 ∧ (∀ y ∈ s.host.lines, mine y = true → y.filling = false)) := by
  refine ⟨?_, ?_, ?_⟩
  · decide +kernel
  · decide +kernel
  · decide +kernel

theorem witness_orderEntries :
    (let s : State := X { xE with raw := [entHello], out := 1 }; let f : Fin 512 := 0; let r : RawEntry := entHello; let rs : List RawEntry := []; let l := r.octets; runs s = true ∧ (fnOf s f).raw = r :: rs ∧ r.etype = 1 ∧ hdrKind l = 0 ∧ entryStatus s f r = 0 ∧ helloBad l = false ∧ (fnOf s f).out ≤ 1 ∧ (∀ p ∈ helloPairs l, p.2 / 256 = 1)) ∧
    (let s : State := X { xE with raw := [ent 1 1 1 0 36] }; let f : Fin 512 := 0; let r : RawEntry := ent 1 1 1 0 36; let rs : List RawEntry := []; let l := r.octets; runs s = true ∧ (fnOf s f).raw = r :: rs ∧ r.etype = 1 ∧ hdrKind l ≠ 0 ∧ entryStatus s f r ≠ 0) ∧
    (let s : State := X { xE with raw := [ent 1 0 0x100002 0 0] }; let f : Fin 512 := 0; let r : RawEntry := ent 1 0 0x100002 0 0; let rs : List RawEntry := []; let k : Nat := 0; let l := r.octets; runs s = true ∧ (fnOf s f).raw = r :: rs ∧ r.etype = 1 ∧ hdrKind l = 2 ∧ entryStatus s f r = 0 ∧ freeSandbox s = some k ∧ residentStatus s f (hdrDomain l) (hdrResident l) = 0 ∧ hdrArgbuf l = false) ∧
    (let s : State := X { xE with raw := [ent 1 0 1 0x1000 36] }; let f : Fin 512 := 0; let r : RawEntry := ent 1 0 1 0x1000 36; let rs : List RawEntry := []; let k : Nat := 0; let img : List Byte := img1; let l := r.octets; runs s = true ∧ (fnOf s f).raw = r :: rs ∧ r.etype = 1 ∧ hdrKind l = 1 ∧ entryStatus s f r = 0 ∧ freeSandbox s = some k ∧ hdrWord l 28 = 0 ∧ hdrArgbuf l = false ∧ imageStatus (hdrWord l 24) (octetsAt img 0 (hdrWord l 24)) (fnOf s f).vSvc = 0) := by
  refine ⟨?_, ?_, ?_, ?_⟩
  · decide +kernel
  · decide +kernel
  · decide +kernel
  · decide +kernel

theorem witness_orderRuns :
    (let s : State := { O (J 0 .queued) with hstate := [(1, .waiting)], harts := [(1, { level := 1 })] }; let h : Fin 8 := 1; let j : Job := J 0 .queued; runs s = true ∧ hartFree s h = true ∧ anyReady s = false ∧ s.ord.paused = false ∧ (chosenFn s h).bind (oldestOrder s) = some j ∧ j.kind = 1) ∧
    (let s : State := O (J 0 (.waiting .rng)); let i : Nat := 1; let j : Job := J 0 (.waiting .rng); let w : Wait := .rng; runs s = true ∧ jobOf s i = some j ∧ j.stage = .waiting w ∧ j.lastSvc ≠ 0x72) ∧
    (let s : State := O (J 0 (.gran 0 5)); let i : Nat := 1; let j : Job := J 0 (.gran 0 5); let k : Nat := 0; let m : Nat := 5; runs s = true ∧ jobOf s i = some j ∧ j.stage = .gran k m) ∧
    (let s : State := { O { J 0 (.waiting (.fence 5)) with ctx := some { svc := some 0x14 } } with hstate := [(1, .waiting)], harts := [(1, { level := 1 })] }; let h : Fin 8 := 1; let i : Nat := 1; let j : Job := { J 0 (.waiting (.fence 5)) with ctx := some { svc := some 0x14 } }; let m : Nat := 5; let c := { svc := some 0x14 }; let n := 0x14; runs s = true ∧ jobOf s i = some j ∧ j.stage = .waiting (.fence m) ∧ waitOver s j (.fence m) = true ∧ hartFree s h = true ∧ j.ctx = some c ∧ c.svc = some n ∧ holds s j.fn j.domain = true) ∧
    (let s : State := S; let j : Job := J 0 .queued; let slot : Fin 65536 := 0; runs s = true ∧ s.ord.jobs.find? (fun j => j.stage == .waiting (.spacing slot)) = none) ∧
    (let s : State := O (J 0 (.waiting (.spacing 32768))); let j : Job := J 0 (.waiting (.spacing 32768)); let slot : Fin 65536 := 32768; runs s = true ∧ s.ord.jobs.find? (fun j => j.stage == .waiting (.spacing slot)) = some j) ∧
    (let s : State := O (J 0 (.waiting .punt)); let i : Nat := 1; let j : Job := J 0 (.waiting .punt); runs s = true ∧ jobOf s i = some j ∧ j.stage = .waiting .punt) := by
  refine ⟨?_, ?_, ?_, ?_, ?_, ?_, ?_⟩
  · decide +kernel
  · decide +kernel
  · decide +kernel
  · decide +kernel
  · decide +kernel
  · decide +kernel
  · decide +kernel

theorem witness_serviceReturn :
    (let s : State := V 0 0x70 []; let h : Fin 8 := 0; let j : Job := J 0 (.running 0); let x : Hart := hartOf (V 0 0x70 []) 0; hartOf s h = x ∧ x.job.bind (jobOf s) = some j ∧ (¬(j.kind = 2 ∧ j.res < 0x100))) ∧
    (let s : State := { V 0 0x70 [] with level := 5 }; let h : Fin 8 := 0; let j : Job := J 0 (.running 0); let x : Hart := hartOf (V 0 0x70 []) 0; hartOf s h = x ∧ x.svc = some 0x70 ∧ x.sbuf = [] ∧ hstOf s h = .running ∧ x.job.bind (jobOf s) = some j ∧ j.stage = .running h ∧ holds s j.fn j.domain = true ∧ svcLocked s (if j.resumed.isSome then 0 else j.domain) 0x70 = true) ∧
    (let s : State := V 7 0x70 []; let h : Fin 8 := 0; let j : Job := J 7 (.running 0); let x : Hart := hartOf (V 7 0x70 []) 0; hartOf s h = x ∧ x.svc = some 0x70 ∧ x.sbuf = [] ∧ hstOf s h = .running ∧ x.job.bind (jobOf s) = some j ∧ j.stage = .running h ∧ holds s j.fn j.domain = true ∧ svcLocked s (if j.resumed.isSome then 0 else j.domain) 0x70 = false ∧ j.domain ≠ 0) := by
  refine ⟨?_, ?_, ?_⟩
  · decide +kernel
  · decide +kernel
  · decide +kernel

theorem witness_basicServices :
    (let s : State := V 0 0 []; let h : Fin 8 := 0; let j : Job := J 0 (.running 0); InService s h 0 false j) ∧
    (let s : State := V 0 1 []; let h : Fin 8 := 0; let j : Job := J 0 (.running 0); let x := hartOf s h; InService s h 1 false j ∧ x.budgetPend = false ∧ exitGood (svcArg x 2) = true) ∧
    (let s : State := V 0 2 [(4, 64)]; let h : Fin 8 := 0; let j : Job := J 0 (.running 0); let x := hartOf s h; InService s h 2 false j ∧ inScratch (svcArg x 3) (svcArg x 4) = true ∧ canMaster (fnOf s j.fn) = true ∧ 0 < argCount j (svcArg x 2) (svcArg x 4)) ∧
    (let s : State := V 0 3 [(3, 32), (4, 32)]; let h : Fin 8 := 0; let j : Job := J 0 (.running 0); let x := hartOf s h; InService s h 3 false j ∧ inScratch (svcArg x 2) (svcArg x 4) = true ∧ j.argbuf = true ∧ svcArg x 3 + svcArg x 4 ≤ j.resLen ∧ canMaster (fnOf s j.fn) = true) ∧
    (let s : State := V 0 4 []; let h : Fin 8 := 0; let j : Job := J 0 (.running 0); InService s h 4 false j) ∧
    (let s : State := V 0 0x40 [(2, 0x3F00), (3, 256)]; let h : Fin 8 := 0; let j : Job := J 0 (.running 0); let x := hartOf s h; InService s h 0x40 false j ∧ 1 ≤ svcArg x 3 ∧ svcArg x 3 ≤ 256 ∧ inScratch (svcArg x 2) (svcArg x 3) = true ∧ canDraw s = true) ∧
    (let s : State := { V 0 0x40 [(3, 1)] with rng := { S.rng with st := .failed } }; let h : Fin 8 := 0; let j : Job := J 0 (.running 0); let x := hartOf s h; InService s h 0x40 false j ∧ 1 ≤ svcArg x 3 ∧ svcArg x 3 ≤ 256 ∧ inScratch (svcArg x 2) (svcArg x 3) = true ∧ canDraw s = false ∧ rngDown s = true) := by
  refine ⟨?_, ?_, ?_, ?_, ?_, ?_, ?_⟩
  · unfold InService; decide +kernel
  · unfold InService; decide +kernel
  · unfold InService; decide +kernel
  · unfold InService; decide +kernel
  · unfold InService; decide +kernel
  · unfold InService; decide +kernel
  · unfold InService; decide +kernel

theorem witness_keyServices :
    (let s : State := K 0x20 [(3, 16)]; let h : Fin 8 := 0; let j : Job := J 0 (.running 0); let x := hartOf s h; let a := svcArg x; InService s h 0x20 false j ∧ keyLenGood (a 3) = true ∧ inScratch (a 2) (a 3) = true ∧ handleRoom s false j.domain = true ∧ canDraw s = true) ∧
    (let s : State := K 0x21 [(2, 32)]; let h : Fin 8 := 0; let j : Job := J 0 (.running 0); let x := hartOf s h; let a := svcArg x; InService s h 0x21 false j ∧ keyLenGood (a 2) = true ∧ handleRoom s false j.domain = true ∧ canDraw s = true) ∧
    (let s : State := K 0x22 [(2, 5), (4, 24)]; let h : Fin 8 := 0; let j : Job := J 0 (.running 0); let x := hartOf s h; let a := svcArg x; InService s h 0x22 false j ∧ (a 4 = 24 ∨ a 4 = 40) ∧ inScratch (a 3) (a 4) = true ∧ symArg s (a 2) = true ∧ handleStatus s j.domain (a 2) = 0 ∧ handleRoom s false j.domain = true) ∧
    (let s : State := K 0x23 [(2, 5), (3, 6)]; let h : Fin 8 := 0; let j : Job := J 0 (.running 0); let x := hartOf s h; let a := svcArg x; InService s h 0x23 false j ∧ symArg s (a 2) = true ∧ symArg s (a 3) = true ∧ inScratch (a 4) ((keyOf s (a 3)).len + 8) = true ∧ handleStatus s j.domain (a 2) = 0 ∧ handleStatus s j.domain (a 3) = 0 ∧ (keyOf s (a 3)).nowrap = false) ∧
    (let s : State := K 0x24 [(2, 5), (4, 4), (5, 32)]; let h : Fin 8 := 0; let j : Job := J 0 (.running 0); let x := hartOf s h; let a := svcArg x; InService s h 0x24 false j ∧ keyLenGood (a 5) = true ∧ inScratch (a 3) (a 4) = true ∧ symArg s (a 2) = true ∧ handleStatus s j.domain (a 2) = 0 ∧ handleRoom s false j.domain = true) ∧
    (let s : State := K 0x25 [(2, 5), (4, 4), (5, 16368)]; let h : Fin 8 := 0; let j : Job := J 0 (.running 0); let x := hartOf s h; let a := svcArg x; InService s h 0x25 false j ∧ inScratch (a 3) (a 4) = true ∧ inScratch (a 5) 16 = true ∧ symArg s (a 2) = true ∧ handleStatus s j.domain (a 2) = 0) ∧
    (let s : State := K 0x26 [(2, 6)]; let h : Fin 8 := 0; let j : Job := J 0 (.running 0); let x := hartOf s h; let a := svcArg x; InService s h 0x26 false j ∧ a 2 < 0x10000 ∧ handleStatus s j.domain (a 2) = 0) := by
  refine ⟨?_, ?_, ?_, ?_, ?_, ?_, ?_⟩
  · unfold InService; decide +kernel
  · unfold InService; decide +kernel
  · unfold InService; decide +kernel
  · unfold InService; decide +kernel
  · unfold InService; decide +kernel
  · unfold InService; decide +kernel
  · unfold InService; decide +kernel

theorem witness_channelServices :
    (let s : State := K 0x10 [(2, 0x1FFF0000)]; let h : Fin 8 := 0; let j : Job := J 0 (.running 0); let x := hartOf s h; let a := svcArg x; let dir := a 2 % 2; let n := a 2 / 65536; let l := scratchRead s j (a 3) 16; s.culm.session = true ∧ InService s h 0x10 false j ∧ n < 8192 ∧ inScratch (a 3) 16 = true ∧ scRecGood dir l = true ∧ scFree s dir n = true ∧ (scsOf s dir j.domain).length < scQuota s dir j.domain) ∧
    (let s : State := K 0x11 []; let h : Fin 8 := 0; let j : Job := J 0 (.running 0); let x := hartOf s h; let a := svcArg x; let dir := a 2 % 2; let n := a 2 / 65536; s.culm.session = true ∧ InService s h 0x11 false j ∧ n < 8192 ∧ scStatus s j.domain dir n = 0 ∧ scValid s dir n = false ∧ scSteered s dir n = false) ∧
    (let s : State := K 0x12 []; let h : Fin 8 := 0; let j : Job := J 0 (.running 0); let x := hartOf s h; let a := svcArg x; let dir := a 2 % 2; let n := a 2 / 65536; let l := scratchRead s j (a 3) 16; s.culm.session = true ∧ InService s h 0x12 false j ∧ n < 8192 ∧ inScratch (a 3) 16 = true ∧ scRecGood dir l = true ∧ scStatus s j.domain dir n = 0 ∧ scValid s dir n = false) ∧
    (let s : State := K 0x13 [] ([5, 0, 0, 0, 1] ++ List.replicate 27 0); let h : Fin 8 := 0; let j : Job := J 0 (.running 0); let x := hartOf s h; let a := svcArg x; let v := a 2; let r := scratchRead s j (a 3) 32; let key := leNat (octetsAt r 0 2); s.culm.session = true ∧ InService s h 0x13 false j ∧ saSc v < 8192 ∧ inScratch (a 3) 32 = true ∧ saRecGood (saDir v) r = true ∧ symArg s key = true ∧ (keyOf s key).len = suiteKey (leNat (octetsAt r 2 1)) ∧ saRight s j.domain v = true ∧ handleStatus s j.domain key = 0 ∧ (scOf s (saDir v) (saSc v)).held = true ∧ slotShut s (saSlot v) = false ∧ installBarred s = false ∧ saCurrent s v = false ∧ saUsed s (scOf s (saDir v) (saSc v)).dom < (quotaOf s (scOf s (saDir v) (saSc v)).dom).sa ∧ saDir v = 0 ∧ grBusy s = false ∧ canDraw s = true) ∧
    (let s : State := K1 0x14 [(2, 2)]; let h : Fin 8 := 0; let j : Job := J 0 (.running 0); let x := hartOf s h; let a := svcArg x; let v := a 2; let e := slotOf s (saSlot v); s.culm.session = true ∧ InService s h 0x14 false j ∧ saSc v < 8192 ∧ saRight s j.domain v = true ∧ slotShut s (saSlot v) = false ∧ saCurrent s v = false ∧ e.valid = true ∧ grBusy s = false ∧ bitAt (a 3) 0 = false ∧ bitAt (a 3) 1 = false ∧ s.gran.fences.length < 8) ∧
    (let s : State := K1 0x15 [(3, 1)]; let h : Fin 8 := 0; let j : Job := J 0 (.running 0); let x := hartOf s h; let a := svcArg x; let w := 65536 * a 2 + 2 * a 3; s.culm.session = true ∧ InService s h 0x15 false j ∧ a 2 < 8192 ∧ a 3 < 4 ∧ saRight s j.domain w = true ∧ (slotOf s (saSlot w)).valid = true) ∧
    (let s : State := K1 0x16 [(2, 2)]; let h : Fin 8 := 0; let j : Job := J 0 (.running 0); let x := hartOf s h; let a := svcArg x; let v := a 2; s.culm.session = true ∧ InService s h 0x16 false j ∧ saSc v < 8192 ∧ saRight s j.domain v = true ∧ slotShut s (saSlot v) = false ∧ grBusy s = false) ∧
    (let s : State := K1 0x17 [(2, 2), (3, 6)]; let h : Fin 8 := 0; let j : Job := J 0 (.running 0); let x := hartOf s h; let a := svcArg x; let v := a 2; let e := slotOf s (saSlot v); let c := copyOf s (saSlot v); s.culm.session = true ∧ InService s h 0x17 false j ∧ saSc v < 8192 ∧ symArg s (a 3) = true ∧ inScratch (a 4) (c.length + 8) = true ∧ saRight s j.domain v = true ∧ handleStatus s j.domain (a 3) = 0 ∧ e.noExport = false ∧ slotShut s (saSlot v) = false ∧ c ≠ []) ∧
    (let s : State := K1 0x38 [(2, 2)]; let h : Fin 8 := 0; let j : Job := J 0 (.running 0); let x := hartOf s h; let a := svcArg x; let v := a 2; s.culm.session = true ∧ InService s h 0x38 false j ∧ saSc v < 8192 ∧ inScratch (a 3) 64 = true ∧ saRight s j.domain v = true) ∧
    (let s : State := K 0x39 []; let h : Fin 8 := 0; let j : Job := J 0 (.running 0); let x := hartOf s h; let a := svcArg x; s.culm.session = true ∧ InService s h 0x39 false j ∧ inScratch (a 3) 32 = true) := by
  refine ⟨?_, ?_, ?_, ?_, ?_, ?_, ?_, ?_, ?_, ?_⟩
  · unfold InService; decide +kernel
  · unfold InService; decide +kernel
  · unfold InService; decide +kernel
  · unfold InService; decide +kernel
  · unfold InService; decide +kernel
  · unfold InService; decide +kernel
  · unfold InService; decide +kernel
  · unfold InService; decide +kernel
  · unfold InService; decide +kernel
  · unfold InService; decide +kernel

theorem witness_steeringServices :
    (let s : State := { K 0x31 [(3, 7)] with line := { S.line with em := [(7, [1])] } }; let h : Fin 8 := 0; let j : Job := J 0 (.running 0); let x := hartOf s h; let a := svcArg x; s.culm.session = true ∧ InService s h 0x31 false j ∧ stageOk s (a 2) = true ∧ a 3 < 4096 ∧ emEntry s (a 2) (a 3) ≠ [] ∧ (j.domain = 0 ∨ fld (wordAt (emEntry s (a 2) (a 3)) 4) 14 3 = j.domain)) ∧
    (let s : State := K 0x34 [] [1]; let h : Fin 8 := 0; let j : Job := J 0 (.running 0); let x := hartOf s h; let a := svcArg x; let l := wordsOf 8 (scratchRead s j (a 3) 32); s.culm.session = true ∧ InService s h 0x34 false j ∧ a 2 < 16 ∧ inScratch (a 3) 32 = true ∧ inScratch (a 4) 32 = true ∧ fld (wordAt l 0) 3 1 ≤ 4 ∧ emIndex s (leadStage s (a 2)) (emKey l) = none) ∧
    (let s : State := { K 0x34 [] [1] with line := { S.line with em := [(7, [1])] } }; let h : Fin 8 := 0; let j : Job := J 0 (.running 0); let i : Nat := 7; let x := hartOf s h; let a := svcArg x; let l := wordsOf 8 (scratchRead s j (a 3) 32); s.culm.session = true ∧ InService s h 0x34 false j ∧ a 2 < 16 ∧ inScratch (a 3) 32 = true ∧ inScratch (a 4) 32 = true ∧ fld (wordAt l 0) 3 1 ≤ 4 ∧ emIndex s (leadStage s (a 2)) (emKey l) = some i ∧ (j.domain = 0 ∨ fld (wordAt (emEntry s (leadStage s (a 2)) i) 4) 14 3 = j.domain)) ∧
    (let s : State := K 0x32 [(4, 254)] (octetsOf (ruleAny 1)); let h : Fin 8 := 0; let j : Job := J 0 (.running 0); let x := hartOf s h; let a := svcArg x; let ru := wordsOf 20 (scratchRead s j (a 3) 80); s.culm.session = true ∧ InService s h 0x32 false j ∧ stageOk s (a 2) = true ∧ inScratch (a 3) 80 = true ∧ bitAt (wordAt ru 16).toNat 0 = true ∧ ruleLegal ru = true ∧ 16 ≤ a 4 ∧ a 4 < 255 ∧ ruleRight s j.domain (a 2) ru = true ∧ ruleEntry s (a 2) (a 4) = [] ∧ ruleUsed s (fld (wordAt ru 17) 14 3) < (quotaOf s (fld (wordAt ru 17) 14 3)).rule) ∧
    (let s : State := { K 0x33 [(3, 255)] with line := { S.line with rules := [(255, ruleAny 1)] } }; let h : Fin 8 := 0; let j : Job := J 0 (.running 0); let x := hartOf s h; let a := svcArg x; s.culm.session = true ∧ InService s h 0x33 false j ∧ stageOk s (a 2) = true ∧ 16 ≤ a 3 ∧ a 3 < 256 ∧ ruleEntry s (a 2) (a 3) ≠ [] ∧ (j.domain = 0 ∨ fld (wordAt (ruleEntry s (a 2) (a 3)) 17) 14 3 = j.domain)) ∧
    (let s : State := K 0x74 [(2, 4095)] [15, 3, 0, 2, 5]; let h : Fin 8 := 0; let j : Job := J 0 (.running 0); let g : SteerGrant := ⟨4095, 15, 3, .vid 2 5⟩; let x := hartOf s h; let a := svcArg x; s.culm.session = true ∧ InService s h 0x74 true j ∧ a 2 < 4096 ∧ inScratch (a 3) 16 = true ∧ grantRecord (scratchRead s j (a 3) 16) (a 2) = some g ∧ (∀ k ∈ s.ord.grants, k.stage = g.stage → k.slot = g.slot → k.key = g.key → k.dom = a 2) ∧ bitAt (a 4) 0 = false) ∧
    (let s : State := { K 0x60 [(4, 64)] (List.replicate 12 0 ++ [0x88, 0x8E]) with regs := (P .up).regs ++ [(stA 0 + 0x630, 0x888E)] }; let h : Fin 8 := 0; let j : Job := J 0 (.running 0); let x := hartOf s h; let a := svcArg x; let b := a 2 % 256; let slot := a 2 / 256 % 4; let o := scratchRead s j (a 3) (a 4); s.culm.session = true ∧ InService s h 0x60 false j ∧ b < 16 ∧ 64 ≤ a 4 ∧ a 4 ≤ 1536 ∧ inScratch (a 3) (a 4) = true ∧ injectAllowed s b (parseFrame s b o).etype = true ∧ sendRight s j.domain b slot (parseFrame s b o) = true ∧ tget (fun _ => false) s.line.injWait b = false ∧ portExists s (4 * b + slot) = true) ∧
    (let s : State := { K 0x61 [] with ord := { (K 0x61 []).ord with punts := [(0, [⟨plainFrame, 0, .ingress, 0, 0, 0, 1⟩])] } }; let h : Fin 8 := 0; let j : Job := J 0 (.running 0); let f : PuntFrame := ⟨plainFrame, 0, .ingress, 0, 0, 0, 1⟩; let r : List PuntFrame := []; let x := hartOf s h; let a := svcArg x; s.culm.session = true ∧ InService s h 0x61 false j ∧ puntsOf s j.domain = f :: r ∧ inScratch (a 2) f.octets.length = true) ∧
    (let s : State := K 0x68 [(2, 63)]; let h : Fin 8 := 0; let j : Job := J 0 (.running 0); let x := hartOf s h; let a := svcArg x; s.culm.session = true ∧ InService s h 0x68 false j ∧ a 2 < 64 ∧ holdsPort s j.domain (a 2) = true) ∧
    (let s : State := K 0x69 [(2, 15)] (octetsOf ((cfgAddrs 15).map (rget S))); let h : Fin 8 := 0; let j : Job := J 0 (.running 0); let x := hartOf s h; let a := svcArg x; let c := cfgWrites (a 2) (scratchRead s j (a 3) cfgSize); s.culm.session = true ∧ InService s h 0x69 true j ∧ a 2 < 16 ∧ inScratch (a 3) cfgSize = true ∧ cfgGood (a 2) c = true ∧ 15 ≤ s.pw.step ∧ cfgHeld s (a 2) c = false) ∧
    (let s : State := K 0x6A [(3, 64)]; let h : Fin 8 := 0; let j : Job := J 0 (.running 0); let x := hartOf s h; let a := svcArg x; s.culm.session = true ∧ InService s h 0x6A true j ∧ tillerArgBad (a 2) (a 3) (gget x 4) = false ∧ tillerOpen s (a 2) (a 3) (gget x 4) = true) := by
  refine ⟨?_, ?_, ?_, ?_, ?_, ?_, ?_, ?_, ?_, ?_, ?_⟩
  · unfold InService; decide +kernel
  · unfold InService; decide +kernel
  · unfold InService; decide +kernel
  · unfold InService; decide +kernel
  · unfold InService; decide +kernel
  · unfold InService; decide +kernel
  · unfold InService; decide +kernel
  · unfold InService; decide +kernel
  · unfold InService; decide +kernel
  · unfold InService; decide +kernel
  · unfold InService; decide +kernel

theorem witness_grantServices :
    (let s : State := K 0x70 [] (List.replicate 36 0 ++ [255, 0, 62, 0, 1] ++ List.replicate 7 0); let h : Fin 8 := 0; let j : Job := J 0 (.running 0); let x := hartOf s h; let a := svcArg x; let l := scratchRead s j (a 2) 48; let f := 256 * (j.fn / 256) + leNat (octetsAt l 0 1); InService s h 0x70 true j ∧ inScratch (a 2) 48 = true ∧ (fnOf s f).present = true ∧ grantGood l = true) ∧
    (let s : State := K 0x71 []; let h : Fin 8 := 0; let j : Job := J 0 (.running 0); let x := hartOf s h; let a := svcArg x; InService s h 0x71 true j ∧ a 2 < 256 ∧ inScratch (a 3) 48 = true ∧ (fnOf s (256 * (j.fn / 256) + a 2)).present = true) ∧
    (let s : State := K 0x72 []; let h : Fin 8 := 0; let j : Job := J 0 (.running 0); let x := hartOf s h; let a := svcArg x; let q := scratchRead s j (a 2) 16; let d := leNat (octetsAt q 0 2); let t := quotaPut s d (quotaRec q); InService s h 0x72 true j ∧ inScratch (a 2) 24 = true ∧ quotaGood q = true ∧ (quotaRec q).hard = false ∧ reserved t (fun q => q.tx) ≤ 8192 ∧ reserved t (fun q => q.rx) ≤ 8192 ∧ reserved t (fun q => q.sa) ≤ 65536 ∧ j.resumed = none) ∧
    (let s : State := { K 0x73 [] [1, 1, 15] with host := { (K 0x73 []).host with fns := [(0, x0), (1, { present := true })] } }; let h : Fin 8 := 0; let j : Job := J 0 (.running 0); let x := hartOf s h; let a := svcArg x; let r := scratchRead s j (a 2) 32; let i := 256 * (j.fn / 256) + leNat (octetsAt r 1 1); let log := fun op : Nat => InService s h 0x73 true j ∧ inScratch (a 2) 32 = true ∧ leNat (octetsAt r 0 1) = op ∧ i % 256 ≠ 0 ∧ (fnOf s i).present = true ∧ leNat (octetsAt r 3 5) = 0; log 1 ∧ logStartGood r = true ∧ logOn s i = false) ∧
    (let s : State := { K 0x73 [] [2, 1] with host := { (K 0x73 []).host with fns := [(0, x0), (1, { present := true })] }, regs := (K 0x73 []).regs ++ [(logA 1, 1)] }; let h : Fin 8 := 0; let j : Job := J 0 (.running 0); let x := hartOf s h; let a := svcArg x; let r := scratchRead s j (a 2) 32; let i := 256 * (j.fn / 256) + leNat (octetsAt r 1 1); let log := fun op : Nat => InService s h 0x73 true j ∧ inScratch (a 2) 32 = true ∧ leNat (octetsAt r 0 1) = op ∧ i % 256 ≠ 0 ∧ (fnOf s i).present = true ∧ leNat (octetsAt r 3 5) = 0; log 2 ∧ logOn s i = true ∧ logBad s i = false ∧ logFilling s i = false) ∧
    (let s : State := { K 0x73 [] [3, 1] with host := { (K 0x73 []).host with fns := [(0, x0), (1, { present := true })] }, regs := (K 0x73 []).regs ++ [(logA 1, 1)] }; let h : Fin 8 := 0; let j : Job := J 0 (.running 0); let x := hartOf s h; let a := svcArg x; let r := scratchRead s j (a 2) 32; let i := 256 * (j.fn / 256) + leNat (octetsAt r 1 1); let log := fun op : Nat => InService s h 0x73 true j ∧ inScratch (a 2) 32 = true ∧ leNat (octetsAt r 0 1) = op ∧ i % 256 ≠ 0 ∧ (fnOf s i).present = true ∧ leNat (octetsAt r 3 5) = 0; log 3 ∧ logOn s i = true ∧ logFilling s i = false) := by
  refine ⟨?_, ?_, ?_, ?_, ?_, ?_⟩
  · unfold InService; decide +kernel
  · unfold InService; decide +kernel
  · unfold InService; decide +kernel
  · unfold InService; decide +kernel
  · unfold InService; decide +kernel
  · unfold InService; decide +kernel

theorem witness_longIntegerJobs :
    (let s : State := L 271 {} 1 none; let j : Fin 272 := 271; let x := liJob s j; runs s = true ∧ x.st = .free ∧ liKnown (liOpOf s j) = true ∧ liSeedless (liOpOf s j) = true) ∧
    (let s : State := L 271 {} 8 (some 0); let j : Fin 272 := 271; let k : Nat := 0; let x := liJob s j; runs s = true ∧ x.st = .free ∧ liKnown (liOpOf s j) = true ∧ liSeedless (liOpOf s j) = false ∧ rngDown s = false ∧ canDraw s = true ∧ s.li.running = some k) ∧
    (let s : State := { L 271 {} 8 none with rng := { S.rng with st := .failed } }; let j : Fin 272 := 271; let x := liJob s j; runs s = true ∧ x.st = .free ∧ liKnown (liOpOf s j) = true ∧ liSeedless (liOpOf s j) = false ∧ rngDown s = true) ∧
    (let s : State := L 271 { st := .queued } 1 (some 0); let j : Fin 272 := 271; let k : Nat := 0; let x := liJob s j; runs s = true ∧ x.live = true ∧ s.li.running = some k ∧ k ≠ j.val ∧ (x.st = .faulted → liClass s j ≠ 1)) ∧
    (let s : State := L 271 { st := .faulted } 1 none; let j : Fin 272 := 271; let x := liJob s j; runs s = true ∧ x.st = .faulted ∧ s.li.running = none) ∧
    (let s : State := L 271 { st := .ended } 1 none; let j : Fin 272 := 271; let x := liJob s j; runs s = true ∧ x.st = .ended) ∧
    (let s : State := L 271 { st := .loading } 1 none; let j : Fin 272 := 271; let r : MemRes := .ok; let x := liJob s j; runs s = true ∧ x.st = .loading ∧ liAccess s .load (liW s j 2) (liW s j 3) r = (s, none) ∧ liAccess s .load (liW s j 4) (liW s j 5) .ok = (s, none)) ∧
    (let s : State := L 271 { st := .storing } 65 (some 0); let j : Fin 272 := 271; let k : Nat := 0; let r : MemRes := .ok; let x := liJob s j; runs s = true ∧ x.st = .storing ∧ liAccess s .store (liW s j 8) x.out.length r = (s, none) ∧ s.li.running = some k ∧ k ≠ j.val ∧ liClass s j = 1 ∧ liCreates (liOpOf s j) = false) := by
  refine ⟨?_, ?_, ?_, ?_, ?_, ?_, ?_, ?_⟩
  · decide +kernel
  · decide +kernel
  · decide +kernel
  · decide +kernel
  · decide +kernel
  · decide +kernel
  · decide +kernel
  · decide +kernel

theorem witness_longIntegerEngine :
    (let s : State := L 5 { st := .computing } 1 (some 5); let j : Nat := 5; let x := liJob s j; runs s = true ∧ s.li.running = some j ∧ x.st = .computing) ∧
    (let s : State := { S with li := { S.li with fullAt := some 0 } }; runs s = true ∧ s.li.fullAt.isSome = true ∧ s.li.fullTold = false) ∧
    (let s : State := S; let need : Fin 7 := 5; runs s = true ∧ s.li.running = none ∧ s.li.step < need.val ∧ need.val ≤ 5) ∧
    (let s : State := S; let v : W32 := 5; runs s = true ∧ rf s 0x30000200 3 0 ≤ fld v 2 0 ∧ fld v 2 0 ≤ 5) := by
  refine ⟨?_, ?_, ?_, ?_⟩
  · decide +kernel
  · decide +kernel
  · decide +kernel
  · decide +kernel

theorem witness_longIntegerServices :
    (let s : State := K 0x48 [] liDesc; let h : Fin 8 := 0; let j : Job := J 0 (.running 0); let e : Nat := 0; let x := hartOf s h; let l := scratchRead s j (svcArg x 2) 32; let op := liD l 0 2; let fits := inScratch (svcArg x 2) 32 = true ∧ liDescGood s l = true ∧ liDescStatus s j l = 0 ∧ (liCreates op = true → handleRoom s (decide (op ≠ 0x29)) j.domain = true) ∧ liEntry s = some e ∧ (liSeedless op = true ∨ canDraw s = true); InService s h 0x48 false j ∧ j.resumed = none ∧ fits) ∧
    (let s : State := K 0x49 [] liDesc; let h : Fin 8 := 0; let j : Job := J 0 (.running 0); let e : Nat := 0; let x := hartOf s h; let l := scratchRead s j (svcArg x 2) 32; let op := liD l 0 2; let fits := inScratch (svcArg x 2) 32 = true ∧ liDescGood s l = true ∧ liDescStatus s j l = 0 ∧ (liCreates op = true → handleRoom s (decide (op ≠ 0x29)) j.domain = true) ∧ liEntry s = some e ∧ (liSeedless op = true ∨ canDraw s = true); InService s h 0x49 false j ∧ fits ∧ (liOfOrder s j.id).length < 4 ∧ (liJob (liPlace s j e l) e).st ≠ .ended) ∧
    (let s : State := { K 0x4A [(2, 3)] with li := { S.li with jobs := [(0, { st := .ended, order := some 1, num := 3 })] } }; let h : Fin 8 := 0; let j : Job := J 0 (.running 0); let e : Nat := 0; let x := hartOf s h; InService s h 0x4A false j ∧ svcArg x 2 < 4 ∧ (liOfOrder s j.id).find? (fun e => (liJob s e).num == svcArg x 2) = some e ∧ (liJob s e).st = .ended) := by
  refine ⟨?_, ?_, ?_⟩
  · unfold InService; decide +kernel
  · unfold InService; decide +kernel
  · unfold InService; decide +kernel

theorem witness_recolourAndRemap :
    (let s : State := { S with regs := S.regs ++ [(0x30088000, 0x20000000), (0x30088004, 98304)] }; let g : Nat := 0; runs s = true ∧ s.rc.busy = false ∧ rcRange s = some g) ∧
    (let s : State := { S with rc := { busy := true } }; runs s = true ∧ s.rc.busy = true) ∧
    (let s : State := { S with regs := S.regs ++ [(0x30088000, 0x20000000), (0x30088004, 98304)] }; let bank : Fin 32 := 23; runs s = true ∧ s.rmSram.busy = false ∧ bank.val < 24) ∧
    (let s : State := { S with regs := S.regs ++ [(0x30088000, 0x20000000), (0x30088004, 98304)] }; let mem : Fin 8 := 5; runs s = true ∧ s.culm.session = true ∧ s.rmLine.busy = false ∧ mem.val < 6) ∧
    (let s : State := { S with rmSram := { S.rmSram with busy := true, unit := 23 } }; let unit : Fin 32 := 0; runs s = true ∧ s.rmSram.busy = true ∧ sramLeft s s.rmSram.unit ≠ 0) ∧
    (let s : State := { S with rmLine := { S.rmLine with busy := true, mem := 5, unit := 0 } }; let mem : Fin 8 := 5; let unit : Fin 32 := 0; runs s = true ∧ s.rmLine.busy = true ∧ lineLeft s s.rmLine.mem s.rmLine.unit ≠ 0) := by
  refine ⟨?_, ?_, ?_, ?_, ?_, ?_⟩
  · decide +kernel
  · decide +kernel
  · decide +kernel
  · decide +kernel
  · decide +kernel
  · decide +kernel

theorem witness_dmaChannels :
    (let s : State := D 4; let c : Fin 16 := 15; runs s = true ∧ (dmState s c = 0 ∨ 4 ≤ dmState s c) ∧ dmBadGo s c = false) ∧
    (let s : State := D 1; let c : Fin 16 := 15; runs s = true ∧ dmState s c = 1) ∧
    (let s : State := D 2; let c : Fin 16 := 15; runs s = true ∧ dmState s c = 2 ∧ rbit s (dmA c + 0x20) 9 = false) ∧
    (let s : State := D 0x103; let c : Fin 16 := 15; runs s = true ∧ dmState s c = 3 ∧ rbit s (dmA c + 0x20) 8 = true) ∧
    (let s : State := D 3; let c : Fin 16 := 15; runs s = true ∧ (dmState s c = 1 ∨ dmState s c = 2 ∨ dmState s c = 3)) ∧
    (let s : State := D 1; let u : State := D 1; let v : State := D 1; let w : State := D 1; let c : Fin 16 := 15; let src : MemRes := .ok; let dst : MemRes := .ok; let l : List Byte := List.replicate 16 0; let e : Nat := 4; runs s = true ∧ dmState s c = 1 ∧ dmSrcHost s c = false ∧ dmDstHost s c = false ∧ beatSource s c (beatSize s c) src = (u, some l, e) ∧ dmCheck u c .store (dmDst s c) dst = (v, none) ∧ beatSram v (dmDst s c) l dst = (w, true)) ∧
    (let s : State := { D 1 with dma := [(15, { reqs := [⟨0, 64, none, 0⟩] })] }; let c : Fin 16 := 15; let k : Fin 8 := 0; let r : DmaReq := ⟨0, 64, none, 0⟩; let d := dmaOf s c; runs s = true ∧ d.reqs[k.val]? = some r ∧ r.data = none ∧ r.err = 0) ∧
    (let s : State := { D 1 with dma := [(15, { stale := 1 })] }; let c : Fin 16 := 15; let d := dmaOf s c; runs s = true ∧ 0 < d.stale) ∧
    (let s : State := { S with host := { S.host with fns := [(511, { present := true, ring := .enabled, reading := 8 })] } }; let f : Fin 512 := 511; runs s = true ∧ (fnOf s f).ring = .enabled ∧ (fnOf s f).reading ≠ 0) ∧
    (let s : State := D 1; runs s = true) := by
  refine ⟨?_, ?_, ?_, ?_, ?_, ?_, ?_, ?_, ?_, ?_⟩
  · decide +kernel
  · decide +kernel
  · decide +kernel
  · decide +kernel
  · decide +kernel
  · decide +kernel
  · decide +kernel
  · decide +kernel
  · decide +kernel
  · decide +kernel

theorem witness_flashSequence :
    (let s : State := S; runs s = true ∧ s.fl.seq = 0 ∧ s.fl.op = none) ∧
    (let s : State := FL { seq := 1, owner := 7 }; let h : Fin 8 := 7; runs s = true ∧ s.fl.seq = 1 ∧ s.fl.owner = h) ∧
    (let s : State := FL { seq := 1, owner := 7 }; let h : Fin 8 := 7; let k : Fin 65536 := 0; runs s = true ∧ s.fl.seq = 1 ∧ s.fl.owner = h ∧ k ≠ 0xA5E8) ∧
    (let s : State := FL { seq := 2, owner := 7 }; let h : Fin 8 := 7; let v : W32 := 0x39; runs s = true ∧ s.fl.seq = 2 ∧ s.fl.owner = h ∧ 1 ≤ fld v 2 0 ∧ fld v 2 0 ≤ 4 ∧ (fld v 2 0 = 1 ∨ fld v 5 3 = 0)) ∧
    (let s : State := FL { seq := 3, owner := 7, cmd := 1, count := 7 }; let h : Fin 8 := 7; let v : W32 := 0x10300000; runs s = true ∧ s.fl.seq = 3 ∧ s.fl.owner = h ∧ addrOk s s.fl.cmd s.fl.count v.toNat = true ∧ s.fl.cmd = 1) ∧
    (let s : State := FL { seq := 3, owner := 7, cmd := 2 }; let h : Fin 8 := 7; let v : W32 := 0x10300000; runs s = true ∧ s.fl.seq = 3 ∧ s.fl.owner = h ∧ addrOk s s.fl.cmd s.fl.count v.toNat = true ∧ s.fl.cmd ≠ 1) ∧
    (let s : State := FL { seq := 4, owner := 7, count := 1, words := List.replicate 63 0 }; let h : Fin 8 := 7; let w : Fin 64 := 63; runs s = true ∧ s.fl.seq = 4 ∧ s.fl.owner = h ∧ w.val = s.fl.words.length % 64 ∧ s.fl.words.length + 1 ≠ 64 * (s.fl.count + 1)) ∧
    (let s : State := FL { seq := 4, owner := 7, words := List.replicate 63 0 }; let h : Fin 8 := 7; let w : Fin 64 := 63; runs s = true ∧ s.fl.seq = 4 ∧ s.fl.owner = h ∧ w.val = s.fl.words.length % 64 ∧ s.fl.words.length + 1 = 64 * (s.fl.count + 1)) ∧
    (let s : State := FL { seq := 4 }; runs s = true ∧ s.fl.seq ≠ 0) := by
  refine ⟨?_, ?_, ?_, ?_, ?_, ?_, ?_, ?_, ?_⟩
  · decide +kernel
  · decide +kernel
  · decide +kernel
  · decide +kernel
  · decide +kernel
  · decide +kernel
  · decide +kernel
  · decide +kernel
  · decide +kernel

theorem witness_flashOperations :
    (let s : State := FL { op := some { op := 1, addr := 0x10300000, words := List.replicate 64 0 } }; let o : FlOp := { op := 1, addr := 0x10300000, words := List.replicate 64 0 }; let pages := o.words.length / 64; runs s = true ∧ flDue s 1 = some o ∧ blankCheck s o.addr pages = true ∧ (∀ i, i < pages → pageUndef s (o.addr + 256 * i) = false)) ∧
    (let s : State := FL { op := some { op := 1, addr := 0x10300000, words := List.replicate 64 0 }, data := [(0x103000FF, 0)] }; let o : FlOp := { op := 1, addr := 0x10300000, words := List.replicate 64 0 }; let pages := o.words.length / 64; runs s = true ∧ flDue s 1 = some o ∧ blankCheck s o.addr pages = false) ∧
    (let s : State := FL { op := some { op := 2, addr := 0x10300000 } }; let o : FlOp := { op := 2, addr := 0x10300000 }; runs s = true ∧ flDue s 2 = some o) ∧
    (let s : State := FL { op := some { op := 3, addr := 0x10300000 } }; let o : FlOp := { op := 3, addr := 0x10300000 }; runs s = true ∧ flDue s 3 = some o ∧ sparesOf s (poolOf (sectorOf o.addr)) ≠ 0) ∧
    (let s : State := FL { op := some { op := 4, addr := 3 } }; let o : FlOp := { op := 4, addr := 3 }; runs s = true ∧ flDue s 4 = some o) ∧
    (let s : State := FL { op := some { op := 2, addr := 0x10300000, done := true } }; let o : FlOp := { op := 2, addr := 0x10300000, done := true }; runs s = true ∧ s.fl.op = some o ∧ o.done = true) ∧
    (let s : State := S; runs s = true ∧ s.fl.op = none) := by
  refine ⟨?_, ?_, ?_, ?_, ?_, ?_, ?_⟩
  · decide +kernel
  · decide +kernel
  · decide +kernel
  · decide +kernel
  · decide +kernel
  · decide +kernel
  · decide +kernel

theorem witness_counterBanks :
    (let s : State := S; runs s = true ∧ s.culm.session = true ∧ s.mt.frozen = .cleared ∧ s.mt.boundary = none) ∧
    (let s : State := { S with mt := { S.mt with boundary := some { timer := true } } }; let b : Boundary := { timer := true }; let m : Nat := 0; runs s = true ∧ s.culm.session = true ∧ s.mt.frozen = .cleared ∧ s.mt.boundary = some b ∧ b.order = none ∧ s.mt.minute = some m) ∧
    (let s : State := { S with mt := { S.mt with frozen := .frozen } }; runs s = true ∧ s.culm.session = true ∧ s.mt.frozen = .frozen) ∧
    (let s : State := { S with mt := { S.mt with frozen := .harvesting } }; runs s = true ∧ s.culm.session = true ∧ s.mt.frozen = .harvesting ∧ s.mt.left = [] ∧ unbuilt s = none) ∧
    (let s : State := { S with mt := { S.mt with frozen := .harvesting, minutes := [min0] } }; let x : Minute := min0; runs s = true ∧ s.culm.session = true ∧ s.mt.frozen = .harvesting ∧ s.mt.left = [] ∧ unbuilt s = some x) ∧
    (let s : State := { S with mt := { S.mt with frozen := .harvested } }; runs s = true ∧ s.culm.session = true ∧ s.mt.frozen = .harvested ∧ s.mt.clearing = false) ∧
    (let s : State := { S with mt := { S.mt with clearing := true } }; runs s = true ∧ s.mt.clearing = true) ∧
    (let s : State := S; runs s = true ∧ s.culm.session = true ∧ s.mt.frozen ≠ .harvesting ∧ s.mt.stallAt = none) ∧
    (let s : State := S; let m : Nat := 0; runs s = true ∧ s.mt.minute = some m ∧ s.mt.boundary = none ∧ boundaryReady s = true) ∧
    (let s : State := { S with culm := {} }; let m : Nat := 0; runs s = true ∧ s.mt.minute = some m ∧ s.mt.boundary = none ∧ boundaryReady s = false) := by
  refine ⟨?_, ?_, ?_, ?_, ?_, ?_, ?_, ?_, ?_, ?_⟩
  · decide +kernel
  · decide +kernel
  · decide +kernel
  · decide +kernel
  · decide +kernel
  · decide +kernel
  · decide +kernel
  · decide +kernel
  · decide +kernel
  · decide +kernel

theorem witness_meteringRecords :
    (let s : State := { S with regs := S.regs ++ [(mtA + 0x30, 0x20FFF)] }; let i := rf s (mtA + 0x30) 16 0; let kind := rf s (mtA + 0x30) 17 17; runs s = true ∧ s.culm.session = true ∧ i < (if kind = 0 then 65536 else 4096)) ∧
    (let s : State := { S with mt := { S.mt with minutes := [{ min0 with built := true }] } }; let x : Minute := { min0 with built := true }; runs s = true ∧ toSign s = some x ∧ s.mt.retry = false ∧ signBarred s = false) ∧
    (let s : State := { S with mt := { S.mt with minutes := [{ min0 with built := true }] } }; let x : Minute := { min0 with built := true }; let st : Fin 8 := 7; runs s = true ∧ toSign s = some x ∧ s.mt.retry = false ∧ st ≠ 0) ∧
    (let s : State := { S with mt := { S.mt with retry := true } }; runs s = true ∧ s.mt.retry = true) ∧
    (let s : State := { S with mt := { S.mt with stallAt := some 0 } }; runs s = true ∧ s.mt.stallAt.isSome = true) ∧
    (let s : State := { V 0 0x50 [(4, 0x4000), (5, 0xFFFF)] with mt := { S.mt with minutes := [{ min0 with built := true, sign := [1], evicted := true }] } }; let h : Fin 8 := 0; let j : Job := J 0 (.running 0); let x : Minute := { min0 with built := true, sign := [1], evicted := true }; let a := svcArg (hartOf s h); runs s = true ∧ InService s h 0x50 false j ∧ inScratch (a 3) (a 4 % 2 ^ 14) = true ∧ (a 5 < 4096 ∨ a 5 = 0xFFFF) ∧ (j.domain = 0 ∨ a 5 = j.domain) ∧ heldMinute s (a 2) (a 5) = some x) ∧
    (let s : State := { V 0 0x51 [(2, 999999)] with now := 50000000 }; let h : Fin 8 := 0; let j : Job := J 0 (.running 0); let a := svcArg (hartOf s h); runs s = true ∧ InService s h 0x51 true j ∧ (a 2 + a 3 * 2 ^ 32) % 2 ^ 20 ≤ 999999 ∧ s.mt.minute.isSome = true ∧ s.mt.lastSwap + tickFrom s ≤ s.now ∧ s.mt.boundary = none ∧ boundaryReady s = true ∧ s.mt.timer = false) := by
  refine ⟨?_, ?_, ?_, ?_, ?_, ?_, ?_⟩
  · decide +kernel
  · decide +kernel
  · decide +kernel
  · decide +kernel
  · decide +kernel
  · unfold InService; decide +kernel
  · unfold InService; decide +kernel

theorem witness_monitorFilters :
    (let s : State := M 0 2; let m : Fin 19 := 0; let ms : Fin 4194304 := 1; ms.val = 2 ^ m.val ∧ runs s = true ∧ monitorRuns s m = true ∧ willFire s m = false) ∧
    (let s : State := M 0 1; let m : Fin 19 := 0; let ms : Fin 4194304 := 1; ms.val = 2 ^ m.val ∧ runs s = true ∧ monitorRuns s m = true ∧ willFire s m = true ∧ lateMon s m = false ∧ exercising s = false) ∧
    (let s : State := { M 0 1 with regs := (M 0 1).regs ++ [(0x30020000, 1)] }; let m : Fin 19 := 0; let ms : Fin 4194304 := 1; ms.val = 2 ^ m.val ∧ runs s = true ∧ monitorRuns s m = true ∧ willFire s m = true ∧ lateMon s m = false ∧ exercising s = true) ∧
    (let s : State := { M 17 1 with culm := {} }; let m : Fin 19 := 17; let ms : Fin 4194304 := 0x20000; ms.val = 2 ^ m.val ∧ runs s = true ∧ monitorRuns s m = true ∧ willFire s m = true ∧ lateMon s m = true) ∧
    (let s : State := M 7 2; let m : Fin 19 := 7; let bad : Fin 256 := 128; bad.val = 2 ^ m.val ∧ monitorRuns s m = true ∧ willFire s m = false) ∧
    (let s : State := M 20 2; let a : BitVec 32 := 0x42080000; runs s = true ∧ shadowed a.toNat = true ∧ monitorRuns s 20 = true ∧ willFire s 20 = false) := by
  refine ⟨?_, ?_, ?_, ?_, ?_, ?_⟩
  · decide +kernel
  · decide +kernel
  · decide +kernel
  · decide +kernel
  · decide +kernel
  · decide +kernel

theorem witness_alarmRaises :
    (let s : State := S; let level : Fin 8 := 5; runs s = true ∧ level.val ≤ 5) ∧
    (let s : State := { S with level := 5 }; let level : Fin 8 := 5; runs s = true ∧ level.val ≤ 5 ∧ level.val ≤ s.level) ∧
    (let s : State := S; let level : Fin 8 := 6; runs s = true ∧ 6 ≤ level.val) ∧
    (let s : State := S; runs s = true ∧ s.pw.vbatOk = true ∧ s.pw.vbatLow = false) := by
  refine ⟨?_, ?_, ?_, ?_⟩
  · decide +kernel
  · decide +kernel
  · decide +kernel
  · decide +kernel

theorem witness_tamperLog :
    (let s : State := { S with tm := { S.tm with logPend := [⟨0, 0, 2, 0xFF, 2, 1, 0, []⟩] } }; let r : LogRec := ⟨0, 0, 2, 0xFF, 2, 1, 0, []⟩; let l : List LogRec := []; s.pw.mode ≠ .off ∧ s.tm.logPend = r :: l) ∧
    (let s : State := { S with tm := { S.tm with dirty := true }, ev := { S.ev with logTok := 1 } }; runs s = true ∧ s.tm.dirty = true ∧ 0 < s.ev.logTok ∧ flashFree s = true) ∧
    (let s : State := { S with ev := { S.ev with logTok := 7 } }; s.ev.logTok < 8) ∧
    (let s : State := S; 8 ≤ s.ev.logTok) := by
  refine ⟨?_, ?_, ?_, ?_⟩
  · decide +kernel
  · decide +kernel
  · decide +kernel
  · decide +kernel

theorem witness_recorder :
    (let s : State := RC { intake := [⟨20, 1, 1, []⟩] }; let r : Raising := ⟨20, 1, 1, []⟩; let k := evClass r.src; let h := areaHead s k; runs s = true ∧ nextRaising s = some r ∧ k < 4 ∧ h < areaLen k ∧ s.ev.held = [] ∧ bufferFault { s with ev := { s.ev with intake := s.ev.intake.erase r } } 26 .store (recSlotA k h) 32 = none ∧ tget (fun _ => false) s.ev.gapped k = false ∧ openRecord s k r.src r.code = none) ∧
    (let s : State := RC { intake := [⟨20, 1, 1, []⟩], heads := [(1, 1)], latest := [(20, some ⟨0, 9, 1, 0xFFFE⟩)] } [(recSlotA 1 0, 9)]; let r : Raising := ⟨20, 1, 1, []⟩; let l : EvLast := ⟨0, 9, 1, 0xFFFE⟩; let k := evClass r.src; let h := areaHead s k; runs s = true ∧ nextRaising s = some r ∧ k < 4 ∧ h < areaLen k ∧ s.ev.held = [] ∧ bufferFault { s with ev := { s.ev with intake := s.ev.intake.erase r } } 26 .store (recSlotA k h) 32 = none ∧ tget (fun _ => false) s.ev.gapped k = false ∧ openRecord s k r.src r.code = some l ∧ l.rep + r.count ≤ 0xFFFF) ∧
    (let s : State := { S with ev := { S.ev with quarters := [(0, 3)], recTok := 1 } }; let q : Nat × Nat := (0, 3); runs s = true ∧ flashFree s = true ∧ s.ev.quarters = [q] ∧ q.1 < 4 ∧ 0 < s.ev.recTok ∧ (q.1 = 0 ∨ rbit s 0x30038000 0 = true)) ∧
    (let s : State := { S with ev := { S.ev with recTok := 15 } }; s.ev.recTok < 16) ∧
    (let s : State := S; let f : Fin 512 := 0; let v : Fin 64 := 63; let x := vecOf s f v; x.pend = false) := by
  refine ⟨?_, ?_, ?_, ?_, ?_⟩
  · decide +kernel
  · decide +kernel
  · decide +kernel
  · decide +kernel
  · decide +kernel

theorem witness_alarmServices :
    (let s : State := V 0 0x78 []; let h : Fin 8 := 0; let j : Job := J 0 (.running 0); let x := hartOf s h; let a := svcArg x; InService s h 0x78 true j ∧ inScratch (a 2) 64 = true) ∧
    (let s : State := { V 0 0x79 [] (List.replicate 12 0 ++ [1, 0, 0, 0, 255, 255, 255, 255, 1]) with level := 2 }; let h : Fin 8 := 0; let j : Job := J 0 (.running 0); let x := hartOf s h; let a := svcArg x; let rec' := scratchRead s j (a 2) 32; InService s h 0x79 true j ∧ inScratch (a 2) 32 = true ∧ inScratch (a 2) (32 + clearLen rec') = true ∧ clearCurrent s rec' = true ∧ (s.level < 3 ∨ (s.culm.session = true ∧ grBusy s = false))) ∧
    (let s : State := V 0 0x7A [(2, 63), (3, 1)]; let h : Fin 8 := 0; let j : Job := J 0 (.running 0); let x := hartOf s h; let a := svcArg x; InService s h 0x7A true j ∧ a 2 < 64 ∧ a 3 < 2 ∧ (s.level < 4 ∨ portOn s (a 2) = false)) ∧
    (let s : State := { V 0 0x7A [(3, 1)] with regs := (P .up).regs, level := 4 }; let h : Fin 8 := 0; let j : Job := J 0 (.running 0); let x := hartOf s h; let a := svcArg x; InService s h 0x7A true j ∧ a 2 < 64 ∧ a 3 < 2 ∧ 4 ≤ s.level ∧ portOn s (a 2) = true ∧ s.culm.session = true) ∧
    (let s : State := V 0 0x7B [(2, 7), (3, 8), (4, 1000), (5, 22)]; let h : Fin 8 := 0; let j : Job := J 0 (.running 0); let x := hartOf s h; let a := svcArg x; InService s h 0x7B true j ∧ mcfgGood (a 2) (a 5 % 4) (a 3) (a 4) (a 5 / 4 % 8) = true) ∧
    (let s : State := { V 0 0x7C [] with rng := { S.rng with st := .disabled } }; let h : Fin 8 := 0; let j : Job := J 0 (.running 0); InService s h 0x7C true j ∧ s.rng.st = .disabled) ∧
    (let s : State := V 0 0x58 []; let h : Fin 8 := 0; let j : Job := J 0 (.running 0); let x := hartOf s h; let a := svcArg x; let lim := a 5; let all := (recordsFrom s (a 2 + a 3 * 2 ^ 32)).filter (fun r => visible s j.domain r.2); InService s h 0x58 false j ∧ inScratch (a 4) (32 * lim) = true ∧ all.length ≤ lim) ∧
    (let s : State := V 0 0x59 [(2, 1856), (3, 63)]; let h : Fin 8 := 0; let j : Job := J 0 (.running 0); let x := hartOf s h; let a := svcArg x; InService s h 0x59 false j ∧ ((1856 ≤ a 2 ∧ a 2 < 2368) ∨ (256 ≤ a 2 ∧ a 2 < 1280)) ∧ maySteerSrc s j.domain (a 2) = true ∧ 2 ≤ a 3 ∧ a 3 < 64 ∧ a 3 ≤ 1 + (fnOf s j.fn).evVecs) ∧
    (let s : State := V 0 0x59 [(2, 1279), (3, 0xFF)]; let h : Fin 8 := 0; let j : Job := J 0 (.running 0); let x := hartOf s h; let a := svcArg x; InService s h 0x59 false j ∧ ((1856 ≤ a 2 ∧ a 2 < 2368) ∨ (256 ≤ a 2 ∧ a 2 < 1280)) ∧ maySteerSrc s j.domain (a 2) = true ∧ a 3 = 0xFF) := by
  refine ⟨?_, ?_, ?_, ?_, ?_, ?_, ?_, ?_, ?_⟩
  · unfold InService; decide +kernel
  · unfold InService; decide +kernel
  · unfold InService; decide +kernel
  · unfold InService; decide +kernel
  · unfold InService; decide +kernel
  · unfold InService; decide +kernel
  · unfold InService; decide +kernel
  · unfold InService; decide +kernel
  · unfold InService; decide +kernel

theorem witness_tagExchange :
    (let s : State := { S with tag := { field := true, strong := true } }; let strong : Bool := true; let g := s.tag; g.field = true ∧ mainOn s = true) ∧
    (let s : State := { S with tag := { field := true }, pw := { S.pw with mode := .backup } }; let g := s.tag; g.field = true ∧ mainOn s = false) ∧
    (let s : State := { S with tag := { field := true, strong := true } }; let strong : Bool := true; let g := s.tag; g.field = true ∧ g.iso = .idle) ∧
    (let s : State := { S with tag := { field := true, iso := .halt } }; let g := s.tag; g.iso = .halt) ∧
    (let s : State := { S with tag := { field := true, iso := .halt } }; let g := s.tag; g.field = true ∧ (g.iso = .idle ∨ g.iso = .halt)) ∧
    (let s : State := { S with tag := { field := true, iso := .ready, uid := some 0x123456 } }; let n : Fin 33 := 32; let v : BitVec 32 := 0x12345608; let g := s.tag; g.field = true ∧ g.iso = .ready ∧ leNat (tagUid s) % 2 ^ n.val = v.toNat % 2 ^ n.val) ∧
    (let s : State := { S with tag := { field := true, iso := .ready, uid := some 0x123456 } }; let v : BitVec 32 := 0x12345608; let g := s.tag; g.field = true ∧ g.iso = .ready ∧ leNat (tagUid s) = v.toNat) ∧
    (let s : State := { S with tag := { field := true, iso := .active } }; let g := s.tag; g.field = true ∧ g.iso = .active ∧ g.l4 = false) ∧
    (let s : State := { S with tag := { field := true, iso := .active } }; let g := s.tag; g.field = true ∧ g.iso = .active ∧ g.l4 = false) ∧
    (let s : State := { S with tag := { field := true, iso := .active, l4 := true } }; let g := s.tag; g.field = true ∧ g.l4 = true) ∧
    (let s : State := { S with tag := { field := true, iso := .active, l4 := true } }; let g := s.tag; g.field = true ∧ g.l4 = true) ∧
    (let s : State := { S with tag := { field := true, iso := .active } }; let g := s.tag; g.field = true ∧ (g.iso = .ready ∨ g.iso = .active)) ∧
    (let s : State := { S with tag := { field := true, iso := .halt } }; let g := s.tag; g.field = true ∧ g.iso ≠ .ready ∧ g.iso ≠ .active) ∧
    (let s : State := { S with tag := tgW [{ wRd with step := .writeP }] }; let g := s.tag; g.l4 = true ∧ g.writes.any (fun w => w.who == .reader) = true) := by
  refine ⟨?_, ?_, ?_, ?_, ?_, ?_, ?_, ?_, ?_, ?_, ?_, ?_, ?_, ?_⟩
  · decide +kernel
  · decide +kernel
  · decide +kernel
  · decide +kernel
  · decide +kernel
  · decide +kernel
  · decide +kernel
  · decide +kernel
  · decide +kernel
  · decide +kernel
  · decide +kernel
  · decide +kernel
  · decide +kernel
  · decide +kernel

theorem witness_tagCommands :
    (let s : State := { S with tag := tgS true }; let v : Fin 65536 := 0x0100; let g := s.tag; g.l4 = true ∧ v.val / 256 = 1) ∧
    (let s : State := { S with tag := tgS true }; let v : Fin 65536 := 0x0200; let g := s.tag; g.l4 = true ∧ v.val / 256 ≠ 1) ∧
    (let s : State := { S with tag := tgS false }; let g := s.tag; g.l4 = true ∧ g.hello = false) ∧
    (let s : State := { S with tag := tgS true }; let g := s.tag; g.l4 = true ∧ g.hello = true) ∧
    (let s : State := { S with tag := tgS true }; let g := s.tag; g.l4 = true ∧ g.hello = true ∧ tagLive s = false ∧ (tagValue (tagRec s 3)).isNone = true) ∧
    (let s : State := { S with tag := { tgS true with nvm := [(3, { b := ⟨true, 5, []⟩, p := ⟨true, 5, []⟩ })] } }; let g := s.tag; g.l4 = true ∧ g.hello = true ∧ tagLive s = false ∧ (tagValue (tagRec s 3)).isNone = false) ∧
    (let s : State := { S with tag := tgS true }; let c : Fin 256 := 4; let amount : Fin 256 := 1; let g := s.tag; g.l4 = true ∧ g.hello = true ∧ 4 ≤ c.val ∧ c.val < 16 ∧ amount.val ≠ 0 ∧ tagCounter s c + amount.val < 2 ^ 32 ∧ (tagPayload s 2).head? ≠ some 5 ∧ (mainOn s = true ∨ g.strong = true)) ∧
    (let s : State := { S with tag := { tgS true with nvm := [(4, { b := ⟨true, 5, []⟩, p := ⟨true, 5, List.replicate 64 0xFF⟩ })] } }; let c : Fin 256 := 4; let amount : Fin 256 := 1; let g := s.tag; g.l4 = true ∧ g.hello = true ∧ 4 ≤ c.val ∧ c.val < 16 ∧ amount.val ≠ 0 ∧ 2 ^ 32 ≤ tagCounter s c + amount.val) ∧
    (let s : State := { S with tag := tgS true }; let len : Fin 256 := 56; let off : Fin 65536 := 1023; let g := s.tag; g.l4 = true ∧ g.hello = true ∧ off.val < 1024 ∧ len.val ≠ 0 ∧ len.val ≤ 56) ∧
    (let s : State := { S with tag := tgS true }; let off : Fin 65536 := 968; let data : List Byte := List.replicate 56 1; let g := s.tag; g.l4 = true ∧ g.hello = true ∧ data.length ≠ 0 ∧ data.length ≤ 56 ∧ off.val + data.length ≤ 1024) ∧
    (let s : State := { S with tag := tgS true }; let n : Fin 65536 := 4; let crc : BitVec 32 := BitVec.ofNat 32 (crc32c [0, 0, 0, 0]); let g := s.tag; g.l4 = true ∧ g.hello = true ∧ n.val ≤ 1024 ∧ crc32c ((tagStage s).take n) = crc.toNat ∧ (tagPayload s 2).head? ≠ some 5 ∧ (mainOn s = true ∨ g.strong = true)) ∧
    (let s : State := { S with tag := tgS true }; let n : Fin 65536 := 4; let crc : BitVec 32 := 0; let g := s.tag; g.l4 = true ∧ g.hello = true ∧ n.val ≤ 1024 ∧ crc32c ((tagStage s).take n) ≠ crc.toNat) := by
  refine ⟨?_, ?_, ?_, ?_, ?_, ?_, ?_, ?_, ?_, ?_, ?_, ?_⟩
  · decide +kernel
  · decide +kernel
  · decide +kernel
  · decide +kernel
  · decide +kernel
  · decide +kernel
  · decide +kernel
  · decide +kernel
  · decide +kernel
  · decide +kernel
  · decide +kernel
  · decide +kernel

theorem witness_tagWrites :
    (let s : State := { S with tag := { tgW [] with nvm := [(4, { b := ⟨true, 5, []⟩, p := ⟨true, 5, []⟩ })] } }; let w : TagWrite := wRd; let g := s.tag; let rec' := tagRec s w.kind; g.writes = [] ∧ rec'.b.valid = true ∧ rec'.p.valid = true ∧ rec'.b.seq = rec'.p.seq) ∧
    (let s : State := { S with tag := tgW [wRd] }; let w : TagWrite := wRd; let r : List TagWrite := []; let g := s.tag; g.writes = w :: r) ∧
    (let s : State := { S with tag := tgW [wRd] }; let w : TagWrite := wRd; let r : List TagWrite := []; let g := s.tag; g.writes = w :: r ∧ w.page + 1 < tagPages w.kind) ∧
    (let s : State := { S with tag := tgW [wRd] }; let w : TagWrite := wRd; let r : List TagWrite := []; let g := s.tag; g.writes = w :: r ∧ w.failed = false) ∧
    (let s : State := { S with tag := tgW [{ wRd with who := .device, failed := true }] }; let w : TagWrite := { wRd with who := .device, failed := true }; let g := s.tag; g.writes = [w] ∧ w.failed = true ∧ w.who = .device) ∧
    (let s : State := { S with tag := tgW [{ wRd with page := 1 }] }; let w : TagWrite := { wRd with page := 1 }; let r : List TagWrite := []; let g := s.tag; g.writes = w :: r ∧ tagPages w.kind ≤ w.page + 1 ∧ w.step = .writeB) ∧
    (let s : State := { S with tag := tgW [{ wRd with page := 1, step := .writeP, who := .device }] }; let w : TagWrite := { wRd with page := 1, step := .writeP, who := .device }; let g := s.tag; g.writes = [w] ∧ tagPages w.kind ≤ w.page + 1 ∧ w.step = .writeP ∧ w.who = .device) ∧
    (let s : State := { S with tag := tgW [{ wRd with page := 1, step := .writeP }] }; let w : TagWrite := { wRd with page := 1, step := .writeP }; let g := s.tag; g.writes = [w] ∧ tagPages w.kind ≤ w.page + 1 ∧ w.step = .writeP ∧ w.who = .reader ∧ g.l4 = true) ∧
    (let s : State := { S with tag := tgW [] }; let kind : Fin 8 := 5; let g := s.tag; runs s = true ∧ g.writes = [] ∧ (kind.val = 3 ∨ kind.val = 5 ∨ ((kind.val = 1 ∨ kind.val = 2) ∧ s.pw.step < 10))) ∧
    (let s : State := { S with tag := tgW [] }; let g := s.tag; runs s = true ∧ g.writes = []) ∧
    (let s : State := { S with tag := tgW [] }; let kind : Fin 8 := 5; let g := s.tag; runs s = true ∧ g.writes = [] ∧ 1 ≤ kind.val ∧ kind.val ≤ 5) := by
  refine ⟨?_, ?_, ?_, ?_, ?_, ?_, ?_, ?_, ?_, ?_, ?_⟩
  · decide +kernel
  · decide +kernel
  · decide +kernel
  · decide +kernel
  · decide +kernel
  · decide +kernel
  · decide +kernel
  · decide +kernel
  · decide +kernel
  · decide +kernel
  · decide +kernel

theorem witness_powerAndResets :
    (let s : State := { S with pw := { S.pw with mainGood := false, mode := .backup, holdLow := true } }; s.pw.mainGood = false ∧ s.pw.holdLow = true) ∧
    (let s : State := { S with pw := { S.pw with mainGood := false, mode := .backup } }; s.pw.mainGood = false ∧ s.pw.holdLow = false) ∧
    (let s : State := S; s.pw.mainGood = true) ∧
    (let s : State := S; mainOn s = true) ∧
    (let s : State := S; runs s = true) ∧
    (let s : State := { S with pw := { S.pw with mode := .dormant } }; s.pw.mode = .dormant) ∧
    (let s : State := S; s.pw.mode ≠ .dormant) ∧
    (let s : State := { S with pw := { S.pw with mode := .dormant } }; let data : Fin 256 := 0x5A; data.val = 0x5A ∧ s.pw.mode = .dormant) ∧
    (let s : State := { S with pw := { S.pw with mainGood := false, mode := .off } }; s.pw.mainGood = false) ∧
    (let s : State := { S with pw := { S.pw with mainGood := false, mode := .backup } }; s.pw.mainGood = false) := by
  refine ⟨?_, ?_, ?_, ?_, ?_, ?_, ?_, ?_, ?_, ?_⟩
  · decide +kernel
  · decide +kernel
  · decide +kernel
  · decide +kernel
  · decide +kernel
  · decide +kernel
  · decide +kernel
  · decide +kernel
  · decide +kernel
  · decide +kernel

theorem witness_dormantRequests :
    (let s : State := { S with pw := { S.pw with mode := .starting, step := 11 } }; s.pw.mode = .starting ∧ s.pw.step < 12) ∧
    (let s : State := S; runs s = true ∧ s.pw.mode ≠ .starting ∧ s.pw.dormantStep = 0) ∧
    (let s : State := { S with pw := { S.pw with dormantStep := 4 } }; (s.pw.dormantStep = 1 ∨ s.pw.dormantStep = 4)) ∧
    (let s : State := { S with pw := { S.pw with dormantStep := 5 } }; runs s = true ∧ s.pw.dormantStep = 5) := by
  refine ⟨?_, ?_, ?_, ?_⟩
  · decide +kernel
  · decide +kernel
  · decide +kernel
  · decide +kernel

theorem witness_clocksAndSmbus :
    (let s : State := { S with pw := { S.pw with mode := .starting, step := 1 } }; let a : Fin 8 := 3; let b : Fin 8 := 0; s.pw.plls.length = 3 ∧ s.pw.mode = .starting ∧ s.pw.step ≤ 1 ∧ (∀ e, e < 2 → bitAt a e = true ∨ bitAt b e = true)) ∧
    (let s : State := S; let d : Fin 3 := 1; let x := pllOf s d; s.pw.plls.length = 3 ∧ runs s = true ∧ 2 ≤ s.pw.step ∧ partnerGood s x = true) ∧
    (let s : State := { S with pw := { S.pw with plls := pllsOf false } }; let d : Fin 3 := 1; let x := pllOf s d; s.pw.plls.length = 3 ∧ runs s = true ∧ 2 ≤ s.pw.step ∧ partnerGood s x = false ∧ d.val ≠ 2) ∧
    (let s : State := { S with pw := { S.pw with plls := pllsOf false } }; let d : Fin 3 := 1; let x := pllOf s d; let idleLock := if x.activeB then x.lockA else x.lockB; s.pw.plls.length = 3 ∧ runs s = true ∧ idleLock = false) ∧
    (let s : State := { S with pw := { S.pw with plls := pllsOf false } }; let d : Fin 3 := 1; let x := pllOf s d; let idleLock := if x.activeB then x.lockA else x.lockB; s.pw.plls.length = 3 ∧ runs s = true ∧ idleLock = false) ∧
    (let s : State := { S with hstate := [(0, .waiting)] }; s.pw.plls.length = 3 ∧ runs s = true ∧ s.pw.stopped = false ∧ rbit s 0x3000000C 0 = true ∧ allQuiet s = true) ∧
    (let s : State := S; s.pw.plls.length = 3 ∧ mainOn s = true) ∧
    (let s : State := S; s.pw.plls.length = 3 ∧ mainOn s = true ∧ s.pw.commitFail = false) ∧
    (let s : State := S; s.pw.plls.length = 3 ∧ runs s = true) := by
  refine ⟨?_, ?_, ?_, ?_, ?_, ?_, ?_, ?_, ?_⟩
  · decide +kernel
  · decide +kernel
  · decide +kernel
  · decide +kernel
  · decide +kernel
  · decide +kernel
  · decide +kernel
  · decide +kernel
  · decide +kernel

theorem witness_startSequence :
    (let s : State := { S with pw := { S.pw with mode := .starting, step := 2, wiped := false } }; s.pw.mode = .starting ∧ s.pw.step = 2 ∧ s.pw.wiped = false) ∧
    (let s : State := { S with pw := { S.pw with mode := .starting, step := 5, decoded := false }, rng := { S.rng with st := .running, dd := 1 } }; let st : Nat := 3; decodeReady s = true ∧ lcScan s (List.range 8) 0 = .state st none ∧ st ≠ 5) ∧
    (let s : State := { S with pw := { S.pw with mode := .starting, step := 6, rootOk := false } }; let g : Fin 2 := 0; pufReady s = true ∧ genMay s g = true) ∧
    (let s : State := { S with pw := { S.pw with mode := .starting, step := 6, rootOk := false } }; pufReady s = true ∧ s.lc.state ≠ 1 ∧ s.lc.state ≠ 4) ∧
    (let s : State := { S with pw := { S.pw with mode := .starting, step := 7 }, rng := { S.rng with st := .running, dd := 1 } }; let st : Nat := 3; let said : Option (Fin 2) := some 0; let b : Nat := 0; acceptReady s = true ∧ slotChosen s (said.map (fun x => x.val)) = some b) ∧
    (let s : State := { S with pw := { S.pw with mode := .starting, step := 12 } }; s.pw.mode = .starting ∧ s.pw.step = 12 ∧ s.pw.dormantStep = 0 ∧ (s.culm.session = true ∨ s.pw.pufFail = true)) ∧
    (let s : State := { S with pw := { S.pw with mode := .starting, step := 14, tested := true } }; serviceReady s = true ∧ s.tm.latch = false ∧ s.pw.pufFail = false) ∧
    (let s : State := { S with pw := { S.pw with mode := .starting, step := 14, pufFail := true } }; serviceReady s = true ∧ (s.tm.latch = true ∨ s.pw.pufFail = true)) := by
  refine ⟨?_, ?_, ?_, ?_, ?_, ?_, ?_, ?_⟩
  · decide +kernel
  · decide +kernel
  · decide +kernel
  · decide +kernel
  · decide +kernel
  · decide +kernel
  · decide +kernel
  · decide +kernel

theorem witness_pufRefresh :
    (let s : State := S; runs s = true ∧ s.pw.pufBusy = 0 ∧ s.pw.rootOk = true) ∧
    (let s : State := { S with pw := { S.pw with pufBusy := 1 } }; s.pw.pufBusy = 1) ∧
    (let s : State := { S with pw := { S.pw with refreshed := true } }; runs s = true ∧ s.pw.pufBusy = 0 ∧ s.pw.refreshed = true) ∧
    (let s : State := { S with pw := { S.pw with pufBusy := 2 } }; let worst : Fin 32 := 31; let same : Bool := true; s.pw.pufBusy = 2 ∧ (same = false ∨ rf s 0x30000018 8 4 ≤ worst.val)) ∧
    (let s : State := { S with pw := { S.pw with pufBusy := 2 } }; let worst : Fin 32 := 0; s.pw.pufBusy = 2 ∧ worst.val < rf s 0x30000018 8 4) := by
  refine ⟨?_, ?_, ?_, ?_, ?_⟩
  · decide +kernel
  · decide +kernel
  · decide +kernel
  · decide +kernel
  · decide +kernel

theorem witness_lifeCycleBurns :
    (let s : State := S; let t5 : Fin 8 := 5; runs s = true ∧ mayIntend s t5 = true) ∧
    (let s : State := S; let t5 : Fin 8 := 1; runs s = true ∧ mayIntend s t5 = false) ∧
    (let s : State := { S with pw := { S.pw with mode := .starting, step := 4 }, lc := { S.lc with wiped := true, recs := S.lc.recs ++ [(3, ⟨0xFF0000FF, 0, 0⟩)] } }; let st : Nat := 3; let t : Nat := 4; let r : Nat := 3; runs s = true ∧ lcScan s (List.range 8) 0 = .state st (some (t, r)) ∧ bootRom s = true ∧ s.lc.wiped = true ∧ s.lc.burn = none) ∧
    (let s : State := { S with pw := { S.pw with mode := .starting, step := 9 }, lc := { S.lc with voiding := some 3 } }; let r : Nat := 3; runs s = true ∧ s.lc.voiding = some r ∧ bootRom s = true ∧ s.lc.burn = none) ∧
    (let s : State := { S with lc := { S.lc with state := 1, dbgOpen := true, scope := 0x10 } }; runs s = true ∧ s.lc.state = 1 ∧ s.lc.dbgOpen = true ∧ bitAt s.lc.scope 4 = true ∧ s.pw.rootOk = true ∧ s.lc.burn = none) ∧
    (let s : State := { S with lc := { S.lc with burn := some (1, 3, 0x0F0FF0F0) } }; let t : Nat := 5; let r : Nat := 3; let v : W32 := 0x0F0FF0F0; runs s = true ∧ s.lc.burn = some (1, r, v) ∧ (otpRec s r).intent = 0 ∧ v = lcCode t ∧ 1 ≤ t ∧ t ≤ 5) ∧
    (let s : State := { S with lc := { S.lc with burn := some (2, 3, 0xFF0000FF), recs := S.lc.recs ++ [(3, ⟨0xFF0000FF, 0, 0⟩)] } }; let t : Nat := 4; let r : Nat := 3; let v : W32 := 0xFF0000FF; runs s = true ∧ s.lc.burn = some (2, r, v) ∧ (otpRec s r).intent = v ∧ (otpRec s r).commit = 0 ∧ v = lcCode t ∧ 1 ≤ t ∧ t ≤ 4) ∧
    (let s : State := { S with lc := { S.lc with burn := some (3, 3, 0xFFFFFFFF), voiding := some 3 } }; let r : Nat := 3; runs s = true ∧ s.lc.burn = some (3, r, 0xFFFFFFFF)) ∧
    (let s : State := { S with lc := { S.lc with burn := some (4, 0, 0xFFFFFFFF), state := 1 } }; runs s = true ∧ s.lc.burn = some (4, 0, 0xFFFFFFFF)) := by
  refine ⟨?_, ?_, ?_, ?_, ?_, ?_, ?_, ?_, ?_⟩
  · decide +kernel
  · decide +kernel
  · decide +kernel
  · decide +kernel
  · decide +kernel
  · decide +kernel
  · decide +kernel
  · decide +kernel
  · decide +kernel

theorem witness_lifeCycleServices :
    (let s : State := LC 1 0 { S.lc with state := 3 }; let h : Fin 8 := 0; let j : Job := J 0 (.running 0); let x := hartOf s h; let a := svcArg x; let l := scratchRead s j (a 2) (a 3); let asks := fun (op : Nat) => InService s h 0x80 true j ∧ s.lc.waitHart = none ∧ inScratch (a 2) (a 3) = true ∧ lcOp l = op; asks 1 ∧ inScratch (a 4) (lcStatus s).length = true) ∧
    (let s : State := LC 2 0 { S.lc with state := 3 }; let h : Fin 8 := 0; let j : Job := J 0 (.running 0); let x := hartOf s h; let a := svcArg x; let l := scratchRead s j (a 2) (a 3); let asks := fun (op : Nat) => InService s h 0x80 true j ∧ s.lc.waitHart = none ∧ inScratch (a 2) (a 3) = true ∧ lcOp l = op; asks 2 ∧ inScratch (a 4) 16 = true ∧ canDraw s = true) ∧
    (let s : State := LC 3 5 { S.lc with nonce := some 0 }; let h : Fin 8 := 0; let j : Job := J 0 (.running 0); let x := hartOf s h; let a := svcArg x; let l := scratchRead s j (a 2) (a 3); let asks := fun (op : Nat) => InService s h 0x80 true j ∧ s.lc.waitHart = none ∧ inScratch (a 2) (a 3) = true ∧ lcOp l = op; asks 3 ∧ s.lc.nonce.map (fun v => v.toNat) = some (lcNonce l) ∧ mayIntend s (lcTarget l) = true ∧ (lcTarget l = 2 → s.lc.paired = true) ∧ lcTarget l ≠ 3) ∧
    (let s : State := LC 3 3 { S.lc with state := 2, nonce := some 0 }; let h : Fin 8 := 0; let j : Job := J 0 (.running 0); let x := hartOf s h; let a := svcArg x; let l := scratchRead s j (a 2) (a 3); let asks := fun (op : Nat) => InService s h 0x80 true j ∧ s.lc.waitHart = none ∧ inScratch (a 2) (a 3) = true ∧ lcOp l = op; asks 3 ∧ s.lc.nonce.map (fun v => v.toNat) = some (lcNonce l) ∧ mayIntend s 3 = true ∧ lcTarget l = 3 ∧ flashFree s = true) ∧
    (let s : State := LC 3 5 { S.lc with nonce := some 1 }; let h : Fin 8 := 0; let j : Job := J 0 (.running 0); let x := hartOf s h; let a := svcArg x; let l := scratchRead s j (a 2) (a 3); let asks := fun (op : Nat) => InService s h 0x80 true j ∧ s.lc.waitHart = none ∧ inScratch (a 2) (a 3) = true ∧ lcOp l = op; asks 3 ∧ s.lc.nonce.map (fun v => v.toNat) ≠ some (lcNonce l)) ∧
    (let s : State := LC 4 0 { S.lc with state := 1 }; let h : Fin 8 := 0; let j : Job := J 0 (.running 0); let x := hartOf s h; let a := svcArg x; let l := scratchRead s j (a 2) (a 3); let asks := fun (op : Nat) => InService s h 0x80 true j ∧ s.lc.waitHart = none ∧ inScratch (a 2) (a 3) = true ∧ lcOp l = op; asks 4 ∧ s.lc.state = 1) ∧
    (let s : State := LC 5 0 { S.lc with metKey := true }; let h : Fin 8 := 0; let j : Job := J 0 (.running 0); let x := hartOf s h; let a := svcArg x; let l := scratchRead s j (a 2) (a 3); let asks := fun (op : Nat) => InService s h 0x80 true j ∧ s.lc.waitHart = none ∧ inScratch (a 2) (a 3) = true ∧ lcOp l = op; asks 5 ∧ s.lc.state = 3 ∧ s.lc.metKey = true) := by
  refine ⟨?_, ?_, ?_, ?_, ?_, ?_, ?_⟩
  · unfold InService; decide +kernel
  · unfold InService; decide +kernel
  · unfold InService; decide +kernel
  · unfold InService; decide +kernel
  · unfold InService; decide +kernel
  · unfold InService; decide +kernel
  · unfold InService; decide +kernel

theorem witness_debugPort :
    (let s : State := { S with lc := { S.lc with state := 0 } }; let mayExtest := s.lc.state = 0 ∨ ((s.lc.state = 1 ∨ s.lc.state = 4) ∧ bitAt (dbgScope s) 3 = true); runs s = true ∧ mayExtest) ∧
    (let s : State := S; let mayExtest := s.lc.state = 0 ∨ ((s.lc.state = 1 ∨ s.lc.state = 4) ∧ bitAt (dbgScope s) 3 = true); runs s = true ∧ (¬mayExtest)) ∧
    (let s : State := S; runs s = true ∧ s.lc.state ≠ 5) ∧
    (let s : State := S; runs s = true) ∧
    (let s : State := { S with rng := { S.rng with st := .running } }; runs s = true ∧ dbgMay s = true ∧ canDraw s = true) ∧
    (let s : State := { S with rng := { S.rng with st := .running, dd := 1 } }; runs s = true ∧ dbgMay s = true ∧ s.lc.burn = none ∧ ddReady s = true ∧ s.lc.dbgRefused < 4 ∧ s.lc.state ≠ 1) ∧
    (let s : State := { S with rng := { S.rng with st := .running, dd := 1 }, lc := { S.lc with state := 1 } }; runs s = true ∧ dbgMay s = true ∧ s.lc.burn = none ∧ ddReady s = true ∧ s.lc.dbgRefused < 4 ∧ s.lc.state = 1) ∧
    (let s : State := { S with rng := { S.rng with st := .running, dd := 1 }, lc := { S.lc with dbgRefused := 4 } }; runs s = true ∧ dbgMay s = true ∧ s.lc.burn = none ∧ ddReady s = true ∧ 4 ≤ s.lc.dbgRefused) ∧
    (let s : State := { S with lc := { S.lc with dbgOpen := true, scope := 5 } }; runs s = true ∧ s.lc.dbgOpen = true) ∧
    (let s : State := { H 3 with lc := { S.lc with dbgOpen := true, scope := 15, state := 4 } }; let h : Fin 8 := 0; runs s = true ∧ dbgHart s h = true ∧ (hstOf s h = .running ∨ hstOf s h = .waiting)) ∧
    (let s : State := { H 3 with lc := { S.lc with dbgOpen := true, scope := 15, state := 4 }, hstate := [(0, .haltedDebug)] }; let h : Fin 8 := 0; runs s = true ∧ bitAt (dbgScope s) 0 = true ∧ hstOf s h = .haltedDebug) ∧
    (let s : State := { H 3 with lc := { S.lc with dbgOpen := true, scope := 15, state := 4 }, hstate := [(0, .haltedDebug)] }; let h : Fin 8 := 0; runs s = true ∧ dbgHart s h = true ∧ hstOf s h = .haltedDebug ∧ bitAt (dbgScope s) 1 = true) := by
  refine ⟨?_, ?_, ?_, ?_, ?_, ?_, ?_, ?_, ?_, ?_, ?_, ?_⟩
  · decide +kernel
  · decide +kernel
  · decide +kernel
  · decide +kernel
  · decide +kernel
  · decide +kernel
  · decide +kernel
  · decide +kernel
  · decide +kernel
  · decide +kernel
  · decide +kernel
  · decide +kernel

theorem witness_custodyCard :
    (let s : State := { C {} with pw := { S.pw with mode := .lockdown } }; let x := s.cs; x.cd = false ∧ (runs s = false ∨ s.pw.mode ≠ .service)) ∧
    (let s : State := C {}; let x := s.cs; let free := x.cmd = none ∧ x.dat0 = false; x.cd = false ∧ s.pw.mode = .service ∧ free) ∧
    (let s : State := C { cd := true, card := 2 }; let x := s.cs; x.cd = true ∧ runs s = true ∧ x.boot = false) ∧
    (let s : State := C { cd := true, card := 2 }; let i : Fin 64 := 17; let x := s.cs; runs s = true ∧ x.cmd = none ∧ x.cd = true ∧ sdIndices.contains i.val = true) ∧
    (let s : State := C { cd := true, card := 2, cmd := some (.raw 17 1 false false) }; let i : Fin 64 := 17; let rsp : Fin 8 := 1; let code : Fin 11 := 0; let x := s.cs; runs s = true ∧ x.cmd = some (.raw i rsp false false) ∧ rsp.val ≠ 2 ∧ code.val ≠ 10 ∧ x.plan = [] ∧ x.phase = .idle) ∧
    (let s : State := C { cd := true, card := 1, phase := .init 0, cmd := some (.plain 0 0) }; let x := s.cs; runs s = true ∧ x.cmd = some (.plain 0 0) ∧ x.phase = .init 0 ∧ x.dat0 = false) ∧
    (let s : State := C { cd := true, card := 2, phase := .supers, cmd := some (.read 0 2), plan := [.read 2 1] }; let c : SdCmd := .read 2 1; let r : List SdCmd := []; let lba : Nat := 0; let k : Nat := 2; let x := s.cs; runs s = true ∧ x.cmd = some (.read lba k) ∧ (x.phase = .fetch ∨ x.phase = .supers ∨ x.phase = .dirs) ∧ x.dat0 = false ∧ x.plan = c :: r) ∧
    (let s : State := C { cd := true, card := 2, dat0 := true, plan := [.read 2 1] }; let c : SdCmd := .read 2 1; let r : List SdCmd := []; let x := s.cs; runs s = true ∧ x.dat0 = true ∧ x.cmd = none ∧ x.plan = c :: r) ∧
    (let s : State := C { cd := true, card := 2, dat0 := true }; let x := s.cs; runs s = true ∧ x.dat0 = true ∧ x.phase = .idle) ∧
    (let s : State := C { cd := true, card := 2, dat0 := true, phase := .commit }; let x := s.cs; runs s = true ∧ x.dat0 = true ∧ x.phase ≠ .idle ∧ x.boot = false) ∧
    (let s : State := C { cd := true, card := 1, phase := .init 15 }; let x := s.cs; let free := x.cmd = none ∧ x.dat0 = false; runs s = true ∧ x.phase = .init 15 ∧ free) := by
  refine ⟨?_, ?_, ?_, ?_, ?_, ?_, ?_, ?_, ?_, ?_, ?_⟩
  · decide +kernel
  · decide +kernel
  · decide +kernel
  · decide +kernel
  · decide +kernel
  · decide +kernel
  · decide +kernel
  · decide +kernel
  · decide +kernel
  · decide +kernel
  · decide +kernel

theorem witness_custodyServices :
    (let s : State := V 0 0x88 [(3, 0xFFFF)]; let h : Fin 8 := 0; let j : Job := J 0 (.running 0); let x := hartOf s h; let a := svcArg x; let st := csStatus s (a 3 % 65536); InService s h 0x88 true j ∧ a 3 ≤ 0xFFFF ∧ inScratch (a 2) st.length = true) ∧
    (let s : State := { V 0 0x89 [] with cs := { cd := true, card := 2, op := some { num := 1, op := 1 } } }; let h : Fin 8 := 0; let j : Job := J 0 (.running 0); InService s h 0x89 true j ∧ s.cs.op.isSome = true) ∧
    (let s : State := { V 0 0x89 [] with cs := { cd := true, card := 2 }, regs := S.regs ++ [(csA, 1)] }; let h : Fin 8 := 0; let j : Job := J 0 (.running 0); let x := hartOf s h; let a := svcArg x; let idle := s.cs.op = none ∧ s.cs.phase = .idle ∧ s.cs.cmd = none ∧ s.cs.dat0 = false; InService s h 0x89 true j ∧ idle ∧ bitAt (a 2) 0 = false ∧ s.cs.cd = true ∧ s.cs.card = 2 ∧ rbit s csA 0 = true ∧ s.pw.mode = .service) ∧
    (let s : State := { V 0 0x8A [] with cs := { cd := true, card := 2, vol := 1 } }; let h : Fin 8 := 0; let j : Job := J 0 (.running 0); let idle := s.cs.op = none ∧ s.cs.phase = .idle ∧ s.cs.cmd = none ∧ s.cs.dat0 = false; InService s h 0x8A true j ∧ idle) ∧
    (let s : State := CK 0x8B [(3, 115)] (List.replicate 14 0 ++ [2, 1, 5, 0]); let h : Fin 8 := 0; let j : Job := J 0 (.running 0); let x := hartOf s h; let a := svcArg x; let idle := s.cs.op = none ∧ s.cs.phase = .idle ∧ s.cs.cmd = none ∧ s.cs.dat0 = false; let l := scratchRead s j (a 2) (a 3); let f := fun (o n : Nat) => leNat (octetsAt l o n); let p := f 14 1; let hs := (List.range (f 15 1)).map (fun i => f (16 + 2 * i) 2); let pub := l.drop (16 + 2 * f 15 1); let room := ∀ k, k ≤ 200 → (firstFit s k).isSome = true; InService s h 0x8B true j ∧ idle ∧ inScratch (a 2) (a 3) = true ∧ f 12 2 ≤ 4095 ∧ p ≤ 2 ∧ 1 ≤ f 15 1 ∧ f 15 1 ≤ 64 ∧ pub.length = nth [1184, 1568, 97] p 0 ∧ hs.all (fun v => decide (v < 0x8000) && (keyOf s v).used && (keyOf s v).dom == f 12 2 && !(keyOf s v).nowrap) = true ∧ canDraw s = true ∧ s.lc.metKey = true ∧ s.cs.vol = 1 ∧ entryOf s (octetsAt l 0 12) = none ∧ room ∧ (freeEntry s).isSome = true) ∧
    (let s : State := CK 0x8C [(2, 64), (3, 0x8000), (5, 0xFFFFFFFF)] []; let h : Fin 8 := 0; let j : Job := J 0 (.running 0); let e : DirEnt := ent0; let x := hartOf s h; let a := svcArg x; let idle := s.cs.op = none ∧ s.cs.phase = .idle ∧ s.cs.cmd = none ∧ s.cs.dat0 = false; let name := scratchRead s j (a 2) 12; InService s h 0x8C true j ∧ idle ∧ inScratch (a 2) 12 = true ∧ a 4 ≤ 4095 ∧ 0x8000 ≤ a 3 ∧ a 3 < 0x10000 ∧ a 5 = 0xFFFFFFFF ∧ (keyOf s (a 3)).used = true ∧ (s.cs.vol = 1 ∨ s.cs.vol = 2) ∧ entryOf s name = some e ∧ 1 ≤ e.nblk) ∧
    (let s : State := CK 0x8D [(5, 2048)] []; let h : Fin 8 := 0; let j : Job := J 0 (.running 0); let x := hartOf s h; let a := svcArg x; let idle := s.cs.op = none ∧ s.cs.phase = .idle ∧ s.cs.cmd = none ∧ s.cs.dat0 = false; let name := scratchRead s j (a 2) 12; let room := ∀ k, k ≤ 200 → (firstFit s k).isSome = true; InService s h 0x8D true j ∧ idle ∧ inScratch (a 2) 12 = true ∧ a 3 + a 4 * 2 ^ 32 < 2 ^ 48 ∧ 1 ≤ a 5 ∧ a 5 ≤ 2048 ∧ s.lc.metKey = true ∧ s.cs.vol = 1 ∧ entryOf s name = none ∧ room ∧ (freeEntry s).isSome = true) ∧
    (let s : State := CK 0x8E [(2, 64)] []; let h : Fin 8 := 0; let j : Job := J 0 (.running 0); let e : DirEnt := ent0; let x := hartOf s h; let a := svcArg x; let idle := s.cs.op = none ∧ s.cs.phase = .idle ∧ s.cs.cmd = none ∧ s.cs.dat0 = false; let name := scratchRead s j (a 2) 12; InService s h 0x8E true j ∧ idle ∧ inScratch (a 2) 12 = true ∧ (s.cs.vol = 1 ∨ s.cs.vol = 2) ∧ entryOf s name = some e ∧ 1 ≤ e.nblk) := by
  refine ⟨?_, ?_, ?_, ?_, ?_, ?_, ?_, ?_⟩
  · unfold InService; decide +kernel
  · unfold InService; decide +kernel
  · unfold InService; decide +kernel
  · unfold InService; decide +kernel
  · unfold InService; decide +kernel
  · unfold InService; decide +kernel
  · unfold InService; decide +kernel
  · unfold InService; decide +kernel

theorem witness_scriptsAndUpdates :
    (let s : State := V 0 0x7D [(2, 0x100), (4, 128)]; let h : Fin 8 := 0; let j : Job := J 0 (.running 0); let x := hartOf s h; let a := svcArg x; let img := scratchRead s j (a 3) (a 4); let seq := leNat (octetsAt img 16 4); InService s h 0x7D true j ∧ flashFree s = true ∧ 0x100 ≤ a 2 ∧ a 2 < 0x200 ∧ inScratch (a 3) (a 4) = true ∧ resSeqOf s (a 2) ≤ seq) ∧
    (let s : State := { V 0 0x7D [(2, 0x1FF), (4, 128)] with ord := { (V 0 0x7D []).ord with resSeq := [(0x1FF, 1)] } }; let h : Fin 8 := 0; let j : Job := J 0 (.running 0); let x := hartOf s h; let a := svcArg x; let img := scratchRead s j (a 3) (a 4); let seq := leNat (octetsAt img 16 4); InService s h 0x7D true j ∧ 0x100 ≤ a 2 ∧ a 2 < 0x200 ∧ inScratch (a 3) (a 4) = true ∧ seq < resSeqOf s (a 2)) ∧
    (let s : State := { V 0 0x7E [(2, 0x100)] with ord := { (V 0 0x7E []).ord with res := [(0x100, { held := true })] } }; let h : Fin 8 := 0; let j : Job := J 0 (.running 0); let x := hartOf s h; let a := svcArg x; InService s h 0x7E true j ∧ flashFree s = true ∧ 0x100 ≤ a 2 ∧ a 2 < 0x200 ∧ (resOf s (a 2)).held = true) ∧
    (let s : State := U [(2, 1)] {}; let h : Fin 8 := 0; let j : Job := J 0 (.running 0); let x := hartOf s h; let a := svcArg x; let asks := fun (step : Nat) => InService s h 0x7F true j ∧ a 2 % 256 = step ∧ flashFree s = true; asks 1 ∧ s.upd.st ≠ 2) ∧
    (let s : State := U [(2, 1)] { st := 2 }; let h : Fin 8 := 0; let j : Job := J 0 (.running 0); let x := hartOf s h; let a := svcArg x; InService s h 0x7F true j ∧ a 2 % 256 = 1 ∧ s.upd.st = 2) ∧
    (let s : State := U [(2, 2), (3, 3129344), (5, 8192)] { cleared := true }; let h : Fin 8 := 0; let j : Job := J 0 (.running 0); let x := hartOf s h; let a := svcArg x; let asks := fun (step : Nat) => InService s h 0x7F true j ∧ a 2 % 256 = step ∧ flashFree s = true; asks 2 ∧ a 3 % 256 = 0 ∧ a 5 % 256 = 0 ∧ 256 ≤ a 5 ∧ a 5 ≤ 8192 ∧ a 3 + a 5 ≤ 383 * 8192 ∧ inScratch (a 4) (a 5) = true ∧ s.upd.cleared = true ∧ (∀ i, i < a 5 / 256 → tget (fun _ => false) s.upd.written (a 3 / 256 + i) = false)) ∧
    (let s : State := U [(2, 3)] {}; let h : Fin 8 := 0; let j : Job := J 0 (.running 0); let x := hartOf s h; let a := svcArg x; let asks := fun (step : Nat) => InService s h 0x7F true j ∧ a 2 % 256 = step ∧ flashFree s = true; let b := otherSlot s; asks 3 ∧ slotBlank s b = false ∧ slotBlank s s.upd.slot = false ∧ ddReady s = true ∧ imageFloor s s.upd.slot ≤ imageSeq s b ∧ imageVersion s b 6 / 256 = imageVersion s s.upd.slot 6 / 256) ∧
    (let s : State := U [(2, 4)] { st := 1 }; let h : Fin 8 := 0; let j : Job := J 0 (.running 0); let x := hartOf s h; let a := svcArg x; let asks := fun (step : Nat) => InService s h 0x7F true j ∧ a 2 % 256 = step ∧ flashFree s = true; let b := otherSlot s; asks 4 ∧ s.upd.switching = none ∧ s.level < 3 ∧ s.upd.st = 1 ∧ imageServes s b = true) ∧
    (let s : State := U [(2, 5)] { st := 2, slot := 1 }; let h : Fin 8 := 0; let j : Job := J 0 (.running 0); let x := hartOf s h; let a := svcArg x; let asks := fun (step : Nat) => InService s h 0x7F true j ∧ a 2 % 256 = step ∧ flashFree s = true; asks 5 ∧ s.level < 3 ∧ s.upd.st = 2) := by
  refine ⟨?_, ?_, ?_, ?_, ?_, ?_, ?_, ?_, ?_⟩
  · unfold InService; decide +kernel
  · unfold InService; decide +kernel
  · unfold InService; decide +kernel
  · unfold InService; decide +kernel
  · unfold InService; decide +kernel
  · unfold InService; decide +kernel
  · unfold InService; decide +kernel
  · unfold InService; decide +kernel
  · unfold InService; decide +kernel

theorem witness_probation :
    (let s : State := S; let secs : Fin 65536 := 3600; runs s = true ∧ 10 ≤ secs.val ∧ secs.val ≤ 3600) ∧
    (let s : State := S; let secs : Fin 65536 := 9; runs s = true ∧ (secs.val < 10 ∨ 3600 < secs.val)) ∧
    (let s : State := { S with upd := { st := 2 } }; runs s = true ∧ s.upd.st = 2) ∧
    (let s : State := { S with upd := { st := 2 } }; runs s = true ∧ s.upd.st = 2) := by
  refine ⟨?_, ?_, ?_, ?_⟩
  · decide +kernel
  · decide +kernel
  · decide +kernel
  · decide +kernel

theorem witness_accessCodes :
    (let d : RegDesc := ⟨0, [], [rw 0 0 1, rwl 1 1 0, w1c 2 2, ⟨3, 3, .w1s, 0⟩, ro 4 4], fun _ => true, none⟩; let i : Nat := 0; let m := fun (x : Acc) => (accMask d x).getLsbD i; i < 32 ∧ m .w1s = false ∧ m .w1c = false ∧ (m .rw = true ∨ m .st = true)) ∧
    (let d : RegDesc := ⟨0, [], [rw 0 0 1, rwl 1 1 0, w1c 2 2, ⟨3, 3, .w1s, 0⟩, ro 4 4], fun _ => true, none⟩; let i : Nat := 1; let m := fun (x : Acc) => (accMask d x).getLsbD i; i < 32 ∧ m .rw = false ∧ m .st = false ∧ m .w1s = false ∧ m .w1c = false ∧ m .rwl = true) ∧
    (let d : RegDesc := ⟨0, [], [rw 0 0 1, rwl 1 1 0, w1c 2 2, ⟨3, 3, .w1s, 0⟩, ro 4 4], fun _ => true, none⟩; let i : Nat := 3; let m := fun (x : Acc) => (accMask d x).getLsbD i; i < 32 ∧ m .rw = false ∧ m .st = false ∧ m .rwl = false ∧ m .w1c = false ∧ m .w1s = true) ∧
    (let d : RegDesc := ⟨0, [], [rw 0 0 1, rwl 1 1 0, w1c 2 2, ⟨3, 3, .w1s, 0⟩, ro 4 4], fun _ => true, none⟩; let i : Nat := 2; let m := fun (x : Acc) => (accMask d x).getLsbD i; i < 32 ∧ m .rw = false ∧ m .st = false ∧ m .rwl = false ∧ m .w1s = false ∧ m .w1c = true) ∧
    (let d : RegDesc := ⟨0, [], [rw 0 0 1, rwl 1 1 0, w1c 2 2, ⟨3, 3, .w1s, 0⟩, ro 4 4], fun _ => true, none⟩; let i : Nat := 31; let m := fun (x : Acc) => (accMask d x).getLsbD i; i < 32 ∧ m .rw = false ∧ m .st = false ∧ m .rwl = false ∧ m .w1s = false ∧ m .w1c = false) ∧
    (let d : RegDesc := ⟨0, [], [rw 0 0 1, rwl 1 1 0, w1c 2 2, ⟨3, 3, .w1s, 0⟩, ro 4 4], fun _ => true, none⟩; let i : Nat := 0; i < 32 ∧ accMask d .rwl ≠ 0) ∧
    (let a : Nat := 0x30020000; let i : Nat := 0; let b := 4; i < 32 ∧ b ≠ a) ∧
    (let i : Nat := 0; i < 32) := by
  refine ⟨?_, ?_, ?_, ?_, ?_, ?_, ?_, ?_⟩
  · decide +kernel
  · decide +kernel
  · decide +kernel
  · decide +kernel
  · decide +kernel
  · decide +kernel
  · decide +kernel
  · decide +kernel

theorem witness_registerAccess :
    (let s : State := S; let b : Fin 16 := 15; let q : Fin 1024 := 23; let v : W32 := 10208; runs s = true ∧ q.val < 24 ∧ s.culm.session = true ∧ anySlotOn s b = false ∧ 1518 ≤ v.toNat ∧ v.toNat ≤ 10208) ∧
    (let s : State := S; let b : Fin 16 := 15; let q : Fin 1024 := 23; let v : W32 := 1517; runs s = true ∧ q.val < 24 ∧ s.culm.session = true ∧ anySlotOn s b = false ∧ v.toNat < 1518) ∧
    (let s : State := S; let q : Fin 1024 := 23; runs s = true ∧ q.val < 24 ∧ s.culm.session = true) ∧
    (let s : State := S; let q : Fin 1024 := 23; let a : Nat := 0xFFFFFFFC; runs s = true ∧ q.val < 24 ∧ a < 0x100000000 ∧ regAt a = none) ∧
    (let s : State := S; let q : Fin 1024 := 23; runs s = true ∧ q.val < 24) ∧
    (let s : State := { S with latches := [(latchKey 23 (0x30088100 + 40), some 7)] }; let k : Fin 6 := 5; let q : Fin 1024 := 23; let w : W32 := 7; let lo := 0x30088100 + 8 * k.val; runs s = true ∧ q.val < 24 ∧ tget (fun _ => none) s.latches (latchKey q lo) = some w) := by
  refine ⟨?_, ?_, ?_, ?_, ?_, ?_⟩
  · decide +kernel
  · decide +kernel
  · decide +kernel
  · decide +kernel
  · decide +kernel
  · decide +kernel

theorem witness_stepRunsFrontCommand :
    (let c : Instr := .wtxExpiry; let r : List Instr := []; let s : State := { S with pending := [.wtxExpiry] }; s.pending = c :: r) := by
  decide +kernel

theorem witness_idleStep :
    (let s : State := S; s.pending = []) := by
  decide +kernel

theorem witness_instructionFrames :
    (let s : State := H 0; let t : State := H 0; let i : Issue := I0; Issues s t i) ∧
    (let h : Nat := 0; let k := 1; k ≠ h) ∧
    (let h : Nat := 0; let a := 0; a ≠ htA h + 0x100) ∧
    (let rd : Nat := 2; let r : Nat := 1; r ≠ rd) ∧
    (let rd : Nat := 2; let p : Nat := 1; p ≠ rd) ∧
    (let rd : Nat := 2; rd ≠ 0) ∧
    (let s : State := { S with hstate := [(0, .waiting)] }; let i : Issue := I0; hstOf s i.h ≠ .haltedDebug ∧ mayIssue s i.h = false) := by
  refine ⟨?_, ?_, ?_, ?_, ?_, ?_, ?_⟩
  · unfold Issues; decide +kernel
  · decide +kernel
  · decide +kernel
  · decide +kernel
  · decide +kernel
  · decide +kernel
  · decide +kernel

theorem witness_memoryWrites :
    (let a : Nat := 0x20000000; let l : List Byte := [1]; let b := 0x1FFFFFFC; let n := 4; (b + n ≤ a ∨ a + l.length ≤ b)) ∧
    (let s : State := S; tblWf (fun _ => 0) s.sram = true) := by
  refine ⟨?_, ?_⟩
  · decide +kernel
  · decide +kernel

theorem witness_commandsNotEnabled :
    (let s : State := { S with pw := { S.pw with mode := .off } }; runs s = false) ∧
    (let s : State := S; let h : Fin 8 := 0; let h := 0; (hartOf s h).svc = none) := by
  refine ⟨?_, ?_⟩
  · decide +kernel
  · decide +kernel

theorem witness_slotMapping :
    (let n := 32767; n < 32768) ∧
    (let n := 32768; 32768 ≤ n ∧ n < 65536) ∧
    (let s : State := S; let f : Frame := { sc := 8191 }; txAnOf s f.sc < 4) := by
  refine ⟨?_, ?_, ?_⟩
  · decide +kernel
  · decide +kernel
  · decide +kernel

theorem witness_typeAValues :
    (let s : State := { S with tag := { field := true } }; s.tag.field = true ∧ s.tag.iso = .idle) ∧
    (let s : State := { S with tag := { field := true, iso := .ready, uid := some 0x123456 } }; s.tag.field = true ∧ s.tag.iso = .ready) ∧
    (let s : State := { S with tag := { field := true, iso := .ready, uid := some 0x123456 } }; let v : BitVec 32 := 0x12345608; let uid := tagUid s; s.tag.field = true ∧ s.tag.iso = .ready ∧ leNat uid = v.toNat) := by
  refine ⟨?_, ?_, ?_⟩
  · decide +kernel
  · decide +kernel
  · decide +kernel

/-! ### Witnesses written out: premises over all indices, or over values that Config leaves open -/

theorem witness_loopTest : ∃ x : Hart, (∀ n, n ≠ 0 → lcGet x n = 0) ∧ x.rept = false ∧ leGet x 0 = x.pc ∧ lcGet x 0 = 1 := by
  refine ⟨{ pc := 0x20000000, lc := [(0, 1)], le := [(0, 0x20000000)] }, ?_, by decide, by decide, by decide⟩
  intro n hn
  simp [lcGet, tget, hn.symm]

theorem witness_loopTest_more : ∃ x : Hart, (∀ n, n ≠ 0 → lcGet x n = 0) ∧ x.rept = false ∧ leGet x 0 = x.pc ∧ lcGet x 0 ≠ 0 ∧ lcGet x 0 ≠ 1 := by
  refine ⟨{ pc := 0x20000000, lc := [(0, 9)], le := [(0, 0x20000000)] }, ?_, by decide, by decide, by decide, by decide⟩
  intro n hn
  simp [lcGet, tget, hn.symm]

theorem witness_loopTest_plain : ∃ x : Hart, (∀ n, n ≠ 0 → lcGet x n = 0) ∧ x.rept = false ∧ lcGet x 0 = 0 := by
  exact ⟨{}, fun n _ => rfl, rfl, rfl⟩

theorem witness_loopTest_rept : ∃ x : Hart, (∀ n, n ≠ 0 → lcGet x n = 0) ∧ x.rept = true := ⟨{ rept := true }, fun _ _ => rfl, rfl⟩

theorem witness_linkMoves : (63 : Nat) < 64 ∧ (0 : Nat) < 64 ∧ ((0, Side.host) : Nat × Side) ≠ (63, Side.host) := by decide

theorem witness_fecWindow : runs S = true ∧ ∀ (i : Nat) (d : Side), i < 4 → (sideOf S (4 * (15 : Fin 16) + i) d).link ≠ .degraded := by
  refine ⟨by decide, fun i d hi => ?_⟩
  have hs : S.line.sides = [] := rfl
  cases d <;> simp [sideOf, tget, hs]

/-- An EM entry of an egress frame's key type 0, at the place that its hash gives. -/
def emHit : Nat := fld (Config.emHash (emKey [1]) (seedOf S 0)) 7 0
def emAt : State := { S with line := { S.line with em := [(4 * emHit, [1])] } }
def noTag : Parse := ⟨0, [], [], 0, 0, none, 0, false, 0⟩

theorem emHit_lt : emHit < 256 := by
  unfold emHit fld bitsOf
  omega

theorem witness_resolutionEm :
    ruleFind emAt 0 0 (ruleKey noTag 0 0 (free emAt)) = none ∧ emLookup emAt 0 noTag .egress 0 1 = some [1] := by
  refine ⟨rfl, ?_⟩
  have h := emHit_lt
  have hk : keyNum 0 0 0 0 0 0 0 0 = emKey [1] := by decide
  have hv : bitAt (wordAt [(1 : W32)] 0).toNat 0 = true := by decide
  have h1 : 4 * emHit / 4096 = 0 := by omega
  have h2 : 4 * emHit % 4096 = 4 * emHit := by omega
  have h3 : 4 * emHit / 1024 = 0 := by omega
  have h4 : 4 * emHit / 4 % 256 = emHit := by omega
  have hp : emPlace emAt 0 (emKey [1]) (4 * emHit) = true := by
    have he : fld (Config.emHash (emKey [1]) (seedOf emAt 0)) 7 0 = emHit := rfl
    simp only [emPlace, h3, h4, Nat.mul_zero, Nat.zero_add, he, beq_self_eq_true]
  have hf : emFind emAt 0 (keyNum 0 0 0 0 0 0 0 0) = some [1] := by
    have hem : emAt.line.em = [(4 * emHit, [1])] := rfl
    simp only [emFind, hem, List.find?, h1, h2, hk, hv, hp]
    decide
  simp [emLookup, frameKey, noTag, List.findSome?, Nat.testBit, dirNum, hf]

/-- EM_ADD of an entry of key type 0 that drops its frames, into a stage whose seed is written. -/
def emAddS : State :=
  { K 0x30 [] ([1] ++ List.replicate 31 0) with locks := [(stA 0 + 8, true)] }

theorem witness_emVacant (s : State) (b key : Nat) (h : s.line.em = []) : ∃ i, emVacant s b key = some i := by
  have hlt : fld (Config.emHash key (seedOf s b)) 7 0 < 256 := by unfold fld bitsOf; omega
  refine Option.isSome_iff_exists.mp (List.find?_isSome.mpr ⟨4 * fld (Config.emHash key (seedOf s b)) 7 0, ?_, ?_⟩)
  · simp; omega
  · have h3 : 4 * fld (Config.emHash key (seedOf s b)) 7 0 / 1024 = 0 := by omega
    have h4 : 4 * fld (Config.emHash key (seedOf s b)) 7 0 / 4 % 256 = fld (Config.emHash key (seedOf s b)) 7 0 := by omega
    simp only [emEntry, emPlace, h, h3, h4, tget, Nat.mul_zero, Nat.zero_add, beq_self_eq_true, List.isEmpty_nil, Bool.and_self]

theorem witness_liCompute (n : Nat) : let s := L 5 { st := .computing } 1 (some 5)
    runs s = true ∧ s.li.running = some 5 ∧ (liJob s 5).st = .computing ∧ liStatus (liOpOf s 5) n ≠ 3 := by
  refine ⟨by decide, by decide, by decide, ?_⟩
  have h : liOpOf (L 5 { st := .computing } 1 (some 5)) 5 = 1 := by decide +kernel
  rw [h]
  by_cases h2 : n = 2 <;> simp [liStatus, liPrivate, h2]

theorem witness_sectAge : runs S = true ∧ ∃ d, sectAge S 7 = some d ∧ d < 3652 := ⟨by decide, 0, by decide +kernel, by decide⟩

/-- An order running on hart 0 of no pending source. -/
theorem witness_budgetLate : let s := { O (J 0 (.running 0)) with harts := [(0, hart0 1)] }
    jobOf s 1 = some (J 0 (.running 0)) ∧ ∀ x, due (setHart s 0 { hartOf s 0 with budgetPend := true }) 0 = some x → x ≠ .budget := by
  refine ⟨by decide +kernel, fun x h => ?_⟩
  have e : due (setHart { O (J 0 (.running 0)) with harts := [(0, hart0 1)] } 0 { hartOf { O (J 0 (.running 0)) with harts := [(0, hart0 1)] } 0 with budgetPend := true }) 0 = none := by
    decide +kernel
  rw [e] at h
  cases h

theorem witness_waitResume : let j := { J 0 (.waiting .rng) with ctx := some {} }
    let s := { O j with hstate := [(1, .waiting)], harts := [(1, { level := 1 })] }
    runs s = true ∧ jobOf s 1 = some j ∧ waitOver s j .rng = true ∧ hartFree s 1 = true ∧ (∀ c, j.ctx = some c → c.svc = none) ∧ j.ctx ≠ none := by
  refine ⟨by decide, by decide +kernel, by decide +kernel, by decide +kernel, fun c h => ?_, by decide⟩
  cases h
  rfl

theorem witness_switchOver : let j := J 0 (.running 0)
    let s := U [(2, 4)] { st := 1, switching := some 1 }
    InService s 0 0x7F true j ∧ svcArg (hartOf s 0) 2 % 256 = 4 ∧ flashFree s = true ∧ s.upd.switching = some j.id ∧ s.upd.st = 1 ∧ s.level < 3 ∧ ddReady s = true ∧
    ∀ k, k ∈ s.ord.jobs → k.id ≠ j.id → (∀ i, k.stage ≠ .running i) ∧ ∀ d r, k.stage ≠ .gran d r := by
  refine ⟨by unfold InService; decide +kernel, by decide +kernel, by decide +kernel, by decide +kernel, by decide +kernel, by decide +kernel, by decide +kernel, fun k hk hn => ?_⟩
  have hj : (U [(2, 4)] { st := 1, switching := some 1 }).ord.jobs = [J 0 (.running 0)] := rfl
  rw [hj, List.mem_singleton] at hk
  exact absurd (hk ▸ rfl) hn

/-- Power off: an idle step only passes a microsecond, and the invariant holds. -/
def offS : State := { S with pw := { S.pw with mode := .off } }

theorem witness_stepKeepsInv : Safety.Inv offS ∧ Machine.step offS = .next { offS with now := 1 } := ⟨by unfold Safety.Inv; decide, rfl⟩

theorem witness_level : S.tm.sigOk = true ∧ (∀ h, Instr.wtxExpiry ≠ .alarmClear h) ∧ (∀ v, Instr.wtxExpiry ≠ .otpBurnComplete v) ∧ Completes .wtxExpiry S := by
  refine ⟨by decide, ?_, ?_, S, rfl⟩ <;> intro _ h <;> cases h

theorem witness_everyCommand : ∀ (p : Fin 64) (d : Side) (l : List Byte) (e : Option Bool),
    Instr.frameHeadResolve 63 .line fullFrame (some true) = .frameHeadResolve p d l e → l.length = 64 := by
  intro p d l e h
  cases h
  decide

theorem witness_emAdd : let s := emAddS
    let j := J 0 (.running 0)
    let a := svcArg (hartOf s 0)
    let l := wordsOf 8 (scratchRead s j (a 3) 32)
    s.culm.session = true ∧ InService s 0 0x30 false j ∧ stageOk s (a 2) = true ∧ inScratch (a 3) 32 = true ∧ bitAt (wordAt l 0).toNat 0 = true ∧ emLegal l = true ∧
    emRight s j.domain (a 2) l = true ∧ emIndex s (a 2) (emKey l) = none ∧ tget (fun _ => false) s.locks (stA (a 2) + 8) = true ∧ emCount s (a 2) < 3584 ∧
    emUsed s (fld (wordAt l 4) 14 3) < (quotaOf s (fld (wordAt l 4) 14 3)).em ∧ s.line.em = [] := by
  unfold InService
  decide +kernel

end Sys2Proof.Tests
end

section
/-! Registers: the access codes of R12, and writes and reads of registers (R14 to R18). -/

namespace Sys2Proof.Proofs

open Sys2Proof Sys2Proof.Machine Sys2Proof.Safety

/-! ### Storing under the access codes (R12) -/

/-- The bits of register `a` that a write puts in place: RW and ST always, RWL once. -/
def takeMask (s : State) (a : Nat) (d : RegDesc) : W32 :=
  accMask d .rw ||| accMask d .st ||| (if tget (fun _ => false) s.locks a then 0 else accMask d .rwl)

/-- What register `a` holds after a write of `v` under its access codes. -/
def storedWord (s : State) (a : Nat) (d : RegDesc) (v : W32) : W32 :=
  (((rget s a &&& ~~~takeMask s a d) ||| (v &&& takeMask s a d)) ||| (v &&& accMask d .w1s)) &&& ~~~(v &&& accMask d .w1c)

/-- A write stored under the access codes changes its register's word and, where it has RWL bits, its lock: nothing else. -/
theorem storeWrite_eq (s : State) (a : Nat) (d : RegDesc) (v : W32) : storeWrite s a d v =
    { rset s a (storedWord s a d v) with locks := if accMask d .rwl = 0 then s.locks else tput (fun _ => false) s.locks a true } := by
  unfold storeWrite
  dsimp only
  split <;> rfl

@[simp] theorem rget_storeWrite (s : State) (a : Nat) (d : RegDesc) (v : W32) : rget (storeWrite s a d v) a = storedWord s a d v := by
  rw [storeWrite_eq]
  exact rget_rset s a _

theorem rget_storeWrite_ne (s : State) {a b : Nat} (d : RegDesc) (v : W32) (h : b ≠ a) : rget (storeWrite s a d v) b = rget s b := by
  rw [storeWrite_eq]
  exact rget_rset_ne s _ h

@[simp] theorem storeWrite_sram (s : State) (a : Nat) (d : RegDesc) (v : W32) : (storeWrite s a d v).sram = s.sram := by
  rw [storeWrite_eq, rset_sram]

@[simp] theorem storeWrite_harts (s : State) (a : Nat) (d : RegDesc) (v : W32) : (storeWrite s a d v).harts = s.harts := by
  rw [storeWrite_eq, rset_harts]

@[simp] theorem storeWrite_gran (s : State) (a : Nat) (d : RegDesc) (v : W32) : (storeWrite s a d v).gran = s.gran := by
  rw [storeWrite_eq, rset_gran]

/-- A register with RWL bits is locked by its first write. -/
theorem storeWrite_locks (s : State) (a : Nat) {d : RegDesc} (v : W32) (h : accMask d .rwl ≠ 0) :
    tget (fun _ => false) (storeWrite s a d v).locks a = true := by
  rw [storeWrite_eq, if_neg h, tget_tput]

theorem takeMask_bit (s : State) (a : Nat) (d : RegDesc) (i : Nat) : (takeMask s a d).getLsbD i =
    ((accMask d .rw).getLsbD i || (accMask d .st).getLsbD i || (!tget (fun _ => false) s.locks a && (accMask d .rwl).getLsbD i)) := by
  cases h : tget (fun _ => false) s.locks a <;> simp [takeMask, h]

theorem storedWord_bit (s : State) (a : Nat) (d : RegDesc) (v : W32) {i : Nat} (hi : i < 32) : (storedWord s a d v).getLsbD i =
    (((rget s a).getLsbD i && !(takeMask s a d).getLsbD i || v.getLsbD i && (takeMask s a d).getLsbD i ||
      v.getLsbD i && (accMask d .w1s).getLsbD i) && !(v.getLsbD i && (accMask d .w1c).getLsbD i)) := by
  simp [storedWord, hi]

/-- A bit that a write puts in place, and neither sets nor clears, is the value's. -/
theorem storedWord_bit_taken {s : State} {a : Nat} {d : RegDesc} (v : W32) {i : Nat} (hi : i < 32) (hs : (accMask d .w1s).getLsbD i = false)
    (hc : (accMask d .w1c).getLsbD i = false) (ht : (takeMask s a d).getLsbD i = true) : (storedWord s a d v).getLsbD i = v.getLsbD i := by
  simp [storedWord_bit s a d v hi, hs, hc, ht]

/-- A bit that a write does not put in place is set by W1S and cleared by W1C, and else stays. -/
theorem storedWord_bit_kept {s : State} {a : Nat} {d : RegDesc} (v : W32) {i : Nat} (hi : i < 32) (ht : (takeMask s a d).getLsbD i = false) :
    (storedWord s a d v).getLsbD i =
      (((rget s a).getLsbD i || v.getLsbD i && (accMask d .w1s).getLsbD i) && !(v.getLsbD i && (accMask d .w1c).getLsbD i)) := by
  simp [storedWord_bit s a d v hi, ht]

/-- Each access code does to its bits what R12 says. -/
theorem accessCodes : Claims.AccessCodes := by
  intro s a d v i hi
  dsimp only
  rw [rget_storeWrite]
  refine ⟨?rwst, ?rwl, ?w1s, ?w1c, ?others, storeWrite_locks s a v, fun b => rget_storeWrite_ne s d v, storeWrite_sram s a d v, storeWrite_harts s a d v⟩
  case rwst =>
    intro hs hc h
    refine storedWord_bit_taken v hi hs hc ?_
    rcases h with h | h <;> simp [takeMask_bit, h]
  case rwl =>
    intro hw ht hs hc hl
    cases hk : tget (fun _ => false) s.locks a
    · exact storedWord_bit_taken v hi hs hc (by simp [takeMask_bit, hk, hl])
    · rw [storedWord_bit_kept v hi (by simp [takeMask_bit, hk, hw, ht]), hs, hc]
      simp
  case w1s | w1c | others =>
    intro hw ht hl h h'
    rw [storedWord_bit_kept v hi (by simp [takeMask_bit, hw, ht, hl]), h, h']
    simp

/-! ### Commands of the register layer -/

theorem exec_registerWrite (h : Fin 8) (a : Nat) (v : W32) (s : State) : exec (.registerWrite h a v) s = .next (registerWrite s h a v) := rfl

theorem exec_loReadLatch (q : Fin 1024) (a : Nat) (s : State) : exec (.loReadLatch q a) s = .next (loRead s q a) := rfl

/-- A write on the line die that sets no reserved bit does what its chapter's table says (R15, R191). -/
theorem registerWrite_line {s : State} {a : Nat} {d : RegDesc} {v : W32} (h : Nat) (hr : runs s = true) (hc : s.culm.session = true) (hw : inWindow a = true)
    (hd : regAt a = some d) (hv : v &&& w32 d.named = v) : registerWrite s h a v = lineWrite s a d v := by
  have ha : ¬ 0x100000000 ≤ a := by simp [inWindow] at hw; omega
  simp [registerWrite, regWrite, hr, ha, hd, hw, hc, hv]

/-- A write in the Rhaby view to an address that no table assigns changes nothing (R17). -/
theorem registerWrite_unassigned (s : State) (h : Nat) {a : Nat} (v : W32) (ha : a < 0x100000000) (hd : regAt a = none) : registerWrite s h a v = s := by
  simp [registerWrite, regWrite, hd, Nat.not_le.mpr ha]

/-- A read in the Rhaby view by a hart or a DMA channel that ends in no bus error is answered. -/
theorem loRead_answered {s : State} {q a : Nat} {p : State × W32} (hr : runs s = true) (hq : q < 24) (ha : a < 0x100000000) (hp : regRead s q a = some p) :
    loRead s q a = answer p.1 [p.2.toNat] := by
  have hf : ¬ 512 ≤ q := by omega
  simp [loRead, hr, hf, hp, Nat.not_le.mpr hq, Nat.not_le.mpr ha]

/-- A read in the Rhaby view of an address that no table assigns changes nothing (R17). -/
theorem loRead_unassigned {s : State} {q a : Nat} (hr : runs s = true) (hq : q < 24) (ha : a < 0x100000000) (hd : regAt a = none) : loRead s q a = s := by
  have hf : ¬ 512 ≤ q := by omega
  simp [loRead, hr, hf, regRead, hd, Nat.not_le.mpr hq, Nat.not_le.mpr ha]

/-! ### MAX_FRAME (R55, R57) -/

/-- The table's line for MAX_FRAME of a port block. -/
def maxFrame : RegDesc :=
  { base := 0x4100000C, strides := [(0x10000, 16)], fields := [rw 13 0 9216], legal := fun v => 1518 ≤ bitsOf v 13 0 && bitsOf v 13 0 ≤ 10208 }

/-- The address of MAX_FRAME of a port block. -/
def maxFrameA (b : Fin 16) : Nat := 0x4100000C + 0x10000 * b.val

theorem regAt_maxFrameA (b : Fin 16) : regAt (maxFrameA b) = some maxFrame := by
  fin_cases b <;> rfl

theorem inWindow_maxFrameA (b : Fin 16) : inWindow (maxFrameA b) = true := by
  have h : 0x40000000 ≤ maxFrameA b ∧ maxFrameA b ≤ 0x4FFFFFFF := by unfold maxFrameA; omega
  simp [inWindow, h]

/-- A value of 14 bits sets no reserved bit of MAX_FRAME. -/
theorem maxFrame_named_and {v : W32} (hv : v.toNat < 2 ^ 14) : v &&& w32 maxFrame.named = v := by
  have hn : (w32 maxFrame.named).toNat = 2 ^ 14 - 1 := by decide
  apply BitVec.eq_of_toNat_eq
  rw [BitVec.toNat_and, hn, Nat.and_two_pow_sub_one_eq_mod, Nat.mod_eq_of_lt hv]

theorem maxFrame_legal {v : Nat} (hv : v < 2 ^ 14) : maxFrame.legal v = (decide (1518 ≤ v) && decide (v ≤ 10208)) := by
  have h : bitsOf v 13 0 = v := Nat.mod_eq_of_lt hv
  simp [maxFrame, h]

/-- With no slot of its block enabled MAX_FRAME takes a write as its table says (R35). -/
theorem lineWrite_maxFrameA {s : State} {b : Fin 16} (d : RegDesc) (v : W32) (hs : anySlotOn s b = false) :
    lineWrite s (maxFrameA b) d v = plainWrite s (maxFrameA b) d v := by
  have hb : (maxFrameA b - 0x41000000) / 0x10000 = b.val := by unfold maxFrameA; omega
  have ho : (maxFrameA b - 0x41000000) % 0x10000 = 0x0C := by unfold maxFrameA; omega
  have h1 : ¬ maxFrameA b < 0x41000000 := by unfold maxFrameA; omega
  have h2 : maxFrameA b < 0x42000000 := by unfold maxFrameA; omega
  simp [lineWrite, pbWrite, h1, h2, hb, ho, hs]

theorem registerWrite_maxFrameA {s : State} {b : Fin 16} {v : W32} (h : Nat) (hr : runs s = true) (hc : s.culm.session = true)
    (hs : anySlotOn s b = false) (hv : v.toNat < 2 ^ 14) : registerWrite s h (maxFrameA b) v = plainWrite s (maxFrameA b) maxFrame v :=
  (registerWrite_line h hr hc (inWindow_maxFrameA b) (regAt_maxFrameA b) (maxFrame_named_and hv)).trans (lineWrite_maxFrameA maxFrame v hs)

theorem regRefuse_maxFrameA (s : State) (b : Fin 16) : regRefuse s (maxFrameA b) = refuse s (maxFrameA b) := by
  have h1 : ¬ 0x100000000 ≤ maxFrameA b := by unfold maxFrameA; omega
  have h2 : ¬ maxFrameA b < 0x30071000 := by unfold maxFrameA; omega
  simp [regRefuse, h1, h2]

/-- The 14 bits of MAX_FRAME are the value's after a write. -/
theorem storedWord_maxFrame (s : State) (a : Nat) {v : W32} (hv : v.toNat < 2 ^ 14) : (storedWord s a maxFrame v).toNat % 2 ^ 14 = v.toNat := by
  have hm : ∀ i < 14, (accMask maxFrame .rw).getLsbD i = true ∧ (accMask maxFrame .w1s).getLsbD i = false ∧
    (accMask maxFrame .w1c).getLsbD i = false := by decide
  apply Nat.eq_of_testBit_eq
  intro i
  rw [Nat.testBit_mod_two_pow]
  by_cases hi : i < 14
  · obtain ⟨hw, hs, hc⟩ := hm i hi
    have hb := storedWord_bit_taken (s := s) (a := a) v (by omega) hs hc (by simp [takeMask_bit, hw])
    rw [BitVec.testBit_toNat, BitVec.testBit_toNat, hb]
    simp [hi]
  · have hz : v.toNat < 2 ^ i := hv.trans_le (Nat.pow_le_pow_right (by decide) (by omega))
    simp [hi, Nat.testBit_lt_two_pow hz]

/-- MAX_FRAME reads as stored, to any requester of the Rhaby view; the free value that its read passes is no register's. -/
theorem regRead_maxFrameA {s : State} (q : Nat) (b : Fin 16) (hc : s.culm.session = true) :
    regRead s q (maxFrameA b) = some (freed s, rget s (maxFrameA b)) := by
  have hw := inWindow_maxFrameA b
  have hd := regAt_maxFrameA b
  have hu : ∀ b, isUncounted (maxFrameA b) = false ∧ isLo (maxFrameA b) = false ∧ isHi (maxFrameA b) = false := by decide
  obtain ⟨hu, hl, hh⟩ := hu b
  have h1 : ¬ maxFrameA b < 0x41000000 := by unfold maxFrameA; omega
  have h2 : maxFrameA b < 0x42000000 := by unfold maxFrameA; omega
  have ho : (maxFrameA b - 0x41000000) % 0x10000 = 0x0C := by unfold maxFrameA; omega
  have ho' : maxFrameA b % 0x10000 = 0x0C := by unfold maxFrameA; omega
  have hv : rawRead s (maxFrameA b) maxFrame = rget s (maxFrameA b) := by
    simp [rawRead, hw, lineRead, h1, h2, pbRead, ho, storedValue, maxFrame, rw]
  simp [regRead, hd, hw, hc, beforeRead, hu, latched, hl, hh, hv, afterRead, Nat.not_lt.mp h1, h2, ho']

/-! ### A counter's pair of words (R16, R57) -/

/-- Every field of the register is RO, as a counter's is. -/
def readOnly (d : RegDesc) : Bool := d.fields.all (fun f => f.acc == .ro)

theorem storedValue_lo (s : State) {a : Nat} {d : RegDesc} (hd : readOnly d = true) (ha : isLo a = true) :
    storedValue s a d = half false (cget s a).toNat := by
  rw [storedValue, ← readOnly, hd, ha]
  rfl

theorem storedValue_hi (s : State) {a : Nat} {d : RegDesc} (hd : readOnly d = true) (ha : isLo a = true) (ha' : isLo (a + 4) = false) :
    storedValue s (a + 4) d = half true (cget s a).toNat := by
  have hh : isHi (a + 4) = true := by simp [isHi, ha]
  rw [storedValue, ← readOnly, hd, ha', hh]
  rfl

/-- The address of the low word of a counter of the MPUs' block. -/
def mpLo (k : Fin 6) : Nat := 0x30088100 + 8 * k.val

theorem regAt_mpLo : ∀ k, (regAt (mpLo k)).any readOnly = true ∧ (regAt (mpLo k + 4)).any readOnly = true := by decide

theorem mpLo_isLo : ∀ k, isLo (mpLo k) = true ∧ isLo (mpLo k + 4) = false := by decide

theorem mpLo_counted : ∀ k, isUncounted (mpLo k) = false ∧ isUncounted (mpLo k + 4) = false := by decide

section
variable {a : Nat} (hl : 0x30088100 ≤ a) (hu : a < 0x30088130)
include hl hu

theorem inWindow_mp : inWindow a = false := by
  have h : ¬ 0x40000000 ≤ a := by omega
  simp [inWindow, h]

/-- The counters of the MPUs' block read as they are kept. -/
theorem rawRead_mp (s : State) (d : RegDesc) : rawRead s a d = storedValue s a d := by
  simp (disch := omega) only [rawRead, inWindow_mp hl hu, ctlDieRead, mpRead, if_neg, if_pos]
  simp

/-- A read among the counters of the MPUs' block clears nothing. -/
theorem afterRead_mp (s : State) : afterRead s a = s := by
  simp (disch := omega) only [afterRead, rgA, pwA, if_neg]

end

/-- A read of a counter's low word gives its low half and latches its high half for the requester (R16). -/
theorem regRead_mpLo (s : State) (q : Nat) (k : Fin 6) :
    regRead s q (mpLo k) = some (setLatch s q (mpLo k) (some (half true (cget s (mpLo k)).toNat)), half false (cget s (mpLo k)).toNat) := by
  have hl : 0x30088100 ≤ mpLo k := by unfold mpLo; omega
  have hu : mpLo k + 4 < 0x30088130 := by unfold mpLo; omega
  obtain ⟨d, hd, hro⟩ := (Option.any_eq_true _ _).mp (regAt_mpLo k).1
  obtain ⟨hlo, hhi⟩ := mpLo_isLo k
  obtain ⟨hc, -⟩ := mpLo_counted k
  simp (disch := omega) [regRead, hd, inWindow_mp, beforeRead, hc, latched, hlo, rawRead_mp, storedValue_lo s hro hlo, storedValue_hi s hro hlo hhi,
    afterRead_mp]

/-- The requester's next read of the high word gives what it latched, and the latch is free again (R16). -/
theorem regRead_mpHi {s : State} {q : Nat} {k : Fin 6} {w : W32} (hw : tget (fun _ => none) s.latches (latchKey q (mpLo k)) = some w) :
    regRead s q (mpLo k + 4) = some (setLatch s q (mpLo k) none, w) := by
  have hl : 0x30088100 ≤ mpLo k + 4 := by unfold mpLo; omega
  have hu : mpLo k + 4 < 0x30088130 := by unfold mpLo; omega
  obtain ⟨d, hd, -⟩ := (Option.any_eq_true _ _).mp (regAt_mpLo k).2
  obtain ⟨hlo, hhi⟩ := mpLo_isLo k
  obtain ⟨-, hc⟩ := mpLo_counted k
  simp [regRead, hd, inWindow_mp hl hu, beforeRead, hc, latched, hhi, isHi, hlo, hw, afterRead_mp hl hu]

@[simp] theorem setLatch_latch (s : State) (q a : Nat) (v : Option W32) : tget (fun _ => none) (setLatch s q a v).latches (latchKey q a) = v :=
  tget_tput _ _ _ _

section
variable {s : State} (hr : runs s = true)
include hr

theorem registerWrite_maxFrame_legal (h : Fin 8) {b : Fin 16} {v : W32} (hc : s.culm.session = true) (hs : anySlotOn s b = false)
    (hv : 1518 ≤ v.toNat) (hv' : v.toNat ≤ 10208) : Yields (.registerWrite h (maxFrameA b) v) s fun t =>
      (rget t (maxFrameA b)).toNat % 16384 = v.toNat ∧ t.sram = s.sram ∧ t.gran = s.gran ∧ ∀ c, c ≠ maxFrameA b → rget t c = rget s c := by
  have hb : v.toNat < 2 ^ 14 := by omega
  have hp : registerWrite s h (maxFrameA b) v = storeWrite s (maxFrameA b) maxFrame v := by
    simp [registerWrite_maxFrameA h hr hc hs hb, plainWrite, maxFrame_legal hb, hv, hv']
  refine ⟨_, (exec_registerWrite h _ v s).trans (congrArg _ hp), ?_, storeWrite_sram .., storeWrite_gran .., fun c => rget_storeWrite_ne s _ v⟩
  rw [rget_storeWrite]
  exact storedWord_maxFrame s _ hb

theorem registerWrite_maxFrame_refused (h : Fin 8) {b : Fin 16} {v : W32} (hc : s.culm.session = true) (hs : anySlotOn s b = false)
    (hv : v.toNat < 1518) : exec (.registerWrite h (maxFrameA b) v) s = .next (refuse s (maxFrameA b)) := by
  have hb : v.toNat < 2 ^ 14 := by omega
  rw [exec_registerWrite, registerWrite_maxFrameA h hr hc hs hb, plainWrite, maxFrame_legal hb]
  simp [Nat.not_le.mpr hv, regRefuse_maxFrameA]

variable {q : Fin 1024} (hq : q.val < 24)
include hq

theorem loReadLatch_maxFrame (b : Fin 16) (hc : s.culm.session = true) : Yields (.loReadLatch q (maxFrameA b)) s fun t =>
    t.reply = [(rget s (maxFrameA b)).toNat] ∧ t.regs = s.regs :=
  have ha : maxFrameA b < 0x100000000 := by unfold maxFrameA; omega
  ⟨_, (exec_loReadLatch q _ s).trans (congrArg _ (loRead_answered hr hq ha (regRead_maxFrameA q b hc))), rfl, rfl⟩

theorem loReadLatch_mpLo (k : Fin 6) : Yields (.loReadLatch q (mpLo k)) s fun t =>
    t.reply = [(cget s (mpLo k)).toNat % 2 ^ 32] ∧
    tget (fun _ => none) t.latches (latchKey q (mpLo k)) = some (w32 ((cget s (mpLo k)).toNat / 2 ^ 32)) :=
  have ha : mpLo k < 0x100000000 := by unfold mpLo; omega
  ⟨_, (exec_loReadLatch q _ s).trans (congrArg _ (loRead_answered hr hq ha (regRead_mpLo s q k))), rfl,
    by rw [answer_latches]; exact setLatch_latch ..⟩

theorem loReadLatch_mpHi {k : Fin 6} {w : W32} (hw : tget (fun _ => none) s.latches (latchKey q (mpLo k)) = some w) :
    Yields (.loReadLatch q (mpLo k + 4)) s fun t => t.reply = [w.toNat] ∧ tget (fun _ => none) t.latches (latchKey q (mpLo k)) = none :=
  have ha : mpLo k + 4 < 0x100000000 := by unfold mpLo; omega
  ⟨_, (exec_loReadLatch q _ s).trans (congrArg _ (loRead_answered hr hq ha (regRead_mpHi hw))), rfl,
    by rw [answer_latches]; exact setLatch_latch ..⟩

end

/-- Writes and reads of registers, MAX_FRAME and the MPUs' counters among them (R14, R16 to R18, R57). -/
theorem registerAccess : Claims.RegisterAccess := fun s h b k _ _ v _ hr hq =>
  ⟨registerWrite_maxFrame_legal hr h, registerWrite_maxFrame_refused hr h, loReadLatch_maxFrame hr hq b,
    fun ha hd => ⟨congrArg _ (registerWrite_unassigned s h v ha hd), congrArg _ (loRead_unassigned hr hq ha hd)⟩,
    loReadLatch_mpLo hr hq k, loReadLatch_mpHi hr hq⟩

/-- Settles O50: R12's codes bit by bit through the word that a write stores (`storedWord`), then each access by what its register's line of the
table says of it. -/
theorem registers : Obligations.Registers := ⟨accessCodes, registerAccess⟩

end Sys2Proof.Proofs
end

section
/-! Link states: what changes them, and a side's move between them (R32). -/

namespace Sys2Proof.Proofs

open Sys2Proof Sys2Proof.Machine Sys2Proof.Safety

/-! ### Sides under their keys -/

theorem sideKey_eq_iff {p q : Nat} {c d : Side} : 2 * p + sideNum c = 2 * q + sideNum d ↔ (p, c) = (q, d) := by
  cases c <;> cases d <;> simp [sideNum] <;> omega

theorem sideOf_setSide_if (s : State) (p q : Nat) (c d : Side) (x : SideSt) :
    sideOf (setSide s p c x) q d = if (q, d) = (p, c) then x else sideOf s q d := by
  simp only [← sideKey_eq_iff]
  exact tget_tput_if _ _ _ _ _

/-! ### What leaves registers and link states alone -/

/-- The registers, and every side's link state: what frames, pauses and counters do not change. -/
def linkView (s : State) : Tbl W32 × (Nat → Side → Link) := (s.regs, fun p d => (sideOf s p d).link)

theorem linkView_of_sides {s t : State} (hr : t.regs = s.regs) (hs : t.line.sides = s.line.sides) : linkView t = linkView s := by
  simp [linkView, sideOf, hr, hs]

@[simp] theorem linkView_raise (s : State) (src : Nat) (d : List Nat) : linkView (raise s src d) = linkView s := linkView_of_sides (by simp) (by simp)
@[simp] theorem linkView_cadd (s : State) (a n : Nat) : linkView (cadd s a n) = linkView s := rfl
@[simp] theorem linkView_cinc (s : State) (a : Nat) : linkView (cinc s a) = linkView s := rfl
@[simp] theorem linkView_send (s : State) (x : Sent) : linkView (send s x) = linkView s := rfl
@[simp] theorem linkView_freed (s : State) : linkView (freed s) = linkView s := rfl
@[simp] theorem linkView_setFrames (s : State) (p : Nat) (d : Dir) (l : List Frame) : linkView (setFrames s p d l) = linkView s := rfl
@[simp] theorem linkView_setSlot (s : State) (n : Nat) (e : SaEntry) : linkView (setSlot s n e) = linkView s := rfl
@[simp] theorem linkView_setMargin (s : State) (n : Nat) (b : Bool) : linkView (setMargin s n b) = linkView s := rfl
@[simp] theorem linkView_modFrame (s : State) (p : Nat) (d : Dir) (n : Nat) (g : Frame → Frame) : linkView (modFrame s p d n g) = linkView s := rfl
@[simp] theorem linkView_dropFrame (s : State) (p : Nat) (d : Dir) (n : Nat) : linkView (dropFrame s p d n) = linkView s := rfl
@[simp] theorem linkView_passFrame (s : State) (p : Nat) (d : Dir) (f : Frame) (out : List Byte) : linkView (passFrame s p d f out) = linkView s := rfl
@[simp] theorem linkView_recordErr (s : State) (v : Nat) (d : Dir) (f : Frame) (cls : Nat) : linkView (recordErr s v d f cls) = linkView s := by
  unfold recordErr
  exact linkView_of_sides rfl rfl

@[simp] theorem linkView_recZero (s : State) (b kind i : Nat) : linkView (recZero s b kind i) = linkView s := by
  unfold recZero
  split <;> rfl

@[simp] theorem linkView_recUpdate (s : State) (kind i : Nat) : linkView (recUpdate s kind i) = linkView s := by
  unfold recUpdate
  dsimp only
  split
  · rfl
  · rw [linkView_raise]
    rfl
  · rw [linkView_raise]
    exact linkView_recZero _ _ _ _

@[simp] theorem linkView_saAdd (s : State) (slot idx n : Nat) : linkView (saAdd s slot idx n) = linkView s := by
  unfold saAdd
  dsimp only
  split
  · rfl
  · exact linkView_recUpdate s 0 slot

@[simp] theorem linkView_domAdd (s : State) (d idx n : Nat) : linkView (domAdd s d idx n) = linkView s := by
  unfold domAdd
  dsimp only
  split
  · rfl
  · exact linkView_recUpdate s 1 d

/-! ### Sides and the pauses they assert -/

/-- A view with one side's link state put in place. -/
def moveLink (v : Tbl W32 × (Nat → Side → Link)) (p : Nat) (d : Side) (st : Link) : Tbl W32 × (Nat → Side → Link) :=
  (v.1, fun q c => if (q, c) = (p, d) then st else v.2 q c)

theorem moveLink_self {v : Tbl W32 × (Nat → Side → Link)} {p : Nat} {d : Side} {st : Link} (h : v.2 p d = st) : moveLink v p d st = v := by
  refine Prod.ext rfl (funext₂ fun q c => ?_)
  dsimp only [moveLink]
  split
  next e => cases e; exact h.symm
  · rfl

theorem linkView_setSide_move (s : State) (p : Nat) (d : Side) (x : SideSt) : linkView (setSide s p d x) = moveLink (linkView s) p d x.link := by
  refine Prod.ext rfl (funext₂ fun q c => ?_)
  simp only [linkView, moveLink, sideOf_setSide_if, apply_ite SideSt.link]

/-- A side stored with the link state that it had. -/
theorem linkView_setSide {s : State} {p : Nat} {d : Side} {x : SideSt} (h : x.link = (sideOf s p d).link) :
    linkView (setSide s p d x) = linkView s := by
  rw [linkView_setSide_move, moveLink_self h.symm]

@[simp] theorem linkView_sendPause (s : State) (p : Nat) (d : Dir) (was now : Nat) : linkView (sendPause s p d was now) = linkView s := by
  simp [sendPause]

@[simp] theorem wantPause_link (s : State) (p : Nat) (d : Dir) : (wantPause s p d).link = (sideOf s p (inSide d)).link := by
  unfold wantPause
  dsimp only
  split <;> rfl

@[simp] theorem linkView_pauseUpdate (s : State) (p : Nat) (d : Dir) : linkView (pauseUpdate s p d) = linkView s := by
  unfold pauseUpdate
  dsimp only
  split <;> simp [linkView_setSide]

@[simp] theorem linkView_releasePause (s : State) (p : Nat) (d : Dir) : linkView (releasePause s p d) = linkView s := by
  unfold releasePause
  dsimp only
  split_ifs <;> simp [linkView_setSide]

/-! ### Fates and verdicts -/

@[simp] theorem linkView_countStomped (s : State) (p : Nat) (d : Dir) (f : Frame) : linkView (countStomped s p d f) = linkView s := by
  unfold countStomped
  split <;> simp

@[simp] theorem linkView_countDrop (s : State) (p : Nat) (d : Dir) (f : Frame) : linkView (countDrop s p d f) = linkView s := by
  unfold countDrop
  dsimp only
  split
  · simp
  · split <;> simp

@[simp] theorem linkView_endFrame (s : State) (p : Nat) (d : Dir) (n : Nat) : linkView (endFrame s p d n) = linkView s := by simp [endFrame]

@[simp] theorem linkView_runDescriptors (k : Nat) (s : State) (p : Nat) (d : Dir) : linkView (runDescriptors k s p d) = linkView s := by
  induction k generalizing s with
  | zero => rfl
  | succ k ih =>
    unfold runDescriptors
    split
    · split
      case h_1 | h_2 =>
        rw [ih]
        split <;> simp
      · rfl
    · rfl

@[simp] theorem linkView_headRun (s : State) (p : Nat) (d : Dir) : linkView (headRun s p d) = linkView s := linkView_runDescriptors _ s p d

@[simp] theorem linkView_dropWhole (s : State) (p : Nat) (d : Dir) (f : Frame) : linkView (dropWhole s p d f) = linkView s := by
  unfold dropWhole
  rw [linkView_headRun, linkView_cinc, linkView_endFrame]
  split <;> rfl

@[simp] theorem linkView_stompDrop (s : State) (p : Nat) (d : Dir) (f : Frame) (how : Fate) (out : List Byte) :
    linkView (stompDrop s p d f how out) = linkView s := by
  unfold stompDrop
  split <;> simp

@[simp] theorem linkView_icvFailure (s : State) (v : Nat) : linkView (icvFailure s v) = linkView s := by
  unfold icvFailure
  dsimp only
  split
  · rw [linkView_raise]
    rfl
  · rfl

@[simp] theorem linkView_icvFail (s : State) (p : Nat) (f : Frame) (cls : Nat) : linkView (icvFail s p f cls) = linkView s := by simp [icvFail]

@[simp] theorem linkView_raiseNextPn (s : State) (n pn : Nat) : linkView (raiseNextPn s n pn) = linkView s := by
  unfold raiseNextPn
  dsimp only
  split <;> simp

@[simp] theorem linkView_verdictTx (s : State) (p : Nat) (f : Frame) : linkView (verdictTx s p f) = linkView s := by
  simp [verdictTx]

@[simp] theorem linkView_verdictBypass (s : State) (p : Nat) (d : Dir) (f : Frame) : linkView (verdictBypass s p d f) = linkView s := by
  unfold verdictBypass
  dsimp only
  split
  · simp
  · split <;> simp

@[simp] theorem linkView_verdictRx (s : State) (p : Nat) (f : Frame) : linkView (verdictRx s p f) = linkView s := by
  unfold verdictRx
  dsimp only
  split_ifs <;> simp

/-- Every branch of a verdict is a chain of the operations above. -/
@[simp] theorem linkView_tryVerdict (s : State) (p : Nat) (d : Dir) : linkView (tryVerdict s p d) = linkView s := by
  unfold tryVerdict
  dsimp only
  repeat' split
  all_goals simp

@[simp] theorem linkView_faultSide (s : State) (p : Nat) (d : Side) : linkView (faultSide s p d) = linkView s := by
  unfold faultSide
  dsimp only
  split_ifs <;> simp [linkView_setSide]

@[simp] theorem linkView_faultUpdate (s : State) (p : Nat) : linkView (faultUpdate s p) = linkView s := by simp [faultUpdate]

@[simp] theorem linkView_outDown (s : State) (p : Nat) (d : Dir) (f : Frame) : linkView (outDown s p d f) = linkView s := by
  unfold outDown
  split_ifs
  · rfl
  all_goals simp

theorem linkView_foldl {α : Type} {g : State → α → State} (hg : ∀ s a, linkView (g s a) = linkView s) (l : List α) (s : State) :
    linkView (l.foldl g s) = linkView s := by
  induction l generalizing s with
  | nil => rfl
  | cons a l ih => rw [List.foldl_cons, ih, hg]

@[simp] theorem linkView_discardOut (s : State) (p : Nat) (d : Dir) : linkView (discardOut s p d) = linkView s := by
  unfold discardOut
  dsimp only
  rw [linkView_headRun, linkView_foldl fun t f => linkView_outDown t p d f]
  rfl

@[simp] theorem linkView_inputLost (s : State) (p : Nat) (sd : Side) : linkView (inputLost s p sd) = linkView s := by
  unfold inputLost
  dsimp only
  split
  · rfl
  · split_ifs <;> simp [linkView_setSide]

@[simp] theorem linkView_sideLeaves (s : State) (p : Nat) (sd : Side) : linkView (sideLeaves s p sd) = linkView s := by
  simp [sideLeaves, linkView_setSide]

/-- A move of a side changes its own link state; what follows the move changes none (R32). -/
theorem linkView_linkTo (s : State) (p : Nat) (sd : Side) (st : Link) : linkView (linkTo s p sd st) = moveLink (linkView s) p sd st := by
  unfold linkTo
  dsimp only
  split
  next h => exact (moveLink_self h).symm
  · split_ifs <;> simp [linkView_setSide_move]

theorem linkTo_regs (s : State) (p : Nat) (sd : Side) (st : Link) : (linkTo s p sd st).regs = s.regs :=
  congrArg Prod.fst (linkView_linkTo s p sd st)

theorem linkTo_link (s : State) (p q : Nat) (sd d : Side) (st : Link) :
    (sideOf (linkTo s p sd st) q d).link = if (q, d) = (p, sd) then st else (sideOf s q d).link :=
  congrFun₂ (congrArg Prod.snd (linkView_linkTo s p sd st)) q d

/-- Settles O13: of a side's move and what follows it, only the move itself changes a link state (`linkView_linkTo`). -/
theorem linkMoves : Obligations.LinkMoves := by
  intro s p sd st _
  refine ⟨?_, fun q d _ h => ?_⟩
  · rw [linkTo_link, if_pos rfl]
  · rw [linkTo_link, if_neg h]

end Sys2Proof.Proofs
end

section
/-! Ports: frames in and out, and flow control (R38 to R50). -/

namespace Sys2Proof.Proofs

open Sys2Proof Sys2Proof.Machine Sys2Proof.Safety

/-- A command to the dies that run gives the state that its own effect gives (R512, R537). -/
theorem exec_powered {i : Instr} {s t u : State} (hr : runs s = true) (he : exec i s = powered s t) (ht : t = u) : exec i s = .next u := by
  rw [he, powered_runs hr, ht]

@[simp] theorem sideLimit_setSide (s : State) (p q : Nat) (c d : Side) (x : SideSt) : sideLimit (setSide s p c x) q d = sideLimit s q d := by
  cases d <;> rfl

/-- Frames in and out at a port, each clause by the checks of its command that the premises answer (R38, R41, R42, R53, R147). -/
theorem framesInAndOut : Claims.FramesInAndOut := by
  intro s p sd d pcp octets r f
  dsimp only
  intro hr
  refine ⟨?admitted, ?full, ?down, ?last, ?leaves, ?control⟩
  case admitted =>
    intro hp hn ⟨hu, hu'⟩ hroom
    refine exec_powered hr rfl ?_
    simp [frameArrive, hp, hn, hu, hu', hroom]
  case full =>
    intro hp hn ⟨hu, hu'⟩ hroom
    refine exec_powered hr rfl ?_
    simp [frameArrive, hp, hn, hu, hu', hroom]
  case down =>
    intro hp hn hu
    refine exec_powered hr rfl ?_
    simpa [frameArrive, hp, hn] using fun h h' => absurd ⟨h, h'⟩ hu
  case last =>
    intro hrecv hseq hc hpunt hlen
    refine exec_powered hr rfl ?_
    simp [frameEnds, hrecv, hseq, hc, hpunt, Nat.not_lt.mpr hlen, List.take_of_length_le hlen]
  case leaves =>
    intro hh hf hs he hi
    refine exec_powered hr rfl ?_
    simp [txComplete, hh, hf, hs, he, hi]
  case control =>
    intro hp hu
    refine exec_powered hr rfl ?_
    simp [macControl, hp, hu, macSrc]

/-- Pauses asserted and received (R44 to R46). -/
theorem pauses : Claims.Pauses := by
  intro s p sd classes quanta
  dsimp only
  intro hr
  refine ⟨?refresh, ?stops, ?ignored, ?passes⟩
  case refresh =>
    intro hm hq hu
    refine ⟨_, exec_powered hr rfl rfl, ?_⟩
    simp [pauseRefresh, hm, hq, hu]
  case stops =>
    intro hp hu hh hc
    refine ⟨_, exec_powered hr rfl rfl, ?_⟩
    cases sd <;> dsimp only at hh <;> simp [pauseReceive, hp, hu, hh, hc]
  case ignored =>
    intro hp hu hh
    refine ⟨_, exec_powered hr rfl rfl, ?_⟩
    cases sd <;> dsimp only at hh <;> simp [pauseReceive, hp, hu, hh]
  case passes =>
    exact ⟨_, exec_powered hr rfl rfl, sideOf_setSide ..⟩

/-- Settles O14: frames at a port, and its pauses. -/
theorem framesAndPauses : Obligations.FramesAndPauses := ⟨framesInAndOut, pauses⟩

end Sys2Proof.Proofs
end

section
/-! Ports: their configuration, and the power of blocks and sides (R35, R43, R51, R52). -/

namespace Sys2Proof.Proofs

open Sys2Proof Sys2Proof.Machine Sys2Proof.Safety

/-! ### The change of POWER (R54) -/

@[simp] theorem powerEvent_regs (old s : State) (b : Nat) : (powerEvent old s b).regs = s.regs := by
  unfold powerEvent
  split <;> simp

@[simp] theorem powerEvent_sram (old s : State) (b : Nat) : (powerEvent old s b).sram = s.sram := by
  unfold powerEvent
  split <;> simp

@[simp] theorem powerEvent_line (old s : State) (b : Nat) : (powerEvent old s b).line = s.line := by
  unfold powerEvent
  split <;> simp

@[simp] theorem rget_powerEvent (old s : State) (b a : Nat) : rget (powerEvent old s b) a = rget s a := by simp [rget]
@[simp] theorem slotEn_powerEvent (old s : State) (b c : Nat) : slotEn (powerEvent old s b) c = slotEn s c := by simp [slotEn, rf]
@[simp] theorem sideOf_powerEvent (old s : State) (b p : Nat) (d : Side) : sideOf (powerEvent old s b) p d = sideOf s p d := by simp [sideOf]
@[simp] theorem blockOf_powerEvent (old s : State) (b c : Nat) : blockOf (powerEvent old s b) c = blockOf s c := by simp [blockOf]

/-! ### MODE and SLOT_EN of PB_CTL (R55) -/

theorem modeOf_putMode (s : State) (b : Nat) {m : Nat} (hm : m < 8) : modeOf (rsetf s (pbA b) 2 0 m) b = m := by
  simp [modeOf, rf, rsetf, fld, putFld, bitsOf, Nat.mod_eq_of_lt hm]
  omega

theorem slotEn_putMode (s : State) (b m : Nat) : slotEn (rsetf s (pbA b) 2 0 m) b = slotEn s b := by
  simp [slotEn, rf, rsetf, fld, putFld, bitsOf, Nat.shiftRight_eq_div_pow]
  omega

theorem slotEn_putSlotEn (s : State) (b : Nat) {n : Nat} (hn : n < 16) : slotEn (rsetf s (pbA b) 7 4 n) b = n := by
  simp [slotEn, rf, rsetf, fld, putFld, bitsOf, Nat.shiftRight_eq_div_pow, Nat.shiftLeft_eq, Nat.mod_eq_of_lt hn]
  omega

/-! ### A write of MODE (R43, R55) -/

theorem slotA_add (b : Nat) {i : Nat} (hi : i < 4) : slotA (4 * b + i) = pbA b + 0x100 + 0x100 * i := by
  have hb : (4 * b + i) / 4 = b := by omega
  have hm : (4 * b + i) % 4 = i := by omega
  rw [slotA, hb, hm]

theorem slotA_first (b : Nat) : slotA (4 * b) = pbA b + 0x100 := slotA_add b (i := 0) (by omega)

/-- A slot's defaults go to its six threshold registers alone. -/
theorem rget_slotDefaults_ne (s : State) {p a : Nat} (m : Nat) (h : a < slotA p + 0x08 ∨ slotA p + 0x1C < a) :
    rget (slotDefaults s p m) a = rget s a := by
  unfold slotDefaults
  dsimp only
  split
  all_goals repeat rw [rget_rset_ne _ _ (by omega)]

@[simp] theorem slotDefaults_sram (s : State) (p m : Nat) : (slotDefaults s p m).sram = s.sram := by
  unfold slotDefaults
  dsimp only
  split <;> simp only [rset_sram]

/-- The thresholds of a P400 slot (R43). -/
theorem slotDefaults_p400 (s : State) (p : Nat) : rget (slotDefaults s p 1) (slotA p + 0x08) = 0x38004000 ∧
    rget (slotDefaults s p 1) (slotA p + 0x0C) = 24576 ∧ rget (slotDefaults s p 1) (slotA p + 0x10) = 0x0E001000 ∧
    rget (slotDefaults s p 1) (slotA p + 0x14) = 8192 := by
  simp [slotDefaults, modeSlots, rget_rset_if, packFields, w32]

theorem modeLegal_le {s : State} {b m : Nat} (h : modeLegal s b m = true) : m ≤ 5 := by
  simp [modeLegal] at h
  omega

@[simp] theorem modeWrite_sram (s : State) (b m : Nat) : (modeWrite s b m).sram = s.sram := by
  unfold modeWrite
  split <;> simp [rsetf]

section
variable {s : State} {b m : Nat} (h : modeLegal s b m = true)
include h

/-- Below the thresholds of the block's second slot, a write of MODE puts MODE and the first slot's defaults. -/
theorem rget_modeWrite {a : Nat} (ha : a < slotA (4 * b + 1) + 0x08) :
    rget (modeWrite s b m) a = rget (slotDefaults (rsetf s (pbA b) 2 0 m) (4 * b) m) a := by
  have h1 := slotA_add b (i := 1) (by omega)
  have h2 := slotA_add b (i := 2) (by omega)
  have h3 := slotA_add b (i := 3) (by omega)
  simp only [modeWrite, h, if_true, rget_powerEvent]
  rw [rget_slotDefaults_ne _ _ (by omega), rget_slotDefaults_ne _ _ (by omega), rget_slotDefaults_ne _ _ (by omega)]

theorem rget_modeWrite_ctl : rget (modeWrite s b m) (pbA b) = rget (rsetf s (pbA b) 2 0 m) (pbA b) := by
  have h0 := slotA_first b
  have h1 := slotA_add b (i := 1) (by omega)
  rw [rget_modeWrite h (by omega), rget_slotDefaults_ne _ _ (by omega)]

theorem modeOf_modeWrite : modeOf (modeWrite s b m) b = m := by
  have hm := modeLegal_le h
  rw [modeOf, rf, rget_modeWrite_ctl h]
  exact modeOf_putMode s b (by omega)

theorem slotEn_modeWrite : slotEn (modeWrite s b m) b = slotEn s b := by
  rw [slotEn, rf, rget_modeWrite_ctl h]
  exact slotEn_putMode s b m

end

theorem modeWrite_p400 {s : State} {b : Nat} (h : modeLegal s b 1 = true) : rget (modeWrite s b 1) (slotA (4 * b) + 0x08) = 0x38004000 ∧
    rget (modeWrite s b 1) (slotA (4 * b) + 0x0C) = 24576 ∧ rget (modeWrite s b 1) (slotA (4 * b) + 0x10) = 0x0E001000 ∧
    rget (modeWrite s b 1) (slotA (4 * b) + 0x14) = 8192 := by
  have h0 := slotA_first b
  have h1 := slotA_add b (i := 1) (by omega)
  rw [rget_modeWrite h (by omega), rget_modeWrite h (by omega), rget_modeWrite h (by omega), rget_modeWrite h (by omega)]
  exact slotDefaults_p400 _ _

/-! ### A write of SLOT_EN in P400 (R27, R32, R55) -/

theorem portExists_p400 {s : State} {b : Nat} (h : modeOf s b = 1) : portExists s (4 * b) = true := by
  have hb : 4 * b / 4 = b := by omega
  simp [portExists, hb, h, modeSlots]

theorem portExists_p400_other {s : State} {b i : Nat} (h : modeOf s b = 1) (h0 : i ≠ 0) (hi : i < 4) : portExists s (4 * b + i) = false := by
  have hb : (4 * b + i) / 4 = b := by omega
  have hm : (4 * b + i) % 4 = i := by omega
  simp [portExists, hb, hm, h, h0, modeSlots]

theorem slotSet_link (s : State) (p : Nat) (on : Bool) (d : Side) :
    (sideOf (slotSet s p on) p d).link = if on then .waitSignal else .disabled := by
  cases d <;> simp [slotSet, linkTo_link]

@[simp] theorem slotEn_slotSet (s : State) (p : Nat) (on : Bool) (b : Nat) : slotEn (slotSet s p on) b = slotEn s b := by
  simp [slotSet, slotEn, rf, rget, linkTo_regs]

@[simp] theorem slotEn_setBlock (s : State) (b c : Nat) (x : BlockSt) : slotEn (setBlock s b x) c = slotEn s c := rfl

section
variable {s : State} {b mask : Nat} (hm : modeOf s b = 1)
include hm

theorem slotEnWrite_enable (he : slotEn s b = 0) (hk : mask.testBit 0 = true) :
    slotEnWrite s b mask = powerEvent s (slotSet (rsetf s (pbA b) 7 4 1) (4 * b) true) b := by
  simp [slotEnWrite, he, hk, portExists_p400 hm, portExists_p400_other hm, List.range_succ, Nat.testBit_succ]

theorem slotEnWrite_disable (he : slotEn s b = 1) (hk : mask.testBit 0 = false) :
    slotEnWrite s b mask = powerEvent s (setBlock (slotSet (rsetf s (pbA b) 7 4 0) (4 * b) false) b {}) b := by
  simp [slotEnWrite, he, hk, portExists_p400 hm, portExists_p400_other hm, List.range_succ, Nat.testBit_succ, isLead, hm]

end

/-! ### A write of PB_PCFG (R35) -/

@[simp] theorem faultUpdate_regs (s : State) (p : Nat) : (faultUpdate s p).regs = s.regs := congrArg Prod.fst (linkView_faultUpdate s p)

theorem and_mask_of_fld_zero {v : W32} (h : fld v 31 29 = 0) : v &&& 0x1FFFFFFF#32 = v := by
  have hv : v.toNat < 2 ^ 29 := by
    simp [fld, bitsOf, Nat.shiftRight_eq_div_pow] at h
    omega
  have hn : (0x1FFFFFFF#32).toNat = 2 ^ 29 - 1 := by decide
  apply BitVec.eq_of_toNat_eq
  rw [BitVec.toNat_and, hn, Nat.and_two_pow_sub_one_eq_mod, Nat.mod_eq_of_lt hv]

/-- A legal write that leaves FC and FC_LINE as they are stores the word, and Local Fault is compared afresh. -/
theorem pcfgWrite_same_fc {s : State} {p : Nat} {v : W32} (hl : pcfgLegal s p v = true) (hfc : fld v 15 13 = rf s (slotA p) 15 13)
    (hv : fld v 31 29 = 0) : pcfgWrite s p v = faultUpdate (rset s (slotA p) v) p := by
  simp [pcfgWrite, hl, hfc, hv, and_mask_of_fld_zero hv]

/-- Writes of MODE, SLOT_EN and PB_PCFG that the rules allow (R25, R32, R35, R43, R55). -/
theorem portConfiguration : Claims.PortConfiguration := by
  intro s b mask m p v hr
  refine ⟨fun hl => ?mode, fun hm he hk _ _ => ?enable, fun hm he hk _ _ => ?disable, fun hl hfc hv => ?pcfg⟩
  case mode =>
    refine ⟨_, exec_powered hr rfl rfl, modeOf_modeWrite hl, slotEn_modeWrite hl, modeWrite_sram s b m, ?_⟩
    rintro rfl
    exact modeWrite_p400 hl
  case enable =>
    refine ⟨_, exec_powered hr rfl (slotEnWrite_enable hm he hk), ?_, ?_, ?_⟩
    · simp [slotEn_putSlotEn]
    all_goals simp [slotSet_link]
  case disable =>
    refine ⟨_, exec_powered hr rfl (slotEnWrite_disable hm he hk), ?_, ?_, ?_⟩
    · simp [slotEn_putSlotEn]
    all_goals simp [slotSet_link]
  case pcfg =>
    refine ⟨_, exec_powered hr rfl (pcfgWrite_same_fc hl hfc hv), ?_, fun a ha => ?_⟩
    · simp [rget]
    · simp [rget, tget_tput_ne _ _ _ ha]

/-! ### Power (R51, R52, R58) -/

@[simp] theorem laneOf_setLane (s : State) (b n : Nat) (x : LaneSt) : laneOf (setLane s b n x) b n = x := tget_tput ..

/-- A lane's answered count is no less than the errors kept, up to the register's width. -/
theorem le_laneCount (s : State) (b n : Nat) (sym : Bool) :
    Nat.min 0xFFFFFFFF (if sym then (laneOf s b n).symErr else (laneOf s b n).patErr) ≤ laneCount s b n sym :=
  min_le_min_left _ (Nat.le_add_right _ _)

/-- Power of a port block, each clause by the checks of its command that the premises answer (R51, R52, R58). -/
theorem portPower : Claims.PortPower := by
  intro s b lane sym
  dsimp only
  intro hr
  refine ⟨fun hg ha hq => ?host, fun hg ha hq => ?line, fun hi => ?idle, fun hw => ?wake, fun sd hg => ?up, ?count⟩
  case host | line =>
    refine ⟨_, exec_powered hr rfl rfl, ?_⟩
    simp [gateSide, hg, ha, hq]
  case idle =>
    refine ⟨_, exec_powered hr rfl rfl, ?_⟩
    simp [blockIdle, hi]
  case wake =>
    refine ⟨_, exec_powered hr rfl rfl, ?_⟩
    simp [tillerWake, hw]
  case up =>
    refine exec_powered hr rfl ?_
    cases sd <;> simp [sidePowered, hg]
  case count =>
    exact ⟨_, exec_powered hr rfl rfl, _, rfl, le_laneCount s b lane sym, laneOf_setLane ..⟩

/-- Settles O15: the writes that configure a port block, and its power. -/
theorem portsConfigurationAndPower : Obligations.PortsConfigurationAndPower := ⟨portConfiguration, portPower⟩

end Sys2Proof.Proofs
end

section
/-! Services: what surrounds a call in order, and the services for steering, frames, ports and tillers (R276 to R278, R288). -/

namespace Sys2Proof.Proofs

open Sys2Proof Sys2Proof.Machine Sys2Proof.Safety

/-! ### Calls in order -/

/-- The command of a service whose call is in order gives the state that the service's own effect gives (R278). -/
theorem exec_inService {i : Instr} {s t : State} {h n : Nat} {op : Bool} {j : Job} {body : State → Job → Hart → State}
    (he : exec i s = ok (svcCall s h n op body)) (hs : InService s h n op j) (ht : body s j (hartOf s h) = t) : exec i s = .next t := by
  rw [he, svcCall_in hs, ht, ok]

/-- With a session on the culm a service does not wait for one (R277). -/
theorem needCulm_session {s : State} (hc : s.culm.session = true) (h : Nat) (j : Job) (body : State → State) : needCulm s h j body = body s :=
  if_pos hc

/-! ### Steering, frames, ports and tillers -/

/-- An entry goes to a vacant place of its key where there is one (R63, R64). -/
theorem emInsert_vacant {s : State} {b i : Nat} {l : List W32} (h : emVacant s b (emKey l) = some i) : emInsert s b l = some (emStore s b i l, i) := by
  unfold emInsert
  rw [h]

/-- A grant that no other domain holds is not refused for another's (R81). -/
theorem grants_free {s : State} {g : SteerGrant} {d : Nat}
    (h : ∀ k ∈ s.ord.grants, k.stage = g.stage → k.slot = g.slot → k.key = g.key → k.dom = d) :
    s.ord.grants.any (fun k => k.stage == g.stage && k.slot == g.slot && k.key == g.key && k.dom != d) = false := by
  simpa [and_imp] using h

/-- Settles O32: each service in order passes the checks of its own that the premises answer, one by one. -/
theorem steeringServices : Obligations.SteeringServices := by
  intro s h j i g f r
  dsimp only
  intro hc
  refine ⟨?emAdd, ?emDel, ?queryNone, ?queryFound, ?ruleAdd, ?ruleDel, ?grant, ?send, ?recv, ?status, ?cfg, ?tiller⟩
  case emAdd =>
    intro hs hst hin hv hl hr hx hk hn hq hi
    refine exec_inService rfl hs ?_
    simp [svcEmAdd, needCulm_session hc, emInsert_vacant hi, hst, hin, hv, hl, hr, hx, hk, Nat.not_le.mpr hn, Nat.not_le.mpr hq]
  case emDel =>
    intro hs hst hi hl hd
    refine exec_inService rfl hs ?_
    simpa [svcEmDel, needCulm_session hc, hst, hl, Nat.not_le.mpr hi] using fun h0 h1 => absurd (hd.resolve_left h0) h1
  case queryNone =>
    intro hs hb hi ho hk hx
    refine exec_inService rfl hs ?_
    simp [svcSteerQuery, needCulm_session hc, hi, ho, hx, Nat.not_le.mpr hb, Nat.not_lt.mpr hk]
  case queryFound =>
    intro hs hb hi ho hk hx hd
    refine exec_inService rfl hs ?_
    simpa [svcSteerQuery, needCulm_session hc, hi, ho, hx, Nat.not_le.mpr hb, Nat.not_lt.mpr hk] using fun h0 h1 => absurd (hd.resolve_left h0) h1
  case ruleAdd =>
    intro hs hst hin hv hl hlo hhi hr he hq
    refine exec_inService rfl hs ?_
    have hw : svcArg (hartOf s h) 4 ≠ 255 := hhi.ne
    simp [svcRuleAdd, needCulm_session hc, hst, hin, hv, hl, hr, he, hw, Nat.not_lt.mpr hlo, Nat.not_lt.mpr hhi.le, Nat.not_le.mpr hq]
  case ruleDel =>
    intro hs hst hlo hhi hl hd
    refine exec_inService rfl hs ?_
    simpa [svcRuleDel, needCulm_session hc, hst, hl, Nat.not_lt.mpr hlo, Nat.not_le.mpr hhi] using fun h0 h1 => absurd (hd.resolve_left h0) h1
  case grant =>
    intro hs hd hin hg hk hb
    refine exec_inService rfl hs ?_
    simp [svcSteerGrant, hin, hg, grants_free hk, hb, Nat.not_le.mpr hd]
  case send =>
    intro hs hb hlo hhi hin ha hr hw hp
    refine exec_inService rfl hs ?_
    simp [svcFrameSend, needCulm_session hc, hin, ha, hr, hw, hp, Nat.not_le.mpr hb, Nat.not_lt.mpr hlo, Nat.not_lt.mpr hhi]
  case recv =>
    intro hs hp hin
    refine exec_inService rfl hs ?_
    simp [svcFrameRecv, hp, hin]
  case status =>
    intro hs hp hr
    refine exec_inService rfl hs ?_
    simp [svcPortStatus, needCulm_session hc, hr, Nat.not_le.mpr hp]
  case cfg =>
    intro hs hb hin hg hp hh
    refine exec_inService rfl hs ?_
    simp [svcPortCfg, needCulm_session hc, hin, hg, hh, Nat.not_le.mpr hb, Nat.not_lt.mpr hp]
  case tiller =>
    intro hs hb ho
    refine exec_inService rfl hs ?_
    simp [svcTillerCmd, needCulm_session hc, hb, ho]

end Sys2Proof.Proofs
end

section
/-! Steering: the tables of a stage and their commands (R63 to R78). -/

namespace Sys2Proof.Proofs

open Sys2Proof Sys2Proof.Machine Sys2Proof.Safety

/-! ### Consecutive registers -/

theorem rget_rsets_lt {a b : Nat} (h : b < a) (l : List W32) (s : State) : rget (rsets s a l) b = rget s b := by
  induction l generalizing s a with
  | nil => rfl
  | cons w l ih => rw [rsets, ih (by omega), rget_rset_ne s w (by omega)]

/-- Consecutive registers read as the words stored there. -/
theorem rget_rsets {l : List W32} {i : Nat} (h : i < l.length) (s : State) (a : Nat) : rget (rsets s a l) (a + 4 * i) = l[i] := by
  induction l generalizing s a i with
  | nil => exact absurd h (Nat.not_lt_zero i)
  | cons w l ih =>
    cases i with
    | zero => exact (rget_rsets_lt (by omega) l _).trans (rget_rset s a w)
    | succ i =>
      have ha : a + 4 * (i + 1) = a + 4 + 4 * i := by omega
      rw [ha, rsets, ih (Nat.lt_of_succ_lt_succ h), List.getElem_cons_succ]

/-- A buffer of `n` registers after an entry's words are copied there. -/
theorem rget_copied {n i : Nat} (h : i < n) (s : State) (a : Nat) (l : List W32) :
    rget (rsets s a ((List.range n).map (fun k => wordAt l k))) (a + 4 * i) = wordAt l i := by
  rw [rget_rsets (by simpa using h), List.getElem_map, List.getElem_range]

theorem rf_lt (s : State) (a m l : Nat) : rf s a m l < 2 ^ (m + 1 - l) := Nat.mod_lt _ (Nat.two_pow_pos _)

/-! ### Entries and rules stored (R63, R65, R68) -/

theorem emEntry_emStore (s : State) (b i : Nat) (l : List W32) :
    emEntry (emStore s b i l) b i = if bitAt (wordAt l 0).toNat 0 then l else [] := tget_tput ..

theorem emEntry_emStore_ne (s : State) {b c i k : Nat} (l : List W32) (h : (c, k) ≠ (b, i)) (hi : i < 4096) (hk : k < 4096) :
    emEntry (emStore s b i l) c k = emEntry s c k := by
  refine tget_tput_ne _ _ _ fun e => h ?_
  ext <;> dsimp only <;> omega

theorem ruleEntry_ruleStore (s : State) (b i : Nat) (l : List W32) :
    ruleEntry (ruleStore s b i l) b i = if bitAt (wordAt l 16).toNat 0 then l else [] := tget_tput ..

theorem ruleEntry_ruleStore_ne (s : State) {b c i k : Nat} (l : List W32) (h : (c, k) ≠ (b, i)) (hi : i < 256) (hk : k < 256) :
    ruleEntry (ruleStore s b i l) c k = ruleEntry s c k := by
  refine tget_tput_ne _ _ _ fun e => h ?_
  ext <;> dsimp only <;> omega

/-! ### The commands of the tables -/

theorem rget_emRead (s : State) (b : Nat) {i : Nat} (h : i < 8) :
    rget (emRead s b) (stA b + 0x400 + 4 * i) = wordAt (emEntry s (leadStage s b) (rf s (stA b + 0x420) 11 0)) i := by
  rw [emRead, rget_copied h]

theorem exec_ruleRead (b : Fin 16) (s : State) : exec (.ruleRead b) s = powered s (rsets s (stA b + 0x500)
    ((List.range 20).map (fun k => wordAt (ruleEntry s (leadStage s b) (rf s (stA b + 0x550) 7 0)) k))) := rfl

theorem exec_emHash (b : Fin 16) (s : State) : exec (.emHash b) s =
    powered s (rset s (stA b + 0x428) (Config.emHash (emKey (rgets s (stA b + 0x400) 8)) (seedOf s (leadStage s b)))) := rfl

section
variable {s : State} {b : Nat} (hp : isPairStage s b = false)
include hp

/-- On a stage that is not its pair's second, with the seed written, an entry that is legal or not valid is stored (R65, R73, R78). -/
theorem emWrite_stores (hk : tget (fun _ => false) s.locks (stA b + 8) = true)
    (hl : bitAt (wordAt (rgets s (stA b + 0x400) 8) 0).toNat 0 = false ∨ emLegal (rgets s (stA b + 0x400) 8) = true) :
    emWrite s b = emStore s b (rf s (stA b + 0x420) 11 0) (rgets s (stA b + 0x400) 8) := by
  simp [emWrite, hp, hk, hl]

theorem ruleWrite_stores (hl : ruleLegal (rgets s (stA b + 0x500) 20) = true) :
    ruleWrite s b = ruleStore s b (rf s (stA b + 0x550) 7 0) (rgets s (stA b + 0x500) 20) := by
  simp [ruleWrite, hp, hl]

end

/-- Settles O16: the reads by what a copied buffer holds (`rget_copied`), the writes by where an entry or rule stored stands. -/
theorem steeringTables : Obligations.SteeringTables := by
  intro s b sc an hr
  dsimp only
  refine ⟨?emRead, ?ruleRead, ?emWrite, ?emClear, ?ruleWrite, ?hash, ?txan⟩
  case emRead => exact ⟨_, exec_powered hr rfl rfl, fun i => rget_emRead s b⟩
  case ruleRead => exact ⟨_, exec_powered hr (exec_ruleRead b s) rfl, fun i hi => rget_copied hi ..⟩
  case emWrite =>
    intro hp hk hl hv
    refine ⟨_, exec_powered hr rfl (emWrite_stores hp hk (.inr hl)), ?_, fun c i h => emEntry_emStore_ne s _ h (rf_lt ..), rfl⟩
    rw [emEntry_emStore, if_pos hv]
  case emClear =>
    intro hp hk hv
    refine ⟨_, exec_powered hr rfl (emWrite_stores hp hk (.inl hv)), (emEntry_emStore ..).trans (if_neg ?_)⟩
    simp [hv]
  case ruleWrite =>
    intro hp hl hv
    refine ⟨_, exec_powered hr rfl (ruleWrite_stores hp hl), ?_, fun c i h => ruleEntry_ruleStore_ne s _ h (rf_lt ..), rfl⟩
    rw [ruleEntry_ruleStore, if_pos hv]
  case hash => exact ⟨_, exec_powered hr (exec_emHash b s) rfl, rget_rset .., rset_line ..⟩
  case txan => exact ⟨_, exec_powered hr rfl rfl, tget_tput .., fun n => tget_tput_ne _ _ _⟩

end Sys2Proof.Proofs
end

section
/-! Steering: how a head resolves (R59 to R73). -/

namespace Sys2Proof.Proofs

open Sys2Proof Sys2Proof.Machine Sys2Proof.Safety

/-! ### A head presented (R59) -/

theorem exec_frameHeadResolve {s : State} {octets : List Byte} (hr : runs s = true) (hl : octets.length = 64) (p : Fin 64) (sd : Side) (e : Option Bool) :
    exec (.frameHeadResolve p sd octets e) s = .next (headResolve s p sd octets e) := (if_pos hl).trans (powered_runs hr _)

/-- A head whose frame waits for it is placed by what it resolves to, or dropped where it resolves to nothing (R59, R62, R143). -/
theorem resolution : Claims.Resolution := by
  intro s p sd octets x
  dsimp only
  intro hr hl hrecv hf
  refine ⟨fun hx => ?placed, fun hx => ?dropped⟩
  case placed | dropped =>
    refine (exec_frameHeadResolve hr hl p sd none).trans (congrArg _ ?_)
    simp [headResolve, hrecv, hf, hx]

/-! ### The order of R70 -/

/-- The key types that ST_SCFG_s selects for a direction. -/
def selOf (s : State) (cfg : Nat) (d : Dir) : Nat := match d with | .egress => rf s cfg 4 0 | .ingress => rf s cfg 9 5

/-- The default action that ST_SCFG_s gives a direction. -/
def defaultAct (s : State) (cfg : Nat) (d : Dir) : Nat := match d with | .egress => rf s cfg 11 10 | .ingress => rf s cfg 13 12

/-- The result of a hit: word `i` of the entry or rule that hit, with the cookie after it. -/
def hitAt (i : Nat) (l : List W32) : Result := ⟨wordAt l i, wordAt l (i + 1), false⟩

/-- The result of a slot's default: its action and its domain. -/
def defaultResult (s : State) (cfg : Nat) (d : Dir) : Result := ⟨w32 (packFields [(defaultAct s cfg d, 0), (rf s cfg 27 16, 3)]), 0, true⟩

theorem defaultAct_lt (s : State) (cfg : Nat) (d : Dir) : defaultAct s cfg d < 4 := by
  cases d <;> exact rf_lt ..

/-- An action and a domain packed into a result word read back. -/
theorem fld_packed {v w : Nat} (hv : v < 8) (hw : w < 4096) :
    fld (w32 (packFields [(v, 0), (w, 3)])) 2 0 = v ∧ fld (w32 (packFields [(v, 0), (w, 3)])) 14 3 = w := by
  simp [fld, w32, packFields, bitsOf, Nat.shiftRight_eq_div_pow, Nat.shiftLeft_eq]
  omega

theorem fld_defaultResult (s : State) (cfg : Nat) (d : Dir) :
    fld (defaultResult s cfg d).word 2 0 = defaultAct s cfg d ∧ fld (defaultResult s cfg d).word 14 3 = rf s cfg 27 16 :=
  fld_packed ((defaultAct_lt s cfg d).trans (by decide)) (rf_lt ..)

section
variable {s : State} {lead slot : Nat} {d : Dir} {p : Parse}

theorem resolve_class0 {r : List W32} (h : ruleFind s lead 0 (ruleKey p (dirNum d) slot (free s)) = some r) :
    resolve s lead d slot p = some (hitAt 17 r) := by
  simp [resolve, h, hitAt]

variable (h0 : ruleFind s lead 0 (ruleKey p (dirNum d) slot (free s)) = none)
include h0

theorem resolve_malformed (hd : d = .ingress) (hm : p.malformed = true) : resolve s lead d slot p = none := by
  simp only [resolve, h0]
  exact if_pos ⟨hd, hm⟩

/-- Below the rules of class 0 the first of these gives the result: an exact match, a rule of class 1, the slot's default. -/
theorem resolve_below_class0 (hm : d = .egress ∨ p.malformed = false) : resolve s lead d slot p =
    some (((emLookup s lead p d slot (selOf s (stA lead + 0x100 + 0x40 * slot) d)).map (hitAt 4)).or
      ((ruleFind s lead 1 (ruleKey p (dirNum d) slot (free s))).map (hitAt 17)) |>.getD (defaultResult s (stA lead + 0x100 + 0x40 * slot) d)) := by
  have hm' : ¬(d = .ingress ∧ p.malformed = true) := by
    rintro ⟨rfl, h⟩
    simp [h] at hm
  simp only [resolve, h0, if_neg hm']
  cases d
  all_goals
    simp only [selOf, defaultResult, defaultAct]
    split
    next e he => simp [he, hitAt]
    next he =>
      rw [he]
      split
      next r hr => simp [hr, hitAt]
      next hr => simp [hr]

end

/-- Each clause is the first stage of R70 that answers. -/
theorem resolutionOrder : Claims.ResolutionOrder := by
  intro s lead d slot p r e r1
  dsimp only
  refine ⟨resolve_class0, resolve_malformed, fun h0 hm he => ?exact, fun h0 hm he h1 => ?class1, fun h0 hm he h1 => ?default⟩
  all_goals
    have hl : emLookup s lead p d slot (selOf s (stA lead + 0x100 + 0x40 * slot) d) = _ := he
    rw [resolve_below_class0 h0 hm, hl]
  case exact => rfl
  case class1 => rw [h1]; rfl
  case default =>
    obtain ⟨ha, hd⟩ := fld_defaultResult s (stA lead + 0x100 + 0x40 * slot) d
    rw [h1]
    exact ⟨_, rfl, rfl, rfl, ha, hd⟩

/-- Settles O17: what a head resolves to places it (`resolution`), and R70's order chooses that (`resolve_below_class0`). -/
theorem resolutionInOrder : Obligations.ResolutionInOrder := ⟨resolution, resolutionOrder⟩

end Sys2Proof.Proofs
end

section
/-! Services: channels, associations and their counters (R288 to R291, R304, R311). -/

namespace Sys2Proof.Proofs

open Sys2Proof Sys2Proof.Machine Sys2Proof.Safety

/-- While the source can draw, a service has its random octets at once (R277). -/
theorem needRandom_drawn {s : State} (hd : canDraw s = true) (h : Nat) (j : Job) (n : Nat) (body : State → List Byte → State) :
    needRandom s h j n body = body (drewOctets s n) (drawOctets s n) := if_pos hd

/-- Settles O31: each service in order passes the checks of its own that the premises answer, one by one. -/
theorem channelServices : Obligations.ChannelServices := by
  intro s h j
  dsimp only
  intro hc
  refine ⟨?alloc, ?free, ?modify, ?install, ?erase, ?switch, ?read, ?exported, ?cnt, ?domCnt⟩
  case alloc =>
    intro hs hn hi hg hf hq
    refine exec_inService rfl hs ?_
    have hw : svcArg (hartOf s h) 2 / 65536 ≠ 0xFFFF := by omega
    simp [svcScAlloc, needCulm_session hc, hi, hg, hf, hw, Nat.not_le.mpr hn, Nat.not_le.mpr hq]
  case free =>
    intro hs hn hst hv hx
    refine exec_inService rfl hs ?_
    simp [svcScFree, scRelease, hst, hv, hx, Nat.not_le.mpr hn]
  case modify =>
    intro hs hn hi hg hst hv
    refine exec_inService rfl hs ?_
    simp [svcScModify, needCulm_session hc, hi, hg, hst, hv, Nat.not_le.mpr hn]
  case install =>
    intro hs hn hi hg ha hl hr hk hh hx hb hu hq hd hbu hdr
    refine exec_inService rfl hs ?_
    have htx : saDir (svcArg (hartOf s h) 2) ≠ 1 := by omega
    simp [svcSaInstall, needCulm_session hc, needRandom_drawn hdr, hi, hg, ha, hl, hr, hk, hh, hx, hb, hu, htx, hbu, Nat.not_le.mpr hn, Nat.not_le.mpr hq]
  case erase =>
    intro hs hn hr hx hu hv hb h0 h1 hf
    refine exec_inService rfl hs ?_
    simp [svcSaErase, needCulm_session hc, hr, hx, hu, hv, hb, h0, h1, Nat.not_le.mpr hn, Nat.not_le.mpr hf]
  case switch =>
    intro hs hn ha hr hv
    refine exec_inService rfl hs ?_
    simp [svcSaSwitch, needCulm_session hc, hr, hv, Nat.not_le.mpr hn, Nat.not_le.mpr ha]
  case read =>
    intro hs hn hr hx hb
    refine exec_inService rfl hs ?_
    simp [svcSaRead, needCulm_session hc, hr, hx, hb, Nat.not_le.mpr hn]
  case exported =>
    intro hs hn ha hi hr hk he hx hcp
    refine exec_inService rfl hs ?_
    simp [svcSaExport, ha, hi, hr, hk, he, hx, hcp, Nat.not_le.mpr hn]
  case cnt =>
    intro hs hn hi hr
    refine exec_inService rfl hs ?_
    simp [svcCntRead, needCulm_session hc, hi, hr, Nat.not_le.mpr hn]
  case domCnt =>
    intro hs hi
    refine exec_inService rfl hs ?_
    simp [svcDomCntRead, needCulm_session hc, hi]

end Sys2Proof.Proofs
end

section
/-! The whole machine: every command completes. -/

namespace Sys2Proof.Proofs

open Sys2Proof Sys2Proof.Machine Sys2Proof.Safety

theorem puntAgeExpiry_completes (b : Fin 16) (s : State) : Completes (.puntAgeExpiry b) s := by
  show ∃ t, execPuntAgeExpiry b s = .next t
  unfold execPuntAgeExpiry
  split <;> exact ⟨_, rfl⟩

theorem tillerBlockRelease_completes (t : Fin 72) (miss : Option Bool) (cnt : Ecc) (s : State) : Completes (.tillerBlockRelease t miss cnt) s := by
  show ∃ u, execTillerBlockRelease t miss cnt s = .next u
  unfold execTillerBlockRelease
  split
  · exact ⟨_, rfl⟩
  · split <;> exact ⟨_, rfl⟩

theorem stepChangeComplete_completes (s : State) : Completes .stepChangeComplete s := by
  show ∃ t, execStepChangeComplete s = .next t
  unfold execStepChangeComplete
  split <;> exact ⟨_, rfl⟩

/-- Settles O56: a command's meaning is one next state, but for three that branch first and one that takes no octets but a frame's first 64. -/
theorem everyCommandCompletes : Obligations.EveryCommandCompletes := by
  intro c s hl
  cases c
  case frameHeadResolve p d l e => exact ⟨_, if_pos (hl p d l e rfl)⟩
  case puntAgeExpiry b => exact puntAgeExpiry_completes b s
  case tillerBlockRelease t miss cnt => exact tillerBlockRelease_completes t miss cnt s
  case stepChangeComplete => exact stepChangeComplete_completes s
  all_goals exact ⟨_, rfl⟩

end Sys2Proof.Proofs
end

section
/-! The granary's slots: the SAs they hold (R74, R161) and the remask walker (R169). -/

namespace Sys2Proof.Proofs

open Sys2Proof Sys2Proof.Machine Sys2Proof.Safety

/-! ### Slots and SAs -/

theorem slotFor_egress (s : State) (f : Frame) : slotFor s f .egress = scSlot 0 f.sc + txAnOf s f.sc := by
  simp [slotFor, scSlot]

theorem slotFor_ingress (s : State) (f : Frame) : slotFor s f .ingress = scSlot 1 f.sc + (parseFrame s f.stg f.octets).tci % 4 := rfl

/-- The slot of an AN of an SC gives both back (R161). -/
theorem scSlot_split (dir sc : Nat) {an : Nat} (h : an < 4) :
    (scSlot dir sc + an - 32768 * dir) / 4 = sc ∧ (scSlot dir sc + an - 32768 * dir) % 4 = an := by
  unfold scSlot
  omega

/-- A slot of a direction's half is the slot of its SC and AN there (R161). -/
theorem scSlot_join {dir n : Nat} (hlo : 32768 * dir ≤ n) (hhi : n < 32768 * dir + 32768) :
    scSlot dir ((n - 32768 * dir) / 4) + (n - 32768 * dir) % 4 = n ∧ (n - 32768 * dir) / 4 < 8192 := by
  unfold scSlot
  omega

/-- Settles O59: each direction's half of the slots is numbered by SC and AN (`scSlot_join`), and admission's slot gives them back (`scSlot_split`). -/
theorem slotMapping : Obligations.SlotMapping := by
  refine ⟨fun n h => ?tx, fun n hlo hhi => ?rx, fun v => ⟨rfl, Nat.mod_lt _ (by decide)⟩, fun s f h => ?egress, fun s f => ?ingress⟩
  case tx => exact scSlot_join (dir := 0) (Nat.zero_le n) h
  case rx => exact scSlot_join (dir := 1) hlo hhi
  case egress =>
    rw [slotFor_egress]
    exact scSlot_split 0 f.sc h
  case ingress =>
    rw [slotFor_ingress]
    exact scSlot_split 1 f.sc (Nat.mod_lt _ (by decide))

/-! ### The remask walker -/

@[simp] theorem rngRequest_gran (s : State) (cls blocks : Nat) : (rngRequest s cls blocks).gran = s.gran := by
  unfold rngRequest
  split
  · simp [rngRefused]
  · rfl

/-- A mask on both shares leaves what they share as it was (R168). -/
theorem xor_masked {w : Nat} (a b m : BitVec w) : (a ^^^ m) ^^^ (b ^^^ m) = a ^^^ b := by
  rw [BitVec.xor_comm b m, ← BitVec.xor_assoc, BitVec.xor_assoc a m m, BitVec.xor_self, BitVec.xor_zero]

/-- Two entries hold the same key and H, however masked, the same attributes and the same next PN. -/
def SameContents (e e' : SaEntry) : Prop :=
  e'.key = e.key ∧ e'.hS0 ^^^ e'.hS1 = e.hS0 ^^^ e.hS1 ∧ e'.attr = e.attr ∧ e'.nextPn = e.nextPn

theorem SameContents.refl (e : SaEntry) : SameContents e e := ⟨rfl, rfl, rfl, rfl⟩

theorem slotOf_setSlot_ne (s : State) {n m : Nat} (e : SaEntry) (h : m ≠ n) : slotOf (setSlot s n e) m = slotOf s m := tget_tput_ne _ _ _ h

/-- New masks on one slot leave every slot's contents (R169). -/
theorem remaskSlot_sameContents (s : State) (n m : Nat) : SameContents (slotOf s m) (slotOf (remaskSlot s n) m) := by
  unfold remaskSlot
  dsimp only
  split
  · obtain rfl | h := eq_or_ne m n
    · rw [slotOf_setSlot]
      exact ⟨xor_masked .., xor_masked .., rfl, rfl⟩
    · rw [slotOf_setSlot_ne _ _ h]
      exact .refl _
  · exact .refl _

theorem slotVisit_clean {s : State} (he : remaskEn s = true) (hs : s.gran.sweeping = true) (hn : s.gran.ptr < 65535) : slotVisit s .clean =
    { remaskSlot s s.gran.ptr with gran := { (remaskSlot s s.gran.ptr).gran with ptr := s.gran.ptr + 1 } } := by
  simp [slotVisit, he, hs, hn.ne]

/-- Each clause by the checks of its command that the premises answer (R169). -/
theorem remaskWalker : Claims.RemaskWalker := by
  intro s k hr
  refine ⟨fun he hk hp => ?start, fun he hs hn => ?visit, fun hc hp => ?kept, fun hc hp => ?resumes⟩
  case start =>
    refine ⟨_, exec_powered hr rfl rfl, ?_⟩
    by_cases hc : s.culm.session = true <;> simp [sweepStart, he, hk, hp, hc]
  case visit => exact ⟨_, exec_powered hr rfl (slotVisit_clean he hs hn), rfl, remaskSlot_sameContents s s.gran.ptr⟩
  case kept | resumes =>
    refine ⟨_, exec_powered hr rfl rfl, ?_⟩
    simp [seedReceive, hc, hp]

end Sys2Proof.Proofs
end

section
/-! The culm: its session, flits, lanes and heartbeats (R189 to R194). -/

namespace Sys2Proof.Proofs

open Sys2Proof Sys2Proof.Machine Sys2Proof.Safety

/-! ### A session with nothing waiting for it -/

theorem ladderTo_zero (s : State) : ladderTo s 0 = s := by simp [ladderTo]

/-- With no line-die firing waiting, a session brings none (R538). -/
theorem lateFirings_nil {s : State} (h : s.tm.late = []) : lateFirings s = s := by
  have hs : { s with tm := { s.tm with late := [] } } = s := by rw [← h]
  simp [lateFirings, h, hs, ladderTo_zero]

/-- The landing ring takes entries during a harvest only (R310). -/
theorem deliver_cleared {s : State} (h : s.mt.frozen = .cleared) : deliver s = s := by simp [deliver, h]

theorem boundaryDue_none {s : State} (h : s.mt.due = false) : boundaryDue s = s := by simp [boundaryDue, h]

/-- In SERVICE below SEAL, with no firing, harvest or boundary waiting, a session brings its counters and events alone (R190). -/
theorem sessionUp_idle {s : State} (nonce : BitVec 256) (hs : s.culm.starting = true) (hp : s.pw.pufFail = false) (hm : s.pw.mode = .service)
    (hl : s.level < 3) (ht : s.tm.late = []) (hf : s.mt.frozen = .cleared) (hd : s.mt.due = false) :
    (sessionUp s nonce).culm = { s.culm with starting := false, session := true, nonceL := nonce, seqDown := 0, seqUp := 0, failsDown := 0, failsUp := 0 } := by
  have h3 : ¬3 ≤ s.level := by omega
  have h4 : ¬4 ≤ s.level := by omega
  simp [sessionUp, lateFirings_nil, deliver_cleared, boundaryDue_none, hs, hp, hm, ht, hf, hd, h3, h4]

/-! ### The end of a session -/

@[simp] theorem sessionEnd_session (s : State) : (sessionEnd s).culm.session = false := by
  unfold sessionEnd
  split
  next h => simpa using h
  · dsimp only
    split <;> simp

/-- Each clause by the checks of its command that the premises answer (R189 to R194). -/
theorem culm : Claims.Culm := by
  intro s nonce lane
  dsimp only
  intro hr
  refine ⟨fun hs => ?start, fun hs hp hm hl ht hf hd => ?up, fun hs hh => ?down, fun hs hh => ?back, fun hs hh hn => ?fourth, fun hl hs => ?fails, ?replaced,
    fun hs hh => ?heartbeat, ?deadman⟩
  case start =>
    refine ⟨_, exec_powered hr rfl rfl, ?_⟩
    simp [sessionStart, hs]
  case up => exact ⟨_, exec_powered hr rfl rfl, sessionUp_idle nonce hs hp hm hl ht hf hd⟩
  case down | back =>
    refine ⟨_, exec_powered hr rfl rfl, ?_⟩
    simp [flitReceive, hs, hh]
  case fourth =>
    refine ⟨_, exec_powered hr rfl rfl, ?_⟩
    simp [flitReceive, hs, hh, hn]
  case fails =>
    refine ⟨_, exec_powered hr rfl rfl, ?_⟩
    simp [laneFail, hl, hs]
  case replaced => exact ⟨_, exec_powered hr rfl rfl, rfl⟩
  case heartbeat =>
    refine ⟨_, exec_powered hr rfl rfl, ?_⟩
    simp [hs, hh]
  case deadman => exact exec_powered hr rfl rfl

/-- Settles O22: the walker by what new masks leave (`remaskSlot_sameContents`), the culm by what each of its commands does to a session. -/
theorem remaskAndCulm : Obligations.RemaskAndCulm := ⟨remaskWalker, culm⟩

end Sys2Proof.Proofs
end

section
/-! Endpoints: their links, and configuration by a host (R200 to R213, R225, R232, R240). -/

namespace Sys2Proof.Proofs

open Sys2Proof Sys2Proof.Machine Sys2Proof.Safety

/-! ### Functions' events, and work held for a function -/

@[simp] theorem epOf_fnEv (s : State) (f code : Nat) (d : List Nat) (e : Nat) : epOf (fnEv s f code d) e = epOf s e := by simp [fnEv]
@[simp] theorem fnOf_fnEv (s : State) (f code : Nat) (d : List Nat) (g : Nat) : fnOf (fnEv s f code d) g = fnOf s g := by simp [fnEv]

/-- What each step of a loop leaves, the loop leaves. -/
theorem foldl_keeps {α β : Type} {v : State → β} {g : State → α → State} (hg : ∀ s a, v (g s a) = v s) (l : List α) (s : State) :
    v (l.foldl g s) = v s :=
  List.foldlRecOn l g (motive := fun t => v t = v s) rfl fun t ht a _ => (hg t a).trans ht

@[simp] theorem fnOf_vecsTry (s : State) (f g : Nat) : fnOf (vecsTry s f) g = fnOf s g :=
  foldl_keeps (v := fun t => fnOf t g) (fun t v => fnOf_vecTry t f v g) _ s

@[simp] theorem fnOf_dmaRelease (s : State) (f g : Nat) : fnOf (dmaRelease s f) g = fnOf s g := by
  refine foldl_keeps (v := fun t => fnOf t g) (fun t c => ?_) _ s
  dsimp only
  split
  · rw [fnOf_raise]
    split <;> simp [fnOf, rsetf]
  · rfl

/-- Work held for a function goes on, or its event is raised: its own state stays (R225). -/
@[simp] theorem fnOf_masterChange (s : State) (f : Nat) (was : Bool) (g : Nat) : fnOf (masterChange s f was) g = fnOf s g := by
  unfold masterChange
  dsimp only
  split_ifs <;> simp

/-! ### A link that goes (R207, R232) -/

theorem or_and_absorb {w : Nat} (a b : BitVec w) : (a ||| b) &&& b = b := by
  ext i
  simp +contextual

/-- The link of endpoint e is down, VF Enable clear, and the loss recorded in HF_EP_ERR. -/
def LinkLost (e : Nat) (t : State) : Prop :=
  (epOf t e).linkUp = false ∧ (epOf t e).vfEn = false ∧ (epOf t e).numVfs = 0 ∧ rget t (epCtl e + 8) &&& 0x100 = 0x100

section
variable {s : State} {e : Nat} (h : (epOf s e).linkUp = true)
include h

theorem epOf_epGone (reason ltssm : Nat) : epOf (epGone s e reason ltssm) e =
    { epOf s e with linkUp := false, ltssm := ltssm, speed := 0, width := 0, cfgAt := none, vfEn := false, numVfs := 0, ari := false, vfMse := false } := by
  simp [epGone, h]

theorem rget_epGone_err (reason ltssm : Nat) : rget (epGone s e reason ltssm) (epCtl e + 8) &&& 0x100 = 0x100 := by
  have hw : w32 256 = 0x100#32 := rfl
  simp [epGone, h, hw, or_and_absorb]

theorem epGone_lost (reason ltssm : Nat) : LinkLost e (epGone s e reason ltssm) := by
  refine ⟨?_, ?_, ?_, rget_epGone_err h reason ltssm⟩ <;> rw [epOf_epGone h]

end

theorem linkEnWrite_off (s : State) (e : Nat) : linkEnWrite s e false = epGone (rsetf s (epCtl e) 0 0 0) e 3 7 := rfl

theorem rbit_rsetf_low (s : State) (a : Nat) : rbit (rsetf s a 0 0 1) a 0 = true := by
  simp [rbit, rf, rsetf, fld, putFld, bitsOf]
  omega

/-- Each way a link comes or goes, by the checks of its command that the premises answer (R206, R207, R232). -/
theorem endpointLinks : Claims.EndpointLinks := by
  intro s e speed width b
  dsimp only
  intro hr
  refine ⟨fun hx hp he hlo hhi hw => ?up, fun hx => ?down, fun hx => ?perst, fun hp => ?released, fun hx => ?reset, fun hx => ?disabled, fun hx => ?enabled, ?ready⟩
  case up =>
    refine ⟨_, exec_powered hr rfl rfl, ?_⟩
    have hw' : ¬((¬width.val = 1 ∧ ¬width.val = 2) ∧ ¬width.val = 4) := by omega
    have hlo' : speed.val ≠ 0 := by omega
    simp [linkUp, hx, hp, he, hlo', hw', Nat.not_lt.mpr hhi, apply_ite (epOf · e.val)]
  case down => exact ⟨_, exec_powered hr rfl rfl, epGone_lost hx 0 0⟩
  case perst =>
    obtain ⟨hd, hv, hn, hl⟩ := epGone_lost hx 1 0
    refine ⟨_, rfl, ?_⟩
    simpa using ⟨hd, hv, hn, hl⟩
  case released =>
    refine ⟨_, rfl, ?_⟩
    simp [hp]
  case reset => exact ⟨_, exec_powered hr rfl (if_pos hx), epGone_lost hx 2 _⟩
  case disabled =>
    have hx' : (epOf (rsetf s (epCtl e) 0 0 0) e).linkUp = true := hx
    refine ⟨_, exec_powered hr rfl (linkEnWrite_off s e), epGone_lost hx' 3 7, ?_⟩
    rw [epOf_epGone hx']
  case enabled =>
    refine ⟨_, exec_powered hr rfl rfl, ?_⟩
    simp [linkEnWrite, hx, rbit_rsetf_low, b2n]
  case ready => exact exec_powered hr rfl rfl

/-! ### Configuration by a host -/

theorem fnOf_modFn_ne (s : State) {f k : Nat} (g : FnSt → FnSt) (h : k ≠ f) : fnOf (modFn s f g) k = fnOf s k := tget_tput_ne _ _ _ h

/-- What VF Enable leaves of a VF's state: present, with the grant of R240. -/
def enabledVf (vfMse : Bool) (y : FnSt) : FnSt := vfGrant { y with present := true, mse := vfMse }

/-- The first n VFs of endpoint e enabled. -/
def enableVfs (s : State) (e : Nat) (vfMse : Bool) (n : Nat) : State :=
  (List.range n).foldl (fun t i => modFn t (256 * e + 1 + i) (enabledVf vfMse)) s

theorem enableVfs_succ (s : State) (e : Nat) (vfMse : Bool) (n : Nat) :
    enableVfs s e vfMse (n + 1) = modFn (enableVfs s e vfMse n) (256 * e + 1 + n) (enabledVf vfMse) := by
  rw [enableVfs, List.range_succ, List.foldl_append]
  rfl

@[simp] theorem epOf_enableVfs (s : State) (e : Nat) (vfMse : Bool) (n k : Nat) : epOf (enableVfs s e vfMse n) k = epOf s k :=
  foldl_keeps (v := fun t => epOf t k) (fun _ _ => epOf_modFn ..) _ s

/-- Each of the first n VFs is enabled once, and those after them stay as they were. -/
theorem fnOf_enableVfs (s : State) (e : Nat) (vfMse : Bool) (n i : Nat) : fnOf (enableVfs s e vfMse n) (256 * e + 1 + i) =
    if i < n then enabledVf vfMse (fnOf s (256 * e + 1 + i)) else fnOf s (256 * e + 1 + i) := by
  induction n with
  | zero => rfl
  | succ n ih =>
    rw [enableVfs_succ]
    by_cases hi : i = n
    · subst hi
      rw [fnOf_modFn, ih, if_neg (Nat.lt_irrefl i), if_pos (Nat.lt_succ_self i)]
    · have hlt : i < n + 1 ↔ i < n := by omega
      simp only [fnOf_modFn_ne _ _ (show 256 * e + 1 + i ≠ 256 * e + 1 + n by omega), ih, hlt]

/-- VF Enable set with a number of VFs that the endpoint has, and with ARI where it takes it (R205). -/
theorem vfEnableWrite_on {s : State} {e n : Nat} {ari : Bool} (vfMse : Bool) (hc : cfgOpen s e = true) (hv : (epOf s e).vfEn = false)
    (hn : n ≤ totalVfs s e) (ha : n ≤ 7 ∨ ari = true) : vfEnableWrite s e true vfMse ari n =
      enableVfs (setEp (setEp s e { epOf s e with vfMse := vfMse, ari := ari }) e
        { epOf s e with vfMse := vfMse, ari := ari, vfEn := true, numVfs := n }) e vfMse n := by
  have ht : ∀ x, totalVfs (setEp s e x) e = totalVfs s e := fun _ => rfl
  have hok : ¬(totalVfs s e < n ∨ (7 < n ∧ ari = false)) := by
    rcases ha with h | h
    · omega
    · simp [h, hn]
  simp only [vfEnableWrite, hc, hv, ht, if_neg hok, epOf_setEp, Bool.not_true, Bool.false_eq_true, if_false]
  rfl

/-- Each write of a configuration register, by the checks that the premises answer (R202, R205, R225, R240). -/
theorem hostConfiguration : Claims.HostConfiguration := by
  intro s e f n vfMse ari bme mse d3 hr
  refine ⟨fun hc hv hn ha => ?vfs, fun hc hv => ?none, fun hp hc => ?master, fun hp hc => ?power⟩
  case vfs =>
    refine ⟨_, exec_powered hr rfl rfl, ?_⟩
    simp +contextual [vfEnableWrite_on vfMse hc hv hn ha, fnOf_enableVfs, enabledVf, vfGrant]
  case none =>
    refine ⟨_, exec_powered hr rfl rfl, ?_⟩
    simp [vfEnableWrite, hc, hv, removeVfs]
  case master | power =>
    refine ⟨_, exec_powered hr rfl rfl, ?_⟩
    simp [hp, hc]

/-- Settles O24: a link that goes by what `epGone` leaves of its endpoint (`epGone_lost`), the VFs by what enabling them one after the other leaves
(`fnOf_enableVfs`). -/
theorem endpointsAndConfiguration : Obligations.EndpointsAndConfiguration := ⟨endpointLinks, hostConfiguration⟩

end Sys2Proof.Proofs
end

section
/-! Endpoints: their errors, and MSI-X messages (R17, R211, R224, R228, R232, R561). -/

namespace Sys2Proof.Proofs

open Sys2Proof Sys2Proof.Machine Sys2Proof.Safety

/-! ### Errors of PCIe (R228, R232) -/

@[simp] theorem rget_fnEv (s : State) (f code : Nat) (d : List Nat) (a : Nat) : rget (fnEv s f code d) a = rget s a := by simp [fnEv]

@[simp] theorem fnOf_epErr (s : State) (e bit aer f : Nat) : fnOf (epErr s e bit aer) f = fnOf s f := rfl

@[simp] theorem rget_epErr (s : State) (e bit aer : Nat) : rget (epErr s e bit aer) (epCtl e + 8) = rget s (epCtl e + 8) ||| w32 (2 ^ bit) := by
  simp [epErr]

@[simp] theorem epOf_epErr (s : State) (e bit aer : Nat) : epOf (epErr s e bit aer) e = { epOf s e with aer := (epOf s e).aer ||| 2 ^ aer } := by
  simp [epErr]

@[simp] theorem fnOf_pcieError (s : State) (f bit aer g : Nat) : fnOf (pcieError s f bit aer) g = fnOf s g := by simp [pcieError]

@[simp] theorem fnOf_readFailed (s : State) (f : Nat) (x : HostErr) (g : Nat) : fnOf (readFailed s f x) g = fnOf s g := fnOf_pcieError ..

/-- Endpoint e has recorded an error in HF_EP_ERR and AER; no function's state has changed. -/
def ErrRecorded (s : State) (e bit aer : Nat) (t : State) : Prop :=
  rget t (epCtl e + 8) = rget s (epCtl e + 8) ||| w32 (2 ^ bit) ∧ (epOf t e).aer = (epOf s e).aer ||| 2 ^ aer ∧ ∀ g, fnOf t g = fnOf s g

theorem pcieError_recorded (s : State) (f bit aer : Nat) : ErrRecorded s (f / 256) bit aer (pcieError s f bit aer) := by
  simp [ErrRecorded, pcieError]

/-- An error that no function of the endpoint is known for is its PF's. -/
theorem pcieError_pf_recorded (s : State) (e bit aer : Nat) : ErrRecorded s e bit aer (pcieError s (256 * e) bit aer) := by
  have he : 256 * e / 256 = e := by omega
  simpa only [he] using pcieError_recorded s (256 * e) bit aer

theorem epOf_pcieError_pf (s : State) (e bit aer : Nat) :
    epOf (pcieError s (256 * e) bit aer) e = { epOf s e with aer := (epOf s e).aer ||| 2 ^ aer } := by
  have he : 256 * e / 256 = e := by omega
  simp [pcieError, he]

/-- A refused read under R211 answers Unsupported Request and is recorded. -/
theorem barRefuse_read (s : State) (f : Nat) : (barRefuse s f false false).sent.getLast? = some (.cpl f none) ∧
    ErrRecorded s (f / 256) 1 20 (barRefuse s f false false) := by
  simp [barRefuse, ErrRecorded]

/-- A read of an unassigned offset answers zero, and AER records nothing (R17). -/
theorem barRefuse_unassigned (s : State) (f : Nat) : (barRefuse s f false true).sent.getLast? = some (.cpl f (some 0)) ∧
    ∀ g, fnOf (barRefuse s f false true) g = fnOf s g := by
  simp [barRefuse]

/-- Each error, by the checks of its command that the premises answer (R17, R211, R228). -/
theorem pcieErrors : Claims.PcieErrors := by
  intro s e f x
  dsimp only
  intro hr
  refine ⟨fun hp hc => ?refused, fun hp hc hm => ?unassigned, fun hp hc => ?poisoned, fun hl => ?unexpected, fun hl => ?malformed, fun hl => ?down⟩
  case refused => exact ⟨_, exec_powered hr rfl (by simp [hp, hc]), barRefuse_read s f⟩
  case unassigned => exact ⟨_, exec_powered hr rfl (by simp [hp, hc, hm]), barRefuse_unassigned s f⟩
  case poisoned => exact ⟨_, exec_powered hr rfl (by simp [hp, hc]), pcieError_recorded s f 0 12⟩
  case unexpected => exact ⟨_, exec_powered hr rfl (if_pos hl), pcieError_pf_recorded s e 6 16⟩
  case malformed => exact ⟨_, exec_powered hr rfl (if_pos hl), pcieError_pf_recorded s e (tlpErrBits x).1 (tlpErrBits x).2⟩
  case down =>
    have hl' : (epOf (pcieError s (256 * e.val) (tlpErrBits x).1 (tlpErrBits x).2) e).linkUp = true := by rw [epOf_pcieError_pf]; exact hl
    obtain ⟨hd, -⟩ := epGone_lost hl' 0 0
    exact ⟨_, exec_powered hr rfl (if_pos hl), hd⟩

/-! ### Writes in a function's window (R211) -/

/-- A write in the window of a function that takes accesses is its register's own effect. -/
theorem barWrite_open {s : State} {f : Nat} (hp : (fnOf s f).present = true) (hc : cfgOpen s (f / 256) = true) (hm : (fnOf s f).mse = true)
    (g : State → State) : barWrite s f g = g s := by
  simp [barWrite, hp, hc, hm]

/-! ### MSI-X messages (R224, R561) -/

/-- Vector v of function f has a message pending that neither the function nor the bucket holds. -/
def MayGo (s : State) (f v : Nat) : Prop :=
  (vecOf s f v).pend = true ∧ (fnOf s f).present = true ∧ (fnOf s f).msixEn = true ∧ canMaster (fnOf s f) = true ∧ (fnOf s f).fmask = false ∧
    (vecOf s f v).used < rf s 0x30038020 23 16

/-- The vector's message has left, and counts against the bucket. -/
def MessageGone (s : State) (f v : Nat) (t : State) : Prop :=
  t.sent = s.sent ++ [.msix f v (vecOf s f v).addr (vecOf s f v).data] ∧ (vecOf t f v).pend = false ∧
    (vecOf t f v).used = (vecOf s f v).used + 1

theorem vecTry_gone {s : State} {f v : Nat} (h : MayGo s f v) (hm : (vecOf s f v).masked = false) (hr : (vecOf s f v).running = false) :
    MessageGone s f v (vecTry s f v) := by
  obtain ⟨hpend, hp, hx, hc, hf, hu⟩ := h
  have hd : vecDue s f v = true := by simp [vecDue, hr]
  simp [vecTry, MessageGone, hpend, hp, hx, hc, hf, hm, hd, Nat.not_le.mpr hu]

/-- A vector with nothing pending sends nothing. -/
theorem vecTry_nothing {s : State} {f v : Nat} (h : (vecOf s f v).pend = false) : vecTry s f v = s := by
  simp [vecTry, h]

/-- No message changes its vector's Mask bit. -/
@[simp] theorem vecTry_masked (s : State) (f v : Nat) : (vecOf (vecTry s f v) f v).masked = (vecOf s f v).masked := by
  unfold vecTry
  dsimp only
  split_ifs <;> simp

/-- A message that may go still may after the vector's Mask or interval has changed. -/
theorem MayGo.setVec {s : State} {f v : Nat} (h : MayGo s f v) {x : VecSt} (hp : x.pend = (vecOf s f v).pend) (hu : x.used = (vecOf s f v).used) :
    MayGo (setVec s f v x) f v := by
  simpa [MayGo, hp, hu] using h

/-- The end of an interval and an unmasking, by whether a message may go (R224). -/
theorem messages : Claims.Messages := by
  intro s f v
  dsimp only
  intro hr
  refine ⟨fun hgo hm => ?expiry, fun hn => ?idle, fun hgo hrun hc hmse => ?unmask⟩
  case expiry =>
    have hgo' := MayGo.setVec hgo (x := { vecOf s f v with running := false }) rfl rfl
    have hgone := vecTry_gone hgo' (by simpa using hm) (by simp)
    refine ⟨_, exec_powered hr rfl rfl, ?_⟩
    simpa [MessageGone] using hgone
  case idle =>
    refine ⟨_, exec_powered hr rfl (vecTry_nothing ?_), ?_⟩ <;> simp [hn]
  case unmask =>
    have hgo' := MayGo.setVec hgo (x := { vecOf s f v with masked := false }) rfl rfl
    have hgone := vecTry_gone hgo' (by simp) (by simpa using hrun)
    obtain ⟨-, hp, -⟩ := hgo
    refine ⟨_, exec_powered hr rfl (barWrite_open hp hc hmse _), ?_⟩
    simpa [MessageGone] using hgone

/-- Settles O26: an error by what `pcieError` records of it (`pcieError_recorded`), a message by what a vector offered sends (`vecTry_gone`). -/
theorem pcieErrorsAndMessages : Obligations.PcieErrorsAndMessages := ⟨pcieErrors, messages⟩

end Sys2Proof.Proofs
end

section
/-! Rings: their control, fetches and completions (R213 to R223). -/

namespace Sys2Proof.Proofs

open Sys2Proof Sys2Proof.Machine Sys2Proof.Safety

/-! ### Ring control (R220 to R223) -/

@[simp] theorem orLog_setFn (s : State) (f : Nat) (x : FnSt) (g : Nat) : orLog (setFn s f x) g = orLog s g := rfl

/-- A ring that stops keeps its counters and its cause; nothing more is read (R222). -/
@[simp] theorem fnOf_ringStop (s : State) (f cause : Nat) :
    fnOf (ringStop s f cause) f = { fnOf s f with ring := .stopped, cause := cause, reading := 0, recheck := false } := by
  simp [ringStop]

theorem quiesceCheck_stays {s : State} {f : Nat} (h : (fnOf s f).ring = .quiescing → (fnOf s f).out ≠ 0) : quiesceCheck s f = s := by
  simpa [quiesceCheck] using fun hq ho => absurd ho (h hq)

/-- An ENABLED ring quiesces; with nothing outstanding it is DISABLED at once (R221). -/
theorem ringQuiesce_enabled {s : State} {f : Nat} (h : (fnOf s f).ring = .enabled) : ringQuiesce s f =
    quiesceCheck (setFn (rset s (hfWin f + 0x10) 0) f { fnOf s f with ring := .quiescing, reading := 0, recheck := false }) f := by
  simp [ringQuiesce, h]

/-- Writes of a ring's registers, by the checks of each that the premises answer (R213, R220 to R223). -/
theorem ringControl : Claims.RingControl := by
  intro s f v
  dsimp only
  intro hr hp hc hm
  refine ⟨fun hy hd hv => ?agreed, fun hy hd hv => ?unknown, fun hd hy ha ho hk hb he => ?enabled, fun hx ho => ?quiesces, fun hx ho => ?stopsAtOnce,
    fun hx hw => ?taken, fun hx hw => ?beyond, fun hx hw => ?read, fun hx hw => ?ahead⟩
  all_goals refine ⟨_, exec_powered hr rfl (barWrite_open hp hc hm _), ?_⟩
  case agreed | unknown => simp [ringHello, hy, hd, hv]
  case enabled => simp [ringEnable, ringOff, hd, hy, ha, ho, hk, hb, he]
  case quiesces =>
    rw [ringQuiesce_enabled hx, quiesceCheck_stays] <;> simp [ho]
  case stopsAtOnce =>
    rw [ringQuiesce_enabled hx]
    simp [quiesceCheck, ringOff, ho]
  case taken =>
    obtain ⟨hle, hlt⟩ := hw
    simp [orTailWrite, hx, Nat.not_lt.mpr hle, Nat.not_lt.mpr hlt]
  case beyond =>
    have hw' : 2 ^ orLog s f < dist16 (fnOf s f).orHead v ∨ dist16 (fnOf s f).orHead v < dist16 (fnOf s f).orHead (fnOf s f).orTail := by omega
    simp [orTailWrite, hx, hw']
  case read => simp [crHeadWrite, hx, Nat.not_lt.mpr hw]
  case ahead => simp [crHeadWrite, hx, hw]

/-! ### Fetching (R214, R216, R218, R222) -/

theorem takeEntries_taken {s : State} {f : Nat} {l : List Byte} (h : entryPhase l = phaseOf (orLog s f) (fnOf s f).orHead) :
    takeEntries s f [l] = takeEntry s f l := by
  simp [takeEntries, h]

theorem takeEntries_recheck {s : State} {f : Nat} {l : List Byte} (h : entryPhase l ≠ phaseOf (orLog s f) (fnOf s f).orHead) :
    takeEntries s f [l] = modFn s f (fun x => { x with recheck := true }) := by
  simp [takeEntries, h]

@[simp] theorem fnOf_takeEntry (s : State) (f : Nat) (l : List Byte) : fnOf (takeEntry s f l) f =
    { fnOf s f with orHead := ((fnOf s f).orHead + 1) % 65536, out := (fnOf s f).out + 1, raw := (fnOf s f).raw ++ [⟨(fnOf s f).gen, octetsAt l 0 64⟩] } := by
  simp [takeEntry]

theorem entriesArrive_one {s : State} {f : Nat} (l : List Byte) (hx : (fnOf s f).ring = .enabled) (h1 : (fnOf s f).reading = 1) :
    entriesArrive s f [l] none = takeEntries (setFn s f { fnOf s f with reading := 0 }) f [l] := by
  simp [entriesArrive, hx, h1]

/-- A read of entries that fails stops the ring with cause 3 (R222, R228). -/
theorem entriesArrive_failed {s : State} {f : Nat} (l : List (List Byte)) (e : HostErr) (hx : (fnOf s f).ring = .enabled) (hn : (fnOf s f).reading ≠ 0) :
    entriesArrive s f l (some e) = ringStop (readFailed s f e) f 3 := by
  simp [entriesArrive, hx, hn]

/-- Each outcome of a read of entries, by the PHASE found (R214, R218, R222). -/
theorem ringFetch : Claims.RingFetch := by
  intro s f n l h
  dsimp only
  intro hr
  refine ⟨fun hf => ?fetch, fun hx h1 hc hp => ?taken, fun hx h1 hp => ?wrong, fun hx hn => ?failed, fun hx h0 hc hp => ?second,
    fun hx hc hp => ?wrongTwice, fun hx hc => ?secondFailed⟩
  case fetch =>
    refine ⟨_, exec_powered hr rfl rfl, ?_⟩
    simp [orderFetch, hf]
  case taken =>
    refine ⟨_, exec_powered hr rfl ((entriesArrive_one l hx h1).trans (takeEntries_taken ?_)), ?_⟩
    · simpa using hp
    · simp [hc]
  case wrong =>
    refine ⟨_, exec_powered hr rfl ((entriesArrive_one l hx h1).trans (takeEntries_recheck ?_)), ?_⟩
    · simpa using hp
    · simp
  case failed =>
    refine ⟨_, exec_powered hr rfl (entriesArrive_failed [] h hx hn), ?_⟩
    simp
  case second =>
    refine ⟨_, exec_powered hr rfl rfl, ?_⟩
    simp [phaseRecheck, hx, h0, hc, hp]
  case wrongTwice =>
    refine ⟨_, exec_powered hr rfl rfl, ?_⟩
    simp [phaseRecheck, hx, hc, hp]
  case secondFailed =>
    refine ⟨_, exec_powered hr rfl rfl, ?_⟩
    simp [phaseRecheck, hx, hc]

/-! ### Completions (R215 to R217, R219) -/

/-- The function's oldest fetched entry has left, and its completion with the status stands last (R216, R217). -/
def EntryDone (s : State) (f : Nat) (r : RawEntry) (rs : List RawEntry) (st : Nat) (t : State) : Prop :=
  (fnOf t f).raw = rs ∧ ∃ d, (fnOf t f).compl = (fnOf s f).compl ++ [d] ∧ d.status = st ∧ d.gen = r.gen ∧ d.genField = r.genField ∧
    d.tag = leNat (octetsAt r.octets 2 2)

theorem completeRaw_popRaw_done {s : State} {f : Nat} {r : RawEntry} {rs : List RawEntry} (h : (fnOf s f).raw = r :: rs) (st : Nat) :
    EntryDone s f r rs st (completeRaw (popRaw s f) f r st) := by
  simp [EntryDone, completeRaw, complete, popRaw, h, RawEntry.genField]

section
variable {s : State} {f : Nat} {r : RawEntry} {rs : List RawEntry} (h : (fnOf s f).raw = r :: rs)
include h

theorem nopEntry_current (ht : r.etype = 0) (hg : r.genField = (fnOf s f).gen) : nopEntry s f = completeRaw (popRaw s f) f r 0 := by
  simp [nopEntry, h, ht, hg]

theorem nopEntry_stale (ht : r.etype = 0) (hg : r.genField ≠ (fnOf s f).gen) : nopEntry s f = completeRaw (popRaw s f) f r 5 := by
  simp [nopEntry, h, ht, hg]

variable (ht : r.etype = 2) (hg : r.genField = (fnOf s f).gen)
include ht hg

theorem cancelEntry_oldAbi (ha : (fnOf s f).abi < 0x0102) : cancelEntry s f = completeRaw (popRaw s f) f r 3 := by
  simp [cancelEntry, h, ht, hg, ha]

theorem cancelEntry_found (ha : 0x0102 ≤ (fnOf s f).abi) {j : Job}
    (hj : s.ord.jobs.find? (fun j => j.fn == f && !j.started && j.tag == leNat (octetsAt r.octets 6 2)) = some j) :
    cancelEntry s f = completeRaw (endJob (popRaw s f) j 11 0 []) f r 0 := by
  simp [cancelEntry, h, ht, hg, hj, Nat.not_lt.mpr ha]

theorem cancelEntry_none (ha : 0x0102 ≤ (fnOf s f).abi) (hn : ∀ j ∈ s.ord.jobs, ¬(j.fn = f ∧ j.started = false)) :
    cancelEntry s f = completeRaw (popRaw s f) f r 1 := by
  have hj : s.ord.jobs.find? (fun j => j.fn == f && !j.started && j.tag == leNat (octetsAt r.octets 6 2)) = none := by
    simpa using fun j hj hf hs => absurd ⟨hf, hs⟩ (hn j hj)
  simp [cancelEntry, h, ht, hg, hj, Nat.not_lt.mpr ha]

end

/-! ### Writes to a host leave every function's state (R249 to R252) -/

@[simp] theorem fnOf_setLines (s : State) (l : List LogLine) (g : Nat) : fnOf (setLines s l) g = fnOf s g := rfl

@[simp] theorem fnOf_makeRoom (s : State) (e g : Nat) : fnOf (makeRoom s e) g = fnOf s g := by
  unfold makeRoom
  split
  · rfl
  · split <;> rfl

@[simp] theorem fnOf_markPage (s : State) (f p g : Nat) : fnOf (markPage s f p) g = fnOf s g := by
  unfold markPage
  dsimp only
  split <;> simp

@[simp] theorem fnOf_dirtyMark (s : State) (f a n g : Nat) : fnOf (dirtyMark s f a n) g = fnOf s g := by
  unfold dirtyMark
  split
  · rfl
  · dsimp only
    split
    · split <;> simp
    · exact foldl_keeps (v := fun t => fnOf t g) (fun t i => fnOf_markPage t f _ g) _ s

@[simp] theorem fnOf_hostWrite (s : State) (f a : Nat) (l : List Byte) (g : Nat) : fnOf (hostWrite s f a l) g = fnOf s g := by
  simp [hostWrite]

/-- The buffers of a completion written before it (R219). -/
@[simp] theorem fnOf_hostWrites (s : State) (f : Nat) (l : List (Nat × List Byte)) (g : Nat) :
    fnOf (l.foldl (fun t b => hostWrite t f b.1 b.2) s) g = fnOf s g :=
  foldl_keeps (v := fun t => fnOf t g) (fun t b => fnOf_hostWrite t f b.1 b.2 g) l s

@[simp] theorem fnOf_vecCompletion (s : State) (f g : Nat) : fnOf (vecCompletion s f) g = fnOf s g := by simp [vecCompletion]

theorem canMaster_present {x : FnSt} (h : canMaster x = true) : x.present = true := by
  simp only [canMaster, Bool.and_eq_true] at h
  obtain ⟨⟨hp, -⟩, -⟩ := h
  exact hp

/-- The oldest completion written: it leaves, CR_TAIL advances, and one entry less is outstanding (R217, R219). -/
theorem fnOf_completionWrite {s : State} {f : Nat} {c : Compl} {cs : List Compl} (h : (fnOf s f).compl = c :: cs) (hg : c.gen = (fnOf s f).gen)
    (hm : canMaster (fnOf s f) = true) (hx : (fnOf s f).ring = .enabled) : fnOf (completionWrite s f) f =
      { fnOf s f with compl := cs, crTail := ((fnOf s f).crTail + 1) % 65536, out := (fnOf s f).out - 1 } := by
  have hp := canMaster_present hm
  simp [completionWrite, quiesceCheck_stays, h, hg, hm, hx, hp]

/-- A completion of an ended generation is discarded (R217). -/
theorem completionWrite_stale {s : State} {f : Nat} {c : Compl} {cs : List Compl} (h : (fnOf s f).compl = c :: cs) (hg : c.gen ≠ (fnOf s f).gen) :
    completionWrite s f = cinc (setFn s f { fnOf s f with compl := cs }) (epCtl (f / 256) + 0x58) := by
  simp [completionWrite, h, hg]

/-- Entries completed, and completions written, each by its case above. -/
theorem ringCompletions : Claims.RingCompletions := by
  intro s f r rs c cs
  dsimp only
  intro hr
  refine ⟨fun h ht hg => ?nop, fun h ht hg => ?nopStale, fun h ht hg ha => ?old, fun h ht hg ha hn => ?notNow, fun j h ht hg ha hj => ?withdrawn,
    fun h hg hm hx => ?written, fun h hg => ?discarded⟩
  case nop => exact ⟨_, exec_powered hr rfl (nopEntry_current h ht hg), completeRaw_popRaw_done h 0⟩
  case nopStale => exact ⟨_, exec_powered hr rfl (nopEntry_stale h ht hg), completeRaw_popRaw_done h 5⟩
  case old => exact ⟨_, exec_powered hr rfl (cancelEntry_oldAbi h ht hg ha), completeRaw_popRaw_done h 3⟩
  case notNow => exact ⟨_, exec_powered hr rfl (cancelEntry_none h ht hg ha hn), completeRaw_popRaw_done h 1⟩
  case withdrawn => exact exec_powered hr rfl (cancelEntry_found h ht hg ha hj)
  case written => exact ⟨_, exec_powered hr rfl rfl, fnOf_completionWrite h hg hm hx⟩
  case discarded =>
    refine ⟨_, exec_powered hr rfl (completionWrite_stale h hg), ?_⟩
    simp

/-- Settles O25: control by the checks of each register, fetches by the PHASE of what arrives (`takeEntries_taken`, `takeEntries_recheck`), completions
by what joins and leaves a function's list (`completeRaw_popRaw_done`, `fnOf_completionWrite`). -/
theorem rings : Obligations.Rings := ⟨ringControl, ringFetch, ringCompletions⟩

end Sys2Proof.Proofs
end

section
/-! Functions: the ends of their generations (R227, R245), and the dirty-log cache (R252, R255, R261). -/

namespace Sys2Proof.Proofs

open Sys2Proof Sys2Proof.Machine Sys2Proof.Safety

/-! ### Ends of generations -/

@[simp] theorem fnOf_resetVecs (s : State) (f g : Nat) : fnOf (resetVecs s f) g = fnOf s g := rfl

@[simp] theorem fnOf_liWeight (s : State) (f w g : Nat) : fnOf (liWeight s f w) g = fnOf s g := rfl

@[simp] theorem fnOf_withdrawn (s : State) (f n g : Nat) : fnOf (withdrawn s f n) g = fnOf s g := by
  unfold withdrawn
  split <;> simp

/-- A function whose generation has ended: the next one's GEN, the ring DISABLED, the bus master off and ENDING set (R245). -/
def Ended (gen : Nat) (y : FnSt) : Prop :=
  y.gen = gen ∧ y.ring = .disabled ∧ y.bme = false ∧ y.ending = true ∧ y.out = 0 ∧ y.abi = 0

/-- Whatever the function's orders leave of it, its end sets what R245 names. -/
theorem endFn_ended (s : State) (f : Nat) : Ended (((fnOf s f).gen + 1) % 65536) (fnOf (endFn s f) f) := by
  simp [endFn, Ended, ringOff]

section
variable {s : State} {f : Nat} (hp : (fnOf s f).present = true) (hc : cfgOpen s (f / 256) = true)
include hp hc

/-- A VF's reset is the end of its generation (R227). -/
theorem functionReset_vf_ended (hv : f % 256 ≠ 0) : Ended (((fnOf s f).gen + 1) % 65536) (fnOf (functionReset s f) f) := by
  have h : fnOf (functionReset s f) f = fnOf (endFn s f) f := by simp [functionReset, hp, hc, hv]
  rw [h]
  exact endFn_ended s f

/-- A PF's reset, its VFs removed, ends its generation and restores the grant of R240. -/
theorem fnOf_functionReset_pf (hv : f % 256 = 0) : fnOf (functionReset s f) f = pfGrant (fnOf (endFn (removeVfs s (f / 256) true) f) f) := by
  have hf : 256 * (f / 256) = f := by omega
  simp [functionReset, resetPf, hp, hc, hv, hf]

theorem functionReset_pf_granted (hv : f % 256 = 0) : (fnOf (functionReset s f) f).ring = .disabled ∧ (fnOf (functionReset s f) f).bme = false ∧
    (fnOf (functionReset s f) f).ending = true ∧ (fnOf (functionReset s f) f).hartW = 255 ∧ (fnOf (functionReset s f) f).maxOut = 4096 := by
  obtain ⟨-, hring, hbme, hending, -, -⟩ := endFn_ended (removeVfs s (f / 256) true) f
  rw [fnOf_functionReset_pf hp hc hv]
  simp [pfGrant, hring, hbme, hending]

end

/-- A reset by what the end of a generation leaves, ENDING's end by the write that clears it (R227, R245). -/
theorem generations : Claims.Generations := by
  intro s f hr
  refine ⟨fun hp hc hv => ?vf, fun hp hc hv => ?pf, fun he => ?complete⟩
  case vf => exact ⟨_, exec_powered hr rfl rfl, functionReset_vf_ended hp hc hv⟩
  case pf => exact ⟨_, exec_powered hr rfl rfl, functionReset_pf_granted hp hc hv⟩
  case complete =>
    refine ⟨_, exec_powered hr rfl (if_pos he), ?_⟩
    simp

/-! ### The dirty-log cache -/

/-- The write that takes a line back to its bitmap, under the PF's requester ID (R249, R252). -/
def lineSent (s : State) (y : LogLine) : Sent := .hostWrite (256 * (y.fn / 256)) (bmpBase s y.fn y.bitmap + 8 * y.word) (leBytes 8 y.bits.toNat)

theorem writeLine_sent (s : State) (y : LogLine) : (writeLine s y).sent = s.sent ++ [lineSent s y] := rfl

/-- Lines written one after the other leave in their order. -/
theorem writeLines_sent (l : List LogLine) (s : State) : (l.foldl writeLine s).sent = s.sent ++ l.map (lineSent s) := by
  induction l generalizing s with
  | nil => simp
  | cons y l ih =>
    have hs : lineSent (writeLine s y) = lineSent s := rfl
    rw [List.foldl_cons, ih, writeLine_sent, hs, List.append_assoc, List.map_cons, List.singleton_append]

theorem writeLines_lines (l : List LogLine) (s : State) : (l.foldl writeLine s).host.lines = s.host.lines :=
  foldl_keeps (v := fun t => t.host.lines) (g := writeLine) (fun _ _ => rfl) l s

/-- The lines of bitmap b of function f. -/
def ofBitmap (f b : Nat) (y : LogLine) : Bool := y.fn == f && y.bitmap == b

/-- A flush takes the bitmap's lines and leaves the others (R255, R261). -/
theorem flushLines_lines (s : State) (f b : Nat) (drop : Bool) :
    (flushLines s f (some b) drop).host.lines = s.host.lines.filter (fun y => !ofBitmap f b y) := by
  cases drop
  · exact congrArg _ (writeLines_lines _ s)
  · rfl

theorem flushLines_dropped (s : State) (f b : Nat) : (flushLines s f (some b) true).sent = s.sent := rfl

theorem flushLines_written (s : State) (f b : Nat) :
    (flushLines s f (some b) false).sent = s.sent ++ (s.host.lines.filter (ofBitmap f b)).map (lineSent s) :=
  writeLines_sent _ s

/-- A flush whose lines all hold their words, or are dropped, is carried out (R261). -/
theorem logFlush_go {s : State} {v : W32} (hgo : fld v 11 11 = 1)
    (hw : fld v 10 10 = 1 ∨ ∀ y ∈ s.host.lines, ofBitmap (fld v 8 0) (fld v 9 9) y = true → y.filling = false) :
    (logFlush s v false).host.lines = (flushLines s (fld v 8 0) (some (fld v 9 9)) (fld v 10 10 == 1)).host.lines ∧
      (logFlush s v false).sent = (flushLines s (fld v 8 0) (some (fld v 9 9)) (fld v 10 10 == 1)).sent := by
  have hwait : ¬(fld v 10 10 = 0 ∧ s.host.lines.any (fun y => y.fn == fld v 8 0 && y.bitmap == fld v 9 9 && y.filling) = true) := by
    rintro ⟨h0, hany⟩
    obtain ⟨y, hy, hf⟩ := List.any_eq_true.mp hany
    obtain ⟨hm, hfill⟩ := Bool.and_eq_true_iff.mp hf
    rcases hw with h1 | hw
    · omega
    · rw [hw y hy hm] at hfill
      exact Bool.false_ne_true hfill
  have hgo' : ¬fld v 11 11 = 0 := by omega
  rw [logFlush, if_neg (not_or.mpr ⟨hgo', hwait⟩)]
  exact ⟨rfl, rfl⟩

/-- A word read joins the marks held for it (R252). -/
theorem logFill_joins {s : State} {f w : Nat} {x : LogLine} (d : W64)
    (h : s.host.lines.find? (fun y => y.fn == f && y.word == w && y.filling) = some x) : (logFill s f w d none).host.lines =
      s.host.lines.map (fun y => if y == x then { y with bits := x.bits ||| d, filling := false } else y) := by
  have hxy : ∀ y : LogLine, (if y == x then { x with bits := x.bits ||| d, filling := false } else y) =
      if y == x then { y with bits := x.bits ||| d, filling := false } else y := by
    intro y
    split
    next e => rw [eq_of_beq e]
    · rfl
  simp only [logFill, h, hxy]
  rfl

/-- The cache's commands, by the lemmas above (R252, R255, R261). -/
theorem dirtyLog : Claims.DirtyLog := by
  intro s f w d x v
  dsimp only
  intro hr
  refine ⟨fun h => ?fill, fun hgo hd => ?drop, fun hgo hd hw => ?write⟩
  case fill => exact ⟨_, exec_powered hr rfl rfl, logFill_joins d h⟩
  case drop =>
    obtain ⟨hl, hs⟩ := logFlush_go (s := s) hgo (.inl hd)
    rw [hd] at hl hs
    exact ⟨_, exec_powered hr rfl rfl, hl.trans (flushLines_lines ..), hs.trans (flushLines_dropped ..)⟩
  case write =>
    obtain ⟨hl, hs⟩ := logFlush_go hgo (.inr hw)
    rw [hd] at hl hs
    exact ⟨_, exec_powered hr rfl rfl, hl.trans (flushLines_lines ..), hs.trans (flushLines_written ..)⟩

/-- Settles O27: a reset by what the end of a generation leaves (`endFn_ended`), a flush by what writing its lines one after the other sends
(`writeLines_sent`). -/
theorem generationsAndDirtyLog : Obligations.GenerationsAndDirtyLog := ⟨generations, dirtyLog⟩

end Sys2Proof.Proofs
end

section
/-! Protection: the recolour engine, row remaps and the DMA channels (R228, R410 to R421, R640). -/

namespace Sys2Proof.Proofs

open Sys2Proof Sys2Proof.Machine Sys2Proof.Safety

/-! ### Tags written, and SRAM wiped (R409, R412) -/

theorem tagOf_setTag_if (s : State) (g v i : Nat) : tagOf (setTag s g v) i = if i = g then v else tagOf s i := by
  by_cases h : i = g <;> simp [tagOf, tget_tput_if, h]

/-- The granules of a list, each tagged v. -/
def tagAll (s : State) (l : List Nat) (v : Nat) : State := l.foldl (fun t j => setTag t j v) s

theorem tagOf_tagAll (l : List Nat) (s : State) (v i : Nat) : tagOf (tagAll s l v) i = if i ∈ l then v else tagOf s i := by
  induction l generalizing s with
  | nil => simp [tagAll]
  | cons j l ih =>
    have hj : tagAll s (j :: l) v = tagAll (setTag s j v) l v := rfl
    rw [hj, ih, tagOf_setTag_if]
    by_cases hl : i ∈ l <;> simp [hl]

@[simp] theorem tagAll_sram (s : State) (l : List Nat) (v : Nat) : (tagAll s l v).sram = s.sram :=
  foldl_keeps (v := State.sram) (fun t j => setTag_sram t j v) l s

@[simp] theorem tagAll_rc (s : State) (l : List Nat) (v : Nat) : (tagAll s l v).rc = s.rc :=
  foldl_keeps (v := State.rc) (fun t j => setTag_rc t j v) l s

/-- The n granules from g on. -/
def granules (g n : Nat) : List Nat := (List.range n).map (fun i => g + i)

theorem mem_granules {g n i : Nat} : i ∈ granules g n ↔ g ≤ i ∧ i < g + n := by
  simp only [granules, List.mem_map, List.mem_range]
  constructor
  · rintro ⟨k, hk, rfl⟩
    omega
  · intro h
    exact ⟨i - g, by omega, by omega⟩

theorem setTags_eq (s : State) (g n v : Nat) : setTags s g n v = tagAll s (granules g n) v := by
  simp only [setTags, tagAll, granules, List.foldl_map]

/-- A table without the keys that `p` names reads its default there. -/
theorem tget_filter {α : Type} (d : Nat → α) (p : Nat → Bool) (t : Tbl α) (k : Nat) :
    tget d (t.filter (fun e => !p e.1)) k = if p k then d k else tget d t k := by
  induction t with
  | nil => simp [tget]
  | cons e t ih =>
    obtain ⟨j, v⟩ := e
    by_cases hk : j = k
    · subst hk
      cases hj : p j <;> simp [tget, ih, hj]
    · cases hj : p j <;> simp [tget, ih, hj, hk]

theorem memRead_one (s : State) (a : Nat) : memRead s a 1 = [tget (fun _ => 0) s.sram a] := rfl

theorem memRead_memZero (s : State) (b n a : Nat) : memRead (memZero s b n) a 1 = if b ≤ a ∧ a < b + n then [0] else memRead s a 1 := by
  rw [memRead_one, memRead_one, memZero_sram, tget_filter _ (fun k => decide (b ≤ k ∧ k < b + n))]
  simp only [decide_eq_true_eq]
  split <;> rfl

/-- A wipe leaves SRAM as zeroing its octets does (R412). -/
theorem wipeTags_sram (s : State) (g n v : Nat) : (wipeTags s g n v).sram = (memZero s (0x20000000 + 64 * g) (64 * n)).sram := by
  simp [wipeTags, setTags_eq]

theorem tagOf_wipeTags (s : State) (g n v i : Nat) : tagOf (wipeTags s g n v) i = if i ∈ granules g n then v else tagOf s i := by
  have h : tagOf (wipeTags s g n v) i = tagOf (setTags (memZero s (0x20000000 + 64 * g) (64 * n)) g n v) i := rfl
  rw [h, setTags_eq, tagOf_tagAll]
  rfl

theorem memRead_wipeTags (s : State) (g n v a : Nat) : memRead (wipeTags s g n v) a 1 =
    if 0x20000000 + 64 * g ≤ a ∧ a < 0x20000000 + 64 * g + 64 * n then [0] else memRead s a 1 := by
  rw [← memRead_memZero, memRead_one, memRead_one, wipeTags_sram]

@[simp] theorem wipeTags_rc (s : State) (g n v : Nat) : (wipeTags s g n v).rc = s.rc := by
  simp [wipeTags, setTags_eq]

/-! ### Commands of the recolour engine (R412) -/

/-- The engine has taken a command for n granules. -/
def rcTaken (s : State) (n : Nat) : State := { s with rc := { busy := true, done := n } }

section
variable {s : State} {g : Nat} (hb : s.rc.busy = false) (hg : rcRange s = some g)
include hb hg

/-- An engine that is free takes a command whose range lies in SRAM. -/
theorem rcRange_free : (if s.rc.busy then none else rcRange s) = some g := by simp [hb, hg]

theorem rcCommand_all : rcCommand s 1 =
    cadd (tagAll (rcTaken s (rcCount s)) (granules g (rcCount s)) (rcNew s)) 0x30088100 (rcCount s) := by
  rw [← setTags_eq, rcCommand, rcRange_free hb hg]
  rfl

theorem rcCommand_if : rcCommand s 2 =
    cadd (tagAll (rcTaken s (rcCount s)) (rcMatches s g (rcCount s) (rcOld s)) (rcNew s)) 0x30088100 (rcMatches s g (rcCount s) (rcOld s)).length := by
  rw [rcCommand, rcRange_free hb hg]
  rfl

theorem rcCommand_wipe : rcCommand s 3 = cadd (wipeTags (rcTaken s (rcCount s)) g (rcCount s) (rcNew s)) 0x30088108 (rcCount s) := by
  rw [rcCommand, rcRange_free hb hg]
  rfl

end

theorem mem_rcMatches {s : State} {g n old i : Nat} : i ∈ rcMatches s g n old ↔ i ∈ granules g n ∧ tagOf s i = old := by
  simp [rcMatches, granules]

@[simp] theorem tagOf_cadd (s : State) (a n i : Nat) : tagOf (cadd s a n) i = tagOf s i := rfl
@[simp] theorem tagOf_rcTaken (s : State) (n i : Nat) : tagOf (rcTaken s n) i = tagOf s i := rfl

theorem not_mem_granules {g n i : Nat} (h : i < g ∨ g + n ≤ i) : i ∉ granules g n := by
  rw [mem_granules]
  omega

theorem add_mem_granules {g n i : Nat} (h : i < n) : g + i ∈ granules g n := by
  rw [mem_granules]
  omega

/-! ### Row remaps (R640) -/

theorem remapDone_sram {s : State} (hb : s.rmSram.busy = true) (hl : sramLeft s s.rmSram.unit ≠ 0) : (remapDone s false).rmSram =
    { s.rmSram with busy := false, result := 1, used := tput (fun _ => 0) s.rmSram.used s.rmSram.unit (sramUsed s s.rmSram.unit + 1) } := by
  simp [remapDone, hb, hl, useSram, sramUsed]

/-- A remap of an SRAM row completes with one of its bank's spares taken. -/
theorem remapDone_sram_spare {s : State} (hb : s.rmSram.busy = true) (hl : sramLeft s s.rmSram.unit ≠ 0) :
    (remapDone s false).rmSram.busy = false ∧ (remapDone s false).rmSram.result = 1 ∧
      sramLeft (remapDone s false) s.rmSram.unit = sramLeft s s.rmSram.unit - 1 := by
  simp [sramLeft, sramUsed, remapDone_sram hb hl, Nat.sub_sub]

theorem remapDone_line {s : State} (hb : s.rmLine.busy = true) (hl : lineLeft s s.rmLine.mem s.rmLine.unit ≠ 0) :
    (remapDone s true).rmLine.busy = false ∧ (remapDone s true).rmLine.result = 1 := by
  simp [remapDone, hb, hl, useLine]

/-- Each command of the engine by its equation above, each remap by what it takes (R412, R413, R640). -/
theorem recolourAndRemap : Claims.RecolourAndRemap := by
  intro s g bank row mem unit lrow
  dsimp only
  intro hr
  refine ⟨fun hb hg => ?all, fun hb hg => ?old, fun hb hg => ?wipe, fun hb => ?complete, fun hb hk => ?sram, fun hc hb hm => ?line,
    fun hb hl => ?sramDone, fun hb hl => ?lineDone⟩
  case all =>
    refine ⟨_, exec_powered hr rfl (rcCommand_all hb hg), ?_, fun i hi => ?_, fun i hi => ?_, ?_⟩
    · simp [rcTaken]
    · rw [tagOf_cadd, tagOf_tagAll, if_pos (add_mem_granules hi)]
    · rw [tagOf_cadd, tagOf_tagAll, if_neg (not_mem_granules hi), tagOf_rcTaken]
    · simp [rcTaken]
  case old =>
    refine ⟨_, exec_powered hr rfl (rcCommand_if hb hg), ?_, fun i hi => ?_, fun i hi => ?_, ?_⟩
    · simp [rcTaken]
    · simp [tagOf_tagAll, mem_rcMatches, add_mem_granules hi]
    · simp [tagOf_tagAll, mem_rcMatches, not_mem_granules hi]
    · simp [rcTaken]
  case wipe =>
    refine ⟨_, exec_powered hr rfl (rcCommand_wipe hb hg), ?_, fun i hi => ?_, fun i hi => ?_, fun a hlo hhi => ?_, fun a ha => ?_⟩
    · simp [rcTaken]
    · rw [tagOf_cadd, tagOf_wipeTags, if_pos (add_mem_granules hi)]
    · rw [tagOf_cadd, tagOf_wipeTags, if_neg (not_mem_granules hi), tagOf_rcTaken]
    · rw [memRead_cadd, memRead_wipeTags, if_pos (by omega)]
    · rw [memRead_cadd, memRead_wipeTags, if_neg (by omega)]
      rfl
  case complete =>
    refine ⟨_, exec_powered hr rfl (if_pos hb), ?_⟩
    simp
  case sram =>
    refine ⟨_, congrArg ok (if_pos hr), ?_⟩
    simp [sramRemap, hb, Nat.not_le.mpr hk]
  case line =>
    refine ⟨_, rfl, ?_⟩
    simp [lineRemap, hc, hb, Nat.not_le.mpr hm]
  case sramDone => exact ⟨_, rfl, remapDone_sram_spare hb hl⟩
  case lineDone => exact ⟨_, rfl, remapDone_line hb hl⟩

/-! ### A field beside others of its word -/

/-- Setting a field leaves the bits below it. -/
theorem getLsbD_putFld_below {w : W32} {m l v i : Nat} (h : i < l) : (putFld w m l v).getLsbD i = w.getLsbD i := by
  have hle : bitsOf w.toNat m l * 2 ^ l ≤ w.toNat :=
    (Nat.mul_le_mul_right _ ((Nat.mod_le _ _).trans_eq (Nat.shiftRight_eq_div_pow _ _))).trans (Nat.div_mul_le_self _ _)
  have hw : (w.toNat - bitsOf w.toNat m l <<< l + (v % 2 ^ (m + 1 - l)) <<< l) % 2 ^ l = w.toNat % 2 ^ l := by
    rw [Nat.shiftLeft_eq, Nat.shiftLeft_eq, Nat.add_mul_mod_self_right, Nat.mul_comm, Nat.sub_mul_mod (by rwa [Nat.mul_comm])]
  have hb := congrArg (fun n => Nat.testBit n i) hw
  simp only [Nat.testBit_mod_two_pow, h, decide_true, Bool.true_and] at hb
  by_cases hi : i < 32
  · simp only [putFld, BitVec.getLsbD_ofNat, hb, hi, decide_true, Bool.true_and]
    rfl
  · rw [BitVec.getLsbD_of_ge _ _ (not_lt.mp hi), BitVec.getLsbD_of_ge _ _ (not_lt.mp hi)]

theorem fld_putFld_below {w : W32} {m l v m' l' : Nat} (h : m' < l) : fld (putFld w m l v) m' l' = fld w m' l' := by
  apply Nat.eq_of_testBit_eq
  intro i
  simp only [fld, bitsOf, Nat.testBit_mod_two_pow, Nat.testBit_shiftRight]
  by_cases hi : i < m' + 1 - l'
  · exact congrArg _ (getLsbD_putFld_below (by omega))
  · simp [hi]

theorem fld_putFld_state (w : W32) (v : Nat) : fld (putFld w 2 0 v) 2 0 = v % 8 := by
  simp [fld, putFld, bitsOf]
  omega

/-! ### Channels (R418 to R420) -/

@[simp] theorem dmaOf_setDma (s : State) (c : Nat) (x : DmaSt) : dmaOf (setDma s c x) c = x := tget_tput ..

theorem dmaOf_of_dma {s t : State} (h : t.dma = s.dma) (c : Nat) : dmaOf t c = dmaOf s c := by simp [dmaOf, h]

@[simp] theorem dmaOf_send (s : State) (x : Sent) (c : Nat) : dmaOf (send s x) c = dmaOf s c := rfl
@[simp] theorem dmaOf_cadd (s : State) (a n c : Nat) : dmaOf (cadd s a n) c = dmaOf s c := rfl
@[simp] theorem dmaOf_cinc (s : State) (a c : Nat) : dmaOf (cinc s a) c = dmaOf s c := rfl
@[simp] theorem dmaOf_rsetf (s : State) (a m l v c : Nat) : dmaOf (rsetf s a m l v) c = dmaOf s c := rfl
@[simp] theorem dmaOf_setDmState (s : State) (c v k : Nat) : dmaOf (setDmState s c v) k = dmaOf s k := rfl
@[simp] theorem dmaOf_raise (s : State) (src : Nat) (d : List Nat) (c : Nat) : dmaOf (raise s src d) c = dmaOf s c := dmaOf_of_dma (raise_dma ..) c

/-- What requests for a channel's transfer leave as it was: registers, SRAM, and whether software asked for a pause. -/
def dmView (s : State) (c : Nat) : Tbl W32 × Tbl Byte × Bool := (s.regs, s.sram, (dmaOf s c).pauseReq)

theorem dmView_dmRequest (c n : Nat) (s : State) : dmView (dmRequest c n s) c = dmView s c := by
  induction n generalizing s with
  | zero => rfl
  | succ n ih =>
    unfold dmRequest
    dsimp only
    split
    · rfl
    · rw [ih]
      simp [dmView]

@[simp] theorem dmRequest_regs (c n : Nat) (s : State) : (dmRequest c n s).regs = s.regs := congrArg Prod.fst (dmView_dmRequest c n s)
@[simp] theorem dmRequest_sram (c n : Nat) (s : State) : (dmRequest c n s).sram = s.sram := congrArg (fun v => v.2.1) (dmView_dmRequest c n s)
@[simp] theorem dmRequest_pauseReq (c n : Nat) (s : State) : (dmaOf (dmRequest c n s) c).pauseReq = (dmaOf s c).pauseReq :=
  congrArg (fun v => v.2.2) (dmView_dmRequest c n s)

@[simp] theorem dmDrop_sram (s : State) (c : Nat) (keep : Bool) : (dmDrop s c keep).sram = s.sram := rfl
@[simp] theorem dmaOf_dmDrop_reqs (s : State) (c : Nat) : (dmaOf (dmDrop s c false) c).reqs = [] := by simp [dmDrop]

theorem dmState_of_regs {s t : State} (h : t.regs = s.regs) (c : Nat) : dmState t c = dmState s c := by simp [dmState, rf, rget, h]

theorem dmState_setDmState (s : State) (c v : Nat) : dmState (setDmState s c v) c = v % 8 := by
  rw [dmState, setDmState, rf, rsetf, rget_rset, fld_putFld_state]

/-- The fields of DM_STAT above STATE are set beside it (R429). -/
theorem dmState_rsetf (s : State) (c : Nat) {m l : Nat} (v : Nat) (h : 2 < l) : dmState (rsetf s (dmA c + 0x20) m l v) c = dmState s c := by
  rw [dmState, rf, rsetf, rget_rset, fld_putFld_below h]
  rfl

/-! ### Commands of a channel (R419, R422) -/

section
variable {s : State} {c : Nat}

theorem dmaGo_runs (h : dmState s c = 0 ∨ 4 ≤ dmState s c) (hb : dmBadGo s c = false) :
    dmState (dmaGo s c) c = 1 ∧ (dmaOf (dmaGo s c) c).pauseReq = false ∧ (dmaGo s c).sram = s.sram := by
  have hs : dmState (dmaGo s c) c = 1 := by
    rw [dmaGo, if_pos ⟨h, hb⟩, dmState_of_regs (dmRequest_regs ..), dmState, rf, rget_setDma, rget_rset]
    rfl
  refine ⟨hs, ?_, ?_⟩
  · simp [dmaGo, h, hb]
  · simp [dmaGo, h, hb, rsetf]

theorem dmaPause_running (h : dmState s c = 1) :
    dmaPause s c = setDmState (setDma s c { dmaOf s c with pauseReq := true, resumed := false }) c 2 := by
  simp [dmaPause, h]

/-- A transfer that runs on is RUNNING. -/
theorem dmState_dmContinue (s : State) (c : Nat) : dmState (dmContinue s c) c = 1 := by
  have h : (dmContinue s c).regs = (rsetf (rsetf (setDmState s c 1) (dmA c + 0x20) 6 3 0) (dmA c + 0x20) 8 8 0).regs := by
    simp only [dmContinue, dmRequest_regs, setDma_regs]
    split_ifs <;> rfl
  rw [dmState_of_regs h, dmState_rsetf _ _ _ (by decide), dmState_rsetf _ _ _ (by decide), dmState_setDmState]

/-- A transfer given up is ABORTED, and waits for no request of its own (R419). -/
theorem dmAbort_ended (s : State) (c cause : Nat) :
    dmState (dmAbort s c cause) c = 5 ∧ (dmaOf (dmAbort s c cause) c).reqs = [] ∧ (dmAbort s c cause).sram = s.sram := by
  refine ⟨?_, ?_, ?_⟩
  · rw [dmAbort, dmEvent, dmState_of_regs (raise_regs ..), dmState_rsetf _ _ _ (by decide), dmState_rsetf _ _ _ (by decide), dmState_setDmState]
  · simp [dmAbort, dmEvent]
  · simp [dmAbort, dmEvent, rsetf, setDmState]

theorem dmaAbort_under_way (h : dmState s c = 1 ∨ dmState s c = 2 ∨ dmState s c = 3) : ∃ cause, dmaAbort s c = dmAbort s c cause := by
  rcases h with h | h | h
  · exact ⟨0, by simp [dmaAbort, h]⟩
  · exact ⟨0, by simp [dmaAbort, h]⟩
  · exact ⟨rf s (dmA c + 0x20) 6 3, by simp [dmaAbort, h]⟩

/-- A beat between the Rhaby sides that passes every check moves its octets (R418, R423). -/
theorem dmaBeat_moves {t u v : State} {src dst : MemRes} {l : List Byte} {e : Nat} (h : dmState s c = 1) (hs : dmSrcHost s c = false)
    (hd : dmDstHost s c = false) (hb : beatSource s c (beatSize s c) src = (t, some l, e)) (hk : dmCheck t c .store (dmDst s c) dst = (u, none))
    (hw : beatSram u (dmDst s c) l dst = (v, true)) : dmaBeat s c src dst = beatDone v c (beatSize s c) := by
  simp [dmaBeat, h, hs, hd, hb, hk, hw]

/-- Data that a request awaits joins it (R418). -/
theorem dmaCompletion_joins {k : Nat} {r : DmaReq} (data : List Byte) (hk : (dmaOf s c).reqs[k]? = some r) (hd : r.data = none) (he : r.err = 0) :
    dmaCompletion s c k false data none =
      setDma s c { dmaOf s c with reqs := (dmaOf s c).reqs.set k { r with data := some (octetsAt data 0 r.len) } } := by
  simp [dmaCompletion, hk, hd, he, setNth]

theorem dmaCompletion_stale (k : Nat) (data : List Byte) (h : 0 < (dmaOf s c).stale) : dmaCompletion s c k true data none =
    cinc (setDma s c { dmaOf s c with stale := (dmaOf s c).stale - 1 }) (dmA c + 0x60) := by
  simp [dmaCompletion, h.ne']

end

/-- Each command of a channel by its lemma above, a late completion by whose read it was (R228, R418 to R421). -/
theorem dmaChannels : Claims.DmaChannels := by
  intro s u v w c k src dst l data e r f wd
  dsimp only
  intro hr
  refine ⟨fun h hb => ?go, fun h => ?pause, fun h h9 => ?resumePaused, fun h h8 => ?resumeFaulted, fun h => ?abort, fun h hs hd hb hk hw => ?beat,
    fun hk hd he => ?joins, fun h => ?stale, fun hx hn => ?ring, ?chan, ?log⟩
  case go => exact ⟨_, exec_powered hr rfl rfl, dmaGo_runs h hb⟩
  case pause =>
    refine ⟨_, exec_powered hr rfl (dmaPause_running h), dmState_setDmState .., ?_⟩
    simp
  case resumePaused =>
    refine ⟨_, exec_powered hr rfl (t := dmaResume s c) ?_, dmState_dmContinue s c⟩
    simp [dmaResume, h, h9]
  case resumeFaulted =>
    refine ⟨_, exec_powered hr rfl (t := dmaResume s c) ?_, dmState_dmContinue s c⟩
    simp [dmaResume, h, h8]
  case abort =>
    obtain ⟨cause, ha⟩ := dmaAbort_under_way h
    exact ⟨_, exec_powered hr rfl ha, dmAbort_ended s c cause⟩
  case beat => exact exec_powered hr rfl (dmaBeat_moves h hs hd hb hk hw)
  case joins => exact ⟨_, exec_powered hr rfl (dmaCompletion_joins data hk hd he), dmaOf_setDma ..⟩
  case stale =>
    refine ⟨_, exec_powered hr rfl (dmaCompletion_stale k data h), ?_⟩
    simp
  case ring =>
    refine ⟨_, exec_powered hr rfl (entriesArrive_failed [] .timeout hx hn), ?_⟩
    simp
  case chan | log => exact exec_powered hr rfl rfl

/-- Settles O35: the engine by what tagging a list of granules leaves (`tagOf_tagAll`), the channels by what each command leaves of STATE
(`dmState_setDmState`) and of the requests. -/
theorem recolourRemapDma : Obligations.RecolourRemapDma := ⟨recolourAndRemap, dmaChannels⟩

end Sys2Proof.Proofs
end

section
/-! Orders: what a script's stop, an order's end and a function's joining of E leave alone (R242, R280, R285, R286). -/

namespace Sys2Proof.Proofs

open Sys2Proof Sys2Proof.Machine Sys2Proof.Safety

/-! ### Tags written, and sandboxes wiped (R416) -/

@[simp] theorem tagAll_host (s : State) (l : List Nat) (v : Nat) : (tagAll s l v).host = s.host :=
  foldl_keeps (v := State.host) (fun t j => setTag_host t j v) l s

@[simp] theorem tagAll_ord (s : State) (l : List Nat) (v : Nat) : (tagAll s l v).ord = s.ord :=
  foldl_keeps (v := State.ord) (fun t j => setTag_ord t j v) l s

@[simp] theorem setTags_host (s : State) (g n v : Nat) : (setTags s g n v).host = s.host := by rw [setTags_eq, tagAll_host]
@[simp] theorem setTags_ord (s : State) (g n v : Nat) : (setTags s g n v).ord = s.ord := by rw [setTags_eq, tagAll_ord]

@[simp] theorem wipeSandbox_host (s : State) (k : Nat) : (wipeSandbox s k).host = s.host := by
  simp [wipeSandbox, wipeTags]

theorem fnOf_of_host {s t : State} (h : t.host = s.host) (f : Nat) : fnOf t f = fnOf s f := by simp [fnOf, h]

@[simp] theorem fnOf_wipeSandbox (s : State) (k f : Nat) : fnOf (wipeSandbox s k) f = fnOf s f := fnOf_of_host (wipeSandbox_host s k) f

@[simp] theorem fnOf_releaseHart (s : State) (h f : Nat) : fnOf (releaseHart s h) f = fnOf s f := by simp [releaseHart]

/-! ### Long-integer jobs withdrawn (R242, R449) -/

@[simp] theorem fnOf_ctxWatch (s : State) (f : Nat) : fnOf (ctxWatch s) f = fnOf s f := rfl
@[simp] theorem fnOf_setLiJob (s : State) (j : Nat) (x : LiJob) (f : Nat) : fnOf (setLiJob s j x) f = fnOf s f := rfl

@[simp] theorem fnOf_liRun (s : State) (j f : Nat) : fnOf (liRun s j) f = fnOf s f := by
  unfold liRun
  dsimp only
  split <;> rfl

@[simp] theorem fnOf_liSelect (s : State) (f : Nat) : fnOf (liSelect s) f = fnOf s f := by
  unfold liSelect
  split
  · split
    · rfl
    · split
      · rfl
      · split <;> simp
  · split <;> rfl

@[simp] theorem fnOf_liKick (s : State) (f : Nat) : fnOf (liKick s) f = fnOf s f := by
  unfold liKick
  split <;> simp

@[simp] theorem fnOf_liEnd (s : State) (j status f : Nat) : fnOf (liEnd s j status) f = fnOf s f := by
  unfold liEnd
  dsimp only
  split_ifs <;> simp

@[simp] theorem fnOf_liWithdraw (s : State) (p : LiJob → Bool) (f : Nat) : fnOf (liWithdraw s p) f = fnOf s f := by
  unfold liWithdraw
  dsimp only
  split
  · rfl
  · rw [fnOf_liKick]
    exact foldl_keeps (v := fun t => fnOf t f) (fun t j => fnOf_liEnd t j 4 f) _ s

@[simp] theorem fnOf_withdrawLi (s : State) (i f : Nat) : fnOf (withdrawLi s i) f = fnOf s f := by simp [withdrawLi]

/-! ### A script that stops, and the functions that then join E -/

/-- A script that stops leaves every function's state (R280). -/
@[simp] theorem fnOf_dropJob (s : State) (j : Job) (f : Nat) : fnOf (dropJob s j) f = fnOf s f := by
  unfold dropJob
  dsimp only
  rw [fnOf_setJobs]
  split
  · rw [fnOf_wipeSandbox, fnOf_withdrawLi]
    split <;> simp
  · rw [fnOf_withdrawLi]
    split <;> simp

/-- A function's state but for its virtual time. -/
def besidesVtime (x : FnSt) : FnSt := { x with vtime := 0 }

theorem besidesVtime_modFn (s : State) (f g : Nat) {y : FnSt → FnSt} (hy : ∀ x, besidesVtime (y x) = besidesVtime x) :
    besidesVtime (fnOf (modFn s f y) g) = besidesVtime (fnOf s g) := by
  by_cases h : g = f
  · subst h
    rw [fnOf_modFn, hy]
  · rw [fnOf_modFn_ne s y h]

/-- Joining E gives a function a virtual time and changes nothing else (R286). -/
theorem besidesVtime_joinMembers (s : State) (old : List Nat) (g : Nat) : besidesVtime (fnOf (joinMembers s old) g) = besidesVtime (fnOf s g) := by
  refine foldl_keeps (v := fun t => besidesVtime (fnOf t g)) (fun t f => ?_) _ s
  dsimp only
  split
  · exact besidesVtime_modFn t f g fun _ => rfl
  · rfl

theorem raw_besidesVtime (x : FnSt) : (besidesVtime x).raw = x.raw := rfl

@[simp] theorem raw_joinMembers (s : State) (old : List Nat) (g : Nat) : (fnOf (joinMembers s old) g).raw = (fnOf s g).raw := by
  rw [← raw_besidesVtime, besidesVtime_joinMembers, raw_besidesVtime]

@[simp] theorem joinMembers_ord (s : State) (old : List Nat) : (joinMembers s old).ord = s.ord := by
  refine foldl_keeps (v := State.ord) (fun t f => ?_) _ s
  dsimp only
  split <;> rfl

end Sys2Proof.Proofs
end

section
/-! Orders: their checks and HELLO (R261 to R273). -/

namespace Sys2Proof.Proofs

open Sys2Proof Sys2Proof.Machine Sys2Proof.Safety

/-! ### An entry that completes with its status (R273, R283) -/

theorem EntryDone.of_fnOf {s t : State} {f : Nat} {r : RawEntry} {rs : List RawEntry} {st : Nat} {u : State} (h : EntryDone s f r rs st u)
    (hs : fnOf s f = fnOf t f) : EntryDone t f r rs st u := by
  rwa [EntryDone, ← hs]

/-- An entry refused completes with the status, whatever event records it (R273, R283, R299). -/
theorem entryEnds_done {s : State} {f : Nat} {r : RawEntry} {rs : List RawEntry} (h : (fnOf s f).raw = r :: rs) (st : Nat) :
    EntryDone s f r rs st (entryEnds s f r st) := by
  have done : ∀ t, fnOf t f = fnOf s f → EntryDone s f r rs st (completeRaw (popRaw t f) f r st) := fun t ht =>
    (completeRaw_popRaw_done (ht ▸ h) st).of_fnOf ht
  unfold entryEnds
  dsimp only
  split_ifs
  · exact done _ (fnOf_raiseEv ..)
  · exact done _ (fnOf_raiseEv ..)
  · exact done _ rfl

/-! ### HELLO (R270) -/

section
variable {l : List Byte} (hb : helloBad l = false)
include hb

/-- A HELLO that is not BAD_ARG names each interface once. -/
theorem helloPairs_nodup : ((helloPairs l).map (fun p => p.1)).Nodup := by
  simp only [helloBad, Bool.or_eq_false_iff, decide_eq_false_iff_not, not_not] at hb
  obtain ⟨⟨-, hn⟩, -⟩ := hb
  exact hn

/-- The version found for an interface of a HELLO is the one agreed for its pair. -/
theorem find_helloAgree {p : Nat × Nat} (hp : p ∈ helloPairs l) :
    ((helloPairs l).map (fun p => (p.1, helloAgree p))).find? (fun q => q.1 == p.1) = some (p.1, helloAgree p) := by
  rw [List.find?_map]
  cases hq : (helloPairs l).find? ((fun q : Nat × Nat => q.1 == p.1) ∘ fun p => (p.1, helloAgree p)) with
  | none => exact absurd (List.find?_eq_none.mp hq p hp) (by simp)
  | some q =>
    have h1 : q.1 = p.1 := by simpa using List.find?_some hq
    have hqp : q = p := List.inj_on_of_nodup_map (helloPairs_nodup hb) (List.mem_of_find?_eq_some hq) hp h1
    rw [hqp, Option.map_some]

end

/-- The version of interface id after a HELLO, and d where no pair names it. -/
def helloVersion (l : List Byte) (id d : Nat) : Nat :=
  ((((helloPairs l).map (fun p => (p.1, helloAgree p))).find? (fun p => p.1 == id)).map (fun p => p.2)).getD d

theorem helloVersion_of_mem {l : List Byte} (hb : helloBad l = false) {p : Nat × Nat} (hp : p ∈ helloPairs l) (d : Nat) :
    helloVersion l p.1 d = helloAgree p := by
  rw [helloVersion, find_helloAgree hb hp]
  rfl

/-- The completion of a HELLO that agrees: status OK, and the pairs agreed (R270). -/
def helloCompl (r : RawEntry) : Compl :=
  ⟨r.gen, leNat (octetsAt r.octets 2 2), 0, r.genField,
    octetsAt (leBytes 6 0 ++ leBytes 2 0xFFFF ++ (helloPairs r.octets).flatMap (fun p => leBytes 2 p.1 ++ leBytes 2 (helloAgree p))) 0 24, []⟩

/-- A HELLO that passes its checks: the versions agreed, and a completion of status OK (R270). -/
theorem helloOrder_agreed {s : State} {f : Nat} {r : RawEntry} {rs : List RawEntry} (h : (fnOf s f).raw = r :: rs) (ht : r.etype = 1)
    (hk : hdrKind r.octets = 0) (he : entryStatus s f r = 0) (hb : helloBad r.octets = false) (ho : (fnOf s f).out ≤ 1)
    (hv : ∀ p ∈ helloPairs r.octets, p.2 / 256 = 1) : helloOrder s f =
      complete (modFn (popRaw s f) f (fun x => { x with
        vFmt := helloVersion r.octets 1 x.vFmt, vSvc := helloVersion r.octets 2 x.vSvc, vSheaf := helloVersion r.octets 3 x.vSheaf })) f (helloCompl r) := by
  have hm : (helloPairs r.octets).any (fun p => p.2 / 256 != 1) = false := by simpa using fun a b hp => hv (a, b) hp
  simp [helloOrder, helloVersion, helloCompl, List.flatMap_map, h, ht, hk, he, hb, hm, Nat.not_lt.mpr ho]

/-! ### An order that joins the queue (R273, R285, R415) -/

@[simp] theorem fillSandbox_host (s : State) (k d : Nat) (code args : List Byte) : (fillSandbox s k d code args).host = s.host := by
  simp only [fillSandbox]
  rw [cadd_host, memWrite_host, memWrite_host, setTags_host, setTags_host]

@[simp] theorem fillSandbox_ord (s : State) (k d : Nat) (code args : List Byte) : (fillSandbox s k d code args).ord = s.ord := by
  simp only [fillSandbox]
  rw [cadd_ord, memWrite_ord, memWrite_ord, setTags_ord, setTags_ord]

@[simp] theorem bindColour_host (s : State) (d : Nat) : (bindColour s d).host = s.host := by
  unfold bindColour
  dsimp only
  split
  · rfl
  · split
    · rfl
    · split <;> rfl

@[simp] theorem bindColour_jobs (s : State) (d : Nat) : (bindColour s d).ord.jobs = s.ord.jobs := by
  unfold bindColour
  dsimp only
  split
  · rfl
  · split
    · rfl
    · split <;> rfl

/-- Entry r of function f has left its list, and its order stands last in the queue with sandbox k (R273, R415). -/
def OrderQueued (s : State) (f : Nat) (r : RawEntry) (rs : List RawEntry) (k : Nat) (t : State) : Prop :=
  (fnOf t f).raw = rs ∧ ∃ j, t.ord.jobs = s.ord.jobs ++ [j] ∧ j.fn = f ∧ j.tag = leNat (octetsAt r.octets 2 2) ∧ j.domain = hdrDomain r.octets ∧
    j.kind = hdrKind r.octets ∧ j.sandbox = some k ∧ j.stage = .queued ∧ j.budget = (if hdrBudget r.octets = 0 then 60000 else hdrBudget r.octets)

theorem queueOrder_queued {s : State} {f : Nat} {r : RawEntry} {rs : List RawEntry} (h : (fnOf s f).raw = r :: rs) (img buf : List Byte) (k : Nat) :
    OrderQueued s f r rs k (queueOrder s f r img buf k) := by
  unfold queueOrder
  dsimp only
  refine ⟨?raw, ?j, ?jobs, ?job⟩
  case raw =>
    rw [raw_joinMembers, fnOf_of_host (s := popRaw s f) (by rw [fillSandbox_host, bindColour_host])]
    simp [popRaw, h]
  case jobs =>
    rw [joinMembers_ord, fillSandbox_ord, bindColour_jobs]
    rfl
  case job => exact ⟨rfl, rfl, rfl, rfl, rfl, rfl, rfl⟩

/-! ### Entries of type ORDER (R264, R267, R273) -/

section
variable {s : State} {f : Nat} {r : RawEntry} {rs : List RawEntry} (h : (fnOf s f).raw = r :: rs) (ht : r.etype = 1)
include h ht

/-- The first check of R273 that fails gives the entry's status. -/
theorem orderEntry_refused (img buf : List Byte) (ie be : Option HostErr) (hk : hdrKind r.octets ≠ 0) (he : entryStatus s f r ≠ 0) :
    orderEntry s f img buf ie be = entryEnds s f r (entryStatus s f r) := by
  simp [orderEntry, h, ht, hk, he]

variable {k : Nat} (he : entryStatus s f r = 0) (hf : freeSandbox s = some k) (ha : hdrArgbuf r.octets = false)
include he hf ha

theorem orderEntry_resident (img buf : List Byte) (ie be : Option HostErr) (hk : hdrKind r.octets = 2)
    (hs : residentStatus s f (hdrDomain r.octets) (hdrResident r.octets) = 0) : orderEntry s f img buf ie be = queueOrder s f r [] buf k := by
  simp [orderEntry, orderArgCheck, h, ht, hk, he, hf, ha, hs]

theorem orderEntry_image {img : List Byte} (buf : List Byte) (be : Option HostErr) (hk : hdrKind r.octets = 1) (hw : hdrWord r.octets 28 = 0)
    (hs : imageStatus (hdrWord r.octets 24) (octetsAt img 0 (hdrWord r.octets 24)) (fnOf s f).vSvc = 0) : orderEntry s f img buf none be =
      queueOrder (send s (.hostRead f (leNat (octetsAt r.octets 16 8)) (hdrWord r.octets 24))) f r (octetsAt img 0 (hdrWord r.octets 24)) buf k := by
  simp [orderEntry, orderArgCheck, orderRead, h, ht, hk, he, hf, ha, hw, hs]

end

/-- HELLO by what it agrees (`helloOrder_agreed`), another entry by the check that refuses it or by the order that it queues. -/
theorem orderEntries : Claims.OrderEntries := by
  intro s f r rs k img buf ie be
  dsimp only
  intro hr h ht
  refine ⟨fun hk he hb ho hv => ?hello, fun hk he => ?refused, fun hk he hf hs ha => ?resident, fun hk he hf hw ha hs => ?image⟩
  case hello =>
    refine ⟨_, exec_powered hr rfl (helloOrder_agreed h ht hk he hb ho hv), ⟨?_, helloCompl r, ?_, rfl, rfl⟩, fun p hp => ?versions⟩
    · simp [complete, popRaw, h]
    · simp [complete, popRaw]
    case versions =>
      simp only [complete, fnOf_modFn]
      exact ⟨fun h1 => h1 ▸ helloVersion_of_mem hb hp _, fun h2 => h2 ▸ helloVersion_of_mem hb hp _, fun h3 => h3 ▸ helloVersion_of_mem hb hp _⟩
  case refused =>
    obtain ⟨hraw, d, hd, hst, -, hg, -⟩ := entryEnds_done h (entryStatus s f r)
    exact ⟨_, exec_powered hr rfl (orderEntry_refused h ht img buf ie be hk he), hraw, d, hd, hst, hg⟩
  case resident => exact ⟨_, exec_powered hr rfl (orderEntry_resident h ht he hf ha img buf ie be hk hs), queueOrder_queued h [] buf k⟩
  case image => exact ⟨_, exec_powered hr rfl (orderEntry_image h ht he hf ha buf be hk hw hs), queueOrder_queued (s := send s _) h _ buf k⟩

end Sys2Proof.Proofs
end

section
/-! Orders: their runs on harts, and the waits of their scripts (R274 to R277, R286, R291, R294). -/

namespace Sys2Proof.Proofs

open Sys2Proof Sys2Proof.Machine Sys2Proof.Safety

/-! ### Dispatch (R274, R416) -/

@[simp] theorem hartOf_stateChange (s : State) (h : Nat) (st : HState) (k : Nat) : hartOf (stateChange s h st) k = hartOf s k := by
  unfold stateChange
  split <;> simp

@[simp] theorem hstOf_stateChange (s : State) (h : Nat) (st : HState) : hstOf (stateChange s h st) h = st := by
  unfold stateChange
  split
  · assumption
  · simp

@[simp] theorem jobOf_stateChange (s : State) (h : Nat) (st : HState) (i : Nat) : jobOf (stateChange s h st) i = jobOf s i := by
  unfold stateChange
  split <;> simp

@[simp] theorem fnOf_stateChange (s : State) (h : Nat) (st : HState) (f : Nat) : fnOf (stateChange s h st) f = fnOf s f := by
  unfold stateChange
  split <;> simp

@[simp] theorem touchColour_host (s : State) (d : Nat) : (touchColour s d).host = s.host := rfl

@[simp] theorem setSandboxMpu_host (s : State) (h : Nat) (j : Job) (k : Nat) : (setSandboxMpu s h j k).host = s.host := by simp [setSandboxMpu, rsetf]

@[simp] theorem jobOf_touchColour (s : State) (d i : Nat) : jobOf (touchColour s d) i = jobOf s i := rfl

@[simp] theorem jobOf_setSandboxMpu (s : State) (h : Nat) (j : Job) (k i : Nat) : jobOf (setSandboxMpu s h j k) i = jobOf s i := by simp [setSandboxMpu]

theorem gget_gset_same (x : Hart) {r : Nat} (v : W32) (h : r ≠ 0) : gget (gset x r v) r = v := by simp [gget, gset, h]

theorem gget_gset_ne (x : Hart) {r q : Nat} (v : W32) (h : q ≠ r) : gget (gset x r v) q = gget x q := by
  by_cases hr : r = 0
  · simp [gset, hr]
  · simp [gget, gset, hr, tget_tput_ne _ _ _ h]

/-- A hart with each register of a list loaded. -/
def loaded (x : Hart) (l : List (Nat × Nat)) : Hart := l.foldl (fun z p => gset z p.1 (w32 p.2)) x

/-- Loading registers changes nothing else of a hart. -/
theorem loaded_eq (l : List (Nat × Nat)) (x : Hart) : loaded x l = { x with g := (loaded x l).g } := by
  induction l generalizing x with
  | nil => rfl
  | cons p l ih =>
    have hg : gset x p.1 (w32 p.2) = { x with g := (gset x p.1 (w32 p.2)).g } := by
      unfold gset
      split <;> rfl
    have hl : loaded x (p :: l) = loaded (gset x p.1 (w32 p.2)) l := rfl
    rw [hl, ih, hg]

theorem gget_loaded_of_not_mem {r : Nat} {l : List (Nat × Nat)} (h : r ∉ l.map Prod.fst) (x : Hart) : gget (loaded x l) r = gget x r := by
  induction l generalizing x with
  | nil => rfl
  | cons p l ih =>
    simp only [List.map_cons, List.mem_cons, not_or] at h
    exact (ih h.2 _).trans (gget_gset_ne x _ h.1)

/-- Of registers that a list names once each, every one has the value given for it. -/
theorem gget_loaded {l : List (Nat × Nat)} (hn : (l.map Prod.fst).Nodup) {p : Nat × Nat} (hp : p ∈ l) (h0 : p.1 ≠ 0) (x : Hart) :
    gget (loaded x l) p.1 = w32 p.2 := by
  induction l generalizing x with
  | nil => cases hp
  | cons q l ih =>
    simp only [List.map_cons, List.nodup_cons] at hn
    rcases List.mem_cons.mp hp with rfl | hp
    · exact (gget_loaded_of_not_mem hn.1 _).trans (gget_gset_same x _ h0)
    · exact ih hn.2 hp _

theorem entryRegs_nodup (j : Job) (k : Nat) : ((entryRegs j k).map Prod.fst).Nodup := by
  have h : (entryRegs j k).map Prod.fst = [1, 2, 3, 4, 5, 6, 7, 8, 9, 10, 11, 12, 13] := rfl
  rw [h]
  decide

theorem gget_entryRegs (j : Job) (k : Nat) (x : Hart) :
    gget (loaded x (entryRegs j k)) 1 = w32 (scratchA k) ∧ gget (loaded x (entryRegs j k)) 11 = w32 j.domain :=
  ⟨gget_loaded (entryRegs_nodup j k) (p := (1, scratchA k)) (by simp [entryRegs]) (Nat.succ_ne_zero _) x,
    gget_loaded (entryRegs_nodup j k) (p := (11, j.domain)) (by simp [entryRegs]) (Nat.succ_ne_zero _) x⟩

theorem loaded_job (x : Hart) (l : List (Nat × Nat)) : (loaded x l).job = x.job := by rw [loaded_eq]
theorem loaded_level (x : Hart) (l : List (Nat × Nat)) : (loaded x l).level = x.level := by rw [loaded_eq]
theorem loaded_pc (x : Hart) (l : List (Nat × Nat)) : (loaded x l).pc = x.pc := by rw [loaded_eq]
theorem loaded_budget (x : Hart) (l : List (Nat × Nat)) : (loaded x l).budget = x.budget := by rw [loaded_eq]

/-- The script of an IMAGE order starts at its entry in the sandbox's code, at level 0, with the order's registers (R274). -/
theorem scriptHart_image (s : State) (h : Nat) {j : Job} (hk : j.kind = 1) (k : Nat) : ∃ x : Hart,
    scriptHart s h j k = loaded x (entryRegs j k) ∧ x.job = some j.id ∧ x.level = 0 ∧ x.pc = w32 (codeA k + j.entry) ∧ x.budget = j.budget := by
  refine ⟨{ hartOf s h with g := [], p := [], ls := [], le := [], lc := [], pc := w32 (codeA k + j.entry), level := 0, ie := true, aw := false, atw := 0,
                            rept := j.rept, budget := j.budget, budgetPend := false, svc := none, job := some j.id }, ?_, rfl, rfl, rfl, rfl⟩
  simp [scriptHart, loaded, codeExtent, hk]

/-- The hart of an order's dispatch is as its script starts on it; the script's code is found in the state on the way. -/
theorem hartOf_startOrder (s : State) (h : Nat) (j : Job) : ∃ t, hartOf (startOrder s h j) h = scriptHart t h j (j.sandbox.getD 0) :=
  ⟨_, by rw [startOrder, hartOf_stateChange, hartOf_setHart]⟩

theorem orderDispatch_starts {s : State} {h : Nat} {j : Job} (hf : hartFree s h = true) (hr : anyReady s = false) (hp : s.ord.paused = false)
    (hj : (chosenFn s h).bind (oldestOrder s) = some j) : orderDispatch s h = startOrder s h j := by
  simp [orderDispatch, hf, hr, hp, hj]

/-! ### A wait that is over (R277, R291) -/

theorem jobOf_id {s : State} {i : Nat} {j : Job} (h : jobOf s i = some j) : j.id = i := by simpa using List.find?_some h

/-- An order changed under its own number is found changed. -/
theorem jobOf_modJob {s : State} {i : Nat} {j : Job} (h : jobOf s i = some j) {g : Job → Job} (hg : ∀ x, (g x).id = x.id) :
    jobOf (modJob s i g) i = some (g j) := by
  have hc : ((fun j : Job => j.id == i) ∘ fun x => if x.id == i then g x else x) = fun j => j.id == i := by
    funext x
    dsimp only [Function.comp_apply]
    split <;> simp [hg]
  have hf : s.ord.jobs.find? (fun j => j.id == i) = some j := h
  rw [jobOf, modJob, setJobs_ord, List.find?_map, hc, hf]
  simp [jobOf_id h]

/-- An order as its script goes on, on hart h, from wait w. -/
def goesOn (h : Nat) (w : Wait) (j : Job) : Job := { j with stage := .running h, ctx := none, resumed := some w }

@[simp] theorem fnOf_resumeOn (s : State) (h : Nat) (j : Job) (w : Wait) (f : Nat) : fnOf (resumeOn s h j w) f = fnOf s f := by
  rw [resumeOn, fnOf_stateChange, fnOf_setHart]
  exact fnOf_of_host (by rw [touchColour_host, setSandboxMpu_host, modJob, setJobs_host]) f

@[simp] theorem hstOf_resumeOn (s : State) (h : Nat) (j : Job) (w : Wait) : hstOf (resumeOn s h j w) h = .running := hstOf_stateChange ..

/-- The hart that takes a script serves its order, inside the service that the script waits in. -/
theorem hartOf_resumeOn (s : State) (h : Nat) {j : Job} {c : Hart} (hc : j.ctx = some c) (w : Wait) :
    (hartOf (resumeOn s h j w) h).job = some j.id ∧ (hartOf (resumeOn s h j w) h).svc = c.svc := by
  rw [resumeOn, hartOf_stateChange, hartOf_setHart, hc]
  exact ⟨rfl, rfl⟩

theorem jobOf_resumeOn {s : State} {i : Nat} {j : Job} (hj : jobOf s i = some j) (h : Nat) (w : Wait) : jobOf (resumeOn s h j w) i = some (goesOn h w j) := by
  rw [resumeOn, jobOf_stateChange, jobOf_setHart, jobOf_touchColour, jobOf_setSandboxMpu, jobOf_id hj]
  exact jobOf_modJob hj (g := goesOn h w) fun _ => rfl

section
variable {s : State} {i : Nat} {h : Fin 8} {j : Job} {w : Wait} (hr : runs s = true) (hj : jobOf s i = some j) (hw : j.stage = .waiting w)
  (ho : waitOver s j w = true) (hf : hartFree s h = true) {c : Hart} (hc : j.ctx = some c)
include hr hj hw ho hf

/-- A wait that is over lets the script go on, on a free hart (R277). -/
theorem waitResume_over : waitResume s i h = resumeRun (resumeOn s h j w) h (goesOn h w j) w := by
  have hs : resumeWait s j = some w := by simp [resumeWait, hw, ho]
  simp only [waitResume, hj, hw, hr, hf, hs, Bool.not_true, Bool.or_self, Bool.false_eq_true, if_false]
  rw [jobOf_resumeOn hj, Option.getD_some]

include hc

/-- A script that waited in no service goes on with its next instruction. -/
theorem waitResume_plain (hn : c.svc = none) : waitResume s i h = resumeOn s h j w := by
  obtain ⟨-, hs⟩ := hartOf_resumeOn s h hc w
  rw [waitResume_over hr hj hw ho hf, resumeRun, hs, hn]

end

/-- A script whose drain fence has passed returns from its service with OK (R291). -/
theorem waitResume_fence {s : State} {i m n : Nat} {h : Fin 8} {j : Job} {c : Hart} (hr : runs s = true) (hj : jobOf s i = some j)
    (hw : j.stage = .waiting (.fence m)) (ho : waitOver s j (.fence m) = true) (hf : hartFree s h = true) (hc : j.ctx = some c) (hn : c.svc = some n)
    (hd : holds s j.fn j.domain = true) : waitResume s i h = svcRet (resumeOn s h j (.fence m)) h 0 [] := by
  obtain ⟨-, hs⟩ := hartOf_resumeOn s h hc (.fence m)
  have hd' : holds (resumeOn s h j (.fence m)) (goesOn h (.fence m) j).fn (goesOn h (.fence m) j).domain = true := by
    rw [holds, fnOf_resumeOn]
    exact hd
  simp [waitResume_over hr hj hw ho hf, resumeRun, hs, hn, hd']

/-- A script whose wait is over is ready, its order the only one changed (R286). -/
theorem makeReady_jobs (s : State) (i : Nat) (w : Wait) : (makeReady s i w).ord.jobs =
    s.ord.jobs.map (fun y => if y.id == i then { y with stage := .ready s.ord.readyCtr, resumed := some w } else y) := rfl

/-- A receive slot whose spacing has passed. -/
def spaced (s : State) (slot : Nat) : State := { s with ord := { s.ord with installed := tput (fun _ => none) s.ord.installed slot none } }

theorem spacingExpiry_none {s : State} {slot : Nat} (h : s.ord.jobs.find? (fun j => j.stage == .waiting (.spacing slot)) = none) :
    spacingExpiry s slot = spaced s slot := by
  simp only [spacingExpiry, h]
  rfl

theorem spacingExpiry_some {s : State} {slot : Nat} {j : Job} (h : s.ord.jobs.find? (fun j => j.stage == .waiting (.spacing slot)) = some j) :
    spacingExpiry s slot = makeReady (spaced s slot) j.id (.spacing slot) := by
  simp only [spacingExpiry, h]
  rfl

/-- Dispatch by the hart that it leaves, a budget's end by where the script stands, a wait's end by the hart that takes the script. -/
theorem orderRuns : Claims.OrderRuns := by
  intro s h i j w k m slot hr
  refine ⟨fun hf hn hp hj hk => ?dispatch, fun hj hw hl => ?timeout, fun hj hg => ?inGranary, fun hj hg hx => ?executing,
    fun hj hw ho hf hc hs => ?resume, fun c n hj hw ho hf hc hn hd => ?fence, fun hj => ?spacing, fun hj => ?spacingWaited, fun hj hw => ?punt⟩
  case dispatch =>
    refine ⟨_, exec_powered hr rfl (orderDispatch_starts hf hn hp hj), ?_⟩
    obtain ⟨t, ht⟩ := hartOf_startOrder s h j
    obtain ⟨x, hx, hjob, hlevel, hpc, hbudget⟩ := scriptHart_image t h hk (j.sandbox.getD 0)
    obtain ⟨h1, h11⟩ := gget_entryRegs j (j.sandbox.getD 0) x
    rw [ht, hx, loaded_job, loaded_level, loaded_pc, loaded_budget]
    exact ⟨hjob, hlevel, hpc, hbudget, hstOf_stateChange .., h1, h11⟩
  case timeout =>
    refine exec_powered hr rfl (t := budgetExpiry s i) ?_
    simp [budgetExpiry, hj, hw, hl]
  case inGranary =>
    refine ⟨_, exec_powered hr rfl rfl, ?_⟩
    simp [budgetExpiry, hj, hg]
  case executing =>
    have hd : due (setHart s k { hartOf s k with budgetPend := true }) k ≠ some .budget := fun hd => hx _ hd rfl
    refine ⟨_, exec_powered hr rfl rfl, ?_⟩
    simp [budgetExpiry, hj, hg, hd]
  case resume =>
    obtain ⟨c, hctx⟩ := Option.ne_none_iff_exists'.mp hs
    refine ⟨_, congrArg ok (waitResume_plain hr hj hw ho hf hctx (hc c hctx)), ?_, hstOf_resumeOn .., ?_⟩
    · exact (hartOf_resumeOn s h hctx w).1
    · rw [jobOf_resumeOn hj]
      rfl
  case fence => exact congrArg ok (waitResume_fence hr hj hw ho hf hc hn hd)
  case spacing =>
    refine ⟨_, exec_powered hr rfl (spacingExpiry_none hj), ?_, rfl⟩
    simp [spaced]
  case spacingWaited =>
    refine ⟨_, exec_powered hr rfl (spacingExpiry_some hj), ?_, makeReady_jobs ..⟩
    simp [makeReady, modJob, spaced]
  case punt =>
    refine ⟨_, exec_powered hr rfl (t := recvTimeout s i) ?_, makeReady_jobs s i .timedOut⟩
    simp [recvTimeout, hj, hw]

/-- Settles O28: an entry by the first check that fails or by the order it queues (`orderEntries`), a run by the hart that dispatch or resumption
leaves (`orderRuns`). -/
theorem orders : Obligations.Orders := ⟨orderEntries, orderRuns⟩

end Sys2Proof.Proofs
end

section
/-! Services: grants, quotas and the dirty log (R237 to R243, R250 to R253, R260). -/

namespace Sys2Proof.Proofs

open Sys2Proof Sys2Proof.Machine Sys2Proof.Safety

/-! ### A function's grant, and what leaves it alone (R238) -/

/-- A function's grant: its domains, weights, vectors and bound on outstanding entries. -/
def grantOf (x : FnSt) : List Nat × Nat × Nat × Nat × Nat := (x.doms, x.hartW, x.liW, x.evVecs, x.maxOut)

theorem grantOf_besidesVtime (x : FnSt) : grantOf (besidesVtime x) = grantOf x := rfl

theorem grantOf_modFn (s : State) (f g : Nat) {y : FnSt → FnSt} (hy : ∀ x, grantOf (y x) = grantOf x) :
    grantOf (fnOf (modFn s f y) g) = grantOf (fnOf s g) := by
  by_cases h : g = f
  · subst h
    rw [fnOf_modFn, hy]
  · rw [fnOf_modFn_ne s y h]

@[simp] theorem grantOf_joinMembers (s : State) (old : List Nat) (g : Nat) : grantOf (fnOf (joinMembers s old) g) = grantOf (fnOf s g) := by
  rw [← grantOf_besidesVtime, besidesVtime_joinMembers, grantOf_besidesVtime]

@[simp] theorem grantOf_complete (s : State) (f : Nat) (c : Compl) (g : Nat) : grantOf (fnOf (complete s f c) g) = grantOf (fnOf s g) :=
  grantOf_modFn s f g fun _ => rfl

theorem grantOf_completeRaw (s : State) (f : Nat) (r : RawEntry) (status g : Nat) : grantOf (fnOf (completeRaw s f r status) g) = grantOf (fnOf s g) :=
  grantOf_complete ..

/-- An order that ends leaves every grant (R281). -/
@[simp] theorem grantOf_endJob (s : State) (j : Job) (status cause : Nat) (result : List Byte) (g : Nat) :
    grantOf (fnOf (endJob s j status cause result) g) = grantOf (fnOf s g) := by
  unfold endJob
  dsimp only
  split
  · rw [grantOf_modFn]
    · simp
    · exact fun _ => rfl
  · simp

theorem grantOf_withdrawDomain (s : State) (f d g : Nat) : grantOf (fnOf (withdrawDomain s f d).1 g) = grantOf (fnOf s g) := by
  refine (foldl_keeps (v := fun t => grantOf (fnOf t g)) (fun t r => grantOf_completeRaw t f r 11 g) _ _).trans ?_
  rw [grantOf_modFn]
  · exact foldl_keeps (v := fun t => grantOf (fnOf t g)) (fun t j => grantOf_endJob t j 11 0 [] g) _ s
  · exact fun _ => rfl

/-- Orders of the domains that a function loses end, and its new grant stays (R242). -/
theorem grantOf_withdrawDomains (s : State) (f : Nat) (ds : List Nat) (g : Nat) :
    grantOf (fnOf (withdrawDomains s f ds) g) = grantOf (fnOf s g) := by
  unfold withdrawDomains
  dsimp only
  rw [fnOf_withdrawn]
  exact List.foldlRecOn ds _ (motive := fun p : State × Nat => grantOf (fnOf p.1 g) = grantOf (fnOf s g)) rfl
    fun p hp d _ => (grantOf_withdrawDomain p.1 f d g).trans hp

@[simp] theorem fnOf_dropRoutes (s : State) (f : Nat) (p : Nat → Bool) (g : Nat) : fnOf (dropRoutes s f p) g = fnOf s g := by
  refine foldl_keeps (v := fun t => fnOf t g) (fun t e => ?_) _ s
  simp

/-- The grant that a record gives (R238). -/
def recordGrant (l : List Byte) : List Nat × Nat × Nat × Nat × Nat :=
  ((List.range (leNat (octetsAt l 1 1))).map (grantDom l), leNat (octetsAt l 36 1), leNat (octetsAt l 37 1), leNat (octetsAt l 38 1), leNat (octetsAt l 40 2))

/-- A grant applied is the record's (R241). -/
theorem grantOf_applyGrant (s : State) (f : Nat) (l : List Byte) : grantOf (fnOf (applyGrant s f l) f) = recordGrant l := by
  unfold applyGrant
  dsimp only
  rw [fnOf_raiseEv, fnOf_cinc]
  split
  · rw [fnOf_dropRoutes, grantOf_withdrawDomains, fnOf_liWeight, fnOf_setFn]
    rfl
  · rw [grantOf_withdrawDomains, fnOf_liWeight, fnOf_setFn]
    rfl

/-- Settles O33: each service in order passes the checks of its own that the premises answer, and a grant applied outlasts the orders that end for it
(`grantOf_applyGrant`). -/
theorem grantServices : Obligations.GrantServices := by
  intro s h j
  dsimp only
  refine ⟨?grant, ?query, ?quota, ?start, ?harvest, ?stop, fun g o => ?applied⟩
  case grant =>
    intro hs hi hp hg
    refine exec_inService rfl hs ?_
    simp [svcFnGrant, hi, hp, hg]
  case query =>
    intro hs hf hi hp
    refine exec_inService rfl hs ?_
    simp [svcFnQuery, hi, hp, Nat.not_le.mpr hf]
  case quota =>
    intro hs hi hg hh htx hrx hsa hj
    refine exec_inService rfl hs ?_
    simp [svcDomQuota, quotaApply, hi, hg, hh, hj, Nat.not_lt.mpr htx, Nat.not_lt.mpr hrx, Nat.not_lt.mpr hsa]
  case start =>
    rintro ⟨hs, hi, ho, hv, hp, hz⟩ hg hl
    rw [Nat.mul_add_mod] at hv
    refine exec_inService rfl hs ?_
    simp [svcFnLog, hi, ho, hv, hp, hz, hg, hl]
  case harvest =>
    rintro ⟨hs, hi, ho, hv, hp, hz⟩ hl hb hf
    rw [Nat.mul_add_mod] at hv
    refine exec_inService rfl hs ?_
    simp [svcFnLog, hi, ho, hv, hp, hz, hl, hb, hf]
  case stop =>
    rintro ⟨hs, hi, ho, hv, hp, hz⟩ hl hf
    rw [Nat.mul_add_mod] at hv
    refine exec_inService rfl hs ?_
    simp [svcFnLog, hi, ho, hv, hp, hz, hl, hf]
  case applied =>
    have hg := grantOf_applyGrant s g o
    simp only [grantOf, recordGrant, Prod.mk.injEq] at hg
    obtain ⟨-, hw, -, -, hm⟩ := hg
    exact ⟨hw, hm⟩

end Sys2Proof.Proofs
end

section
/-! Commands without their conditions (R277, R502, R512). -/

namespace Sys2Proof.Proofs

open Sys2Proof Sys2Proof.Machine Sys2Proof.Safety

/-- The command of a service that no hart is in leaves the state (R277). -/
theorem exec_noService {i : Instr} {s : State} {h n : Nat} {op : Bool} {body : State → Job → Hart → State}
    (he : exec i s = ok (svcCall s h n op body)) (hs : (hartOf s h).svc = none) : exec i s = .next s := by
  rw [he, svcCall_out op (.inl (by simp [hs])), ok]

/-- Settles O58: each command of the first list is `powered`, each of the second a `svcCall`. -/
theorem commandsNotEnabled : Obligations.CommandsNotEnabled := by
  intro s b m mask p d dir f n t h k c v e seed src
  refine ⟨fun hr i hi => ?dies, fun hs i hi => ?service⟩
  case dies => fin_cases hi <;> exact powered_off hr _
  case service => fin_cases hi <;> exact exec_noService rfl hs

end Sys2Proof.Proofs
end

section
/-! Services: their return to a script, and the basic services (R276 to R288). -/

namespace Sys2Proof.Proofs

open Sys2Proof Sys2Proof.Machine Sys2Proof.Safety

/-! ### The registers that a service leaves (R276, R329) -/

theorem pget_loaded (l : List (Nat × Nat)) (x : Hart) (q : Nat) : pget (loaded x l) q = pget x q := by
  rw [loaded_eq]
  rfl

theorem pget_pset_same (x : Hart) {q : Nat} (b : Bool) (h : q ≠ 0) : pget (pset x q b) q = b := by simp [pget, pset, h]

theorem gget_pset (x : Hart) (q r : Nat) (b : Bool) : gget (pset x q b) r = gget x r := by
  unfold pset
  split <;> rfl

/-- What a service leaves in g2 to g5: its results, and free values where it lists none. -/
def resultRegs (s : State) (res : List Nat) : List (Nat × Nat) :=
  (List.range 4).map (fun k => (2 + k, match res[k]? with
    | some v => v
    | none => Config.freeValue (s.freeCtr + k)))

theorem svcRegs_eq (s : State) (x : Hart) (status : Nat) (res : List Nat) :
    svcRegs s x status res = loaded (pset (gset x 1 (w32 status)) 7 (decide (status = 0))) (resultRegs s res) := rfl

theorem resultRegs_keys (s : State) (res : List Nat) : (resultRegs s res).map Prod.fst = [2, 3, 4, 5] := rfl

theorem gget_svcRegs_status (s : State) (x : Hart) (status : Nat) (res : List Nat) : gget (svcRegs s x status res) 1 = w32 status := by
  rw [svcRegs_eq, gget_loaded_of_not_mem (by simp [resultRegs_keys]), gget_pset, gget_gset_same _ _ (by decide)]

theorem pget_svcRegs_status (s : State) (x : Hart) (status : Nat) (res : List Nat) : pget (svcRegs s x status res) 7 = decide (status = 0) := by
  rw [svcRegs_eq, pget_loaded, pget_pset_same _ _ (by decide)]

theorem gget_svcRegs_result (s : State) (x : Hart) (status : Nat) {res : List Nat} {k : Nat} (hk : k < 4) (hr : k < res.length) :
    gget (svcRegs s x status res) (2 + k) = w32 (res.getD k 0) := by
  have hm : (2 + k, res.getD k 0) ∈ resultRegs s res := List.mem_map.mpr ⟨k, List.mem_range.mpr hk, by simp [hr]⟩
  rw [svcRegs_eq]
  exact gget_loaded (by simp [resultRegs_keys]) hm (by simp) _

theorem gget_svcRegs_above (s : State) (x : Hart) (status : Nat) (res : List Nat) {r : Nat} (h : 5 < r) : gget (svcRegs s x status res) r = gget x r := by
  rw [svcRegs_eq, gget_loaded_of_not_mem (by simp [resultRegs_keys]; omega), gget_pset, gget_gset_ne x _ (by omega)]

/-- Of the hart's save registers a service's results change none. -/
theorem svcRegs_sv (s : State) (x : Hart) (status : Nat) (res : List Nat) : (svcRegs s x status res).sv = x.sv := by
  rw [svcRegs_eq, loaded_eq]
  rfl

theorem hartOf_svcReturn (s : State) (h status : Nat) (res : List Nat) :
    ∃ t : State, hartOf (svcReturn s h status res) h = svcEret (svcRegs t (hartOf s h) status res) := ⟨_, hartOf_setHart ..⟩

/-- A service returns to the script of any order but a built-in's, with the hart as `svcRegs` and `svcEret` leave it (R276, R360). -/
theorem hartOf_svcRet {s : State} {h : Nat} {j : Job} (hj : (hartOf s h).job.bind (jobOf s) = some j) (hb : ¬(j.kind = 2 ∧ j.res < 0x100))
    (status : Nat) (res : List Nat) : ∃ t : State, hartOf (svcRet s h status res) h = svcEret (svcRegs t (hartOf s h) status res) := by
  have hr : svcRet s h status res = svcReturn (modJob s j.id (fun j => { j with resumed := none })) h status res := by
    simp only [svcRet, hj, if_neg hb]
  rw [hr]
  exact hartOf_svcReturn ..

/-- A service's return to a script, and the calls that the ladder and the caller's class refuse (R276, R278, R283, R284, R360). -/
theorem serviceReturn : Claims.ServiceReturn := by
  intro s h j x st res hx
  subst hx
  refine ⟨?returns, ?locked, ?noRight⟩
  case returns =>
    intro hj hb
    obtain ⟨t, ht⟩ := hartOf_svcRet hj hb st res
    dsimp only
    rw [ht]
    refine ⟨gget_svcRegs_status t _ st res, pget_svcRegs_status t _ st res, fun k hk hr => gget_svcRegs_result _ _ _ hk hr, ?pc, ?level, rfl,
      fun r hr => gget_svcRegs_above _ _ _ _ hr⟩
    case pc | level => simp [svcEret, svGet, svcRegs_sv]
  case locked =>
    intro hs hb hr hj hg hd hl
    refine congrArg Host.Outcome.next ?_
    simp [svcCall, hs, hb, hr, hj, hg, hd, hl]
  case noRight =>
    intro hs hb hr hj hg hd hl h0
    refine congrArg Host.Outcome.next ?_
    simp [svcCall, hs, hb, hr, hj, hg, hd, hl, h0]

/-- Services 0x00 to 0x04 and RANDOM in order (R278, R279, R288, R423). -/
theorem basicServices : Claims.BasicServices := by
  intro s h j data
  dsimp only
  refine ⟨fun hs => ?info, fun hs hp hg => ?exit, fun hs hi hm hn => ?argRead, fun hs hi ha hl hm => ?resultWrite, fun hs => ?clock,
    fun hs hlo hhi hi hd => ?random, fun hs hlo hhi hi hd hr => ?noRandom⟩
  case info => exact exec_inService rfl hs rfl
  case exit =>
    refine exec_inService rfl hs ?_
    simp [svcExit, hp, hg]
  case argRead =>
    refine exec_inService rfl hs ?_
    simp [svcArgRead, hi, hm, hn.ne']
  case resultWrite =>
    refine exec_inService rfl hs ?_
    simp [svcResultWrite, hi, ha, hm, Nat.not_lt.mpr hl]
  case clock => exact exec_inService rfl hs rfl
  case random =>
    refine exec_inService rfl hs ?_
    simp [svcRandom, hi, needRandom_drawn hd, Nat.ne_of_gt hlo, Nat.not_lt.mpr hhi]
  case noRandom =>
    refine exec_inService rfl hs ?_
    simp [svcRandom, hi, needRandom, hd, hr, Nat.ne_of_gt hlo, Nat.not_lt.mpr hhi]

/-- Settles O29: what a script finds in its registers is what `svcRegs` leaves there, and each basic service in order passes the checks of its own
that the premises answer. -/
theorem serviceReturnAndBasics : Obligations.ServiceReturnAndBasics := ⟨serviceReturn, basicServices⟩

end Sys2Proof.Proofs
end

section
/-! Services: symmetric keys (R288, R292, R293). -/

namespace Sys2Proof.Proofs

open Sys2Proof Sys2Proof.Machine Sys2Proof.Safety

theorem keyOf_setKey (s : State) (n : Nat) (k : KeyRec) : keyOf (setKey s n k) n = k := tget_tput ..

/-- Settles O30: each service in order passes the checks of its own that the premises answer, and a handle made holds what it was given. -/
theorem keyServices : Obligations.KeyServices := by
  intro s h j
  dsimp only
  refine ⟨fun hs hl hi hr hd => ?load, fun hs hl hr hd => ?gen, fun hs hl hi ha hk hr => ?unwrap, fun hs ha hb hi hk hn hw => ?wrap,
    fun hs hl hi ha hk hr => ?derive, fun hs hi ho ha hk => ?cmac, fun hs hn hk => ?free, fun d key b => ?made⟩
  case load =>
    refine exec_inService rfl hs ?_
    simp [svcKeyLoad, needRandom_drawn hd, hl, hi, hr]
  case gen =>
    refine exec_inService rfl hs ?_
    simp [svcKeyGen, needRandom_drawn hd, hl, hr]
  case unwrap =>
    refine exec_inService rfl hs ?_
    have hl : ¬(svcArg (hartOf s h) 4 ≠ 24 ∧ svcArg (hartOf s h) 4 ≠ 40) := by tauto
    cases hu : Config.keyUnwrap (keyOf s (svcArg (hartOf s h) 2)).key (scratchRead s j (svcArg (hartOf s h) 3) (svcArg (hartOf s h) 4)) <;>
      simp [svcKeyUnwrap, newHandle, hl, hi, ha, hk, hr, hu]
  case wrap =>
    refine exec_inService rfl hs ?_
    simp [svcKeyWrap, ha, hb, hi, hk, hn, hw]
  case derive =>
    refine exec_inService rfl hs ?_
    simp [svcKeyDerive, newHandle, hl, hi, ha, hk, hr]
  case cmac =>
    refine exec_inService rfl hs ?_
    simp [svcCmac, hi, ho, ha, hk]
  case free =>
    refine exec_inService rfl hs ?_
    simp [svcKeyFree, hk, Nat.not_le.mpr hn]
  case made =>
    have hk := keyOf_setKey (freed s) (pickHandle s 0) { used := true, dom := d, len := key.length, key := key, nowrap := b, ptype := 0 }
    simp [makeKey, hk]

end Sys2Proof.Proofs
end

section
/-! The long-integer engine: its jobs, their phases and its clock step (R431 to R446, R449, R642). -/

namespace Sys2Proof.Proofs

open Sys2Proof Sys2Proof.Machine Sys2Proof.Safety

/-! ### The job table -/

@[simp] theorem liJob_setLiJob (s : State) (j : Nat) (x : LiJob) : liJob (setLiJob s j x) j = x := tget_tput ..
theorem liJob_setLiJob_ne (s : State) {j i : Nat} (x : LiJob) (h : i ≠ j) : liJob (setLiJob s j x) i = liJob s i := tget_tput_ne _ _ _ h

/-- What the commands of a job and the ends of its phases are seen by: the table, the job that runs, and SRAM. -/
def liView (s : State) : Tbl LiJob × Option Nat × Tbl Byte := (s.li.jobs, s.li.running, s.sram)

section
variable {s t : State} (h : liView t = liView s)
include h

theorem liJob_of_view (j : Nat) : liJob t j = liJob s j := by
  rw [liJob, show t.li.jobs = s.li.jobs from congrArg Prod.fst h]
  rfl

theorem running_of_view : t.li.running = s.li.running := congrArg (fun v => v.2.1) h

theorem memRead_of_view (a n : Nat) : memRead t a n = memRead s a n := by
  rw [memRead, show t.sram = s.sram from congrArg (fun v => v.2.2) h]
  rfl

end

@[simp] theorem liView_cinc (s : State) (a : Nat) : liView (cinc s a) = liView s := rfl
@[simp] theorem liView_raise (s : State) (src : Nat) (d : List Nat) : liView (raise s src d) = liView s := by simp [liView]
@[simp] theorem liView_ctxWatch (s : State) : liView (ctxWatch s) = liView s := rfl

@[simp] theorem liView_vtJoin (s : State) (j : Nat) : liView (vtJoin s j) = liView s := by
  unfold vtJoin
  dsimp only
  split
  · rfl
  · split <;> rfl

/-- The engine goes on with the job that runs. -/
theorem liKick_running {s : State} {k : Nat} (h : s.li.running = some k) : liKick s = s := by simp [liKick, h]

/-! ### A job's admission and its end (R434, R437, R441) -/

/-- The entry of a job admitted with its seed. -/
def admittedJob (s : State) (j : Nat) (seed : BitVec 256) : LiJob := { liJob s j with st := .queued, seed := seed, age := s.li.ageCtr }

/-- While another job runs, one admitted waits in its entry. -/
theorem liView_liAdmit {s : State} {k : Nat} (h : s.li.running = some k) (j : Nat) (seed : BitVec 256) :
    liView (liAdmit s j seed) = liView (setLiJob s j (admittedJob s j seed)) := by
  unfold liAdmit
  dsimp only
  rw [liKick_running (k := k)]
  · exact liView_vtJoin ..
  · exact (running_of_view (liView_vtJoin ..)).trans h

/-- The entry of a job that has ended: its context wiped and freed. -/
def endedJob (x : LiJob) (status : Nat) : LiJob :=
  { x with st := .ended, status := status, ctx := none, seed := 0, inp := [], aux := [], key := [], sym := [] }

/-- The engine no longer runs the job. -/
def liStopped (s : State) (j : Nat) : State := if s.li.running = some j then setLi s { s.li with running := none } else s

@[simp] theorem liJob_liStopped (s : State) (j i : Nat) : liJob (liStopped s j) i = liJob s i := by
  unfold liStopped
  split <;> rfl

theorem liStopped_other {s : State} {j k : Nat} (h : s.li.running = some k) (hk : k ≠ j) : liStopped s j = s := by simp [liStopped, h, hk]

/-- An end counted under its status (R452). -/
def liEndCounted (s : State) (j status : Nat) : State :=
  if status = 0 ∨ status = 1 then cinc s (liA + 0x8000)
  else if status = 4 then raise (cinc s (liA + 0x8008)) 100 [j]
  else if status = 3 then cinc s (liA + 0x8010)
  else if status = 6 then cinc s (liA + 0x8018) else s

@[simp] theorem liView_liEndCounted (s : State) (j status : Nat) : liView (liEndCounted s j status) = liView s := by
  unfold liEndCounted
  repeat' split
  all_goals simp

theorem liEnd_eq (s : State) (j status : Nat) : liEnd s j status =
    raise (liEndCounted (ctxWatch (liStopped (setLiJob s j (endedJob (liJob s j) status)) j)) j status) 96 [j, status] := rfl

/-- A job that ends leaves its entry ENDED, and stops where it ran; counters and sources are all that else changes. -/
theorem liView_liEnd (s : State) (j status : Nat) : liView (liEnd s j status) = liView (liStopped (setLiJob s j (endedJob (liJob s j) status)) j) := by
  simp [liEnd_eq]

theorem liJob_liEnd (s : State) (j status : Nat) : liJob (liEnd s j status) j = endedJob (liJob s j) status := by
  simp [liJob_of_view (liView_liEnd s j status)]

/-- While another job runs, one that ends leaves its entry ENDED. -/
theorem liView_liEnd_other {s : State} {j k : Nat} (h : s.li.running = some k) (hk : k ≠ j) (status : Nat) :
    liView (liEnd s j status) = liView (setLiJob s j (endedJob (liJob s j) status)) := by
  rw [liView_liEnd, liStopped_other (k := k)]
  · exact h
  · exact hk

theorem liKick_liEnd_other {s : State} {j k : Nat} (h : s.li.running = some k) (hk : k ≠ j) (status : Nat) : liKick (liEnd s j status) = liEnd s j status :=
  liKick_running ((running_of_view (liView_liEnd_other h hk status)).trans h)

/-! ### Jobs (R432, R434, R437, R441, R449) -/

/-- A class-1 job is not charged (R445). -/
theorem liCharge_class1 {s : State} {j : Nat} (h : liClass s j = 1) (cycles : Nat) : liCharge s j cycles = s := by simp [liCharge, h]

/-- The outputs of a job stored in memory, with their length in its entry. -/
def outputsStored (s : State) (j : Nat) : State :=
  setLiJob (memWrite s (liW s j 8) (liJob s j).out) j { liJob s j with written := (liJob s j).out.length }

/-- A class-1 job whose operation creates no handle ends its store phase with its outputs in memory (R432, R434, R445). -/
theorem liStored_class1 {s : State} {j : Nat} (hc : liClass s j = 1) (hm : liCreates (liOpOf s j) = false) (cycles : Nat) :
    liStored s j cycles = liKick (liEnd (outputsStored s j) j (liJob s j).status) := by
  have hm' : ¬((liJob s j).status = 0 ∧ liCreates (liOpOf (memWrite s (liW s j 8) (liJob s j).out) j) = true) := fun h =>
    Bool.false_ne_true (hm.symm.trans h.2)
  unfold liStored
  dsimp only
  rw [if_neg hm']
  exact congrArg (fun t => liKick (liEnd t j (liJob s j).status)) (liCharge_class1 (s := outputsStored s j) hc cycles)

@[simp] theorem liJob_liColour (s : State) (j i : Nat) : liJob (liColour s j) i = liJob s i := rfl

/-- With the engine idle a faulted job runs its phase again (R434). -/
theorem jobResume_idle {s : State} {j : Nat} (hf : (liJob s j).st = .faulted) (hr : s.li.running = none) : jobResume s j =
    let t := liColour (setLiJob s j { liJob s j with st := if (liJob s j).side = 0 then .loading else .storing }) j
    setLi t { t.li with running := some j } := by
  have hn : (liColour (setLiJob s j { liJob s j with st := if (liJob s j).side = 0 then .loading else .storing }) j).li.running.isNone = true := by
    rw [Option.isNone_iff_eq_none]
    exact hr
  simp only [jobResume, hf, ne_eq, not_true_eq_false, if_false, hn, if_true]

/-- Jobs of the engine from their commands, and the ends of their phases (R432, R434, R437, R441, R449). -/
theorem longIntegerJobs : Claims.LongIntegerJobs := by
  intro s j k r cycles
  dsimp only
  intro hr
  refine ⟨fun hf hk hs => ?seedless, fun hf hk hs hd hc hrun => ?seeded, fun hf hk hs hd => ?noSeed, fun hl hrun hkj hfa => ?aborted, fun hfa hrun => ?resumed,
    fun he => ?freed, fun hld h1 h2 => ?loaded, fun hst ha hrun hkj hcl hcr => ?stored⟩
  case seedless => exact exec_powered hr rfl (by simp [jobSubmit, hf, hk, hs])
  case seeded =>
    have he : jobSubmit s j = liAdmit (drewOctets s 32) j (BitVec.ofNat 256 (leNat (drawOctets s 32))) := by simp [jobSubmit, hf, hk, hs, hd, hc]
    have hv := liView_liAdmit (s := drewOctets s 32) hrun j (BitVec.ofNat 256 (leNat (drawOctets s 32)))
    refine ⟨_, exec_powered hr rfl he, ?_⟩
    dsimp only
    rw [liJob_of_view hv, running_of_view hv, liJob_setLiJob]
    exact ⟨rfl, rfl, hrun⟩
  case noSeed =>
    have he : jobSubmit s j = liEnd (raise s 99 [j.val]) j 6 := by simp [jobSubmit, hf, hk, hs, hd, liNoSeed]
    refine ⟨_, exec_powered hr rfl he, ?_⟩
    dsimp only
    rw [liJob_liEnd]
    exact ⟨rfl, rfl⟩
  case aborted =>
    have he : jobAbort s j = liEnd s j 4 := by
      have hs : ¬((liJob s j).st = .faulted ∧ liClass s j = 1) := fun h => hfa h.1 h.2
      simp [jobAbort, hl, hs, liKick_liEnd_other hrun hkj]
    refine ⟨_, exec_powered hr rfl he, ?_⟩
    dsimp only
    rw [liJob_liEnd, running_of_view (liView_liEnd_other hrun hkj 4)]
    exact ⟨rfl, rfl, rfl, rfl, hrun⟩
  case resumed =>
    refine ⟨_, exec_powered hr rfl (jobResume_idle hfa hrun), ?_, rfl⟩
    exact congrArg LiJob.st (liJob_setLiJob s j _)
  case freed =>
    have he : jobFree s j = setLiJob s j {} := if_pos he
    exact ⟨_, exec_powered hr rfl he, liJob_setLiJob .., fun i hi => liJob_setLiJob_ne s _ hi⟩
  case loaded => exact ⟨exec_powered hr rfl (by simp [loadComplete, hld, h1, h2]), liJob_setLiJob ..⟩
  case stored =>
    have hrun' : (outputsStored s j).li.running = some k := hrun
    have he : storeComplete s j cycles r = liEnd (outputsStored s j) j (liJob s j).status := by
      simp [storeComplete, hst, ha, liStored_class1 hcl hcr, liKick_liEnd_other hrun' hkj]
    refine ⟨_, exec_powered hr rfl he, ?_⟩
    dsimp only
    rw [liJob_liEnd, memRead_of_view (liView_liEnd_other hrun' hkj _), outputsStored, liJob_setLiJob]
    exact ⟨rfl, rfl, rfl, memRead_memWrite ..⟩

/-! ### The engine as it computes (R433, R443, R444, R446, R642) -/

/-- A rise that waits takes place in the engine's step; nothing else of the engine changes (R642). -/
theorem liStepRise_li (s : State) : (liStepRise s).li = match s.li.stepTo with
    | some n => { s.li with step := n, stepTo := none }
    | none => s.li := by
  cases h : s.li.stepTo <;> simp [liStepRise, h, rsetf]

/-- Yield points, the end of the compute phase, a long hold of contexts and the clock's step (R433, R443, R444, R446, R642). -/
theorem longIntegerEngine : Claims.LongIntegerEngine := by
  intro s j cycles iter need v
  dsimp only
  intro hr
  refine ⟨fun hrun hc => ?yield, fun hrun hc hst => ?computed, fun hf ht => ?held, fun hrun hlt hle => ?need, fun hlo hhi => ?step⟩
  case yield => exact exec_powered hr rfl (by simp [liYield, hrun, hc])
  case computed =>
    refine ⟨_, powered_runs hr _, ?_⟩
    simp [computeComplete, hrun, hc, hst]
  case held =>
    have he : holdExpiry s = raise (setLi s { s.li with fullTold := true }) 101 [] := if_pos ⟨hf, ht⟩
    exact ⟨_, exec_powered hr rfl he, raise_li ..⟩
  case need =>
    refine ⟨_, powered_runs hr _, ?_⟩
    have hn : min need.val 5 = need.val := min_eq_left hle
    have hli : (rsetf s 0x30000200 3 0 need).li = s.li := rfl
    have he : liNeed s need = liStepRise (setLi (rsetf s 0x30000200 3 0 need) { s.li with stepTo := some need.val }) := by
      simp [liNeed, hn, hli, hlt, hrun, Nat.not_lt.mpr hle]
    rw [he]
    exact liStepRise_li ..
  case step =>
    have he : liStepSet s v = liStepRise (setLi s { s.li with stepTo := some (fld v 2 0) }) := if_pos ⟨hlo, hhi⟩
    exact ⟨_, exec_powered hr rfl he, liStepRise_li ..⟩

/-! ### Services (R435, R437, R438, R449) -/

/-- The descriptor that g2 points to keeps every rule, its handles may be used, and an entry, a handle and randomness are there for its job. -/
def LiFits (s : State) (j : Job) (x : Hart) (e : Nat) : Prop :=
  let l := scratchRead s j (svcArg x 2) 32
  let op := liD l 0 2
  inScratch (svcArg x 2) 32 = true ∧ liDescGood s l = true ∧ liDescStatus s j l = 0 ∧ (liCreates op = true → handleRoom s (decide (op ≠ 0x29)) j.domain = true) ∧
    liEntry s = some e ∧ (liSeedless op = true ∨ canDraw s = true)

/-- A job that fits is submitted, where an order's fourth is none too many (R435, R449). -/
theorem liSubmitWith_fits {s : State} {j : Job} {x : Hart} {e : Nat} (hf : LiFits s j x e) (h : Nat) {four : Bool}
    (h4 : four = true → (liOfOrder s j.id).length < 4) (k : State → Nat → State) :
    liSubmitWith s j x h four k = k (liPlace s j e (scratchRead s j (svcArg x 2) 32)) e := by
  obtain ⟨hi, hg, hst, hroom, he, hseed⟩ := hf
  have hfull : ¬((four = true ∧ 4 ≤ (liOfOrder s j.id).length) ∨
      (liCreates (liD (scratchRead s j (svcArg x 2) 32) 0 2) = true ∧
        (!handleRoom s (decide (liD (scratchRead s j (svcArg x 2) 32) 0 2 ≠ 0x29)) j.domain) = true)) := by
    rintro (⟨hk, hl⟩ | ⟨hk, hl⟩)
    · exact absurd (h4 hk) (Nat.not_lt.mpr hl)
    · rw [hroom hk] at hl
      exact Bool.false_ne_true hl
  have hdraw : (!liSeedless (liD (scratchRead s j (svcArg x 2) 32) 0 2) && !canDraw s && !rngDown s) = false := by
    rcases hseed with hk | hk <;> simp [hk]
  unfold liSubmitWith
  dsimp only
  rw [if_neg (by simp [hi, hg]), if_neg (not_not_intro hst), if_neg hfull, he]
  dsimp only
  rw [hdraw, if_neg Bool.false_ne_true]

/-- Long-integer services in order (R278, R435, R437, R449). -/
theorem longIntegerServices : Claims.LongIntegerServices := by
  intro s h j e
  dsimp only
  refine ⟨fun hs hres hfit => ?run, fun hs hfit hfour hne => ?submit, fun hs ha hf he => ?wait⟩
  case run =>
    refine exec_inService rfl hs ?_
    simp [svcLiRun, hres, liSubmitWith_fits hfit]
  case submit =>
    refine exec_inService rfl hs ?_
    simp [svcLiSubmit, liSubmitWith_fits hfit h (fun _ => hfour), hne]
  case wait =>
    refine exec_inService rfl hs ?_
    simp [svcLiWait, liAwait, liResult, hf, he, Nat.not_le.mpr ha]

/-- Settles O34: while another job runs a command reaches no entry but its own (`liView`), the engine's own commands by their branches, and the services
by what submits a descriptor that fits (`liSubmitWith_fits`). -/
theorem longInteger : Obligations.LongInteger := ⟨longIntegerJobs, longIntegerEngine, longIntegerServices⟩

end Sys2Proof.Proofs
end

section
/-! Services: alarms, policies, monitors and event records (R295, R386, R468, R534, R543 to R546, R560). -/

namespace Sys2Proof.Proofs

open Sys2Proof Sys2Proof.Machine Sys2Proof.Safety

/-! ### A clearance applied (R540, R545) -/

/-- The alarm ladder's own state. -/
def ladder (s : State) : Nat × TmSt := (s.level, s.tm)

@[simp] theorem ladder_raise (s : State) (src : Nat) (d : List Nat) : ladder (raise s src d) = ladder s := by simp [ladder]

@[simp] theorem ladder_grClearZeroed (s : State) : ladder (grClearZeroed s) = ladder s := by
  unfold grClearZeroed
  repeat' split
  · rfl
  · exact ladder_raise ..
  · rfl

@[simp] theorem ladder_failWrite (s : State) (off : Bool) : ladder (failWrite s off) = ladder s := by
  unfold failWrite
  refine foldl_keeps (v := ladder) (fun t p => ?_) _ s
  dsimp only
  split
  · simp [ladder, rsetf]
  · rfl

/-- The ladder at a clearance's level, with its records and source 3777 (R545). -/
def levelCleared (s : State) (target : Nat) : State :=
  let t := { s with level := target, tm := { s.tm with fired := 0, clearSeq := s.tm.clearSeq + 1, latch := false } }
  raise (logPut (logPut t 3 0xFF target 0 false []) 2 0xFF target 0 false [s.level]) 3777 [s.level, target]

theorem ladder_levelCleared (s : State) (target : Nat) : ∃ l, ladder (levelCleared s target) =
    (target, { s.tm with fired := 0, clearSeq := s.tm.clearSeq + 1, latch := false, logPend := l }) := ⟨_, ladder_raise ..⟩

/-- SEAL and ZEROED of the granary cleared below level 3 (R188, R545). -/
def unsealed (s : State) (target : Nat) : State :=
  if target < 3 ∧ s.culm.session then
    let t := rsetf s grA 0 0 0
    if t.gran.zeroed then grClearZeroed t else t
  else s

@[simp] theorem ladder_unsealed (s : State) (target : Nat) : ladder (unsealed s target) = ladder s := by
  unfold unsealed
  dsimp only
  split
  · split
    · exact ladder_grClearZeroed _
    · rfl
  · rfl

theorem clearApply_eq (s : State) (target : Nat) : clearApply s target =
    let t := unsealed (levelCleared s target) target
    if target < 4 ∧ 4 ≤ s.level ∧ t.culm.session then failWrite t true else t := rfl

/-- What the steward undoes with a clearance leaves the ladder to it. -/
theorem ladder_clearApply (s : State) (target : Nat) : ladder (clearApply s target) = ladder (levelCleared s target) := by
  rw [clearApply_eq]
  dsimp only
  split <;> simp

/-- Settles O40: each service in order passes the checks of its own that the premises answer, and what the steward undoes with a clearance keeps the
ladder as the clearance left it (`ladder_clearApply`). -/
theorem alarmServices : Obligations.AlarmServices := by
  intro s h j
  dsimp only
  refine ⟨fun hs hi => ?status, fun hs hi hl hc hg => ?clear, ?applied, fun hs hp hv hoff => ?policy, fun hs hp hv hlv hon hcu => ?policyNow, fun hs hg => ?monitor,
    fun hs hd => ?enable, fun hs hi hl => ?read, fun hs hr hm hlo hhi hv => ?steer, fun hs hr hm hv => ?recorder⟩
  case status =>
    refine exec_inService rfl hs ?_
    simp [svcAlarmStatus, hi]
  case clear =>
    refine exec_inService rfl hs ?_
    cases hk : clearGood s (scratchRead s j (svcArg (hartOf s h) 2) 32) (scratchRead s j (svcArg (hartOf s h) 2 + 32)
      (clearLen (scratchRead s j (svcArg (hartOf s h) 2) 32)))
    case false => simp [svcAlarmClear, hi, hl, hk]
    case true =>
      rcases hg with hlt | ⟨hcu, hb⟩
      · simp [svcAlarmClear, hi, hl, hk, hc, hlt]
      · simp [svcAlarmClear, hi, hl, hk, hc, hb, needCulm_session hcu]
  case applied =>
    obtain ⟨l, hl⟩ := ladder_levelCleared s (leNat (octetsAt (scratchRead s j (svcArg (hartOf s h) 2) 32) 20 1))
    obtain ⟨hlevel, htm⟩ := Prod.mk.inj ((ladder_clearApply ..).trans hl)
    rw [hlevel, htm]
    exact ⟨rfl, rfl, rfl, rfl⟩
  case policy =>
    refine exec_inService rfl hs ?_
    have hn : ¬(4 ≤ s.level ∧ portOn s (svcArg (hartOf s h) 2) = true) := by
      rintro ⟨hl, ho⟩
      rcases hoff with hk | hk
      · exact absurd hk (Nat.not_lt.mpr hl)
      · simp [hk] at ho
    simp [svcFailPolicy, hn, Nat.not_le.mpr hp, Nat.not_le.mpr hv]
  case policyNow =>
    refine exec_inService rfl hs ?_
    simp [svcFailPolicy, needCulm_session hcu, hlv, hon, Nat.not_le.mpr hp, Nat.not_le.mpr hv]
  case monitor =>
    refine exec_inService rfl hs ?_
    simp [svcMonitorCfg, hg]
  case enable =>
    refine exec_inService rfl hs ?_
    simp [hd]
  case read =>
    refine exec_inService rfl hs ?_
    simp only [svcEvRead, hi, List.take_of_length_le hl, if_pos hl]
    rfl
  case steer =>
    refine exec_inService rfl hs ?_
    have hf : svcArg (hartOf s h) 3 ≠ 0xFF := by omega
    simp [svcEvSteer, hr, hm, hf, Nat.not_lt.mpr hlo, Nat.not_lt.mpr hv, Nat.not_le.mpr hhi]
  case recorder =>
    refine exec_inService rfl hs ?_
    simp [svcEvSteer, hr, hm, hv]

end Sys2Proof.Proofs
end

section
/-! Steward updates: VERIFY as a built-in script, whose return ends its order (R268, R280, R416, R645). -/

namespace Sys2Proof.Proofs

open Sys2Proof Sys2Proof.Machine Sys2Proof.Safety

/-- A step of STEWARD_UPDATE whose call is in order gives the state that the step's own effect gives (R278, R646). -/
theorem exec_inUpdate {i : Instr} {s t : State} {h step : Nat} {j : Job} {body : State → Job → Hart → State}
    (he : exec i s = ok (updCall s h step body)) (hs : InService s h 0x7F true j) (hn : svcArg (hartOf s h) 2 % 256 = step) (h1 : 1 ≤ step) (h5 : step ≤ 5)
    (ht : body s j (hartOf s h) = t) : exec i s = .next t := by
  have hk : ¬(step = 0 ∨ 5 < step) := by omega
  refine exec_inService he hs ?_
  dsimp only
  rw [hn, if_neg hk, if_neg (not_not_intro rfl), ht]

/-- VERIFY refuses a slot that holds something, but no good image (R645). -/
theorem updVerify_notGood {s : State} (hb : slotBlank s (otherSlot s) = false) (hr : slotBlank s s.upd.slot = false) (hd : ddReady s = true)
    (hg : imageGood s (otherSlot s) = false) (h : Nat) (agree : Bool) : updVerify s h agree = svcRet s h 3 [] := by
  simp [updVerify, runningFloor, hb, hr, hd, hg]

/-- A RESIDENT order of domain 0 for the built-in script 0x7F, which runs on hart 0 (R268). -/
def verifyOrder : Job :=
  { id := 1, fn := 0, gen := 0, tag := 7, genField := 0, kind := 2, res := 0x7F, stage := .running 0, sandbox := some 0, budget := 60000 }

/-- That order inside STEWARD_UPDATE with step 3, VERIFY. Each slot holds one octet and no image, and region 0 of hart 0's MPU is enabled for the
script, as its dispatch left it (R416). -/
def verifyState : State :=
  { State.reset with
    pw := { mode := .service, step := 15 }
    regs := [(mpA 0 + 8, 0x09)]
    ord := { State.reset.ord with jobs := [verifyOrder] }
    harts := [(0, { level := 1, svc := some 0x7F, job := some 1, g := [(2, 3)] })]
    hstate := [(0, .running)]
    rng := { st := .running, dd := 1 }
    fl := { data := [(slotBase 0, 0), (slotBase 1, 0)] } }

theorem verifyState_inService : InService verifyState (0 : Fin 8) 0x7F true verifyOrder := by
  unfold InService
  decide +kernel

theorem verifyState_notGood : imageGood verifyState (otherSlot verifyState) = false := by decide +kernel

theorem verifyState_step : svcArg (hartOf verifyState (0 : Fin 8)) 2 % 256 = 3 := by decide +kernel

theorem exec_updateVerify_verifyState : exec (.updateVerify 0 true) verifyState = .next (svcRet verifyState 0 3 []) :=
  exec_inUpdate rfl verifyState_inService verifyState_step (by decide) (by decide)
    (updVerify_notGood (by decide +kernel) (by decide +kernel) (by decide +kernel) verifyState_notGood 0 true)

/-- The end of the order releases its hart, region 0 of whose MPU is then disabled (R280, R416). -/
theorem rget_verifyState_ended : rget (svcRet verifyState 0 3 []) (mpA 0 + 8) = 0x08 := by decide +kernel

/-- Refutes O49: where the other slot's image is not good VERIFY is said to leave every register, but one that runs as a built-in script ends its order,
and the release of its hart writes the MPU's registers (`verifyState`). -/
theorem not_scriptsUpdatesProbation : ¬ Obligations.ScriptsUpdatesProbation := by
  rintro ⟨hscripts, -⟩
  obtain ⟨-, -, -, -, -, -, hverify, -⟩ := hscripts verifyState 0 verifyOrder
  obtain ⟨t, ht, -, hbad⟩ := hverify ⟨verifyState_inService, verifyState_step, by decide +kernel⟩ (by decide +kernel) (by decide +kernel) (by decide +kernel) (by decide +kernel) (by decide +kernel)
  obtain rfl : svcRet verifyState 0 3 [] = t := Host.Outcome.next.inj (exec_updateVerify_verifyState.symm.trans ht)
  obtain ⟨-, hregs⟩ := hbad verifyState_notGood
  have hkept : rget (svcRet verifyState 0 3 []) (mpA 0 + 8) = 0x09 := congrArg (fun r => tget regReset r (mpA 0 + 8)) hregs
  exact absurd (rget_verifyState_ended.symm.trans hkept) (by decide)

end Sys2Proof.Proofs
end

section
/-! Metering: the counter banks and their harvest (R300 to R310), minutes and their sheaves (R306 to R321), and the services (R307, R319). -/

namespace Sys2Proof.Proofs

open Sys2Proof Sys2Proof.Machine Sys2Proof.Safety

/-! ### What leaves the banks and minutes alone -/

/-- The active bank, and the state of metering. -/
def meter (s : State) : Nat × MtSt := (s.bank, s.mt)

@[simp] theorem meter_raise (s : State) (src : Nat) (d : List Nat) : meter (raise s src d) = meter s := by simp [meter]

@[simp] theorem meter_noteRefusal (s : State) (m a cause access level : Nat) : meter (noteRefusal s m a cause access level) = meter s := by
  unfold noteRefusal
  dsimp only
  split
  · rfl
  · split <;> simp [meter]

@[simp] theorem meter_tagBegin (s : State) (w : TagWrite) : meter (tagBegin s w) = meter s := by
  have hraise : meter (if (tagValue (tagRec s w.kind)).isNone ∧ runs s then raise s 171 [w.kind] else s) = meter s := by
    split
    · exact meter_raise ..
    · rfl
  unfold tagBegin
  dsimp only
  split
  · exact hraise
  · split <;> exact hraise

@[simp] theorem meter_tagDevice (s : State) (k : Nat) (a : TagAsk) : meter (tagDevice s k a) = meter s := by
  unfold tagDevice tagQueue
  dsimp only
  split
  · exact meter_tagBegin ..
  · rfl

@[simp] theorem meter_tagRefresh (s : State) (epoch : Nat) (first : Bool) : meter (tagRefresh s epoch first) = meter s := by
  have hrec (t : State) (k : Nat) :
      meter (if (tagValue (tagRec t k)).isSome then tagDevice t k (.payload (tagPayload t k)) else t) = meter t := by
    split
    · exact meter_tagDevice ..
    · rfl
  unfold tagRefresh
  extract_lets due
  split
  · rfl
  · exact foldl_keeps (v := meter) hrec _ _

/-! ### SWAP and HARVEST (R302, R303, R308, R310) -/

/-- The minute that boundary `b` closes as epoch `m` (R305 to R308, R311, R312). -/
def closedMinute (s : State) (b : Boundary) (m : Nat) : Minute :=
  { epoch := m, start := s.mt.start, timer := b.timer, stamp := b.stamp, backward := b.stamp != 0 && decide (b.stamp < s.mt.lastStamp),
    us := s.now - s.mt.lastSwap, closed := s.now, present := s.host.fns.flatMap (fun e => if e.2.present then e.2.doms else []), scs := s.ord.scs }

theorem meter_closeMinute (s : State) (b : Boundary) (m : Nat) : meter (closeMinute s b m) =
    (s.bank, { s.mt with boundary := none, minute := some (m + 1), lastSwap := s.now, minutes := s.mt.minutes ++ [closedMinute s b m],
                         lastStamp := if b.stamp = 0 then s.mt.lastStamp else b.stamp }) := by
  unfold closeMinute
  dsimp only
  rw [meter_raise, meter_tagRefresh]
  rfl

/-- The banks change places: the active one is frozen, with the sequence number and the time of its SWAP (R302). -/
def swapped (s : State) : State :=
  freed (setMt { s with bank := 1 - s.bank } { s.mt with frozen := .frozen, swapSeq := (s.mt.swapSeq + 1) % 2 ^ 32, swapTime := free s })

theorem swapBanks_noBoundary {s : State} (hc : s.culm.session = true) (hf : s.mt.frozen = .cleared) (hb : s.mt.boundary = none) :
    swapBanks s = swapped s := by
  simp [swapBanks, swapped, hc, hf, hb]

/-- A boundary of the timer, or of an order that has ended, is closed by its SWAP alone. -/
theorem swapBanks_boundary {s : State} {b : Boundary} {m : Nat} (hc : s.culm.session = true) (hf : s.mt.frozen = .cleared)
    (hb : s.mt.boundary = some b) (ho : b.order = none) (hm : s.mt.minute = some m) : swapBanks s = closeMinute (swapped s) b m := by
  simp [swapBanks, swapped, hc, hf, hb, ho, hm]

/-- Record `k` written as an entry of the landing ring at address `a`, or its write refused (R310, R424). -/
def landed (s : State) (a k : Nat) : State :=
  match bufferFault s 25 .store a 80 with
  | some e => raise (noteRefusal s 25 (a + e.1) e.2 3 0) 197 [a + e.1]
  | none => memWrite s a (ringEntry s k)

@[simp] theorem meter_landed (s : State) (a k : Nat) : meter (landed s a k) = meter s := by
  unfold landed
  split
  · rw [meter_raise, meter_noteRefusal]
  · rfl

theorem deliverOne_eq (s : State) (k : Nat) : deliverOne s k =
    let t := landed s (rf s (mtA + 0x20) 31 0 + 80 * (s.mt.tail % 512)) k
    cinc (setMt t { t.mt with tail := (t.mt.tail + 1) % 65536, left := t.mt.left.tail }) (mtA + 0x108) := rfl

/-- An entry that a refusal keeps from the ring counts as delivered all the same. -/
theorem meter_deliverOne (s : State) (k : Nat) : meter (deliverOne s k) =
    (s.bank, { s.mt with tail := (s.mt.tail + 1) % 65536, left := s.mt.left.tail }) := by
  rw [deliverOne_eq]
  generalize hl : landed s _ k = t
  obtain ⟨hbank, hmt⟩ := Prod.mk.inj (hl ▸ meter_landed s _ k)
  simp [meter, hbank, hmt]

@[simp] theorem deliverOne_bank (s : State) (k : Nat) : (deliverOne s k).bank = s.bank := congrArg Prod.fst (meter_deliverOne s k)

@[simp] theorem deliverOne_mt (s : State) (k : Nat) : (deliverOne s k).mt =
    { s.mt with tail := (s.mt.tail + 1) % 65536, left := s.mt.left.tail } := congrArg Prod.snd (meter_deliverOne s k)

/-- One or more entries delivered, one after the other. -/
theorem deliverAll_mt (l : List Nat) (k : Nat) (s : State) : ((k :: l).foldl deliverOne s).mt =
    { s.mt with tail := (s.mt.tail + (k :: l).length) % 65536, left := s.mt.left.drop (k :: l).length } := by
  induction l generalizing k s with
  | nil => simp
  | cons j l ih =>
    rw [List.foldl_cons, ih, deliverOne_mt]
    simp only [List.length_cons, List.drop_tail]
    congr 1
    omega

theorem deliverAll_bank (l : List Nat) (s : State) : (l.foldl deliverOne s).bank = s.bank :=
  foldl_keeps (v := fun t => t.bank) deliverOne_bank l s

theorem deliverAll_frozen (l : List Nat) (s : State) : (l.foldl deliverOne s).mt.frozen = s.mt.frozen :=
  foldl_keeps (v := fun t => t.mt.frozen) (fun t k => by rw [deliverOne_mt]) l s

theorem deliver_bank (s : State) : (deliver s).bank = s.bank := by
  unfold deliver
  dsimp only
  split
  · rfl
  · split <;> exact deliverAll_bank ..

theorem deliver_frozen (s : State) : (deliver s).mt.frozen = s.mt.frozen := by
  unfold deliver
  dsimp only
  split
  · rfl
  · split <;> exact deliverAll_frozen ..

/-- The landing ring takes entries during a harvest only (R310). -/
theorem deliver_notHarvesting {s : State} (h : s.mt.frozen ≠ .harvesting) : deliver s = s := by simp [deliver, h]

/-- What the ring has room for is delivered without a stall (R310). -/
theorem deliver_fits {s : State} (hf : s.mt.frozen = .harvesting) (hc : s.culm.session = true) (h1 : 1 ≤ s.mt.left.length)
    (h512 : s.mt.left.length ≤ 512 - ringHeld s) :
    (deliver s).mt = { s.mt with tail := (s.mt.tail + s.mt.left.length) % 65536, left := [] } := by
  have hall : (s.mt.left.foldl deliverOne s).mt = { s.mt with tail := (s.mt.tail + s.mt.left.length) % 65536, left := [] } := by
    obtain ⟨k, l, hl⟩ := List.exists_cons_of_length_pos h1
    rw [hl, deliverAll_mt, hl, List.drop_length]
  simp [deliver, hf, hc, List.take_of_length_le h512, hall]

theorem harvestStart_frozen {s : State} (hc : s.culm.session = true) (hf : s.mt.frozen = .frozen) :
    harvestStart s = deliver (setMt s { s.mt with frozen := .harvesting, left := touchedList s }) := by
  simp [harvestStart, hc, hf]

/-! ### The end of a harvest (R303, R308, R313 to R321) -/

theorem storeEvict_frozen (k : Nat) (s : State) (x : Minute) : (storeEvict k s x).mt.frozen = s.mt.frozen := by
  induction k generalizing s with
  | zero => rfl
  | succ k ih =>
    unfold storeEvict
    dsimp only
    split
    · rfl
    · rw [ih]
      split
      · rw [raise_mt]; rfl
      · rfl

theorem sheafBuild_none {s : State} (h : unbuilt s = none) : sheafBuild s = s := by simp [sheafBuild, h]

/-- A minute's sheaves, by domain in rising order (R312, R313). -/
def sheavesOf (s : State) (x : Minute) : List (Nat × List Byte) := (sheafDomains s x).map (fun d => (d, sheafOf s x d))

/-- The minute with its sheaves, their tree's leaves and its root (R313 to R315). -/
def builtMinute (s : State) (x : Minute) : Minute :=
  let leaves := (sheavesOf s x).map (fun e => (e.1, leafHash e.2))
  { x with built := true, scs := [], sheaves := sheavesOf s x, leaves := leaves, first := !s.mt.anyStook, root := treeHash 13 (leaves.map (fun e => e.2)) }

theorem builtMinute_root (s : State) (x : Minute) : (builtMinute s x).root = treeHash 13 ((builtMinute s x).leaves.map (fun e => e.2)) := by
  simp only [builtMinute]

theorem builtMinute_leaves (s : State) (x : Minute) : (builtMinute s x).leaves = (builtMinute s x).sheaves.map (fun e => (e.1, leafHash e.2)) := by
  simp only [builtMinute]

/-- The leaves of a minute's tree are the hashes of its sheaves, and its root is their tree's (R315). -/
theorem sheafBuild_some {s : State} {x : Minute} (h : unbuilt s = some x) : (sheafBuild s).mt.frozen = s.mt.frozen ∧
    ∃ y, y ∈ (sheafBuild s).mt.minutes ∧ y.epoch = x.epoch ∧ y.built = true ∧ y.root = treeHash 13 (y.leaves.map (fun e => e.2)) ∧
      y.leaves = y.sheaves.map (fun e => (e.1, leafHash e.2)) := by
  unfold sheafBuild
  rw [h]
  dsimp only
  exact ⟨storeEvict_frozen .., builtMinute s x, List.mem_append_right _ (List.mem_singleton_self _), rfl, rfl, builtMinute_root s x, builtMinute_leaves s x⟩

/-- The frozen bank is HARVESTED, with event source 3 (R303, R325). -/
def harvested (s : State) : State := raise (setMt s { s.mt with frozen := .harvested }) (mtSrc + 3) [(touchedList s).length]

@[simp] theorem harvested_mt (s : State) : (harvested s).mt = { s.mt with frozen := .harvested } := by simp [harvested]

@[simp] theorem unbuilt_harvested (s : State) : unbuilt (harvested s) = unbuilt s := by simp [unbuilt]

theorem harvestEnd_delivered {s : State} (hc : s.culm.session = true) (hf : s.mt.frozen = .harvesting) (hl : s.mt.left = []) :
    harvestEnd s = sheafBuild (harvested s) := by
  simp [harvestEnd, harvested, hf, hl, hc]

/-! ### Boundaries of the timer, and CLEAR (R303, R306) -/

/-- A boundary that the timer places begins (R306). -/
theorem timerBoundary_mt (s : State) : (timerBoundary s).mt =
    { s.mt with timer := true, boundary := some { timer := true }, due := false, highest := s.mt.minute.map (fun m => m + 1) } := by
  cases ht : s.mt.timer <;> simp [timerBoundary, boundaryStart, ht]

theorem timerBoundary_counts (s : State) : (timerBoundary s).saCnt = s.saCnt ∧ (timerBoundary s).domCnt = s.domCnt := by
  cases ht : s.mt.timer <;> simp [timerBoundary, boundaryStart, ht]

/-- A boundary that waited and begins leaves the banks to what the CLEAR did. -/
theorem boundaryDue_banks (s : State) : (boundaryDue s).mt.frozen = s.mt.frozen ∧ (boundaryDue s).mt.clearing = s.mt.clearing ∧
    (boundaryDue s).saCnt = s.saCnt ∧ (boundaryDue s).domCnt = s.domCnt := by
  unfold boundaryDue
  split
  · rw [timerBoundary_mt]
    exact ⟨rfl, rfl, timerBoundary_counts s⟩
  · exact ⟨rfl, rfl, rfl, rfl⟩

/-- The frozen bank's records and maps zero: CLEARED. -/
theorem clearEnd_clearing {s : State} (h : s.mt.clearing = true) : (clearEnd s).mt.frozen = .cleared ∧ (clearEnd s).mt.clearing = false ∧
    (clearEnd s).saCnt = s.saCnt.filter (fun e => !decide (e.1 / 524288 = frozenBank s)) ∧
    (clearEnd s).domCnt = s.domCnt.filter (fun e => !decide (e.1 / 16384 = frozenBank s)) := by
  unfold clearEnd
  rw [h]
  obtain ⟨hf, hcl, hsa, hdom⟩ := boundaryDue_banks _
  refine ⟨hf.trans ?_, hcl.trans ?_, hsa.trans ?_, hdom.trans ?_⟩ <;> simp

/-- Each clause by the checks of its command that the premises answer (R302, R303, R306, R310, R313). -/
theorem counterBanks : Claims.CounterBanks := by
  intro s b m x v
  dsimp only
  intro hr
  refine ⟨fun hc hf hb => ?swap, fun hc hf hb ho hm => ?swapClose, fun hc hf => ?harvest, fun hc hf hl hu => ?nothingBuilt, fun hc hf hl hu => ?built,
    fun hc hf hcl => ?clear, fun hcl => ?cleared, fun hc hf hst => ?head, fun hm hb hrd => ?timer, fun hm hb hrd => ?wait⟩
  case swap => exact ⟨_, exec_powered hr rfl (swapBanks_noBoundary hc hf hb), rfl, rfl, rfl, rfl⟩
  case swapClose =>
    refine ⟨_, exec_powered hr rfl (swapBanks_boundary hc hf hb ho hm), ?_⟩
    obtain ⟨hbank, hmt⟩ := Prod.mk.inj (meter_closeMinute (swapped s) b m)
    rw [hbank, hmt]
    exact ⟨rfl, rfl, rfl, rfl, _, rfl, rfl, rfl⟩
  case harvest =>
    refine ⟨_, exec_powered hr rfl (harvestStart_frozen hc hf), deliver_frozen _, deliver_bank _, fun h1 h512 => ?_⟩
    rw [deliver_fits (s := setMt s { s.mt with frozen := .harvesting, left := touchedList s }) rfl hc h1 h512]
    exact ⟨rfl, rfl⟩
  case nothingBuilt =>
    have hend := (harvestEnd_delivered hc hf hl).trans (sheafBuild_none ((unbuilt_harvested s).trans hu))
    exact ⟨_, exec_powered hr rfl hend, harvested_mt s⟩
  case built =>
    obtain ⟨hfrozen, hminute⟩ := sheafBuild_some ((unbuilt_harvested s).trans hu)
    exact ⟨_, exec_powered hr rfl (harvestEnd_delivered hc hf hl), by rw [hfrozen, harvested_mt], hminute⟩
  case clear =>
    refine ⟨_, exec_powered hr rfl rfl, ?_⟩
    simp [clearStart, hc, hf, hcl]
  case cleared =>
    obtain ⟨hfrozen, hclearing, hsa, hdom⟩ := clearEnd_clearing hcl
    refine ⟨_, exec_powered hr rfl rfl, hfrozen, hclearing, fun n i hn hi => ?_, fun d i hd hi => ?_⟩
    · rw [hsa, tget_filter _ (fun k => decide (k / 524288 = frozenBank s)), if_pos]
      exact decide_eq_true (by omega)
    · rw [hdom, tget_filter _ (fun k => decide (k / 16384 = frozenBank s)), if_pos]
      exact decide_eq_true (by omega)
  case head =>
    refine exec_powered hr rfl ?_
    have hd : deliver (rset s (mtA + 0x28) (w32 (v.val % 65536))) = rset s (mtA + 0x28) (w32 (v.val % 65536)) := deliver_notHarvesting hf
    simp [headWrite, hc, hst, hd]
  case timer =>
    have hfall : fallback s = timerBoundary s := by simp [fallback, hm, hb, hrd]
    refine ⟨_, exec_powered hr rfl hfall, ?_⟩
    simp [timerBoundary_mt, hm]
  case wait =>
    refine ⟨_, exec_powered hr rfl rfl, ?_⟩
    simp [fallback, hm, hb, hrd]

/-! ### Records and stooks (R306, R316, R317, R325) -/

/-- Code 0x13 to the functions that hold a domain of the stook leaves the minutes alone (R322). -/
theorem sheafDelivery_mt (s : State) (x : Minute) : (sheafDelivery s x).mt = s.mt :=
  foldl_keeps (v := fun t => t.mt) (fun _ _ => raiseEv_mt ..) _ s

/-- A read of a record replaces only the last of its words, where DAMAGED stands. -/
theorem recordRead_words {s : State} (hc : s.culm.session = true)
    (hi : rf s (mtA + 0x30) 16 0 < (if rf s (mtA + 0x30) 17 17 = 0 then 65536 else 4096)) :
    (recordRead s).mt.rd.take 15 = (wordsOf 16 (anyRecord s (if rbit s (mtA + 0x30) 18 then frozenBank s else s.bank)
      (65536 * rf s (mtA + 0x30) 17 17 + rf s (mtA + 0x30) 16 0))).take 15 := by
  simp only [recordRead, hc, Bool.not_true, Bool.false_eq_true, if_false, if_neg (Nat.not_le.mpr hi), setMt_mt, setNth]
  exact List.take_set_of_le (Nat.le_refl 15)

/-- Each clause by the checks of its command or service that the premises answer (R306, R307, R316, R317, R319, R325). -/
theorem meteringRecords : Claims.MeteringRecords := by
  intro s h j x st
  dsimp only
  intro hr
  refine ⟨fun hc hi => ?read, fun hx hret hb => ?signed, fun hx hret hst => ?failed, fun hret => ?retry, fun hst => ?stall, fun hs hsc hd hj hm => ?sheafGet,
    fun hs hus hm hnow hb hrd ht => ?tick⟩
  case read => exact ⟨_, exec_powered hr rfl rfl, recordRead_words hc hi⟩
  case signed =>
    refine ⟨_, exec_powered hr rfl rfl, ?_⟩
    simp [stookSigned, hx, hret, hb, sheafDelivery_mt]
  case failed =>
    refine ⟨_, exec_powered hr rfl rfl, ?_⟩
    have hv : st.val ≠ 0 := Fin.val_ne_zero_iff.mpr hst
    simp [stookSigned, hx, hret, hv]
  case retry =>
    refine ⟨_, exec_powered hr rfl rfl, ?_⟩
    simp [hret]
  case stall =>
    refine exec_powered hr rfl ?_
    simp [hst]
  case sheafGet =>
    refine exec_inService rfl hs ?_
    have hown : ¬(j.domain ≠ 0 ∧ svcArg (hartOf s h) 5 ≠ j.domain) := fun hne => hj.elim hne.1 hne.2
    have hargs : ¬((!inScratch (svcArg (hartOf s h) 3) (svcArg (hartOf s h) 4 % 2 ^ 14)) = true ∨
        ¬(svcArg (hartOf s h) 5 < 4096 ∨ svcArg (hartOf s h) 5 = 0xFFFF)) := by
      rintro (hn | hn)
      · exact absurd hn (by rw [hsc]; decide)
      · exact hn hd
    simp only [svcSheafGet, if_neg hargs, if_neg hown, hm]
  case tick =>
    refine exec_inService rfl hs ?_
    have hopen : ¬(s.mt.minute.isNone ∨ s.now < s.mt.lastSwap + tickFrom s ∨ s.mt.boundary.isSome ∨ !boundaryReady s) := by
      simp [Option.isSome_iff_ne_none.mp hm, Nat.not_lt.mpr hnow, hb, hrd]
    simp only [svcMinuteTick, if_neg (Nat.not_lt.mpr hus), if_neg hopen]
    simp [hb, ht]

/-- Settles O37: a harvest by what the ring takes of it (`deliver_fits`), its end by what the minute built then holds (`sheafBuild_some`), a CLEAR by the
tables without the frozen bank's keys (`clearEnd_clearing`), signing and the services by their branches. -/
theorem metering : Obligations.Metering := ⟨counterBanks, meteringRecords⟩

end Sys2Proof.Proofs
end

section
/-! The Rhaby hart: what an issue comes to (R331, R333), and arithmetic, constants and predicates (R329, R336 to R340). -/

namespace Sys2Proof.Proofs

open Sys2Proof Sys2Proof.Machine Sys2Proof.Safety

/-! ### Issue (R333) -/

section
variable {c : Instr} {s t u : State} {i : Issue} {word : W32} {il pm : Bool} {op : State → Hart → HRes}

/-- What an instruction does that issues and has no fault before its operation. -/
theorem exec_issued (h : Issues s t i) (hc : exec c s = ok (issue s i word il pm op)) (hil : il = false) (hpm : pm = false)
    (hu : settle s i.h (op t (hartOf t i.h)) = u) : exec c s = .next u := by
  rw [hc, hil, hpm, issue_ready h, hu]
  rfl

/-- An instruction whose operation completes without transfer of control. -/
theorem exec_completes {y : Hart} (h : Issues s t i) (hc : exec c s = ok (issue s i word il pm op)) (hil : il = false) (hpm : pm = false)
    (hop : op t (hartOf t i.h) = .next u y) : exec c s = .next (completeNext u i.h y) :=
  exec_issued h hc hil hpm (congrArg (settle s i.h) hop)

/-- An instruction whose operation ends in a precise fault. -/
theorem exec_faults {y : Hart} {k access size : Nat} {a : W32} (h : Issues s t i) (hc : exec c s = ok (issue s i word il pm op)) (hil : il = false)
    (hpm : pm = false) (hop : op t (hartOf t i.h) = .fault u y k a access size) :
    exec c s = .next (fault (setHart u i.h y) i.h k y.pc a access size) :=
  exec_issued h hc hil hpm (congrArg (settle s i.h) hop)

theorem hstOf_issuing (h : Issues s t i) : hstOf s i.h = .running := by
  obtain ⟨hm, -⟩ := h
  simp only [mayIssue, Bool.and_eq_true, beq_iff_eq] at hm
  obtain ⟨⟨⟨-, hr⟩, -⟩, -⟩ := hm
  exact hr

/-- An ILLEGAL encoding. -/
theorem exec_illegal (h : Issues s t i) (hc : exec c s = ok (issue s i word il pm op)) (hil : il = true) :
    exec c s = .next (fault t i.h 1 (hartOf t i.h).pc word 0 0) := by
  have hr := hstOf_issuing h
  obtain ⟨hm, hf, -, -⟩ := h
  rw [hc]
  simp [ok, issue, hr, hm, hf, hil]

/-- A level below the instruction's. -/
theorem exec_notPermitted (h : Issues s t i) (hc : exec c s = ok (issue s i word il pm op)) (hil : il = false) (hpm : pm = true) :
    exec c s = .next (fault t i.h 5 (hartOf t i.h).pc word 0 0) := by
  have hr := hstOf_issuing h
  obtain ⟨hm, hf, hg, -⟩ := h
  rw [hc]
  simp [ok, issue, hr, hm, hf, hg, hil, hpm]

/-- An instruction that only writes g[rd]. -/
theorem exec_writesRd {rd : Nat} {v : Hart → W32} {w : W32} (h : Issues s t i) (hc : exec c s = ok (issue s i word il false (writeRd rd v)))
    (hil : il = false) (hv : v (hartOf t i.h) = w) : exec c s = .next (completeNext t i.h (gset (hartOf t i.h) rd w)) :=
  exec_completes h hc hil rfl (congrArg (fun w => HRes.next t (gset (hartOf t i.h) rd w)) hv)

/-- An instruction that only writes p[pd]. -/
theorem exec_writesPd {pd : Nat} {v : Hart → Bool} {b : Bool} (h : Issues s t i)
    (hc : exec c s = ok (issue s i word il false (fun t x => .next t (pset x pd (v x))))) (hil : il = false) (hv : v (hartOf t i.h) = b) :
    exec c s = .next (completeNext t i.h (pset (hartOf t i.h) pd b)) :=
  exec_completes h hc hil rfl (congrArg (fun b => HRes.next t (pset (hartOf t i.h) pd b)) hv)

end

/-! ### Values (R335, R336, R339) -/

/-- Sign extension to a word (R335). -/
theorem sxw_eq_signExtend (n v : Nat) : sxw n v = (BitVec.ofNat n v).signExtend 32 := by
  rw [sxw, BitVec.signExtend]
  congr 1
  rw [sxt, BitVec.toInt_eq_toNat_cond, BitVec.toNat_ofNat]
  cases n with
  | zero => simp [Nat.mod_one]
  | succ n =>
    have hp : 2 ^ (n + 1) = 2 * 2 ^ n := Nat.pow_succ'
    simp only [Nat.add_sub_cancel]
    split <;> split <;> omega

theorem sxw_toNat {n : Nat} (v : BitVec n) : sxw n v.toNat = v.signExtend 32 := by rw [sxw_eq_signExtend, BitVec.ofNat_toNat, BitVec.setWidth_eq]

theorem mul_eq_ofNat (a b : W32) : a * b = BitVec.ofNat 32 (a.toNat * b.toNat) := by
  apply BitVec.eq_of_toNat_eq
  simp

theorem mulHi_natCast (a b : Nat) : mulHi a b = BitVec.ofNat 32 (a * b / 2 ^ 32) := by
  rw [mulHi, ← BitVec.ofInt_natCast]
  norm_cast

theorem divZ_eq_udiv {a b : W32} (hb : b ≠ 0) : divZ a b = a / b := by
  rw [divZ, if_neg hb]
  apply BitVec.eq_of_toNat_eq
  rw [w32, BitVec.toNat_ofNat, BitVec.toNat_udiv]
  exact Nat.mod_eq_of_lt ((Nat.div_le_self _ _).trans_lt a.isLt)

theorem modZ_eq_umod {a b : W32} (hb : b ≠ 0) : modZ a b = a % b := by
  rw [modZ, if_neg hb]
  apply BitVec.eq_of_toNat_eq
  rw [w32, BitVec.toNat_ofNat, BitVec.toNat_umod]
  exact Nat.mod_eq_of_lt ((Nat.mod_le _ _).trans_lt a.isLt)

theorem predMode_eq (mode : Fin 4) (old c : Bool) : predMode mode old c = if mode = 0 then c else if mode = 1 then old && c else old || c := by
  fin_cases mode <;> rfl

theorem cmpBad_eq_false {mode : Fin 4} {cond : Fin 16} (hm : mode ≠ 3) (hc : cond.val < 12) : cmpBad mode cond = false := by
  simp [cmpBad, hm, hc]

/-! ### Arithmetic (R336, R337) -/

/-- The three-register group: each writes its function of the two words (R336). -/
theorem aluThreeRegister : Claims.AluThreeRegister := by
  intro s t i rd ra rb h
  dsimp only
  refine ⟨exec_writesRd h rfl rfl rfl, exec_writesRd h rfl rfl rfl, exec_writesRd h rfl rfl rfl, exec_writesRd h rfl rfl rfl,
    exec_writesRd h rfl rfl rfl, exec_writesRd h rfl rfl rfl, exec_writesRd h rfl rfl rfl, exec_writesRd h rfl rfl rfl,
    exec_writesRd h rfl rfl rfl, exec_writesRd h rfl rfl rfl, exec_writesRd h rfl rfl rfl, exec_writesRd h rfl rfl rfl,
    exec_writesRd h rfl rfl rfl, exec_writesRd h rfl rfl rfl, exec_writesRd h rfl rfl (mul_eq_ofNat ..), exec_writesRd h rfl rfl rfl,
    exec_writesRd h rfl rfl (mulHi_natCast ..), fun hb => ?byZero, fun hb => ?unsigned, fun ha hb => ?overflow, fun hb hab => ?signed,
    fun hrb => ?oneOperand⟩
  case byZero =>
    refine ⟨exec_writesRd h rfl rfl ?_, exec_writesRd h rfl rfl ?_, exec_writesRd h rfl rfl ?_, exec_writesRd h rfl rfl ?_⟩
    · simp only [divS, if_pos hb]
    · simp only [divZ, if_pos hb]
    · simp only [modS, if_pos hb]
    · simp only [modZ, if_pos hb]
  case unsigned => exact ⟨exec_writesRd h rfl rfl (divZ_eq_udiv hb), exec_writesRd h rfl rfl (modZ_eq_umod hb)⟩
  case overflow =>
    refine ⟨exec_writesRd h rfl rfl ?_, exec_writesRd h rfl rfl ?_⟩
    · simp only [ha, hb]
      decide
    · simp only [ha, hb]
      decide
  case signed =>
    refine ⟨exec_writesRd h rfl rfl ?_, exec_writesRd h rfl rfl ?_⟩
    · simp only [divS, if_neg hb, if_neg hab]
    · simp only [modS, if_neg hb]
  case oneOperand =>
    have hil : decide (rb ≠ 0) = false := by simp [hrb]
    exact ⟨exec_writesRd h rfl hil rfl, exec_writesRd h rfl hil rfl, exec_writesRd h rfl hil rfl, exec_writesRd h rfl hil rfl⟩

/-- The immediate groups: each writes its function of g[ra] and the immediate (R337). -/
theorem aluImmediate : Claims.AluImmediate := by
  intro s t i rd ra k imm h
  dsimp only
  rw [← sxw_toNat imm]
  exact ⟨exec_writesRd h rfl rfl rfl, exec_writesRd h rfl rfl rfl, exec_writesRd h rfl rfl rfl, exec_writesRd h rfl rfl rfl,
    exec_writesRd h rfl rfl rfl, exec_writesRd h rfl rfl rfl, exec_writesRd h rfl rfl rfl, exec_writesRd h rfl rfl rfl⟩

/-- Comparisons and predicate logic (R339, R340). -/
theorem predicates : Claims.Predicates := by
  intro s t i pd pa pb ra rb mode cond imm h
  dsimp only
  refine ⟨fun hm hc => ?compared, exec_writesPd h rfl rfl rfl, exec_writesPd h rfl rfl rfl, exec_writesPd h rfl rfl rfl,
    exec_writesPd h rfl rfl rfl, exec_writesPd h rfl rfl rfl⟩
  case compared =>
    rw [← sxw_toNat imm]
    have hbad := cmpBad_eq_false hm hc
    have hbad' : (cmpBad mode cond || decide ((0 : Fin 8) ≠ 0)) = false := by simp [hbad]
    exact ⟨exec_writesPd h rfl hbad' (predMode_eq ..), exec_writesPd h rfl hbad (predMode_eq ..)⟩

/-- Settles O2: an instruction of these groups is one write of a register or predicate (`exec_writesRd`, `exec_writesPd`), of the value that its
rule gives. -/
theorem arithmetic : Obligations.Arithmetic := ⟨aluThreeRegister, aluImmediate, predicates⟩

/-! ### Constants (R338) -/

theorem shiftLeft_16_eq (n : Nat) : w32 n <<< 16 = BitVec.ofNat 32 (n * 65536) := by
  apply BitVec.eq_of_toNat_eq
  simp [w32, Nat.shiftLeft_eq]

theorem signExtend_17_range (imm : BitVec 17) : -65536 ≤ (imm.signExtend 32).toInt ∧ (imm.signExtend 32).toInt ≤ 65535 := by
  rw [BitVec.toInt_signExtend_of_le (by decide)]
  have := BitVec.toInt_eq_toNat_cond imm
  omega

/-- A 16-bit value leaves bit 16 of an immediate clear. -/
theorem getLsbD_16_of_lt {n : Nat} (h : n < 65536) : (BitVec.ofNat 17 n).getLsbD 16 = false := by
  have hb : n < 2 ^ 16 := h
  rw [BitVec.getLsbD_ofNat, Nat.testBit_lt_two_pow hb, Bool.and_false]

/-- The two halves of a word, each the low 16 bits of an immediate, form it (R338). -/
theorem halves_form (v : W32) : BitVec.ofNat 32 ((BitVec.ofNat 17 (v.toNat / 65536)).toNat % 65536 * 65536) |||
    BitVec.ofNat 32 ((BitVec.ofNat 17 (v.toNat % 65536)).toNat % 65536) = v := by
  have hv := v.isLt
  have hhi : (BitVec.ofNat 17 (v.toNat / 65536)).toNat % 65536 = v.toNat / 65536 := by rw [BitVec.toNat_ofNat]; omega
  have hlo : (BitVec.ofNat 17 (v.toNat % 65536)).toNat % 65536 = v.toNat % 65536 := by rw [BitVec.toNat_ofNat]; omega
  rw [hhi, hlo]
  apply BitVec.eq_of_toNat_eq
  rw [BitVec.toNat_or, BitVec.toNat_ofNat, BitVec.toNat_ofNat, Nat.mod_eq_of_lt (by omega), Nat.mod_eq_of_lt (by omega), Nat.mul_comm]
  have hor := Nat.two_pow_add_eq_or_of_lt (i := 16) (Nat.mod_lt v.toNat (by decide)) (v.toNat / 65536)
  exact hor.symm.trans (Nat.div_add_mod ..)

/-- Settles O1: KSET, KHI and KLO are writes of a register, ILLEGAL where bit 16 of KHI or KLO is set, and a word is the two halves that the pair
writes (`halves_form`). -/
theorem constantInstructions : Obligations.ConstantInstructions := by
  refine ⟨fun s t i rd imm h => ?_, signExtend_17_range, fun v => ?_⟩
  · have hbit : bitAt imm.toNat 16 = imm.getLsbD 16 := BitVec.testBit_toNat imm
    dsimp only
    rw [← hbit]
    exact ⟨exec_writesRd h rfl rfl (sxw_toNat imm), fun hb => ⟨exec_writesRd h rfl hb (shiftLeft_16_eq _), exec_writesRd h rfl hb rfl⟩,
      fun hb => ⟨exec_illegal h rfl hb, exec_illegal h rfl hb⟩⟩
  · exact ⟨BitVec.ofNat 17 (v.toNat / 65536), BitVec.ofNat 17 (v.toNat % 65536), getLsbD_16_of_lt (by omega), getLsbD_16_of_lt (by omega), halves_form v⟩

end Sys2Proof.Proofs
end

section
/-! The Rhaby hart: what fetches, writes of registers, completions and stores leave as it was (R331, R333, R341, R342, R377, R380). -/

namespace Sys2Proof.Proofs

open Sys2Proof Sys2Proof.Machine Sys2Proof.Safety

/-! ### A fetch (R342) -/

/-- What a fetch leaves as it was, of the state: harts, SRAM and its tags, the granary, the ladder, the life cycle, metering, DMA and orders. -/
def beyondFetch (s : State) : Tbl Hart × Tbl HState × Tbl Byte × Tbl Nat × GranSt × Nat × LcSt × MtSt × Tbl DmaSt × OrdSt :=
  (s.harts, s.hstate, s.sram, s.tags, s.gran, s.level, s.lc, s.mt, s.dma, s.ord)

@[simp] theorem beyondFetch_raise (s : State) (src : Nat) (d : List Nat) : beyondFetch (raise s src d) = beyondFetch s := by simp [beyondFetch]
@[simp] theorem beyondFetch_cinc (s : State) (a : Nat) : beyondFetch (cinc s a) = beyondFetch s := rfl
@[simp] theorem beyondFetch_rset (s : State) (a : Nat) (v : W32) : beyondFetch (rset s a v) = beyondFetch s := rfl
@[simp] theorem beyondFetch_freed (s : State) : beyondFetch (freed s) = beyondFetch s := rfl
@[simp] theorem beyondFetch_setSect (s : State) (x : Nat) (v : Sect) : beyondFetch (setSect s x v) = beyondFetch s := rfl

@[simp] theorem beyondFetch_tagFound (s : State) (a : Nat) (res : MemRes) : beyondFetch (tagFound s a res) = beyondFetch s := by
  unfold tagFound
  split <;> rfl

@[simp] theorem beyondFetch_tagEvent (s : State) (a : Nat) : beyondFetch (tagEvent s a) = beyondFetch s := by simp [tagEvent]

@[simp] theorem beyondFetch_busCheck (s : State) (m : Nat) (user : Bool) (k : Kind) (a z : Nat) (res : MemRes) :
    beyondFetch (busCheck s m user k a z res).1 = beyondFetch s := by
  unfold busCheck
  dsimp only
  split
  · dsimp only
    split <;> simp
  · rfl
  · simp

@[simp] theorem beyondFetch_noteRefusal (s : State) (m a cause access level : Nat) :
    beyondFetch (noteRefusal s m a cause access level) = beyondFetch s := by
  unfold noteRefusal
  dsimp only
  split
  · rfl
  · split <;> simp

@[simp] theorem beyondFetch_sramLane (s : State) (a : Nat) (res : MemRes) : beyondFetch (sramLane s a res).1 = beyondFetch s := by
  unfold sramLane
  extract_lets bad unc
  split
  · rw [beyondFetch_raise, beyondFetch_cinc]
    rfl
  · split <;> simp

@[simp] theorem beyondFetch_wearRead (s : State) (x n : Nat) : beyondFetch (wearRead s x n) = beyondFetch s := by
  unfold wearRead wearNear
  dsimp only
  split
  · split <;> simp
  · simp

@[simp] theorem beyondFetch_flashRead (s : State) (a : Nat) (fetch : Bool) (res : MemRes) : beyondFetch (flashRead s a fetch res).1 = beyondFetch s := by
  have hs : beyondFetch (flashSuspend s a) = beyondFetch s := by
    unfold flashSuspend
    split
    · split <;> rfl
    · rfl
  unfold flashRead
  dsimp only
  split
  · simp [flashError]
  · split <;> simp [flashError, hs]

@[simp] theorem beyondFetch_busRead (s : State) (a n : Nat) (fetch : Bool) (res : MemRes) : beyondFetch (busRead s a n fetch res).1 = beyondFetch s := by
  unfold busRead
  dsimp only
  split_ifs <;> simp

theorem beyondFetch_fetchAt (s : State) (h : Nat) (res : MemRes) : beyondFetch (fetchAt s h res).1 = beyondFetch s := by
  unfold fetchAt
  dsimp only
  split
  · simp
  · split <;> simp

theorem beyondFetch_issues {s t : State} {i : Issue} (h : Issues s t i) : beyondFetch t = beyondFetch s := by
  obtain ⟨-, hf, -, -⟩ := h
  rw [← beyondFetch_fetchAt s i.h i.fetch, hf]

/-! ### Registers and predicates (R329, R331) -/

theorem pget_gset (x : Hart) (r q : Nat) (v : W32) : pget (gset x r v) q = pget x q := by
  unfold gset
  split <;> rfl

theorem pget_pset_ne (x : Hart) {r q : Nat} (b : Bool) (h : q ≠ r) : pget (pset x r b) q = pget x q := by
  by_cases hr : r = 0
  · simp [pset, hr]
  · simp [pget, pset, hr, tget_tput_ne _ _ _ h]

/-! ### Completion (R331, R380) -/

/-- The loop test changes PC and the loop counts at most. -/
theorem loopTest_eq (a : W32) (l : List Nat) (x : Hart) : loopTest a l x = { x with pc := (loopTest a l x).pc, lc := (loopTest a l x).lc } := by
  induction l generalizing x with
  | nil => rfl
  | cons n r ih =>
    have hset : ∀ y : Hart, { lcSet x n (lcGet x n - 1) with pc := y.pc, lc := y.lc } = { x with pc := y.pc, lc := y.lc } := fun _ => rfl
    unfold loopTest
    split
    · split
      · rfl
      · rw [ih, hset]
    · exact ih x

theorem advance_eq (x : Hart) : advance x = { x with pc := (advance x).pc, lc := (advance x).lc } := loopTest_eq ..

@[simp] theorem hartOf_retire (s : State) (h k : Nat) : hartOf (retire s h) k = hartOf s k := rfl
@[simp] theorem hstOf_retire (s : State) (h k : Nat) : hstOf (retire s h) k = hstOf s k := rfl

theorem cget_cinc_ne (s : State) {a b : Nat} (h : b ≠ a) : cget (cinc s a) b = cget s b := tget_tput_ne _ _ _ h

theorem hartOf_completeNext (t : State) (h : Nat) (y : Hart) : hartOf (completeNext t h y) h = advance y := hartOf_setHart ..

theorem hartOf_completeNext_ne (t : State) {h k : Nat} (y : Hart) (n : k ≠ h) : hartOf (completeNext t h y) k = hartOf t k := hartOf_setHart_ne _ _ n

/-! ### An instruction that may not issue (R333, R377) -/

theorem issue_held {s : State} {i : Issue} (hd : hstOf s i.h ≠ .haltedDebug) (hm : mayIssue s i.h = false) (word : W32) (il pm : Bool)
    (op : State → Hart → HRes) : issue s i word il pm op = s := by
  simp [issue, hd, hm]

/-- The frames of instructions, part by part: the fetch, the completion, the writes of registers, and an issue held (R331, R333, R342, R377, R380). -/
theorem instructionFrames : Claims.InstructionFrames := by
  refine ⟨fun s t i h => ?fetch, fun t h y => ?completion, fun x rd r p v b => ?registers, fun s i w il pm op hd hm => issue_held hd hm w il pm op⟩
  case fetch => simpa only [beyondFetch, Prod.mk.injEq] using beyondFetch_issues h
  case completion =>
    exact ⟨fun k => hartOf_completeNext_ne t y, rfl, rfl, rfl, rfl, rfl, rfl, rfl, rfl, rfl,
      ⟨_, _, (hartOf_completeNext t h y).trans (advance_eq y)⟩, fun a ha => cget_cinc_ne _ ha⟩
  case registers =>
    exact ⟨gget_gset_ne x v, pget_gset x rd p v, gget_pset x rd r b, pget_pset_ne x b, fun h => ⟨gget_gset_same x v h, pget_pset_same x b h⟩⟩

/-! ### SRAM (R341) -/

/-- Octets elsewhere read as before. -/
theorem tgets_tputs_out {α : Type} [DecidableEq α] (d : Nat → α) (l : List α) (k : Nat) (t : Tbl α) (n m : Nat) (h : m + n ≤ k ∨ k + l.length ≤ m) :
    tgets d (tputs d t k l) m n = tgets d t m n := by
  induction n generalizing m with
  | zero => rfl
  | succ n ih => rw [tgets, tgets, tget_tputs_out d l k m t (by omega), ih (m + 1) (by omega)]

theorem memRead_memWrite_out (s : State) {a b n : Nat} {l : List Byte} (h : b + n ≤ a ∨ a + l.length ≤ b) :
    memRead (memWrite s a l) b n = memRead s b n := tgets_tputs_out _ l a s.sram n b h

theorem memoryWrites : Claims.MemoryWrites := fun s a l =>
  ⟨memRead_memWrite s a l, fun _ _ => memRead_memWrite_out s, tblWf_tputs _ l a, rfl, rfl⟩

/-- Settles O57: a fetch by what it leaves alone (`beyondFetch`), a completion by what the loop test can change (`loopTest_eq`), a write of
SRAM by what its table reads elsewhere. -/
theorem memoryAndInstructionFrames : Obligations.MemoryAndInstructionFrames := ⟨instructionFrames, memoryWrites⟩

end Sys2Proof.Proofs
end

section
/-! The Rhaby hart: g0 and p0 (R329), loads, stores and the atomic pair (R341 to R346). -/

namespace Sys2Proof.Proofs

open Sys2Proof Sys2Proof.Machine Sys2Proof.Safety

/-! ### Loads (R341, R342) -/

theorem effAddr_eq (x : Hart) (ra : Nat) (imm : BitVec 12) : effAddr x ra imm = (gget x ra + imm.signExtend 32).toNat := by
  rw [effAddr, sxw_toNat]

section
variable {t u : State} {i : Issue} {x : Hart} {z rd ra : Nat} {imm : BitVec 12} {res : MemRes}

theorem loadOp_answered {signed : Bool} {l : List Byte} {v : W32} (hl : hartLoad t i.h x .load (effAddr x ra imm) z res = (u, .val l))
    (hv : loadExt signed z l = v) : loadOp i signed z rd ra imm res t x = .next u (gset x rd v) := by
  simp only [loadOp, hl, hv]

theorem loadOp_failed {c : Nat} (hl : hartLoad t i.h x .load (effAddr x ra imm) z res = (u, .bad c)) (signed : Bool) :
    loadOp i signed z rd ra imm res t x = .fault u x c (w32 (effAddr x ra imm)) 2 z := by
  simp only [loadOp, hl]

/-- A word outside the register ranges is loaded from memory (R341). -/
theorem rd32Op_memory (hr : inRegs (effAddr x ra imm) = false) : rd32Op i rd ra imm res t x = loadOp i false 4 rd ra imm res t x := by
  simp [rd32Op, hr]

end

/-- Loads, and their faults (R341, R342, R373). -/
theorem loads : Claims.Loads := by
  intro s t u i rd ra imm res l c h
  dsimp only
  rw [← effAddr_eq]
  refine ⟨fun hl => ⟨?_, ?_⟩, fun hl => ⟨?_, ?_⟩, fun hr hl => ?_, fun hl => ⟨?_, ?_⟩, fun hl => ⟨?_, ?_⟩, fun hr hl => ?_⟩
  · exact exec_completes h rfl rfl rfl (loadOp_answered hl (sxw_eq_signExtend 8 _))
  · exact exec_completes h rfl rfl rfl (loadOp_answered hl rfl)
  · exact exec_completes h rfl rfl rfl (loadOp_answered hl (sxw_eq_signExtend 16 _))
  · exact exec_completes h rfl rfl rfl (loadOp_answered hl rfl)
  · exact exec_completes h rfl rfl rfl ((rd32Op_memory hr).trans (loadOp_answered hl rfl))
  · exact exec_faults h rfl rfl rfl (loadOp_failed hl true)
  · exact exec_faults h rfl rfl rfl (loadOp_failed hl false)
  · exact exec_faults h rfl rfl rfl (loadOp_failed hl true)
  · exact exec_faults h rfl rfl rfl (loadOp_failed hl false)
  · exact exec_faults h rfl rfl rfl ((rd32Op_memory hr).trans (loadOp_failed hl false))

/-! ### g0 and p0 (R329) -/

theorem gset_zero (x : Hart) (v : W32) : gset x 0 v = x := rfl
theorem pset_zero (x : Hart) (b : Bool) : pset x 0 b = x := rfl

/-- Settles O3: an instruction that names g0 or p0 completes as with another destination (`exec_writesRd`, `exec_writesPd`, `loadOp_answered`),
and the write to either leaves the hart as it is. -/
theorem gZeroAndPZero : Obligations.GZeroAndPZero := by
  refine ⟨fun x => ⟨rfl, rfl⟩, gset_zero, pset_zero, fun s t i ra rb pa pb z l imm u h => ⟨?add, ?pand, fun hr hl => ?load, fun _ hl hr => ?fault⟩⟩
  case add =>
    have he := exec_writesRd (c := .add i 0 ra rb) h rfl rfl rfl
    rwa [Fin.val_zero, gset_zero] at he
  case pand =>
    have he := exec_writesPd (c := .pand i 0 pa pb 0) h rfl rfl rfl
    rwa [Fin.val_zero, pset_zero] at he
  case load => exact exec_completes h rfl rfl rfl ((rd32Op_memory hr).trans (loadOp_answered hl rfl))
  case fault => exact exec_faults h rfl rfl rfl ((rd32Op_memory hr).trans (loadOp_failed hl false))

/-! ### Stores (R341, R344) -/

/-- A hart with a store as the youngest entry of its buffer, at its level. -/
def stored (x : Hart) (a z : Nat) (v : W32) : Hart := { x with sbuf := x.sbuf ++ [⟨a, z, v, x.level⟩] }

theorem hartStore_put {s w : State} {h : Nat} {x : Hart} {k : Kind} {a z : Nat} {res : MemRes} (hb : x.sbuf.length < 8)
    (hc : hartCheck s h x k a z res = (w, none)) (v : W32) : hartStore s h x k a z v res = (w, .put (stored x a z v)) := by
  simp [hartStore, hc, Nat.not_le.mpr hb, stored]

theorem storeOp_put {t u : State} {i : Issue} {x : Hart} {z rs ra : Nat} {imm : BitVec 12} {tag : MemRes} {v : W32} (hb : x.sbuf.length < 8)
    (hc : hartCheck t i.h x .store (effAddr x ra imm) z tag = (u, none)) (hv : w32 ((gget x rs).toNat % 2 ^ (8 * z)) = v) :
    storeOp i z rs ra imm tag t x = .next u (stored x (effAddr x ra imm) z v) := by
  simp only [storeOp, hartStore_put hb hc, hv]

theorem w32_mod_two_pow (v : W32) {n : Nat} (hn : n ≤ 32) : w32 (v.toNat % 2 ^ n) = v &&& w32 (2 ^ n - 1) := by
  have hp : 2 ^ n ≤ 2 ^ 32 := Nat.pow_le_pow_right (by decide) hn
  apply BitVec.eq_of_toNat_eq
  rw [BitVec.toNat_and, w32, w32, BitVec.toNat_ofNat, BitVec.toNat_ofNat, Nat.mod_eq_of_lt (b := 2 ^ 32) (by omega),
    Nat.mod_eq_of_lt (b := 2 ^ 32) (by omega), Nat.and_two_pow_sub_one_eq_mod]

theorem w32_mod_word (v : W32) : w32 (v.toNat % 2 ^ 32) = v := by
  rw [Nat.mod_eq_of_lt v.isLt, w32, BitVec.ofNat_toNat, BitVec.setWidth_eq]

/-- Stores with room in the buffer (R341, R344). -/
theorem stores : Claims.Stores := by
  intro s t u i rs ra imm tag h
  dsimp only
  rw [← effAddr_eq]
  intro hb
  refine ⟨fun hc => ?_, fun hc => ?_, fun hc => ?_⟩
  · exact exec_completes h rfl rfl rfl (storeOp_put hb hc (w32_mod_two_pow (n := 8) _ (by decide)))
  · exact exec_completes h rfl rfl rfl (storeOp_put hb hc (w32_mod_two_pow (n := 16) _ (by decide)))
  · exact exec_completes h rfl rfl rfl (storeOp_put hb hc (w32_mod_word _))

/-! ### XCHG and CAS (R346) -/

/-- The word read goes to g[rd]; it is replaced, by CAS only where it equals g[rd]. -/
theorem amoOp_answered {t u : State} {i : Issue} {x : Hart} {ra : Nat} {res : MemRes} (hb : x.sbuf = [])
    (hc : (hartCheck t i.h x .amo (gget x ra).toNat 4 res).2 = none)
    (hl : sramLane (hartCheck t i.h x .amo (gget x ra).toNat 4 res).1 (gget x ra).toNat res = (u, true)) (cas : Bool) (rd rb : Nat) :
    let old := w32 (leNat (memRead u (gget x ra).toNat 4))
    amoOp i cas rd ra rb res t x =
      .next (if cas && old != gget x rd then u else memWrite u (gget x ra).toNat (leBytes 4 (gget x rb).toNat)) (gset x rd old) := by
  simp [amoOp, hb, hc, hl]

/-- The atomic pair with the store buffer empty (R346). -/
theorem atomics : Claims.Atomics := by
  intro s t u i rd ra rb res h
  dsimp only
  intro hb hc hl
  have hop := amoOp_answered hb hc hl
  refine ⟨exec_completes h rfl rfl rfl (hop false rd rb), fun he => ?equal, fun he => ?differs⟩
  case equal =>
    refine exec_completes h rfl rfl rfl ((hop true rd rb).trans ?_)
    rw [if_neg (by simpa [w32] using he)]
    rfl
  case differs =>
    refine exec_completes h rfl rfl rfl ((hop true rd rb).trans ?_)
    rw [if_pos (by simpa [w32] using he)]
    rfl

/-- Settles O4: a load by its answer (`loadOp_answered`, `loadOp_failed`), a store by the entry that its buffer takes (`storeOp_put`), the atomic pair by
the word it finds (`amoOp_answered`). -/
theorem loadsStoresAtomics : Obligations.LoadsStoresAtomics := ⟨loads, stores, atomics⟩

end Sys2Proof.Proofs
end

section
/-! The Rhaby hart: transfers (R347), loops (R351, R380), control registers (R348 to R350) and system instructions (R357 to R362). -/

namespace Sys2Proof.Proofs

open Sys2Proof Sys2Proof.Machine Sys2Proof.Safety

/-! ### Transfers (R347) -/

/-- An instruction whose operation completes with PC set. -/
theorem exec_jumps {c : Instr} {s t u : State} {i : Issue} {word : W32} {il pm : Bool} {op : State → Hart → HRes} {y : Hart} (h : Issues s t i)
    (hc : exec c s = ok (issue s i word il pm op)) (hil : il = false) (hpm : pm = false) (hop : op t (hartOf t i.h) = .jump u y) :
    exec c s = .next (retire (setHart u i.h y) i.h) :=
  exec_issued h hc hil hpm (congrArg (settle s i.h) hop)

section
variable {x : Hart} {ra : Nat} (link : Option Nat) (t : State)

theorem jumpReg_aligned (ha : (gget x ra).toNat % 4 = 0) : jumpReg ra link t x =
    .jump t { link.elim x (fun rd => gset x rd (x.pc + 4)) with pc := gget x ra } := by
  cases link <;> simp [jumpReg, ha]

theorem jumpReg_misaligned (ha : (gget x ra).toNat % 4 ≠ 0) : jumpReg ra link t x = .fault t x 2 (gget x ra) 0 0 := by
  simp only [jumpReg, if_pos ha]

end

/-- Settles O7: B and CALL by their offset, JMPR and CALLR by whether the register is a multiple of 4 (`jumpReg_aligned`, `jumpReg_misaligned`). -/
theorem transfers : Obligations.Transfers := by
  intro s t i off rd ra h
  dsimp only
  rw [← sxw_toNat off]
  exact ⟨exec_jumps h rfl rfl rfl rfl, exec_jumps h rfl rfl rfl rfl,
    fun ha => ⟨exec_jumps h rfl rfl rfl (jumpReg_aligned none t ha), exec_jumps h rfl rfl rfl (jumpReg_aligned (some rd) t ha)⟩,
    fun ha => ⟨exec_faults h rfl rfl rfl (jumpReg_misaligned none t ha), exec_faults h rfl rfl rfl (jumpReg_misaligned (some rd) t ha)⟩⟩

/-! ### Loops (R351) -/

/-- A hart with loop n set up behind its PC: start, end and count (R351). -/
def loopAt (x : Hart) (n len : Nat) (v : W32) : Hart :=
  lcSet { x with ls := tput (fun _ => 0) x.ls n (x.pc + 4), le := tput (fun _ => 0) x.le n (x.pc + w32 (4 * len)) } n v

theorem loopSet_enters {count : Hart → W32} {x : Hart} (hc : count x ≠ 0) (n len : Nat) (t : State) :
    loopSet n len count t x = .next t (loopAt x n len (count x)) := by
  simp only [loopSet, if_neg hc, loopAt]

theorem loopSet_skips {count : Hart → W32} {x : Hart} (hc : count x = 0) (n len : Nat) (t : State) :
    loopSet n len count t x = .jump t { loopAt x n len 0 with pc := x.pc + w32 (4 * len) + 4 } := by
  simp only [loopSet, hc, if_true, loopAt]

/-- LOOP and LOOPI under LOOPMODE ZOL (R351). -/
theorem loops : Claims.Loops := by
  intro s t i n ra len cnt lenI h hz
  dsimp only
  have hil : len ≠ 0 → ((hartOf s i.h).rept || decide (len = 0)) = false := fun hl => by simp [hz, hl]
  refine ⟨fun hl hc => exec_completes h rfl (hil hl) rfl (loopSet_enters hc n len t),
    fun hl hc => exec_jumps h rfl (hil hl) rfl (loopSet_skips hc n len t), fun hl hc => ?loopi⟩
  case loopi =>
    have hil' : ((hartOf s i.h).rept || decide (lenI = 0 ∨ cnt = 0)) = false := by simp [hz, hl, hc]
    have hw : w32 cnt ≠ 0 := by
      intro he
      have hn : cnt.val % 2 ^ 32 = 0 := congrArg BitVec.toNat he
      exact hc (Fin.ext (by rw [Fin.val_zero]; omega))
    exact exec_completes h rfl hil' rfl (loopSet_enters hw n lenI t)

/-! ### The loop test (R380) -/

/-- A set whose count is 0, or whose end is elsewhere, is passed over. -/
theorem loopTest_other {a : W32} {n : Nat} {x : Hart} (h : ¬(lcGet x n ≠ 0 ∧ leGet x n = a)) (r : List Nat) : loopTest a (n :: r) x = loopTest a r x := by
  rw [loopTest, if_neg h]

/-- With the counts of sets 3, 2 and 1 at 0 the loop test is that of set 0. -/
theorem advance_set0 {x : Hart} (hx : ∀ n, n ≠ 0 → lcGet x n = 0) (hr : x.rept = false) : advance x = loopTest x.pc [0] x := by
  have hpass : ∀ n, n ≠ 0 → ¬(lcGet x n ≠ 0 ∧ leGet x n = x.pc) := fun n hn h => h.1 (hx n hn)
  simp only [advance, hr, Bool.false_eq_true, if_false]
  rw [loopTest_other (hpass 3 (by decide)), loopTest_other (hpass 2 (by decide)), loopTest_other (hpass 1 (by decide))]

/-- The loop test of set 0 (R380). -/
theorem loopTest_set0 : Claims.LoopTest := by
  intro x hx
  refine ⟨fun hr => ?rept, fun hr ho => ?other, fun hr he h0 h1 => ?again, fun hr he h1 => ?last⟩
  case rept => simp [advance, hr, loopTest]
  case other =>
    rw [advance_set0 hx hr, loopTest_other (fun h => ho.elim h.1 (fun hn => hn h.2))]
    rfl
  case again =>
    have h1' : lcGet x 0 - 1 ≠ 0 := fun h => h1 (sub_eq_zero.mp h)
    rw [advance_set0 hx hr, loopTest, if_pos ⟨h0, he⟩, if_pos h1']
  case last =>
    have h0 : lcGet x 0 ≠ 0 := by rw [h1]; decide
    have h1' : lcGet x 0 - 1 = 0 := by rw [h1]; rfl
    rw [advance_set0 hx hr, loopTest, if_pos ⟨h0, he⟩, if_neg (not_not.mpr h1'), h1']
    rfl

/-- Settles O8: LOOP and LOOPI by whether the count is 0 (`loopSet_enters`, `loopSet_skips`), the loop test by what set 0 finds (`advance_set0`). -/
theorem loopsAndLoopTest : Obligations.LoopsAndLoopTest := ⟨loops, loopTest_set0⟩

/-! ### Control registers (R348, R349) -/

theorem issuing_level {s t : State} {i : Issue} {level : Nat} (h : IssuesAt s t i level) : (issuing s i.h).level = level := by
  obtain ⟨-, hf, hl⟩ := h
  simp [issuing, hf, hl]

theorem crShut_eq {x : Hart} {c rl : Nat} {wl : Option Nat} (hc : crLevels c = some (rl, wl)) (write : Bool) :
    crShut x c write = decide (x.level < if write then wl.getD rl else rl) := by
  simp [crShut, hc]

/-- Moves from and to control registers, at the levels of R349 (R348). -/
theorem controlRegisters : Claims.ControlRegisters := by
  intro s t i r creg rl wl level h hc
  have hl := issuing_level h
  obtain ⟨hi, -, -⟩ := h
  dsimp only
  have hil : (decide ((0 : Fin 8) ≠ 0) || (crLevels creg).isNone) = false := by simp [hc]
  have hread : crShut (issuing s i.h) creg false = decide (level < rl) := by simp [crShut_eq hc, hl]
  have hwrite : crShut (issuing s i.h) creg true = decide (level < wl.getD rl) := by simp [crShut_eq hc, hl]
  refine ⟨fun hle => ?mfc, fun hlt => ?mfcShut, fun hle => ?written, fun hlt => ?mtcShut⟩
  case mfc => exact exec_completes hi rfl hil (hread.trans (decide_eq_false (Nat.not_lt.mpr hle))) rfl
  case mfcShut => exact exec_notPermitted hi rfl hil (hread.trans (decide_eq_true hlt))
  case written =>
    have hpm := hwrite.trans (decide_eq_false (Nat.not_lt.mpr hle))
    exact ⟨exec_completes hi rfl hil hpm rfl, exec_completes hi rfl hil hpm rfl, exec_completes hi rfl hil hpm rfl⟩
  case mtcShut => exact exec_notPermitted hi rfl hil (hwrite.trans (decide_eq_true hlt))

/-! ### System instructions (R357 to R362) -/

/-- The system instructions, each at a level that may execute it (R357 to R362). -/
theorem systemInstructions : Claims.SystemInstructions := by
  intro s t i imm level h
  have hl := issuing_level h
  obtain ⟨hi, -, -⟩ := h
  dsimp only
  have hany : decide ((issuing s i.h).level < 0) = false := decide_eq_false (Nat.not_lt_zero _)
  have hsup : 1 ≤ level → decide ((issuing s i.h).level < 1) = false := fun h1 => decide_eq_false (by omega)
  refine ⟨fun h0 hv => ?svc, fun hb => ?drained, fun hb => ?waits, fun h1 hv ha => ?atomic, fun h1 => ?endatomic, fun h1 hp => ?eret,
    fun h1 ha hp => ?pending, fun h1 ha hp => ?none, fun ho hs => ?brk⟩
  case svc => exact exec_issued hi rfl (decide_eq_false (by omega)) hany rfl
  case drained => exact exec_completes hi rfl rfl hany (if_pos hb)
  case waits => exact exec_issued hi rfl rfl hany (congrArg (settle s i.h) (if_neg hb))
  case atomic => exact exec_completes hi rfl (decide_eq_false (by omega)) (hsup h1) (by rw [ha]; rfl)
  case endatomic => exact exec_completes hi rfl rfl (hsup h1) rfl
  case eret =>
    have hbad : eretBad (issuing s i.h) = false := by
      rw [eretBad, hl]
      exact decide_eq_false (fun hn => absurd hp (Nat.not_lt.mpr hn.2))
    exact exec_jumps hi rfl hbad (hsup h1) rfl
  case pending => exact exec_completes hi rfl ha (hsup h1) (if_pos hp)
  case none => exact exec_issued hi rfl ha (hsup h1) (congrArg (settle s i.h) (if_neg (by rw [hp]; decide)))
  case brk =>
    have hon : (!brkOn s) = false := by simp [brkOn, ho, hs]
    refine ⟨_, exec_issued hi rfl hon hany rfl, ?_, ?_⟩ <;> simp [settle]

/-- Settles O9: a control register by its levels (`crShut_eq`), each system instruction by the level that it needs and its operation. -/
theorem systemAndControlRegisters : Obligations.SystemAndControlRegisters := ⟨controlRegisters, systemInstructions⟩

end Sys2Proof.Proofs
end

section
/-! The Rhaby hart: string instructions (R352 to R356). -/

namespace Sys2Proof.Proofs

open Sys2Proof Sys2Proof.Machine Sys2Proof.Safety

/-! ### The registers of a string instruction (R352, R353) -/

/-- Pointers and count of a string instruction that issues are distinct, and none is g0. -/
theorem strIssues_regs {s t : State} {i : Issue} {k : Str} {rd ra rb func : Nat} (h : StrIssues s t i k rd ra rb func) :
    (k.pointers rd ra ++ [rb]).Nodup ∧ 0 ∉ k.pointers rd ra ++ [rb] := by
  obtain ⟨-, hbad, -⟩ := h
  simp only [strBad, Bool.or_eq_false_iff, decide_eq_false_iff_not, not_not] at hbad
  obtain ⟨⟨⟨-, hzero⟩, hnodup⟩, -⟩ := hbad
  exact ⟨hnodup, fun hm => Bool.false_ne_true (hzero.symm.trans (List.contains_iff_mem.mpr hm))⟩

/-- After an element of an instruction with two pointers, the last by its count. -/
theorem strStep_two {k : Str} {z rd ra rb : Nat} {y : Hart} (hk : k.pointers rd ra = [rd, ra]) (hn : [rd, ra, rb].Nodup) (h1 : gget y rb = 1) :
    strStep k z rd ra rb y = gset (gset (gset y rd (gget y rd + w32 z)) ra (gget y ra + w32 z)) rb 0 := by
  simp only [List.nodup_cons, List.mem_cons, List.not_mem_nil, or_false, not_or] at hn
  obtain ⟨⟨hda, hdb⟩, hab, -⟩ := hn
  simp only [strStep, hk, List.foldl_cons, List.foldl_nil]
  rw [gget_gset_ne _ _ (Ne.symm hab), gget_gset_ne _ _ (Ne.symm hdb), gget_gset_ne _ _ (Ne.symm hda), h1]
  rfl

/-- After an element of an instruction with one pointer, the last by its count. -/
theorem strStep_one {k : Str} {z rd ra rb r : Nat} {y : Hart} (hk : k.pointers rd ra = [r]) (hn : [r, rb].Nodup) (h1 : gget y rb = 1) :
    strStep k z rd ra rb y = gset (gset y r (gget y r + w32 z)) rb 0 := by
  have hrb : rb ≠ r := by
    rintro rfl
    simp at hn
  simp only [strStep, hk, List.foldl_cons, List.foldl_nil]
  rw [gget_gset_ne _ _ hrb, h1]
  rfl

/-! ### Elements one after another (R354) -/

theorem strLoop_countZero {x : Hart} {rb : Nat} (h0 : gget x rb = 0) (k : Str) (z pd rd ra h : Nat) (res : MemRes) (n : Nat) (s : State) :
    strLoop k z pd rd ra rb h res n s x = .next s (strEnd k pd x) := by
  cases n <;> simp only [strLoop, if_pos h0]

section
variable {c : Instr} {s t w : State} {i : Issue} {k : Str} {rd ra rb : Fin 32} {func : Fin 128} {n : Nat} {res : MemRes} {y : Hart}
  (h : StrIssues s t i k rd ra rb func) (hc : exec c s = ok (strIssue s k i rd ra rb func n res))
include h hc

/-- A string instruction whose elements, in this issue, complete it. -/
theorem exec_string (hl : strLoop k (strSize func) (func / 8 % 8) rd ra rb i.h res (Nat.max 1 n) t (hartOf t i.h) = .next w y) :
    exec c s = .next (completeNext w i.h y) := by
  obtain ⟨hi, hbad, haligned⟩ := h
  refine exec_completes hi hc hbad rfl ?_
  simp only [strOp, haligned, hl]

theorem exec_stringCountZero (h0 : gget (hartOf t i.h) rb = 0) : exec c s = .next (completeNext t i.h (strEnd k (func / 8 % 8) (hartOf t i.h))) :=
  exec_string h hc (strLoop_countZero h0 ..)

variable (h1 : gget (hartOf t i.h) rb = 1) (hn : n ≤ 1)
include h1 hn

/-- The last element done: the count is 0, and the instruction ends. -/
theorem exec_lastElement {x : Hart} (he : element k (strSize func) rd ra t i.h (hartOf t i.h) res = .go w x)
    (hs : strStep k (strSize func) rd ra rb x = gset y rb 0) : exec c s = .next (completeNext w i.h (strEnd k (func / 8 % 8) (gset y rb 0))) := by
  obtain ⟨-, hzero⟩ := strIssues_regs h
  have hrb : rb.val ≠ 0 := fun h0 => hzero (by simp [h0])
  refine exec_string h hc ?_
  have hne : gget (hartOf t i.h) rb ≠ 0 := by rw [h1]; decide
  rw [show Nat.max 1 n = 0 + 1 from Nat.max_eq_left hn, strLoop, if_neg hne, if_pos rfl, he]
  dsimp only
  rw [hs]
  exact strLoop_countZero (gget_gset_same _ _ hrb) ..

/-- An element that stops BCOMP or BSCAN: the registers name it still. -/
theorem exec_stopsElement {p : Bool} (he : element k (strSize func) rd ra t i.h (hartOf t i.h) res = .stop w p) :
    exec c s = .next (completeNext w i.h (pset (hartOf t i.h) (func / 8 % 8) p)) := by
  refine exec_string h hc ?_
  have hne : gget (hartOf t i.h) rb ≠ 0 := by rw [h1]; decide
  rw [show Nat.max 1 n = 0 + 1 from Nat.max_eq_left hn, strLoop, if_neg hne, if_pos rfl, he]

end

/-- A count of 0 (R354). -/
theorem stringsAtCountZero : Claims.StringsAtCountZero := by
  intro s t i rd ra rb func n res
  dsimp only
  intro h0
  exact ⟨fun h => exec_stringCountZero (k := .copy) h rfl h0, fun h => exec_stringCountZero (k := .fill) h rfl h0,
    fun h => exec_stringCountZero (k := .xor) h rfl h0, fun h => exec_stringCountZero (k := .comp) h rfl h0,
    fun h => exec_stringCountZero (k := .scan) h rfl h0⟩

/-! ### One element (R353, R354) -/

theorem elemRead_answered {s u : State} {h : Nat} {x : Hart} {a z : Nat} {res : MemRes} {l : List Byte}
    (hl : hartLoad s h x .eread a z res = (u, .val l)) (f : State → Nat → ERes) : elemRead s h x a z res f = f u (leNat l) := by
  simp only [elemRead, hl]

theorem elemWrite_put {s w : State} {h : Nat} {x : Hart} {a z : Nat} (hb : x.sbuf.length < 8) (hc : hartCheck s h x .ewrite a z .ok = (w, none)) (v : Nat) :
    elemWrite s h x a z v = .go w (stored x a z (w32 (v % 2 ^ (8 * z)))) := by
  simp only [elemWrite, hartStore_put hb hc]

section
variable {s u v w : State} {h z rd ra : Nat} {x : Hart} {l m : List Byte}

theorem element_copy (hb : x.sbuf.length < 8) (hl : hartLoad s h x .eread (gget x ra).toNat z .ok = (u, .val l))
    (hw : hartCheck u h x .ewrite (gget x rd).toNat z .ok = (w, none)) :
    element .copy z rd ra s h x .ok = .go w (stored x (gget x rd).toNat z (w32 (leNat l % 2 ^ (8 * z)))) := by
  simp only [element, elemRead_answered hl, elemWrite_put hb hw]

theorem element_xor (hb : x.sbuf.length < 8) (hl : hartLoad s h x .eread (gget x ra).toNat z .ok = (u, .val l))
    (hm : hartLoad u h x .eread (gget x rd).toNat z .ok = (v, .val m)) (hw : hartCheck v h x .ewrite (gget x rd).toNat z .ok = (w, none)) :
    element .xor z rd ra s h x .ok = .go w (stored x (gget x rd).toNat z (w32 ((leNat m ^^^ leNat l) % 2 ^ (8 * z)))) := by
  simp only [element, elemRead_answered hl, elemRead_answered hm, elemWrite_put hb hw]

theorem element_comp (hl : hartLoad s h x .eread (gget x rd).toNat z .ok = (u, .val l))
    (hm : hartLoad u h x .eread (gget x ra).toNat z .ok = (w, .val m)) :
    element .comp z rd ra s h x .ok = if leNat l ≠ leNat m then .stop w false else .go w x := by
  simp only [element, elemRead_answered hl, elemRead_answered hm]

theorem element_scan (hl : hartLoad s h x .eread (gget x ra).toNat z .ok = (w, .val l)) :
    element .scan z rd ra s h x .ok = if leNat l = (gget x rd).toNat % 2 ^ (8 * z) then .stop w true else .go w x := by
  simp only [element, elemRead_answered hl]

end

/-- The last element, and the early ends of BCOMP and BSCAN (R353, R354). -/
theorem stringsLastElement : Claims.StringsLastElement := by
  intro s t u v w i rd ra rb func n l m
  dsimp only
  intro h1 hn
  have regs : ∀ {k}, StrIssues s t i k rd ra rb func → (k.pointers rd ra ++ [rb.val]).Nodup := fun h => (strIssues_regs h).1
  refine ⟨fun h hb hl hw => ?copy, fun h hb hw => ?fill, fun h hb hl hm hw => ?xor, fun h hl hm => ⟨fun he => ?compEqual, fun he => ?compDiffers⟩,
    fun h hl => ⟨fun he => ?scanFound, fun he => ?scanEnd⟩⟩
  case copy => exact exec_lastElement (k := .copy) h rfl h1 hn (element_copy hb hl hw) (strStep_two rfl (regs h) h1)
  case fill => exact exec_lastElement (k := .fill) h rfl h1 hn (elemWrite_put hb hw _) (strStep_one rfl (regs h) h1)
  case xor => exact exec_lastElement (k := .xor) h rfl h1 hn (element_xor hb hl hm hw) (strStep_two rfl (regs h) h1)
  case compEqual => exact exec_lastElement (k := .comp) h rfl h1 hn ((element_comp hl hm).trans (if_neg (not_not.mpr he))) (strStep_two rfl (regs h) h1)
  case compDiffers => exact exec_stopsElement (k := .comp) h rfl h1 hn ((element_comp hl hm).trans (if_pos he))
  case scanFound => exact exec_stopsElement (k := .scan) h rfl h1 hn ((element_scan hl).trans (if_pos he))
  case scanEnd => exact exec_lastElement (k := .scan) h rfl h1 hn ((element_scan hl).trans (if_neg he)) (strStep_one rfl (regs h) h1)

/-- Settles O6: a count of 0 ends the elements at once (`strLoop_countZero`); with a count of 1 the one element decides (`exec_lastElement`,
`exec_stopsElement`). -/
theorem strings : Obligations.Strings := ⟨stringsAtCountZero, stringsLastElement⟩

end Sys2Proof.Proofs
end

section
/-! Harts: HT_CMD by another hart (R392, R393, R395), and the event router's commands and routes (R385 to R388, R397). -/

namespace Sys2Proof.Proofs

open Sys2Proof Sys2Proof.Machine Sys2Proof.Safety

/-! ### HT_CMD (R392) -/

@[simp] theorem stateChange_fl (s : State) (h : Nat) (st : HState) : (stateChange s h st).fl = s.fl := by
  unfold stateChange
  split <;> simp

/-- A halted hart that serves no order has none to end (R378). -/
theorem endUnresumed_noJob {s : State} {h : Nat} (hj : (hartOf s h).job = none) : endUnresumed s h = s := by simp [endUnresumed, hj]

/-- A hart as RESTART leaves it, to run from pc: what does not stand is at its reset value (R392). -/
def restarted (x : Hart) (pc : W32) : Hart :=
  { pc := pc, vbase := x.vbase, scr := x.scr, cycHi := x.cycHi, last2 := x.last2, last3 := x.last3 }

section
variable {s : State} {w h : Nat}

theorem hartHalt_asks (hw : w ≠ h) (hst : hstOf s h = .running ∨ hstOf s h = .waiting) :
    hartHalt s w h = setHart s h { hartOf s h with haltReq := true } := if_pos ⟨hw, hst⟩

theorem haltComplete_halts (hr : (hartOf s h).haltReq = true) (ha : (hartOf s h).aw = false) (hb : (hartOf s h).sbuf = [])
    (hst : hstOf s h = .running ∨ hstOf s h = .waiting) :
    haltComplete s h = stateChange (setHart s h { hartOf s h with haltReq := false }) h .haltedCmd := if_pos ⟨hr, ha, hb, hst⟩

theorem hartResume_runs (hw : w ≠ h) (hst : hstOf s h = .haltedCmd) : hartResume s w h = stateChange s h .running := if_pos ⟨hw, hst⟩

theorem hartRestart_runs (hw : w ≠ h) (hh : hartHalted s h = true) (hj : (hartOf s h).job = none) :
    hartRestart s w h = stateChange (setHart s h (restarted (hartOf s h) (rget s (htA h + 0x0C)))) h .running := by
  simp [hartRestart, restarted, hw, hh, endUnresumed_noJob hj]

theorem hartRetire_retires (hw : w ≠ h) (hh : hartHalted s h = true) (hj : (hartOf s h).job = none) : hartRetire s w h = retireHart s h := by
  simp [hartRetire, hw, hh, endUnresumed_noJob hj]

end

/-- HT_CMD by another hart, each command by the checks that the premises answer. -/
theorem hartCommands : Claims.HartCommands := by
  intro s w h
  dsimp only
  intro hr
  refine ⟨fun hw hst => ?halt, fun hq ha hb hst => ?halted, fun hw hst => ?resume, fun hw hh hj => ?restart, fun hw hh hj => ?retire⟩
  case halt =>
    exact ⟨_, exec_powered hr rfl (hartHalt_asks (Fin.val_ne_of_ne hw) hst), hartOf_setHart .., hstOf_setHart ..⟩
  case halted =>
    exact ⟨_, exec_powered hr rfl (haltComplete_halts hq ha hb hst), hstOf_stateChange .., (hartOf_stateChange ..).trans (hartOf_setHart ..)⟩
  case resume =>
    exact ⟨_, exec_powered hr rfl (hartResume_runs (Fin.val_ne_of_ne hw) hst), hstOf_stateChange .., hartOf_stateChange ..⟩
  case restart =>
    refine ⟨_, exec_powered hr rfl (hartRestart_runs (Fin.val_ne_of_ne hw) hh hj), hstOf_stateChange .., ?_⟩
    rw [hartOf_stateChange, hartOf_setHart]
    exact ⟨rfl, rfl, fun n => ite_self _, rfl, rfl, rfl⟩
  case retire =>
    refine ⟨_, exec_powered hr rfl (hartRetire_retires (Fin.val_ne_of_ne hw) hh hj), hstOf_stateChange .., ?_⟩
    rw [retireHart, stateChange_fl]
    exact tget_tput (fun _ => false) s.fl.retired h true

/-! ### The event router (R385 to R388, R397) -/

/-- HT_CLAIM takes the source that waits at level 3, and one of level 2 where none does (R387, R388). -/
theorem claimSource_critical {s : State} {h k : Nat} (hk : selectAt s h true = some k) :
    claimSource s h = answer (cinc (takeSource s h k true) 0x30030128) [packFields [(k, 0), (1, 12), (1, 13)]] := by simp [claimSource, hk]

theorem claimSource_normal {s : State} {h k : Nat} (hc : selectAt s h true = none) (hk : selectAt s h false = some k) :
    claimSource s h = answer (cinc (takeSource s h k false) 0x30030128) [packFields [(k, 0), (1, 13)]] := by simp [claimSource, hc, hk]

/-- A source taken is pending no more (R387). -/
theorem takeSource_pend (s : State) (h k : Nat) (crit : Bool) : tget (fun _ => false) (takeSource s h k crit).ev.pend k = false :=
  tget_tput (fun _ => false) s.ev.pend k false

theorem takeSource_last (s : State) (h k : Nat) (crit : Bool) : lastTaken (hartOf (takeSource s h k crit) h) crit = k := by
  cases crit <;> simp [takeSource, lastTaken]

/-- A route of a source other than a tamper source may lead nowhere or to a hart (R385, R386). -/
theorem routeOk_nowhere_or_hart (s : State) {src : Nat} {v : W32} (ht : ¬(3648 ≤ src ∧ src ≤ 3903)) (hv : v.toNat % 4 < 2) : routeOk s src v = true := by
  have hf : fld v 1 0 = v.toNat % 4 := by simp [fld, bitsOf]
  have h01 : v.toNat % 4 = 0 ∨ v.toNat % 4 = 1 := by omega
  rcases h01 with h | h <;> simp [routeOk, ht, hf, h]

/-- The router's commands, each by the checks that the premises answer. -/
theorem routerCommands : Claims.RouterCommands := by
  intro s h v src hr
  have low12 : fld v 11 0 = v.toNat % 4096 := by simp [fld, bitsOf]
  refine ⟨fun hv => ?hartRaise, fun hl hu => ?evRaise, fun k hk => ?critical, fun k hc hk => ?normal, fun ht hv => ?route⟩
  case hartRaise => exact exec_powered hr rfl (if_pos hv)
  case evRaise =>
    refine exec_powered hr rfl ?_
    rw [evRaise, low12, if_pos ⟨hl, hu⟩]
  case critical =>
    refine ⟨_, exec_powered hr rfl (claimSource_critical hk), ?_, takeSource_pend s h k true, takeSource_last s h k true⟩
    simp [packFields, Nat.add_assoc]
  case normal =>
    refine ⟨_, exec_powered hr rfl (claimSource_normal hc hk), ?_, takeSource_pend s h k false, takeSource_last s h k false⟩
    simp [packFields]
  case route =>
    refine ⟨_, exec_powered hr rfl (if_pos (routeOk_nowhere_or_hart s ht hv)), ?_, rset_sram .., rset_harts ..⟩
    rw [rget_rset, w32, fld, bitsOf]
    rfl

/-- Settles O11: HT_CMD's commands by the checks of each, and the router's by the source that R387 selects. -/
theorem hartAndRouterCommands : Obligations.HartAndRouterCommands := ⟨hartCommands, routerCommands⟩

end Sys2Proof.Proofs
end

section
/-! Clocks and the SMBus target (R390, R511 to R514, R524), and the PUF's helper data (R517 to R520, R529). -/

namespace Sys2Proof.Proofs

open Sys2Proof Sys2Proof.Machine Sys2Proof.Safety

/-- A command whose meaning is one state, whatever the power, gives that state. -/
theorem exec_ok {i : Instr} {s t u : State} (he : exec i s = ok t) (ht : t = u) : exec i s = .next u := by rw [he, ok, ht]

/-! ### PLLs (R511 to R514) -/

@[simp] theorem pllOf_cinc (s : State) (a d : Nat) : pllOf (cinc s a) d = pllOf s d := rfl

@[simp] theorem pllOf_raise (s : State) (src : Nat) (l : List Nat) (d : Nat) : pllOf (raise s src l) d = pllOf s d := by simp [pllOf]

theorem pllOf_setPll {s : State} {d : Nat} (hd : d < s.pw.plls.length) (x : Pll) : pllOf (setPll s d x) d = x := by
  simp [pllOf, setPll, nth, setNth, hd]

theorem pllOf_setPll_ne (s : State) {d e : Nat} (he : e ≠ d) (x : Pll) : pllOf (setPll s d x) e = pllOf s e := by
  simp [pllOf, setPll, nth, setNth, List.getElem?_set_ne (Ne.symm he)]

/-- A domain's PLLs as the start finds them locked, where la and lb tell whether A and B are (R511, R514). -/
def pllStarted (la lb : Bool) : Pll := { activeB := !la && lb, lockA := la, lockB := lb, failed := !(la && lb) }

/-- The three domains' PLLs as the start finds them locked. -/
def pllsStarted (s : State) (a b : Nat) : State := setPw s { s.pw with plls := (List.range 3).map (fun d => pllStarted (bitAt a d) (bitAt b d)) }

theorem pllOf_pllsStarted (s : State) (a b : Nat) {e : Nat} (he : e < 3) : pllOf (pllsStarted s a b) e = pllStarted (bitAt a e) (bitAt b e) := by
  simp [pllOf, pllsStarted, nth, he]

/-- A completed step is recorded as STEP and with its time, whether it is late or not (R514). -/
theorem startStep_pw {s : State} (hm : s.pw.mode = .starting) (n : Nat) :
    (startStep s n).pw = { s.pw with step := Nat.max s.pw.step n, times := tput (fun _ => 0) s.pw.times n (s.now - s.pw.startAt) } := by
  unfold startStep
  rw [if_pos hm]
  dsimp only
  split <;> simp

@[simp] theorem pllOf_startStep (s : State) (n d : Nat) : pllOf (startStep s n) d = pllOf s d := by
  by_cases hm : s.pw.mode = .starting
  · rw [pllOf, startStep_pw hm, pllOf]
  · rw [startStep, if_neg hm]

/-- The start with its PLLs locked: step 2 completes, and step 1 with it where it had not (R514, log entry 34). -/
def lockedStart (s : State) (a b : Nat) : State :=
  startStep (if s.pw.step = 0 then startStep (pllsStarted s a b) 1 else pllsStarted s a b) 2

theorem pllOf_lockedStart (s : State) (a b : Nat) {e : Nat} (he : e < 3) : pllOf (lockedStart s a b) e = pllStarted (bitAt a e) (bitAt b e) := by
  rw [lockedStart, pllOf_startStep, apply_ite (pllOf · e), pllOf_startStep, ite_self, pllOf_pllsStarted s a b he]

theorem lockedStart_step {s : State} {a b : Nat} (hm : s.pw.mode = .starting) (hs : s.pw.step ≤ 1) :
    (lockedStart s a b).pw.step = 2 := by
  have hp : (pllsStarted s a b).pw.mode = .starting := hm
  unfold lockedStart
  split
  · have h1 : (startStep (pllsStarted s a b) 1).pw.mode = .starting := by rw [startStep_pw hp, hp]
    rw [startStep_pw h1, startStep_pw hp]
    exact Nat.max_eq_right (Nat.max_le.mpr ⟨hs.trans one_le_two, one_le_two⟩)
  · rw [startStep_pw hp]
    exact Nat.max_eq_right (hs.trans one_le_two)

/-- With a locked PLL in both fast domains the start goes on (R511, R514). -/
theorem startPllLocked_locks {s : State} {a b : Nat} (hm : s.pw.mode = .starting) (hs : s.pw.step ≤ 1)
    (hl : ∀ e, e < 2 → bitAt a e = true ∨ bitAt b e = true) :
    startPllLocked s a b = lockedStart s a b := by
  have hf : [0, 1].find? (fun d => !bitAt a d && !bitAt b d) = none := by
    rw [List.find?_eq_none]
    intro d hd
    have hd2 : d < 2 := by simp at hd; omega
    rcases hl d hd2 with h | h <;> simp [h]
  have hc : ¬(s.pw.mode ≠ .starting ∨ 1 < s.pw.step) := by simp [hm, hs]
  unfold startPllLocked
  rw [if_neg hc]
  simp only [hf]
  rfl

/-- A domain's PLLs with the one in use out of lock. -/
def activeLost (x : Pll) : Pll := if x.activeB then { x with lockB := false } else { x with lockA := false }

/-- A domain's PLLs as the partner takes over from the one that lost lock (R512). -/
def partnerTakes (x : Pll) : Pll := { activeLost x with activeB := !x.activeB, relock := none }

section
variable {s : State} {d : Nat} (hr : runs s = true) (hs : 2 ≤ s.pw.step)
include hr hs

theorem pllLoss_partner (hg : partnerGood s (pllOf s d) = true) :
    pllLoss s d = cinc (raise (setPll s d (partnerTakes (pllOf s d))) 150 [d]) 0x30000100 := by
  simp [pllLoss, hr, Nat.not_lt.mpr hs, hg, partnerTakes, activeLost]

theorem pllLoss_noPartner (hg : partnerGood s (pllOf s d) = false) (hd : d ≠ 2) :
    pllLoss s d = bothLost (setPll s d (activeLost (pllOf s d))) d (decide (d = 1) && decide (11 ≤ s.pw.step)) := by
  simp [pllLoss, hr, Nat.not_lt.mpr hs, hg, hd, activeLost]

end

/-- A fast domain without a PLL leaves the device in DORMANT, and the cause is kept (R512). -/
theorem bothLost_dormant (s : State) (d : Nat) (harts : Bool) : (bothLost s d harts).pw.mode = .dormant ∧ (bothLost s d harts).pw.pllLost = true :=
  ⟨rfl, rfl⟩

/-- The PLL of a domain that is not in use holds a lock. -/
def idleLocked (x : Pll) : Bool := if x.activeB then x.lockA else x.lockB

/-- A domain whose idle PLL a retry has locked at time n (R512). -/
def relocked (x : Pll) (n : Nat) : Pll :=
  if x.activeB then { x with lockA := true, failed := false, relock := some n } else { x with lockB := true, failed := false, relock := some n }

theorem pllRetry_locks {s : State} {d : Nat} (hr : runs s = true) (hi : idleLocked (pllOf s d) = false) :
    pllRetry s d true = setPll s d (relocked (pllOf s d) s.now) := by
  unfold idleLocked at hi
  simp [pllRetry, hr, hi, relocked]

theorem pllRetry_fails {s : State} {d : Nat} (hr : runs s = true) (hi : idleLocked (pllOf s d) = false) :
    pllRetry s d false = setPll s d { pllOf s d with failed := true } := by
  unfold idleLocked at hi
  simp [pllRetry, hr, hi]

/-! ### The SMBus target (R524) -/

theorem mainOn_of_runs {s : State} (hr : runs s = true) : mainOn s = true := by simp [mainOn, hr]

theorem smbus_answers {s : State} (hm : mainOn s = true) (l : List Byte) : smbus s l = send s (.answer 0 l) := if_pos hm

theorem smbusCause_known {s : State} (hc : s.pw.commitFail = false) :
    smbusCause s = smbus s (leBytes 1 (causeReg s % 128 + (if s.pw.pllLost = true ∧ s.pw.mode = .dormant then 128 else 0))) := by
  simp [smbusCause, hc]

theorem smbusTemp_measured {s : State} (hr : runs s = true) (l c : Nat) :
    smbusTemp s l c = send (setPw s { s.pw with tempL := l, tempC := c }) (.answer 0 (leBytes 1 l ++ leBytes 1 c)) := by
  have hm : mainOn (setPw s { s.pw with tempL := l, tempC := c }) = true := mainOn_of_runs hr
  simp only [smbusTemp, if_pos hr]
  exact smbus_answers hm _

/-- The clocks and the SMBus target, each clause by the checks of its command that the premises answer. -/
theorem clocksAndSmbus : Claims.ClocksAndSmbus := by
  intro s a b d line ctl
  dsimp only
  intro hlen
  have hd : d.val < s.pw.plls.length := by rw [hlen]; exact d.isLt
  refine ⟨fun hm hs hl => ?locked, fun hr hs hg => ?partner, fun hr hs hg hd2 => ?dormant, fun hr hi => ?retryLocks, fun hr hi => ?retryFails,
    fun hr hn he hq => ?stop, fun hm => ?version, fun hm => ?mode, fun hm hc => ?cause, fun hr => ?temp⟩
  case locked =>
    refine ⟨_, exec_ok rfl (startPllLocked_locks hm hs hl), lockedStart_step hm hs, fun e he => ?_⟩
    rw [pllOf_lockedStart s a b he]
    exact ⟨rfl, rfl⟩
  case partner =>
    refine ⟨_, exec_ok rfl (pllLoss_partner hr hs hg), ?_, ?_, fun e _ he => ?_⟩
    · rw [pllOf_cinc, pllOf_raise, pllOf_setPll hd]
      rfl
    · rw [cinc_pw, raise_pw]
      rfl
    · rw [pllOf_cinc, pllOf_raise, pllOf_setPll_ne s he]
  case dormant => exact ⟨_, exec_ok rfl (pllLoss_noPartner hr hs hg hd2), bothLost_dormant ..⟩
  case retryLocks => exact ⟨_, exec_ok rfl (pllRetry_locks hr hi), pllOf_setPll hd _⟩
  case retryFails => exact ⟨_, exec_ok rfl (pllRetry_fails hr hi), pllOf_setPll hd _⟩
  case stop =>
    have hc : (runs s && !s.pw.stopped && rbit s 0x3000000C 0 && allQuiet s) = true := by simp [hr, hn, he, hq]
    exact ⟨_, exec_ok rfl (if_pos hc), rfl⟩
  case version | mode => exact exec_ok rfl (smbus_answers hm _)
  case cause => exact exec_ok rfl ((smbusCause_known hc).trans (smbus_answers hm _))
  case temp => exact ⟨_, exec_ok rfl (smbusTemp_measured hr line ctl), rfl, rfl⟩

/-! ### Flash written by the steward leaves power alone (R481 to R489) -/

@[simp] theorem wearNear_pw (s : State) (x why : Nat) : (wearNear s x why).pw = s.pw := by
  unfold wearNear
  split <;> simp [setSect]

@[simp] theorem wearProgram_pw (s : State) (x n : Nat) : (wearProgram s x n).pw = s.pw := by
  unfold wearProgram
  dsimp only
  split <;> simp [setSect]

@[simp] theorem wearErase_pw (s : State) (x n : Nat) : (wearErase s x n).pw = s.pw := by
  unfold wearErase
  dsimp only
  split_ifs <;> simp [setSect]

@[simp] theorem flWorked_pw (s : State) (code pulses : Nat) : (flWorked s code pulses).pw = s.pw := by
  unfold flWorked
  split <;> rfl

@[simp] theorem eraseSector_pw (s : State) (x pulses : Nat) (good : Bool) : (eraseSector s x pulses good).pw = s.pw := by
  unfold eraseSector
  dsimp only
  split <;> simp [setUndef, eraseData]

@[simp] theorem flErase_pw (s : State) (pulses : Nat) (good : Bool) : (flErase s pulses good).pw = s.pw := by
  unfold flErase
  split <;> simp

@[simp] theorem flProgram_pw (s : State) (pulses : Nat) (good : Bool) : (flProgram s pulses good).pw = s.pw := by
  unfold flProgram
  split
  · rfl
  · dsimp only
    split_ifs <;> simp [setUndef]

@[simp] theorem flashDone_pw (s : State) : (flashDone s).pw = s.pw := by
  unfold flashDone
  split
  · rfl
  · simp only [apply_ite State.pw, raise_pw, cinc_pw, rset_pw, setFl_pw, ite_self]

@[simp] theorem stewardErase_pw (s : State) (x : Nat) : (stewardErase s x).pw = s.pw := by simp [stewardErase, flStart]

@[simp] theorem stewardProgram_pw (s : State) (a : Nat) (ws : List W32) : (stewardProgram s a ws).pw = s.pw := by simp [stewardProgram, flStart]

@[simp] theorem jEntry_pw (s : State) (kind op addr pages ref : Nat) : (jEntry s kind op addr pages ref).pw = s.pw := by
  simp only [jEntry, setFl_pw, stewardProgram_pw, apply_ite State.pw, stewardErase_pw, ite_self]

@[simp] theorem jErase_pw (s : State) (x : Nat) : (jErase s x).pw = s.pw := by simp only [jErase, journaled, jEntry_pw, stewardErase_pw]

@[simp] theorem jProgram_pw (s : State) (a : Nat) (l : List Byte) : (jProgram s a l).pw = s.pw := by
  simp only [jProgram, journaled, jEntry_pw, stewardProgram_pw]

@[simp] theorem jStore_pw (s : State) (x n : Nat) (l : List Byte) : (jStore s x n l).pw = s.pw := by
  have he := foldl_keeps (v := State.pw) (fun t i => jErase_pw t (x + i)) (List.range n) s
  exact (foldl_keeps (v := State.pw) (fun t _ => jProgram_pw t ..) ..).trans he

@[simp] theorem writeHelper_pw (s : State) (g gseq n : Nat) : (writeHelper s g gseq n).pw = s.pw := by simp [writeHelper]

/-! ### The PUF's helper data (R517 to R520, R529) -/

@[simp] theorem newerSeq_pw (s : State) : (newerSeq s).1.pw = s.pw := by
  unfold newerSeq
  dsimp only
  split <;> rfl

/-- A trial that finds another root, or WORST at REFRESH_AT, leaves the helper data as it was (R520). -/
theorem pufChecked_bad {s : State} {worst : Nat} {same : Bool} (hb : s.pw.pufBusy = 2) (hn : same = false ∨ rf s 0x30000018 8 4 ≤ worst) :
    pufChecked s worst same = raise (setPw s { s.pw with pufBusy := 0, pufRes := 2, pufResWorst := worst }) 147 [] := by
  have hg : (same && decide (worst < rf s 0x30000018 8 4)) = false := by
    rcases hn with h | h
    · simp [h]
    · simp [Nat.not_lt.mpr h]
  simp [pufChecked, hb, hg]

/-- A trial that finds the same root, and WORST below REFRESH_AT, is committed (R520). -/
theorem pufChecked_good {s : State} {worst : Nat} (hb : s.pw.pufBusy = 2) (hw : worst < rf s 0x30000018 8 4) :
    (pufChecked s worst true).pw = { s.pw with pufBusy := 0, pufRes := 1, pufResWorst := worst, committed := true, otherValid := true } := by
  simp [pufChecked, hb, hw]

/-- The PUF's helper data, each clause by the checks of its command that the premises answer. -/
theorem pufRefresh : Claims.PufRefresh := by
  intro s worst same
  refine ⟨fun hr hb ho => ?refresh, fun hb => ?refreshed, fun hr hb hf => ?check, fun hb hn => ?bad, fun hb hw => ?good⟩
  case refresh =>
    refine ⟨setPw s { s.pw with pufBusy := 1 }, exec_ok rfl ?_, rfl⟩
    rw [if_neg (by simp [hr]), if_neg (by simp [hb, ho])]
  case refreshed => exact ⟨_, exec_ok rfl (if_pos hb), rfl⟩
  case check =>
    refine ⟨setPw s { s.pw with pufBusy := 2 }, exec_ok rfl ?_, rfl⟩
    rw [if_neg (by simp [hr]), if_neg (by simp [hb, hf])]
  case bad =>
    refine ⟨_, exec_ok rfl (pufChecked_bad hb hn), ?_, ?_⟩
    · rw [raise_pw]
      rfl
    · rw [raise_fl]
      rfl
  case good => exact ⟨_, rfl, pufChecked_good hb hw⟩

/-- Settles O45: the clocks and the SMBus target by the checks of each command, and the PUF's trial by its outcome, whose writing to flash leaves
power alone (`writeHelper_pw`). -/
theorem clocksAndPuf : Obligations.ClocksAndPuf := ⟨clocksAndSmbus, pufRefresh⟩

end Sys2Proof.Proofs
end

section
/-! The state that reset leaves: memory, tags, frames and harts (R350, R395, R405, R508), and registers at their tables' Reset values (R55, R56, R529). -/

namespace Sys2Proof.Proofs

open Sys2Proof Sys2Proof.Machine Sys2Proof.Safety

/-! ### Tables with nothing listed -/

theorem tgets_nil_const {α : Type} (c : α) (k n : Nat) : tgets (fun _ => c) [] k n = List.replicate n c := by
  induction n generalizing k with
  | zero => rfl
  | succ n ih => rw [tgets, ih, tget, List.replicate_succ]

@[simp] theorem memRead_reset (a n : Nat) : memRead State.reset a n = List.replicate n 0 := tgets_nil_const 0 a n

@[simp] theorem tagOf_reset (g : Nat) : tagOf State.reset g = 0 := rfl

@[simp] theorem slotOf_reset (n : Nat) : slotOf State.reset n = {} := rfl

@[simp] theorem rget_reset (a : Nat) : rget State.reset a = regReset a := rfl

@[simp] theorem hartOf_reset (h : Nat) : hartOf State.reset h = hartInit h := rfl

@[simp] theorem gget_hartInit (h r : Nat) : gget (hartInit h) r = 0 := ite_self _

/-! ### Reset values of registers -/

/-- A register that a table assigns reads, unwritten, as that line's Reset column. -/
theorem regReset_of_regAt {a : Nat} {d : RegDesc} (h : regAt a = some d) : regReset a = w32 (d.reset a) := by rw [regReset, h]

/-- The table's line for PW_CTL (R529). -/
def pwCtlLine : RegDesc :=
  { base := 0x3000000C, strides := [], fields := [rw 0 0 1, rw 10 1 100, rw 11 11 1], legal := fun v => 10 ≤ bitsOf v 10 1 }

/-- PW_CTL: PLL_AUTO and SMBUS_DORMANT_EN set, PLL_IDLE_US 100. -/
theorem regReset_pwCtl : regReset 0x3000000C = 0x8C9 := regReset_of_regAt (d := pwCtlLine) rfl

/-- MAXLEN of every port block: 9,216 octets. -/
theorem regReset_maxFrameA (b : Fin 16) : regReset (maxFrameA b) = 9216 := regReset_of_regAt (regAt_maxFrameA b)

/-- The table's line for PB_UPHOLD (R55). -/
def upHoldLine : RegDesc := { base := 0x41000014, strides := [(0x10000, 16)], fields := [rw 15 0 100], legal := fun v => 1 ≤ bitsOf v 15 0 }

theorem regAt_pbUpHold (b : Fin 16) : regAt (pbA b + 0x14) = some upHoldLine := by
  fin_cases b <;> rfl

/-- UP_HOLD of every port block: 100 units of 100 µs. -/
theorem regReset_pbUpHold (b : Fin 16) : regReset (pbA b + 0x14) = 100 := regReset_of_regAt (regAt_pbUpHold b)

/-- The table's line for PB_PCFG_s (R56). -/
def portCfgLine : RegDesc :=
  { base := 0x41000100, strides := [(0x10000, 16), (0x100, 4)],
    fields := [rw 3 0 0, rw 7 4 0, rw 8 8 0, rw 9 9 0, rw 10 10 0, rw 12 11 3, rw 14 13 0, rw 15 15 0, rw 16 16 1, rw 17 17 1, rw 25 18 0xFF, rw 28 26 0],
    legal := fun v => bitsOf v 14 13 ≤ 2 && bitsOf v 3 0 ≤ 4 && bitsOf v 7 4 ≤ 4 }

theorem regAt_slotA (p : Fin 64) : regAt (slotA p) = some portCfgLine := by
  fin_cases p <;> rfl

/-- PB_PCFG_s of every logical port: FOLLOW 0b11, RXFC_HOST, RXFC_LINE and PFC_EN all set. -/
theorem regReset_slotA (p : Fin 64) : regReset (slotA p) = 0x03FF1800 := regReset_of_regAt (regAt_slotA p)

/-! ### The invariant -/

/-- SRAM lists nothing and the ladder is at level 0, below LOCKDOWN (R540). -/
theorem inv_reset : Inv State.reset := ⟨rfl, Nat.zero_le 5, fun h => absurd h (by decide)⟩

/-- Settles O53: memory by what a table with nothing listed reads (`tgets_nil_const`), the four registers by their tables' Reset columns
(`regReset_of_regAt`), and the invariant (`inv_reset`). -/
theorem resetState : Obligations.ResetState :=
  ⟨rfl, rfl, rfl, rfl, rfl, rfl, rfl, memRead_reset, tagOf_reset, slotOf_reset, rget_reset, regReset_pwCtl, regReset_maxFrameA 0, regReset_pbUpHold 0,
    regReset_slotA 0, rfl, rfl, fun r _ => gget_hartInit 0 r, inv_reset⟩

end Sys2Proof.Proofs
end

section
/-! The invariant (R525, R540): the part of the state that it speaks of, and what a step must answer. -/

namespace Sys2Proof.Proofs

open Sys2Proof Sys2Proof.Machine Sys2Proof.Safety

/-- What the invariant speaks of: SRAM, the ladder's level and the LOCKDOWN latch; and the queue and the clock, which no operation changes. -/
def invView (s : State) : Tbl Byte × Nat × Bool × List Instr × Nat := (s.sram, s.level, s.tm.latch, s.pending, s.now)

/-- The invariant, of a view. -/
def Sound (v : Tbl Byte × Nat × Bool × List Instr × Nat) : Prop := tblWf (fun _ => 0) v.1 = true ∧ v.2.1 ≤ 5 ∧ (v.2.1 = 5 → v.2.2.1 = true)

theorem inv_iff_sound (s : State) : Inv s ↔ Sound (invView s) := Iff.rfl

@[simp] theorem invView_ite (c : Prop) [Decidable c] (s t : State) : invView (if c then s else t) = if c then invView s else invView t := apply_ite ..

@[simp] theorem sound_ite (c : Prop) [Decidable c] (v w : Tbl Byte × Nat × Bool × List Instr × Nat) : Sound (if c then v else w) ↔ if c then Sound v else Sound w :=
  iff_of_eq (apply_ite ..)

@[simp] theorem invView_foldl {α : Type} {g : State → α → State} (hg : ∀ s a, invView (g s a) = invView s) (l : List α) (s : State) :
    invView (l.foldl g s) = invView s := foldl_keeps hg l s

theorem sound_foldl {α : Type} {g : State → α → State} (hg : ∀ s a, Sound (invView s) → Sound (invView (g s a))) (l : List α) (s : State)
    (h : Sound (invView s)) : Sound (invView (l.foldl g s)) := by
  induction l generalizing s with
  | nil => exact h
  | cons a l ih => exact ih _ (hg s a h)

section
variable (s : State) (regs : Tbl W32) (locks : Tbl Bool) (cnts : Tbl W64) (latches : Tbl (Option W32)) (reply : List Nat) (sent : List Sent) (freeCtr : Nat) (line :
  LineSt) (saCnt domCnt : Tbl W64) (bank : Nat) (mt : MtSt) (gran : GranSt) (culm : CulmSt) (ev : EvSt) (host : HostSt) (hstate : Tbl HState) (harts :
  Tbl Hart) (tags : Tbl Nat) (badTag badLane : Tbl Bool) (rc : RcSt) (dma : Tbl DmaSt) (ord : OrdSt) (rng : RngSt) (fl : FlSt) (li : LiSt) (lc : LcSt)
  (pw : PwSt) (tag : TagSt) (cs : CsSt) (rmSram rmLine : RemapSt) (upd : UpdSt)

/-- An update of other fields keeps the view. -/
@[simp] theorem invView_fields : invView { s with
    regs, locks, cnts, latches, reply, sent, freeCtr, line, saCnt, domCnt, bank, mt, gran, culm, ev, host, hstate, harts, tags, badTag, badLane, rc,
    dma, ord, rng, fl, li, lc, pw, tag, cs, rmSram, rmLine, upd } = invView s := by simp only [invView]

/-- An update of the ladder's bookkeeping beside the latch keeps the view. -/
@[simp] theorem invView_ladderFields (backupLost sigOk : Bool) (tscBase : Nat) (mons : Tbl MonSt) (late : List Firing) (fired clearSeq : Nat) (first ring : List LogRec) (lseq : Nat)
    (logPend : List LogRec) (nextB dirty : Bool) :
    invView { s with
      regs, locks, cnts, latches, reply, sent, freeCtr, line, saCnt, domCnt, bank, mt, gran, culm, ev, host, hstate, harts, tags, badTag, badLane, rc,
      dma, ord, rng, fl, li, lc, pw, tag, cs, rmSram, rmLine, upd,
      tm := { s.tm with backupLost, sigOk, tscBase, mons, late, fired, clearSeq, first, ring, lseq, logPend, nextB, dirty } } = invView s := by simp only [invView]

end

/-- What an operation of a hart comes to holds the invariant. -/
def HSound : HRes → Prop
  | .next s _ | .jump s _ | .done s | .fault s _ _ _ _ _ | .stay s _ => Sound (invView s)
  | .stall => True

@[simp] theorem hSound_next (s : State) (x : Hart) : HSound (.next s x) ↔ Sound (invView s) := Iff.rfl
@[simp] theorem hSound_jump (s : State) (x : Hart) : HSound (.jump s x) ↔ Sound (invView s) := Iff.rfl
@[simp] theorem hSound_done (s : State) : HSound (.done s) ↔ Sound (invView s) := Iff.rfl
@[simp] theorem hSound_fault (s : State) (x : Hart) (c : Nat) (addr : W32) (access size : Nat) :
    HSound (.fault s x c addr access size) ↔ Sound (invView s) := Iff.rfl
@[simp] theorem hSound_stay (s : State) (x : Hart) : HSound (.stay s x) ↔ Sound (invView s) := Iff.rfl
@[simp] theorem hSound_stall : HSound .stall := trivial
@[simp] theorem hSound_ite (c : Prop) [Decidable c] (r q : HRes) : HSound (if c then r else q) ↔ if c then HSound r else HSound q :=
  iff_of_eq (apply_ite ..)

/-- What an element of a string instruction comes to holds the invariant. -/
def ESound : ERes → Prop
  | .go s _ | .stop s _ | .bad s _ _ _ => Sound (invView s)
  | .wait => True

@[simp] theorem eSound_go (s : State) (x : Hart) : ESound (.go s x) ↔ Sound (invView s) := Iff.rfl
@[simp] theorem eSound_stop (s : State) (p : Bool) : ESound (.stop s p) ↔ Sound (invView s) := Iff.rfl
@[simp] theorem eSound_bad (s : State) (c a access : Nat) : ESound (.bad s c a access) ↔ Sound (invView s) := Iff.rfl
@[simp] theorem eSound_wait : ESound .wait := trivial
@[simp] theorem eSound_ite (c : Prop) [Decidable c] (r q : ERes) : ESound (if c then r else q) ↔ if c then ESound r else ESound q :=
  iff_of_eq (apply_ite ..)

/-- The level that a log gives is one that exists. -/
theorem logLevel_le (l : List LogRec) : logLevel l ≤ 5 := by
  refine List.foldlRecOn l _ (motive := (· ≤ 5)) (Nat.zero_le 5) fun n hn r _ => ?_
  split
  · exact Nat.zero_le 5
  · split
    · exact Nat.max_le.mpr ⟨hn, Nat.min_le_left ..⟩
    · exact hn

/-- What a command answers holds the invariant. -/
def OSound (o : Out) : Prop := ∀ t, o = .next t → Sound (invView t)

@[simp] theorem oSound_next (t : State) : OSound (.next t) ↔ Sound (invView t) :=
  ⟨fun h => h t rfl, fun h _ e => Host.Outcome.next.inj e ▸ h⟩

@[simp] theorem oSound_ok (t : State) : OSound (ok t) ↔ Sound (invView t) := oSound_next t

@[simp] theorem oSound_powered {s t : State} (ht : Sound (invView t)) (hv : Sound (invView s)) : OSound (powered s t) := by
  rw [powered, oSound_next]
  split <;> assumption

@[simp] theorem oSound_ite (c : Prop) [Decidable c] (o p : Out) : OSound (if c then o else p) ↔ if c then OSound o else OSound p :=
  iff_of_eq (apply_ite ..)

end Sys2Proof.Proofs
end

section
/-! The invariant: the shared operations. -/

namespace Sys2Proof.Proofs

open Sys2Proof Sys2Proof.Machine Sys2Proof.Safety

@[simp] theorem invView_rset (s : State) (a : Nat) (v : W32) : invView (rset s a v) = invView s := by simp [rset]
@[simp] theorem invView_rsetf (s : State) (a m l v : Nat) : invView (rsetf s a m l v) = invView s := by simp [rsetf]

@[simp] theorem invView_rsets (s : State) (a : Nat) (l : List W32) : invView (rsets s a l) = invView s := by
  induction l generalizing s a with
  | nil => rfl
  | cons w l ih => exact ih _ _

@[simp] theorem invView_cadd (s : State) (a n : Nat) : invView (cadd s a n) = invView s := by simp [cadd]
@[simp] theorem invView_cinc (s : State) (a : Nat) : invView (cinc s a) = invView s := by simp [cinc]
@[simp] theorem invView_send (s : State) (x : Sent) : invView (send s x) = invView s := by simp [send]
@[simp] theorem invView_answer (s : State) (l : List Nat) : invView (answer s l) = invView s := by simp [answer]
@[simp] theorem invView_freed (s : State) : invView (freed s) = invView s := by simp [freed]
@[simp] theorem invView_setFn (s : State) (f : Nat) (x : FnSt) : invView (setFn s f x) = invView s := by simp [setFn]
@[simp] theorem invView_modFn (s : State) (f : Nat) (g : FnSt → FnSt) : invView (modFn s f g) = invView s := by simp [modFn]
@[simp] theorem invView_setEp (s : State) (e : Nat) (x : EpSt) : invView (setEp s e x) = invView s := by simp [setEp]
@[simp] theorem invView_setVec (s : State) (f v : Nat) (x : VecSt) : invView (setVec s f v x) = invView s := by simp [setVec]
@[simp] theorem invView_vecTry (s : State) (f v : Nat) : invView (vecTry s f v) = invView s := by simp [vecTry]
@[simp] theorem invView_vecCause (s : State) (f v : Nat) : invView (vecCause s f v) = invView s := by simp [vecCause]
@[simp] theorem invView_loseEv (s : State) (k n : Nat) : invView (loseEv s k n).1 = invView s := by simp [loseEv]

@[simp] theorem invView_offerEv (s : State) (r : Raising) : invView (offerEv s r).1 = invView s := by
  unfold offerEv
  dsimp only
  repeat' split
  all_goals simp

@[simp] theorem invView_routeEv (s : State) (src : Nat) : invView (routeEv s src) = invView s := by
  unfold routeEv
  dsimp only
  repeat' split
  all_goals simp

@[simp] theorem invView_raiseOne (s : State) (r : Raising) : invView (raiseOne s r).1 = invView s := by simp [raiseOne]
@[simp] theorem invView_raiseEv (s : State) (src code : Nat) (data : List Nat) : invView (raiseEv s src code data) = invView s := by simp [raiseEv]
@[simp] theorem invView_raise (s : State) (src : Nat) (data : List Nat) : invView (raise s src data) = invView s := by simp [raise]
@[simp] theorem invView_recZero (s : State) (b kind i : Nat) : invView (recZero s b kind i) = invView s := by simp [recZero]

@[simp] theorem invView_recUpdate (s : State) (kind i : Nat) : invView (recUpdate s kind i) = invView s := by
  unfold recUpdate
  dsimp only
  split <;> simp

@[simp] theorem invView_saAdd (s : State) (slot idx n : Nat) : invView (saAdd s slot idx n) = invView s := by simp [saAdd]
@[simp] theorem invView_domAdd (s : State) (d idx n : Nat) : invView (domAdd s d idx n) = invView s := by simp [domAdd]

theorem invView_withEcc (s : State) (e : Ecc) {g : State → State} (hg : ∀ t, invView (g t) = invView t) : invView (withEcc s e g) = invView s := by
  simp [withEcc, hg]

theorem sound_withEcc {s : State} (e : Ecc) {g : State → State} (hg : ∀ t, Sound (invView t) → Sound (invView (g t))) (hv : Sound (invView s)) :
    Sound (invView (withEcc s e g)) := by
  simpa [withEcc] using hg _ (by simpa using hv)

@[simp] theorem invView_refuse (s : State) (a : Nat) : invView (refuse s a) = invView s := by simp [refuse]

end Sys2Proof.Proofs
end

section
/-! The invariant: the custody state. -/

namespace Sys2Proof.Proofs

open Sys2Proof Sys2Proof.Machine Sys2Proof.Safety

@[simp] theorem invView_setCs (s : State) (x : CsSt) : invView (setCs s x) = invView s := by simp [setCs]
@[simp] theorem invView_csOff (s : State) : invView (csOff s) = invView s := by simp [csOff]
@[simp] theorem invView_csSettle (s : State) : invView (csSettle s) = invView s := by simp [csSettle]

@[simp] theorem invView_csEnd (s : State) (status : Nat) : invView (csEnd s status) = invView s := by
  unfold csEnd
  split <;> simp

@[simp] theorem invView_csAbandon (s : State) : invView (csAbandon s) = invView s := by simp [csAbandon]

@[simp] theorem invView_csLadder (s : State) (new : Nat) : invView (csLadder s new) = invView s := by
  unfold csLadder
  split <;> simp

end Sys2Proof.Proofs
end

section
/-! The invariant: the line die. -/

namespace Sys2Proof.Proofs

open Sys2Proof Sys2Proof.Machine Sys2Proof.Safety

@[simp] theorem invView_setSide (s : State) (p : Nat) (d : Side) (x : SideSt) : invView (setSide s p d x) = invView s := by simp [setSide]
@[simp] theorem invView_setBlock (s : State) (b : Nat) (x : BlockSt) : invView (setBlock s b x) = invView s := by simp [setBlock]
@[simp] theorem invView_setLane (s : State) (b n : Nat) (x : LaneSt) : invView (setLane s b n x) = invView s := by simp [setLane]
@[simp] theorem invView_modLanes (s : State) (l : List (Nat × Nat)) (g : LaneSt → LaneSt) : invView (modLanes s l g) = invView s := by simp [modLanes]
@[simp] theorem invView_setFrames (s : State) (p : Nat) (d : Dir) (l : List Frame) : invView (setFrames s p d l) = invView s := by simp [setFrames]

@[simp] theorem invView_modFrame (s : State) (p : Nat) (d : Dir) (n : Nat) (g : Frame → Frame) : invView (modFrame s p d n g) = invView s := by
  simp [modFrame]

@[simp] theorem invView_dropFrame (s : State) (p : Nat) (d : Dir) (n : Nat) : invView (dropFrame s p d n) = invView s := by simp [dropFrame]

@[simp] theorem invView_sendPause (s : State) (p : Nat) (d : Dir) (was now : Nat) : invView (sendPause s p d was now) = invView s := by
  simp [sendPause]

@[simp] theorem invView_pauseUpdate (s : State) (p : Nat) (d : Dir) : invView (pauseUpdate s p d) = invView s := by simp [pauseUpdate]
@[simp] theorem invView_releasePause (s : State) (p : Nat) (d : Dir) : invView (releasePause s p d) = invView s := by simp [releasePause]
@[simp] theorem invView_powerEvent (old s : State) (b : Nat) : invView (powerEvent old s b) = invView s := by simp [powerEvent]
@[simp] theorem invView_blockAdmit (s : State) (b : Nat) : invView (blockAdmit s b) = invView s := by simp [blockAdmit]

@[simp] theorem invView_recordErr (s : State) (v : Nat) (d : Dir) (f : Frame) (cls : Nat) : invView (recordErr s v d f cls) = invView s := by
  simp [recordErr]

@[simp] theorem invView_endFrame (s : State) (p : Nat) (d : Dir) (n : Nat) : invView (endFrame s p d n) = invView s := by simp [endFrame]

@[simp] theorem invView_countStomped (s : State) (p : Nat) (d : Dir) (f : Frame) : invView (countStomped s p d f) = invView s := by
  unfold countStomped
  split <;> simp

@[simp] theorem invView_icvFailure (s : State) (v : Nat) : invView (icvFailure s v) = invView s := by simp [icvFailure]

end Sys2Proof.Proofs
end

section
/-! The invariant: the granary and CULM. -/

namespace Sys2Proof.Proofs

open Sys2Proof Sys2Proof.Machine Sys2Proof.Safety

@[simp] theorem invView_setSlot (s : State) (n : Nat) (e : SaEntry) : invView (setSlot s n e) = invView s := by simp [setSlot]
@[simp] theorem invView_setMargin (s : State) (n : Nat) (b : Bool) : invView (setMargin s n b) = invView s := by simp [setMargin]
@[simp] theorem invView_handPn (s : State) (n : Nat) : invView (handPn s n) = invView s := by simp [handPn]
@[simp] theorem invView_raiseNextPn (s : State) (n pn : Nat) : invView (raiseNextPn s n pn) = invView s := by simp [raiseNextPn]
@[simp] theorem invView_drainSlot (s : State) (n : Nat) : invView (drainSlot s n) = invView s := by simp [drainSlot]
@[simp] theorem invView_eccErase (s : State) (n : Nat) : invView (eccErase s n) = invView s := by simp [eccErase]
@[simp] theorem invView_eccCorrected (s : State) (n : Nat) : invView (eccCorrected s n) = invView s := by simp [eccCorrected]

end Sys2Proof.Proofs
end

section
/-! The invariant: frames and lanes. -/

namespace Sys2Proof.Proofs

open Sys2Proof Sys2Proof.Machine Sys2Proof.Safety

@[simp] theorem invView_countDrop (s : State) (p : Nat) (d : Dir) (f : Frame) : invView (countDrop s p d f) = invView s := by
  unfold countDrop
  split <;> simp

@[simp] theorem invView_runDescriptors (k : Nat) (s : State) (p : Nat) (d : Dir) : invView (runDescriptors k s p d) = invView s := by
  induction k generalizing s with
  | zero => rfl
  | succ k ih =>
    unfold runDescriptors
    repeat' split
    all_goals simp [ih]

@[simp] theorem invView_headRun (s : State) (p : Nat) (d : Dir) : invView (headRun s p d) = invView s := by simp [headRun]
@[simp] theorem invView_dropWhole (s : State) (p : Nat) (d : Dir) (f : Frame) : invView (dropWhole s p d f) = invView s := by simp [dropWhole]

@[simp] theorem invView_stompDrop (s : State) (p : Nat) (d : Dir) (f : Frame) (how : Fate) (out : List Byte) : invView (stompDrop s p d f how out) = invView s := by
  simp [stompDrop]

@[simp] theorem invView_passFrame (s : State) (p : Nat) (d : Dir) (f : Frame) (out : List Byte) : invView (passFrame s p d f out) = invView s := by
  simp [passFrame]

@[simp] theorem invView_icvFail (s : State) (p : Nat) (f : Frame) (cls : Nat) : invView (icvFail s p f cls) = invView s := by simp [icvFail]
@[simp] theorem invView_verdictRx (s : State) (p : Nat) (f : Frame) : invView (verdictRx s p f) = invView s := by simp [verdictRx]
@[simp] theorem invView_verdictTx (s : State) (p : Nat) (f : Frame) : invView (verdictTx s p f) = invView s := by simp [verdictTx]

@[simp] theorem invView_verdictBypass (s : State) (p : Nat) (d : Dir) (f : Frame) : invView (verdictBypass s p d f) = invView s := by
  unfold verdictBypass
  split <;> simp

@[simp] theorem invView_tryVerdict (s : State) (p : Nat) (d : Dir) : invView (tryVerdict s p d) = invView s := by
  unfold tryVerdict
  dsimp only
  repeat' split
  all_goals simp

@[simp] theorem invView_faultSide (s : State) (p : Nat) (d : Side) : invView (faultSide s p d) = invView s := by simp [faultSide]
@[simp] theorem invView_faultUpdate (s : State) (p : Nat) : invView (faultUpdate s p) = invView s := by simp [faultUpdate]
@[simp] theorem invView_outDown (s : State) (p : Nat) (d : Dir) (f : Frame) : invView (outDown s p d f) = invView s := by simp [outDown]
@[simp] theorem invView_discardOut (s : State) (p : Nat) (d : Dir) : invView (discardOut s p d) = invView s := by simp [discardOut]

@[simp] theorem invView_inputLost (s : State) (p : Nat) (sd : Side) : invView (inputLost s p sd) = invView s := by
  unfold inputLost
  split <;> simp

@[simp] theorem invView_sideLeaves (s : State) (p : Nat) (sd : Side) : invView (sideLeaves s p sd) = invView s := by simp [sideLeaves]
@[simp] theorem invView_linkTo (s : State) (p : Nat) (sd : Side) (st : Link) : invView (linkTo s p sd st) = invView s := by simp [linkTo]
@[simp] theorem invView_purgeFrames (s : State) (q : Frame → Bool) : invView (purgeFrames s q) = invView s := by simp [purgeFrames]
@[simp] theorem invView_purgeSlot (s : State) (n : Nat) : invView (purgeSlot s n) = invView s := by simp [purgeSlot]
@[simp] theorem invView_purgeAll (s : State) : invView (purgeAll s) = invView s := by simp [purgeAll]

end Sys2Proof.Proofs
end

section
/-! The invariant: the long-integer engine. -/

namespace Sys2Proof.Proofs

open Sys2Proof Sys2Proof.Machine Sys2Proof.Safety

@[simp] theorem invView_setLi (s : State) (x : LiSt) : invView (setLi s x) = invView s := by simp [setLi]
@[simp] theorem invView_setLiJob (s : State) (j : Nat) (x : LiJob) : invView (setLiJob s j x) = invView s := by simp [setLiJob]
@[simp] theorem invView_setVt (s : State) (i v : Nat) : invView (setVt s i v) = invView s := by simp [setVt]
@[simp] theorem invView_ctxWatch (s : State) : invView (ctxWatch s) = invView s := by simp [ctxWatch]

@[simp] theorem invView_liRun (s : State) (j : Nat) : invView (liRun s j) = invView s := by
  unfold liRun
  dsimp only
  split <;> simp

@[simp] theorem invView_liSelect (s : State) : invView (liSelect s) = invView s := by
  unfold liSelect
  dsimp only
  repeat' split
  all_goals simp

@[simp] theorem invView_liKick (s : State) : invView (liKick s) = invView s := by simp [liKick]
@[simp] theorem invView_liEnd (s : State) (j status : Nat) : invView (liEnd s j status) = invView s := by simp [liEnd]
@[simp] theorem invView_liWithdraw (s : State) (p : LiJob → Bool) : invView (liWithdraw s p) = invView s := by simp [liWithdraw]
@[simp] theorem invView_liPurge (s : State) : invView (liPurge s) = invView s := by simp [liPurge]
@[simp] theorem invView_withdrawLi (s : State) (order : Nat) : invView (withdrawLi s order) = invView s := by simp [withdrawLi]
@[simp] theorem invView_grComplete (s : State) (op slot code : Nat) : invView (grComplete s op slot code) = invView s := by simp [grComplete]

@[simp] theorem invView_installMargin (s : State) (n : Nat) (e : SaEntry) : invView (installMargin s n e) = invView s := by
  unfold installMargin
  dsimp only
  split <;> simp

@[simp] theorem invView_installDone (s : State) : invView (installDone s) = invView s := by
  unfold installDone
  split
  · rfl
  · split
    · rfl
    · split <;> simp

@[simp] theorem invView_zeroiseStart (s : State) : invView (zeroiseStart s) = invView s := by
  unfold zeroiseStart
  split <;> simp

@[simp] theorem invView_drbgReinst (s : State) : invView (drbgReinst s) = invView s := by simp [drbgReinst]
@[simp] theorem invView_wipeHandles (s : State) : invView (wipeHandles s) = invView s := by simp [wipeHandles]

end Sys2Proof.Proofs
end

section
/-! The invariant: the tag. -/

namespace Sys2Proof.Proofs

open Sys2Proof Sys2Proof.Machine Sys2Proof.Safety

@[simp] theorem invView_setTagSt (s : State) (x : TagSt) : invView (setTagSt s x) = invView s := by simp [setTagSt]

@[simp] theorem invView_setCopy (s : State) (k : Nat) (primary : Bool) (c : TagCopy) : invView (setCopy s k primary c) = invView s := by
  simp [setCopy]

@[simp] theorem invView_tagEnter (s : State) (w : TagWrite) : invView (tagEnter s w) = invView s := by simp [tagEnter]

@[simp] theorem invView_tagBegin (s : State) (w : TagWrite) : invView (tagBegin s w) = invView s := by
  unfold tagBegin
  dsimp only
  repeat' split
  all_goals simp

@[simp] theorem invView_tagQueue (s : State) (w : TagWrite) : invView (tagQueue s w) = invView s := by simp [tagQueue]

@[simp] theorem invView_tagNext (s : State) : invView (tagNext s) = invView s := by
  unfold tagNext
  dsimp only
  split <;> simp

@[simp] theorem invView_tagDevice (s : State) (kind : Nat) (a : TagAsk) : invView (tagDevice s kind a) = invView s := by simp [tagDevice]
@[simp] theorem invView_tagSummary (s : State) (reason : Nat) (must : Bool) : invView (tagSummary s reason must) = invView s := by simp [tagSummary]
@[simp] theorem invView_tagCount (s : State) (c : Nat) : invView (tagCount s c) = invView s := by simp [tagCount]
@[simp] theorem invView_tagLevel (s : State) (new : Nat) : invView (tagLevel s new) = invView s := by simp [tagLevel]
@[simp] theorem invView_tagBoot (s : State) : invView (tagBoot s) = invView s := by simp [tagBoot]
@[simp] theorem invView_tagRefresh (s : State) (epoch : Nat) (first : Bool) : invView (tagRefresh s epoch first) = invView s := by simp [tagRefresh]

end Sys2Proof.Proofs
end

section
/-! The invariant: the alarm ladder. -/

namespace Sys2Proof.Proofs

open Sys2Proof Sys2Proof.Machine Sys2Proof.Safety

@[simp] theorem invView_startStep (s : State) (n : Nat) : invView (startStep s n) = invView s := by simp [startStep]

@[simp] theorem invView_logAt (s : State) (tsc kind monitor level count : Nat) (concurrent : Bool) (data : List Nat) :
    invView (logAt s tsc kind monitor level count concurrent data) = invView s := by
  simp [logAt]

@[simp] theorem invView_logPut (s : State) (kind monitor level count : Nat) (concurrent : Bool) (data : List Nat) :
    invView (logPut s kind monitor level count concurrent data) = invView s := by
  simp [logPut]

@[simp] theorem invView_failWrite (s : State) (off : Bool) : invView (failWrite s off) = invView s := by simp [failWrite]

@[simp] theorem invView_lifeRecord (s : State) (phase src tgt token : Nat) (key : List Byte) : invView (lifeRecord s phase src tgt token key) = invView s := by
  simp [lifeRecord]

@[simp] theorem invView_dbgClose (s : State) : invView (dbgClose s) = invView s := by
  unfold dbgClose
  split
  · rfl
  · refine (invView_foldl (fun t h => ?_) _ _).trans (by simp)
    split <;> simp

@[simp] theorem invView_sealPart (s : State) : invView (sealPart s) = invView s := by simp [sealPart]
@[simp] theorem invView_purgePart (s : State) : invView (purgePart s) = invView s := by simp [purgePart]
@[simp] theorem invView_lockdownPart (s : State) : invView (lockdownPart s) = invView s := by simp [lockdownPart]
@[simp] theorem invView_levelParts (s : State) (old new : Nat) : invView (levelParts s old new) = invView s := by simp [levelParts]

@[simp] theorem sound_ladderTo (s : State) (target : Nat) (hv : Sound (invView s)) : Sound (invView (ladderTo s target)) := by
  have hr : Sound (s.sram, Nat.min 5 target, s.tm.latch || decide (Nat.min 5 target = 5), s.pending, s.now) :=
    ⟨hv.1, Nat.min_le_left .., fun h => by simp [show Nat.min 5 target = 5 from h]⟩
  unfold ladderTo
  dsimp only
  split
  · exact hv
  · split
    · simp only [invView_tagLevel, invView_levelParts, invView_raise, invView_logPut]
      exact hr
    · rw [invView_logPut]
      exact hr

@[simp] theorem sound_alarmRaise (s : State) (level reason : Nat) (hv : Sound (invView s)) : Sound (invView (alarmRaise s level reason)) := by
  simp [alarmRaise, hv]

@[simp] theorem sound_alarmFree (s : State) (level : Nat) (hv : Sound (invView s)) : Sound (invView (alarmFree s level)) := by simp [alarmFree, hv]
@[simp] theorem sound_warn (s : State) (hv : Sound (invView s)) : Sound (invView (warn s)) := by simp [warn, hv]
@[simp] theorem invView_setMon (s : State) (m : Nat) (x : MonSt) : invView (setMon s m x) = invView s := by simp [setMon]
@[simp] theorem invView_lineFire (s : State) (m level : Nat) : invView (lineFire s m level) = invView s := by simp [lineFire]
@[simp] theorem invView_fireRecord (s : State) (f : Firing) : invView (fireRecord s f) = invView s := by simp [fireRecord]

@[simp] theorem invView_monitorNote (s : State) (m : Nat) (data : List Nat) (dd : Nat) (concurrent : Bool) :
    invView (monitorNote s m data dd concurrent) = invView s := by
  simp [monitorNote]

@[simp] theorem sound_monitorEvents (s : State) (ms data : List Nat) (dd : Nat) (hv : Sound (invView s)) : Sound (invView (monitorEvents s ms data dd)) := by
  simp [monitorEvents, hv]

@[simp] theorem sound_monitorEvent (s : State) (m : Nat) (data : List Nat) (hv : Sound (invView s)) : Sound (invView (monitorEvent s m data)) := by
  simp [monitorEvent, hv]

@[simp] theorem sound_disagree (s : State) (resp : Nat) (hv : Sound (invView s)) : Sound (invView (disagree s resp)) := by simp [disagree, hv]
@[simp] theorem sound_lateFirings (s : State) (hv : Sound (invView s)) : Sound (invView (lateFirings s)) := by simp [lateFirings, hv]

end Sys2Proof.Proofs
end

section
/-! The invariant: memories. -/

namespace Sys2Proof.Proofs

open Sys2Proof Sys2Proof.Machine Sys2Proof.Safety

@[simp] theorem sound_memWrite (s : State) (a : Nat) (l : List Byte) (hv : Sound (invView s)) : Sound (invView (memWrite s a l)) :=
  ⟨tblWf_tputs _ l a hv.1, hv.2⟩

@[simp] theorem sound_memZero (s : State) (a n : Nat) (hv : Sound (invView s)) : Sound (invView (memZero s a n)) :=
  ⟨tblWf_filter _ _ hv.1, hv.2⟩

@[simp] theorem invView_setTag (s : State) (g v : Nat) : invView (setTag s g v) = invView s := by simp [setTag]
@[simp] theorem invView_setTags (s : State) (g n v : Nat) : invView (setTags s g n v) = invView s := by simp [setTags]
@[simp] theorem sound_wipeTags (s : State) (g n v : Nat) (hv : Sound (invView s)) : Sound (invView (wipeTags s g n v)) := by simp [wipeTags, hv]

@[simp] theorem invView_noteRefusal (s : State) (m a cause access level : Nat) : invView (noteRefusal s m a cause access level) = invView s := by
  simp [noteRefusal]

end Sys2Proof.Proofs
end

section
/-! The invariant: orders. -/

namespace Sys2Proof.Proofs

open Sys2Proof Sys2Proof.Machine Sys2Proof.Safety

@[simp] theorem invView_fnEv (s : State) (f code : Nat) (data : List Nat) : invView (fnEv s f code data) = invView s := by simp [fnEv]
@[simp] theorem invView_epErr (s : State) (e bit aer : Nat) : invView (epErr s e bit aer) = invView s := by simp [epErr]
@[simp] theorem invView_pcieError (s : State) (f bit aer : Nat) : invView (pcieError s f bit aer) = invView s := by simp [pcieError]
@[simp] theorem invView_readFailed (s : State) (f : Nat) (x : HostErr) : invView (readFailed s f x) = invView s := by simp [readFailed]
@[simp] theorem invView_notNowEv (s : State) (f tag n : Nat) : invView (notNowEv s f tag n) = invView s := by simp [notNowEv]
@[simp] theorem invView_setLines (s : State) (l : List LogLine) : invView (setLines s l) = invView s := by simp [setLines]
@[simp] theorem invView_writeLine (s : State) (x : LogLine) : invView (writeLine s x) = invView s := by simp [writeLine]

@[simp] theorem invView_makeRoom (s : State) (e : Nat) : invView (makeRoom s e) = invView s := by
  unfold makeRoom
  repeat' split
  all_goals simp

@[simp] theorem invView_markPage (s : State) (f p : Nat) : invView (markPage s f p) = invView s := by
  unfold markPage
  dsimp only
  split <;> simp

@[simp] theorem invView_dirtyMark (s : State) (f addr len : Nat) : invView (dirtyMark s f addr len) = invView s := by
  unfold dirtyMark
  dsimp only
  repeat' split
  all_goals simp

@[simp] theorem invView_hostWrite (s : State) (f addr : Nat) (l : List Byte) : invView (hostWrite s f addr l) = invView s := by simp [hostWrite]

@[simp] theorem invView_flushLines (s : State) (f : Nat) (b : Option Nat) (drop : Bool) : invView (flushLines s f b drop) = invView s := by
  unfold flushLines
  dsimp only
  rw [invView_setLines]
  split
  · rfl
  · exact invView_foldl invView_writeLine _ _

@[simp] theorem invView_logOff (s : State) (f : Nat) (drop : Bool) : invView (logOff s f drop) = invView s := by simp [logOff]
@[simp] theorem invView_logFault (s : State) (f addr : Nat) : invView (logFault s f addr) = invView s := by simp [logFault]
@[simp] theorem invView_complete (s : State) (f : Nat) (c : Machine.Compl) : invView (complete s f c) = invView s := by simp [complete]

@[simp] theorem invView_completeRaw (s : State) (f : Nat) (r : RawEntry) (status : Nat) : invView (completeRaw s f r status) = invView s := by
  simp [completeRaw]

@[simp] theorem invView_setHart (s : State) (h : Nat) (x : Hart) : invView (setHart s h x) = invView s := by simp [setHart]
@[simp] theorem invView_setHst (s : State) (h : Nat) (x : HState) : invView (setHst s h x) = invView s := by simp [setHst]

@[simp] theorem sound_wipeSandbox (s : State) (k : Nat) (hv : Sound (invView s)) : Sound (invView (wipeSandbox s k)) := by
  unfold wipeSandbox
  rw [invView_cadd]
  exact sound_wipeTags _ _ _ _ (sound_wipeTags _ _ _ _ hv)

@[simp] theorem invView_releaseHart (s : State) (h : Nat) : invView (releaseHart s h) = invView s := by simp [releaseHart]
@[simp] theorem invView_setJobs (s : State) (l : List Job) : invView (setJobs s l) = invView s := by simp [setJobs]
@[simp] theorem invView_modJob (s : State) (i : Nat) (g : Job → Job) : invView (modJob s i g) = invView s := by simp [modJob]

@[simp] theorem sound_dropJob (s : State) (j : Job) (hv : Sound (invView s)) : Sound (invView (dropJob s j)) := by
  unfold dropJob
  dsimp only
  rw [invView_setJobs]
  cases j.sandbox <;> cases j.stage <;> simp [hv]

@[simp] theorem invView_joinMembers (s : State) (old : List Nat) : invView (joinMembers s old) = invView s := by
  refine invView_foldl (fun t f => ?_) _ _
  dsimp only
  split <;> simp

@[simp] theorem sound_endJob (s : State) (j : Job) (status cause : Nat) (result : List Byte) (hv : Sound (invView s)) :
    Sound (invView (endJob s j status cause result)) := by
  simp [endJob, hv]

@[simp] theorem sound_endFaulted (s : State) (j : Job) (cause : Nat) (pc addr : W32) (hv : Sound (invView s)) : Sound (invView (endFaulted s j cause pc addr)) := by
  simp [endFaulted, hv]

@[simp] theorem sound_endTimeout (s : State) (j : Job) (hv : Sound (invView s)) : Sound (invView (endTimeout s j)) := by simp [endTimeout, hv]
@[simp] theorem invView_withdrawn (s : State) (f n : Nat) : invView (withdrawn s f n) = invView s := by simp [withdrawn]
@[simp] theorem invView_resetVecs (s : State) (f : Nat) : invView (resetVecs s f) = invView s := by simp [resetVecs]

@[simp] theorem sound_endFn (s : State) (f : Nat) (hv : Sound (invView s)) : Sound (invView (endFn s f)) := by
  have he : ∀ (l : List Job) (t : State), Sound (invView t) → Sound (invView (l.foldl (fun t j => endJob t j 11 0 []) t)) :=
    sound_foldl fun t j => sound_endJob t j 11 0 []
  unfold endFn
  dsimp only
  rw [invView_withdrawn, invView_cinc, invView_resetVecs, invView_modFn]
  exact he _ _ (he _ _ (by simpa using hv))

@[simp] theorem invView_liWeight (s : State) (f w : Nat) : invView (liWeight s f w) = invView s := by simp [liWeight]
@[simp] theorem invView_dropRoutes (s : State) (f : Nat) (p : Nat → Bool) : invView (dropRoutes s f p) = invView s := by simp [dropRoutes]

@[simp] theorem sound_removeVf (s : State) (f : Nat) (dropLog : Bool) (hv : Sound (invView s)) : Sound (invView (removeVf s f dropLog)) := by
  simp [removeVf, hv]

@[simp] theorem sound_removeVfs (s : State) (e : Nat) (dropLog : Bool) (hv : Sound (invView s)) : Sound (invView (removeVfs s e dropLog)) := by
  unfold removeVfs
  rw [invView_setEp]
  refine sound_foldl (fun t i ht => ?_) _ _ hv
  split <;> simp [ht]

@[simp] theorem sound_resetPf (s : State) (e : Nat) (hv : Sound (invView s)) : Sound (invView (resetPf s e)) := by simp [resetPf, hv]

@[simp] theorem sound_epGone (s : State) (e reason ltssm : Nat) (hv : Sound (invView s)) : Sound (invView (epGone s e reason ltssm)) := by
  simp [epGone, hv]

@[simp] theorem invView_barRefuse (s : State) (f : Nat) (write unassigned : Bool) : invView (barRefuse s f write unassigned) = invView s := by
  simp [barRefuse]

@[simp] theorem sound_barWrite (s : State) (f : Nat) {g : State → State} (hg : Sound (invView (g s))) (hv : Sound (invView s)) :
    Sound (invView (barWrite s f g)) := by
  simp [barWrite, hv, hg]

end Sys2Proof.Proofs
end

section
/-! The invariant: the random source. -/

namespace Sys2Proof.Proofs

open Sys2Proof Sys2Proof.Machine Sys2Proof.Safety

@[simp] theorem invView_setRng (s : State) (x : RngSt) : invView (setRng s x) = invView s := by simp [setRng]
@[simp] theorem invView_drawn (s : State) (n : Nat) : invView (drawn s n) = invView s := by simp [drawn]
@[simp] theorem invView_drewOctets (s : State) (n : Nat) : invView (drewOctets s n) = invView s := by simp [drewOctets]
@[simp] theorem invView_rngRefused (s : State) : invView (rngRefused s) = invView s := by simp [rngRefused]
@[simp] theorem invView_rngRequest (s : State) (cls blocks : Nat) : invView (rngRequest s cls blocks) = invView s := by simp [rngRequest]
@[simp] theorem invView_refuseReq (s : State) (r : RngReq) : invView (refuseReq s r) = invView s := by simp [refuseReq]
@[simp] theorem invView_ddRefill (s : State) : invView (ddRefill s) = invView s := by simp [ddRefill]
@[simp] theorem invView_ddTake (s : State) : invView (ddTake s) = invView s := by simp [ddTake]
@[simp] theorem invView_rngStart (s : State) : invView (rngStart s) = invView s := by simp [rngStart]

@[simp] theorem sound_rngFail (s : State) (test a b src : Nat) (data : List Nat) (disable : Option Nat) (hv : Sound (invView s)) :
    Sound (invView (rngFail s test a b src data disable)) := by
  simp [rngFail, hv]

@[simp] theorem sound_oscFail (s : State) (test : Nat) (bad : List Nat) (hv : Sound (invView s)) : Sound (invView (oscFail s test bad)) := by
  simp [oscFail, hv]

@[simp] theorem invView_poolIn (s : State) : invView (poolIn s) = invView s := by simp [poolIn]

@[simp] theorem sound_rngTick (s : State) (smp : Nat) (hv : Sound (invView s)) : Sound (invView (rngTick s smp)) := by
  unfold rngTick
  dsimp only
  repeat' split
  all_goals simp [hv]

@[simp] theorem sound_freqWindow (s : State) (counts : List Nat) (hv : Sound (invView s)) : Sound (invView (freqWindow s counts)) := by
  simp [freqWindow, hv]

@[simp] theorem invView_rngRunning (s : State) : invView (rngRunning s) = invView s := by simp [rngRunning]

@[simp] theorem sound_startupDone (s : State) (katOk : Bool) (hv : Sound (invView s)) : Sound (invView (startupDone s katOk)) := by
  simp [startupDone, hv]

@[simp] theorem invView_rgRefuse (s : State) : invView (rgRefuse s) = invView s := by simp [rgRefuse]
@[simp] theorem invView_rgRetry (s : State) : invView (rgRetry s) = invView s := by simp [rgRetry]

@[simp] theorem invView_reseedBegin (s : State) (kind : Nat) : invView (reseedBegin s kind) = invView s := by
  unfold reseedBegin
  dsimp only
  repeat' split
  all_goals simp

@[simp] theorem invView_rgReseed (s : State) : invView (rgReseed s) = invView s := by simp [rgReseed]
@[simp] theorem invView_rgReinst (s : State) : invView (rgReinst s) = invView s := by simp [rgReinst]
@[simp] theorem invView_rgEnable (s : State) : invView (rgEnable s) = invView s := by simp [rgEnable]
@[simp] theorem invView_reseedDone (s : State) : invView (reseedDone s) = invView s := by simp [reseedDone]

@[simp] theorem invView_deliverBlocks (s : State) (r : RngReq) (bs : List (BitVec 128)) : invView (deliverBlocks s r bs) = invView s := by
  unfold deliverBlocks
  split <;> simp

@[simp] theorem invView_drbgCall (s : State) : invView (drbgCall s) = invView s := by
  unfold drbgCall
  dsimp only
  repeat' split
  all_goals simp

@[simp] theorem invView_portRequest (s : State) (k n : Nat) : invView (portRequest s k n) = invView s := by simp [portRequest]

@[simp] theorem invView_portRead (s : State) (k : Nat) : invView (portRead s k) = invView s := by
  unfold portRead
  dsimp only
  split <;> simp

end Sys2Proof.Proofs
end

section
/-! The invariant: flash. -/

namespace Sys2Proof.Proofs

open Sys2Proof Sys2Proof.Machine Sys2Proof.Safety

@[simp] theorem invView_setFl (s : State) (x : FlSt) : invView (setFl s x) = invView s := by simp [setFl]
@[simp] theorem invView_setSect (s : State) (x : Nat) (v : Sect) : invView (setSect s x v) = invView s := by simp [setSect]
@[simp] theorem invView_wearNear (s : State) (x why : Nat) : invView (wearNear s x why) = invView s := by simp [wearNear]
@[simp] theorem invView_wearProgram (s : State) (x n : Nat) : invView (wearProgram s x n) = invView s := by simp [wearProgram]
@[simp] theorem invView_wearErase (s : State) (x n : Nat) : invView (wearErase s x n) = invView s := by simp [wearErase]

@[simp] theorem invView_wearRead (s : State) (x n : Nat) : invView (wearRead s x n) = invView s := by
  unfold wearRead
  dsimp only
  split <;> simp

@[simp] theorem invView_flashSuspend (s : State) (a : Nat) : invView (flashSuspend s a) = invView s := by
  unfold flashSuspend
  split <;> simp

@[simp] theorem invView_flashError (s : State) (a src cnt : Nat) : invView (flashError s a src cnt) = invView s := by simp [flashError]

@[simp] theorem invView_flashRead (s : State) (a : Nat) (fetch : Bool) (res : MemRes) : invView (flashRead s a fetch res).1 = invView s := by
  unfold flashRead
  dsimp only
  repeat' split
  all_goals simp

@[simp] theorem invView_flRefuse (s : State) (o : Nat) : invView (flRefuse s o) = invView s := by simp [flRefuse]
@[simp] theorem invView_flBreak (s : State) (o : Nat) : invView (flBreak s o) = invView s := by simp [flBreak]
@[simp] theorem invView_flOther (s : State) (h o : Nat) : invView (flOther s h o) = invView s := by simp [flOther]
@[simp] theorem invView_flashKey (s : State) (h v : Nat) : invView (flashKey s h v) = invView s := by simp [flashKey]
@[simp] theorem invView_flStart (s : State) (op a : Nat) (ws : List W32) : invView (flStart s op a ws) = invView s := by simp [flStart]

@[simp] theorem invView_flashStep (s : State) (h : Nat) (isAddr : Bool) (v : W32) : invView (flashStep s h isAddr v) = invView s := by
  simp [flashStep]

@[simp] theorem invView_flashData (s : State) (h w : Nat) (v : W32) : invView (flashData s h w v) = invView s := by simp [flashData]
@[simp] theorem invView_setUndef (s : State) (a pages : Nat) (b : Bool) : invView (setUndef s a pages b) = invView s := by simp [setUndef]
@[simp] theorem invView_eraseData (s : State) (x : Nat) : invView (eraseData s x) = invView s := by simp [eraseData]

@[simp] theorem invView_eraseSector (s : State) (x pulses : Nat) (good : Bool) : invView (eraseSector s x pulses good) = invView s := by
  simp [eraseSector]

@[simp] theorem invView_flWorked (s : State) (code pulses : Nat) : invView (flWorked s code pulses) = invView s := by
  unfold flWorked
  split <;> simp

@[simp] theorem invView_flProgram (s : State) (pulses : Nat) (good : Bool) : invView (flProgram s pulses good) = invView s := by
  unfold flProgram
  split <;> simp

@[simp] theorem invView_flErase (s : State) (pulses : Nat) (good : Bool) : invView (flErase s pulses good) = invView s := by
  unfold flErase
  split <;> simp

@[simp] theorem invView_moveSector (s : State) (x : Nat) : invView (moveSector s x).1 = invView s := by
  unfold moveSector
  dsimp only
  repeat' split
  all_goals simp

@[simp] theorem sound_flMove (s : State) (hv : Sound (invView s)) : Sound (invView (flMove s)) := by
  unfold flMove
  split <;> simp [hv]

@[simp] theorem invView_eraseRange (n : Nat) (s : State) (pulses : Nat) (bad : Option Nat) (x : Nat) : invView (eraseRange s pulses bad x n).1 = invView s := by
  induction n generalizing s x with
  | zero => rfl
  | succ n ih =>
    unfold eraseRange
    split <;> simp [ih]

@[simp] theorem invView_flRelease (s : State) (pulses : Nat) (bad : Option Nat) : invView (flRelease s pulses bad) = invView s := by
  unfold flRelease
  split <;> simp

@[simp] theorem invView_flashDone (s : State) : invView (flashDone s) = invView s := by
  unfold flashDone
  split <;> simp

end Sys2Proof.Proofs
end

section
/-! The invariant: the bus. -/

namespace Sys2Proof.Proofs

open Sys2Proof Sys2Proof.Machine Sys2Proof.Safety

@[simp] theorem invView_tagFound (s : State) (a : Nat) (res : MemRes) : invView (tagFound s a res) = invView s := by simp [tagFound]
@[simp] theorem invView_tagEvent (s : State) (a : Nat) : invView (tagEvent s a) = invView s := by simp [tagEvent]

@[simp] theorem invView_busCheck (s : State) (m : Nat) (user : Bool) (k : Kind) (a size : Nat) (res : MemRes) :
    invView (busCheck s m user k a size res).1 = invView s := by
  unfold busCheck
  dsimp only
  split <;> simp

@[simp] theorem invView_sramLane (s : State) (a : Nat) (res : MemRes) : invView (sramLane s a res).1 = invView s := by
  unfold sramLane
  dsimp only
  repeat' split
  all_goals simp

@[simp] theorem invView_busRead (s : State) (a n : Nat) (fetch : Bool) (res : MemRes) : invView (busRead s a n fetch res).1 = invView s := by
  unfold busRead
  dsimp only
  repeat' split
  all_goals simp

end Sys2Proof.Proofs
end

section
/-! The invariant: the harts. -/

namespace Sys2Proof.Proofs

open Sys2Proof Sys2Proof.Machine Sys2Proof.Safety

@[simp] theorem invView_stateChange (s : State) (h : Nat) (st : HState) : invView (stateChange s h st) = invView s := by simp [stateChange]

@[simp] theorem invView_enter (s : State) (h m c access size src : Nat) (pc addr : W32) : invView (enter s h m c access size src pc addr) = invView s := by
  simp [enter]

@[simp] theorem invView_takeSource (s : State) (h src : Nat) (crit : Bool) : invView (takeSource s h src crit) = invView s := by simp [takeSource]

@[simp] theorem sound_endHartJob (s : State) (h c : Nat) (pc addr : W32) (hv : Sound (invView s)) : Sound (invView (endHartJob s h c pc addr)) := by
  unfold endHartJob
  repeat' split
  all_goals simp [hv]

@[simp] theorem sound_hartDies (s : State) (h : Nat) (st : HState) (off code : Nat) (cause addr : W32) (hv : Sound (invView s)) :
    Sound (invView (hartDies s h st off code cause addr)) := by
  simp [hartDies, hv]

@[simp] theorem sound_fault (s : State) (h c : Nat) (pc addr : W32) (access size : Nat) (hv : Sound (invView s)) :
    Sound (invView (fault s h c pc addr access size)) := by
  simp [fault, hv]

@[simp] theorem invView_retire (s : State) (h : Nat) : invView (retire s h) = invView s := by simp [retire]

@[simp] theorem invView_fetchAt (s : State) (h : Nat) (res : MemRes) : invView (fetchAt s h res).1 = invView s := by
  unfold fetchAt
  dsimp only
  repeat' split
  all_goals simp

@[simp] theorem invView_completeNext (s : State) (h : Nat) (x : Hart) : invView (completeNext s h x) = invView s := by simp [completeNext]

@[simp] theorem sound_settle {s : State} {r : HRes} (h : Nat) (hr : HSound r) (hv : Sound (invView s)) : Sound (invView (settle s h r)) := by
  cases r <;> simp_all [settle]

theorem sound_issueFed {s : State} (i : Issue) (lv : Nat) (word : W32) (illegal perm : Bool) {op : State → Hart → HRes}
    (hop : ∀ t x, Sound (invView t) → HSound (op t x)) (hv : Sound (invView s)) : Sound (invView (issueFed s i lv word illegal perm op)) := by
  have hs : Sound (invView (setHart s i.h { hartOf s i.h with level := lv, fed := none })) := by simpa using hv
  have hr := hop _ { hartOf s i.h with level := lv, fed := none } hs
  have hback : ∀ u, Sound (invView u) →
      Sound (invView (if (hartOf u i.h).level = lv then setHart u i.h { hartOf u i.h with level := (hartOf s i.h).level } else u)) := by
    intro u hu
    simp [hu]
  unfold issueFed
  dsimp only
  split
  · exact hback _ (by simp [hv])
  · split
    · exact hback _ (by simp [hv])
    · split
      · exact hback _ (by simp [hv])
      · refine hback _ ?_
        revert hr
        cases op _ _ <;> intro hr
        case next => simpa using hr
        all_goals exact sound_settle _ hr hs

theorem sound_issue {s : State} (i : Issue) (word : W32) (illegal perm : Bool) {op : State → Hart → HRes}
    (hop : ∀ t x, Sound (invView t) → HSound (op t x)) (hv : Sound (invView s)) : Sound (invView (issue s i word illegal perm op)) := by
  have hf := invView_fetchAt s i.h i.fetch
  unfold issue
  dsimp only
  split
  · split
    · exact sound_issueFed i _ word illegal perm hop hv
    · exact hv
  · split
    · exact hv
    · split
      next t c he =>
        rw [he] at hf
        simp [hf, hv]
      next t he =>
        rw [he] at hf
        simp [hf, hv, hop]

end Sys2Proof.Proofs
end

section
/-! The invariant: arithmetic. -/

namespace Sys2Proof.Proofs

open Sys2Proof Sys2Proof.Machine Sys2Proof.Safety

@[simp] theorem sound_writeRd (rd : Nat) (v : Hart → W32) (s : State) (x : Hart) : HSound (writeRd rd v s x) ↔ Sound (invView s) := Iff.rfl

@[simp] theorem sound_aluR {s : State} (i : Issue) (func : Nat) (rd ra rb : Fin 32) (f : W32 → W32 → W32) (hv : Sound (invView s)) :
    Sound (invView (aluR s i func rd ra rb f)) := sound_issue i _ _ _ (by simp) hv

@[simp] theorem sound_aluU {s : State} (i : Issue) (func : Nat) (rd ra rb : Fin 32) (f : W32 → W32) (hv : Sound (invView s)) :
    Sound (invView (aluU s i func rd ra rb f)) := sound_issue i _ _ _ (by simp) hv

@[simp] theorem sound_aluI {s : State} (i : Issue) (op : Nat) (rd ra : Fin 32) (imm : BitVec 12) (f : W32 → W32 → W32) (hv : Sound (invView s)) :
    Sound (invView (aluI s i op rd ra imm f)) := sound_issue i _ _ _ (by simp) hv

@[simp] theorem sound_shk {s : State} (i : Issue) (sel : Nat) (rd ra k z : Fin 32) (f : W32 → Nat → W32) (hv : Sound (invView s)) :
    Sound (invView (shk s i sel rd ra k z f)) := sound_issue i _ _ _ (by simp) hv

@[simp] theorem sound_compareTo (pd mode cond : Nat) (v : Hart → W32 × W32) (s : State) (x : Hart) :
    HSound (compareTo pd mode cond v s x) ↔ Sound (invView s) := Iff.rfl

@[simp] theorem sound_plog {s : State} (i : Issue) (op : Nat) (pd pa pb : Fin 8) (z : Fin 1024) (hv : Sound (invView s)) :
    Sound (invView (plog s i op pd pa pb z)) := sound_issue i _ _ _ (by simp) hv

end Sys2Proof.Proofs
end

section
/-! The invariant: the endpoints. -/

namespace Sys2Proof.Proofs

open Sys2Proof Sys2Proof.Machine Sys2Proof.Safety

@[simp] theorem invView_linkUp (s : State) (e speed width : Nat) : invView (linkUp s e speed width) = invView s := by simp [linkUp]

@[simp] theorem sound_linkEnWrite (s : State) (e : Nat) (v : Bool) (hv : Sound (invView s)) : Sound (invView (linkEnWrite s e v)) := by
  unfold linkEnWrite
  dsimp only
  repeat' split
  all_goals simp [hv]

@[simp] theorem sound_vfEnableWrite (s : State) (e : Nat) (en vfMse ari : Bool) (numVfs : Nat) (hv : Sound (invView s)) :
    Sound (invView (vfEnableWrite s e en vfMse ari numVfs)) := by
  simp [vfEnableWrite, hv]

@[simp] theorem invView_vecsTry (s : State) (f : Nat) : invView (vecsTry s f) = invView s := by simp [vecsTry]
@[simp] theorem invView_dmaRelease (s : State) (f : Nat) : invView (dmaRelease s f) = invView s := by simp [dmaRelease]
@[simp] theorem invView_masterChange (s : State) (f : Nat) (was : Bool) : invView (masterChange s f was) = invView s := by simp [masterChange]
@[simp] theorem invView_fnRefuse (s : State) (f : Nat) : invView (fnRefuse s f) = invView s := by simp [fnRefuse]
@[simp] theorem invView_ringHello (s : State) (f v : Nat) : invView (ringHello s f v) = invView s := by simp [ringHello]
@[simp] theorem invView_ringEnable (s : State) (f : Nat) : invView (ringEnable s f) = invView s := by simp [ringEnable]
@[simp] theorem invView_quiesceCheck (s : State) (f : Nat) : invView (quiesceCheck s f) = invView s := by simp [quiesceCheck]
@[simp] theorem invView_ringQuiesce (s : State) (f : Nat) : invView (ringQuiesce s f) = invView s := by simp [ringQuiesce]
@[simp] theorem invView_ringStop (s : State) (f cause : Nat) : invView (ringStop s f cause) = invView s := by simp [ringStop]
@[simp] theorem invView_orTailWrite (s : State) (f v : Nat) : invView (orTailWrite s f v) = invView s := by simp [orTailWrite]
@[simp] theorem invView_crHeadWrite (s : State) (f v : Nat) : invView (crHeadWrite s f v) = invView s := by simp [crHeadWrite]
@[simp] theorem invView_orderFetch (s : State) (f n : Nat) : invView (orderFetch s f n) = invView s := by simp [orderFetch]
@[simp] theorem invView_takeEntry (s : State) (f : Nat) (l : List Byte) : invView (takeEntry s f l) = invView s := by simp [takeEntry]

@[simp] theorem invView_takeEntries (s : State) (f : Nat) (l : List (List Byte)) : invView (takeEntries s f l) = invView s := by
  induction l generalizing s with
  | nil => rfl
  | cons l r ih =>
    unfold takeEntries
    split <;> simp [ih]

@[simp] theorem invView_entriesArrive (s : State) (f : Nat) (ls : List (List Byte)) (err : Option HostErr) : invView (entriesArrive s f ls err) = invView s := by
  unfold entriesArrive
  split <;> simp

@[simp] theorem invView_phaseRecheck (s : State) (f : Nat) (l : List Byte) (err : Option HostErr) : invView (phaseRecheck s f l err) = invView s := by
  unfold phaseRecheck
  split <;> simp

@[simp] theorem invView_popRaw (s : State) (f : Nat) : invView (popRaw s f) = invView s := by simp [popRaw]

@[simp] theorem invView_nopEntry (s : State) (f : Nat) : invView (nopEntry s f) = invView s := by
  unfold nopEntry
  split <;> simp

@[simp] theorem sound_cancelEntry (s : State) (f : Nat) (hv : Sound (invView s)) : Sound (invView (cancelEntry s f)) := by
  unfold cancelEntry
  dsimp only
  repeat' split
  all_goals simp [hv]

@[simp] theorem invView_vecCompletion (s : State) (f : Nat) : invView (vecCompletion s f) = invView s := by simp [vecCompletion]

@[simp] theorem invView_completionWrite (s : State) (f : Nat) : invView (completionWrite s f) = invView s := by
  unfold completionWrite
  dsimp only
  split <;> simp

@[simp] theorem sound_functionReset (s : State) (f : Nat) (hv : Sound (invView s)) : Sound (invView (functionReset s f)) := by
  simp [functionReset, hv]

@[simp] theorem invView_dmaEndGen (s : State) (f : Nat) : invView (dmaEndGen s f) = invView s := by simp [dmaEndGen]

@[simp] theorem invView_logFill (s : State) (f w : Nat) (v : W64) (err : Option HostErr) : invView (logFill s f w v err) = invView s := by
  unfold logFill
  repeat' split
  all_goals simp

@[simp] theorem invView_logFlush (s : State) (v : W32) (err : Bool) : invView (logFlush s v err) = invView s := by simp [logFlush]

@[simp] theorem invView_svcReturn (s : State) (h status : Nat) (res : List Nat) : invView (svcReturn s h status res) = invView s := by
  unfold svcReturn
  dsimp only
  split <;> simp

@[simp] theorem invView_svcEnter (s : State) (h n : Nat) (x : Hart) : invView (svcEnter s h n x) = invView s := by
  unfold svcEnter
  dsimp only
  split <;> simp

end Sys2Proof.Proofs
end

section
/-! The invariant: transfers. -/

namespace Sys2Proof.Proofs

open Sys2Proof Sys2Proof.Machine Sys2Proof.Safety

@[simp] theorem sound_jumpReg (ra : Nat) (link : Option Nat) (t : State) (x : Hart) : HSound (jumpReg ra link t x) ↔ Sound (invView t) := by
  unfold jumpReg
  dsimp only
  split <;> rfl

@[simp] theorem invView_crRead (s : State) (h : Nat) (x : Hart) (c : Nat) : invView (crRead s h x c).1 = invView s := by
  simp only [crRead, apply_ite Prod.fst, invView_ite, invView_freed, ite_self]
  cases x.cycHi <;> simp

@[simp] theorem invView_psWrite (s : State) (h : Nat) (x : Hart) (v : W32) : invView (psWrite s h x v).1 = invView s := by
  unfold psWrite
  split <;> simp

@[simp] theorem invView_crWrite (s : State) (h : Nat) (x : Hart) (c : Nat) (v : W32) : invView (crWrite s h x c v).1 = invView s := by
  unfold crWrite
  repeat' split
  all_goals simp

theorem sound_ctl {s : State} (i : Issue) (sub : Nat) (r : Fin 32) (z : Fin 8) (creg : Fin 4096) {op : State → Hart → HRes}
    (hop : ∀ t x, Sound (invView t) → HSound (op t x)) (hv : Sound (invView s)) : Sound (invView (ctl s i sub r z creg op)) :=
  sound_issue i _ _ _ hop hv

@[simp] theorem sound_crModify (h r creg : Nat) (f : W32 → W32 → W32) (t : State) (x : Hart) (hv : Sound (invView t)) : HSound (crModify h r creg f t x) := by
  simp [crModify, hv]

@[simp] theorem sound_loopSet (n len : Nat) (count : Hart → W32) (t : State) (x : Hart) : HSound (loopSet n len count t x) ↔ Sound (invView t) := by
  unfold loopSet
  dsimp only
  split <;> rfl

theorem sound_sys {s : State} (i : Issue) (sub : Nat) (imm : BitVec 16) (illegal : Bool) (level : Nat) {op : State → Hart → HRes}
    (hop : ∀ t x, Sound (invView t) → HSound (op t x)) (hv : Sound (invView s)) : Sound (invView (sys s i sub imm illegal level op)) :=
  sound_issue i _ _ _ hop hv

@[simp] theorem sound_eret (t : State) (x : Hart) : HSound (eret t x) ↔ Sound (invView t) := Iff.rfl

end Sys2Proof.Proofs
end

section
/-! The invariant: events of the harts. -/

namespace Sys2Proof.Proofs

open Sys2Proof Sys2Proof.Machine Sys2Proof.Safety

@[simp] theorem invView_windowExpiry (s : State) (h : Nat) : invView (windowExpiry s h) = invView s := by simp [windowExpiry]

@[simp] theorem invView_recordOf (s : State) (src : Nat) : invView (recordOf s src).1 = invView s := by
  unfold recordOf
  repeat' split
  all_goals simp

@[simp] theorem invView_parkScript (s : State) (h : Nat) : invView (parkScript s h) = invView s := by
  unfold parkScript
  dsimp only
  split <;> simp

@[simp] theorem invView_retireHart (s : State) (h : Nat) : invView (retireHart s h) = invView s := by simp [retireHart]
@[simp] theorem invView_takeover (s : State) (h : Nat) : invView (takeover s h) = invView s := by simp [takeover]

@[simp] theorem invView_interruptTake (s : State) (h : Nat) : invView (interruptTake s h) = invView s := by
  unfold interruptTake
  split <;> simp

@[simp] theorem sound_asyncTake (s : State) (h : Nat) (hv : Sound (invView s)) : Sound (invView (asyncTake s h)) := by
  unfold asyncTake
  dsimp only
  repeat' split
  all_goals simp [hv]

@[simp] theorem sound_parityError (s : State) (h unit : Nat) (hv : Sound (invView s)) : Sound (invView (parityError s h unit)) := by
  unfold parityError
  split <;> simp [hv]

@[simp] theorem invView_waitWake (s : State) (h : Nat) : invView (waitWake s h) = invView s := by
  unfold waitWake
  dsimp only
  repeat' split
  all_goals simp

@[simp] theorem invView_htRefuse (s : State) (h : Nat) : invView (htRefuse s h) = invView s := by simp [htRefuse]
@[simp] theorem invView_hartHalt (s : State) (w h : Nat) : invView (hartHalt s w h) = invView s := by simp [hartHalt]
@[simp] theorem invView_haltComplete (s : State) (h : Nat) : invView (haltComplete s h) = invView s := by simp [haltComplete]
@[simp] theorem invView_hartResume (s : State) (w h : Nat) : invView (hartResume s w h) = invView s := by simp [hartResume]
@[simp] theorem sound_endUnresumed (s : State) (h : Nat) (hv : Sound (invView s)) : Sound (invView (endUnresumed s h)) := by simp [endUnresumed, hv]
@[simp] theorem sound_hartRestart (s : State) (w h : Nat) (hv : Sound (invView s)) : Sound (invView (hartRestart s w h)) := by simp [hartRestart, hv]
@[simp] theorem sound_hartRetire (s : State) (w h : Nat) (hv : Sound (invView s)) : Sound (invView (hartRetire s w h)) := by simp [hartRetire, hv]
@[simp] theorem invView_hartRaise (s : State) (h : Nat) (v : W32) : invView (hartRaise s h v) = invView s := by simp [hartRaise]

@[simp] theorem invView_claimSource (s : State) (h : Nat) : invView (claimSource s h) = invView s := by
  unfold claimSource
  repeat' split
  all_goals simp

@[simp] theorem invView_evRaise (s : State) (v : W32) : invView (evRaise s v) = invView s := by simp [evRaise]
@[simp] theorem invView_routeWrite (s : State) (src : Nat) (v : W32) : invView (routeWrite s src v) = invView s := by simp [routeWrite]

end Sys2Proof.Proofs
end

section
/-! The invariant: jobs. -/

namespace Sys2Proof.Proofs

open Sys2Proof Sys2Proof.Machine Sys2Proof.Safety

@[simp] theorem invView_setKey (s : State) (n : Nat) (k : KeyRec) : invView (setKey s n k) = invView s := by simp [setKey]

@[simp] theorem invView_makeKey (s : State) (dom ptype : Nat) (key : List Byte) (nowrap : Bool) : invView (makeKey s dom ptype key nowrap).1 = invView s := by
  simp [makeKey]

@[simp] theorem invView_liRefuse (s : State) : invView (liRefuse s) = invView s := by simp [liRefuse]

@[simp] theorem invView_vtJoin (s : State) (j : Nat) : invView (vtJoin s j) = invView s := by
  unfold vtJoin
  dsimp only
  repeat' split
  all_goals simp

@[simp] theorem invView_liAdmit (s : State) (j : Nat) (seed : BitVec 256) : invView (liAdmit s j seed) = invView s := by simp [liAdmit]
@[simp] theorem invView_liNoSeed (s : State) (j : Nat) : invView (liNoSeed s j) = invView s := by simp [liNoSeed]
@[simp] theorem invView_jobSubmit (s : State) (j : Nat) : invView (jobSubmit s j) = invView s := by simp [jobSubmit]
@[simp] theorem invView_jobAbort (s : State) (j : Nat) : invView (jobAbort s j) = invView s := by simp [jobAbort]
@[simp] theorem invView_liColour (s : State) (j : Nat) : invView (liColour s j) = invView s := by simp [liColour]
@[simp] theorem invView_jobResume (s : State) (j : Nat) : invView (jobResume s j) = invView s := by simp [jobResume]
@[simp] theorem invView_jobFree (s : State) (j : Nat) : invView (jobFree s j) = invView s := by simp [jobFree]
@[simp] theorem invView_vtRebase (s : State) : invView (vtRebase s) = invView s := by simp [vtRebase]
@[simp] theorem invView_liCharge (s : State) (j cycles : Nat) : invView (liCharge s j cycles) = invView s := by simp [liCharge]

@[simp] theorem invView_liAccess (s : State) (k : Kind) (a len : Nat) (res : MemRes) : invView (liAccess s k a len res).1 = invView s := by
  unfold liAccess
  dsimp only
  repeat' split
  all_goals simp

@[simp] theorem sound_liFault (s : State) (j side a off c access : Nat) (hv : Sound (invView s)) : Sound (invView (liFault s j side a off c access)) := by
  unfold liFault
  dsimp only
  repeat' split
  all_goals simp [hv]

@[simp] theorem invView_liAtYield (s : State) (j : Nat) : invView (liAtYield s j) = invView s := by simp [liAtYield]
@[simp] theorem invView_liLoaded (s : State) (j : Nat) : invView (liLoaded s j) = invView s := by simp [liLoaded]

@[simp] theorem sound_loadComplete (s : State) (j cycles : Nat) (res : MemRes) (hv : Sound (invView s)) : Sound (invView (loadComplete s j cycles res)) := by
  unfold loadComplete
  dsimp only
  repeat' split
  all_goals simp [hv]

@[simp] theorem invView_liStepRise (s : State) : invView (liStepRise s) = invView s := by
  unfold liStepRise
  split <;> simp

@[simp] theorem invView_liYield (s : State) (cycles : Nat) : invView (liYield s cycles) = invView s := by
  unfold liYield
  split <;> simp

@[simp] theorem sound_checkFailed (s : State) (j : Nat) (hv : Sound (invView s)) : Sound (invView (checkFailed s j)) := by
  unfold checkFailed
  dsimp only
  split <;> simp [hv]

@[simp] theorem sound_computeComplete (s : State) (iter : Nat) (hv : Sound (invView s)) : Sound (invView (computeComplete s iter)) := by
  unfold computeComplete
  split <;> simp [hv]

@[simp] theorem sound_liStored (s : State) (j cycles : Nat) (hv : Sound (invView s)) : Sound (invView (liStored s j cycles)) := by simp [liStored, hv]

@[simp] theorem sound_storeComplete (s : State) (j cycles : Nat) (res : MemRes) (hv : Sound (invView s)) : Sound (invView (storeComplete s j cycles res)) := by
  unfold storeComplete
  dsimp only
  repeat' split
  all_goals simp [hv]

@[simp] theorem invView_holdExpiry (s : State) : invView (holdExpiry s) = invView s := by simp [holdExpiry]
@[simp] theorem sound_liNeed (s : State) (need : Nat) (hv : Sound (invView s)) : Sound (invView (liNeed s need)) := by simp [liNeed, hv]
@[simp] theorem invView_liStepSet (s : State) (v : W32) : invView (liStepSet s v) = invView s := by simp [liStepSet]

end Sys2Proof.Proofs
end

section
/-! The invariant: the order engine. -/

namespace Sys2Proof.Proofs

open Sys2Proof Sys2Proof.Machine Sys2Proof.Safety

@[simp] theorem invView_touchColour (s : State) (d : Nat) : invView (touchColour s d) = invView s := by simp [touchColour]

@[simp] theorem invView_bindColour (s : State) (d : Nat) : invView (bindColour s d) = invView s := by
  unfold bindColour
  dsimp only
  repeat' split
  all_goals simp

@[simp] theorem sound_fillSandbox (s : State) (k d : Nat) (code args : List Byte) (hv : Sound (invView s)) : Sound (invView (fillSandbox s k d code args)) := by
  unfold fillSandbox
  rw [invView_cadd]
  exact sound_memWrite _ _ _ (sound_memWrite _ _ _ (by simp [hv]))

@[simp] theorem invView_entryEnds (s : State) (f : Nat) (r : RawEntry) (status : Nat) : invView (entryEnds s f r status) = invView s := by
  simp [entryEnds]

@[simp] theorem invView_orderRead (s : State) (f addr len : Nat) (err : Option HostErr) : invView (orderRead s f addr len err) = invView s := by
  unfold orderRead
  split <;> simp

@[simp] theorem sound_queueOrder (s : State) (f : Nat) (r : RawEntry) (img buf : List Byte) (k : Nat) (hv : Sound (invView s)) :
    Sound (invView (queueOrder s f r img buf k)) := by
  simp [queueOrder, hv]

@[simp] theorem sound_orderArgCheck (s : State) (f : Nat) (r : RawEntry) (img buf : List Byte) (bufErr : Option HostErr) (k : Nat) (hv : Sound (invView s)) :
    Sound (invView (orderArgCheck s f r img buf bufErr k)) := by
  simp [orderArgCheck, hv]

@[simp] theorem sound_orderEntry (s : State) (f : Nat) (img buf : List Byte) (imgErr bufErr : Option HostErr) (hv : Sound (invView s)) :
    Sound (invView (orderEntry s f img buf imgErr bufErr)) := by
  unfold orderEntry
  dsimp only
  repeat' split
  all_goals simp [hv]

@[simp] theorem invView_helloOrder (s : State) (f : Nat) : invView (helloOrder s f) = invView s := by
  unfold helloOrder
  split <;> simp

@[simp] theorem invView_setSandboxMpu (s : State) (h : Nat) (j : Job) (k : Nat) : invView (setSandboxMpu s h j k) = invView s := by
  simp [setSandboxMpu]

@[simp] theorem invView_startOrder (s : State) (h : Nat) (j : Job) : invView (startOrder s h j) = invView s := by simp [startOrder]

@[simp] theorem invView_orderDispatch (s : State) (h : Nat) : invView (orderDispatch s h) = invView s := by
  unfold orderDispatch
  repeat' split
  all_goals simp

@[simp] theorem invView_makeReady (s : State) (i : Nat) (w : Wait) : invView (makeReady s i w) = invView s := by simp [makeReady]

@[simp] theorem sound_budgetExpiry (s : State) (i : Nat) (hv : Sound (invView s)) : Sound (invView (budgetExpiry s i)) := by
  unfold budgetExpiry
  dsimp only
  repeat' split
  all_goals simp [hv]

@[simp] theorem invView_spacingExpiry (s : State) (slot : Nat) : invView (spacingExpiry s slot) = invView s := by
  unfold spacingExpiry
  dsimp only
  split <;> simp

@[simp] theorem invView_recvTimeout (s : State) (i : Nat) : invView (recvTimeout s i) = invView s := by
  unfold recvTimeout
  split <;> simp

@[simp] theorem sound_svcRet (s : State) (h status : Nat) (res : List Nat) (hv : Sound (invView s)) : Sound (invView (svcRet s h status res)) := by
  unfold svcRet
  split <;> simp [hv]

@[simp] theorem sound_svcCall {s : State} (h n : Nat) (op : Bool) {body : State → Job → Hart → State}
    (hb : ∀ j x, Sound (invView (body s j x))) (hv : Sound (invView s)) : Sound (invView (svcCall s h n op body)) := by
  unfold svcCall
  dsimp only
  split
  · exact hv
  · split
    · exact hv
    · simp [hv, hb]

@[simp] theorem invView_svcWait (s : State) (h : Nat) (j : Job) (w : Wait) : invView (svcWait s h j w) = invView s := by simp [svcWait]

@[simp] theorem sound_scratchWrite (s : State) (j : Job) (off : Nat) (l : List Byte) (hv : Sound (invView s)) : Sound (invView (scratchWrite s j off l)) := by
  simp [scratchWrite, hv]

/-- A service that writes its results in the scratchpad and returns. -/
@[simp] theorem sound_svcRet_scratchWrite (s : State) (j : Job) (off : Nat) (l : List Byte) (h status : Nat) (res : List Nat) (hv : Sound (invView s)) :
    Sound (invView (svcRet (scratchWrite s j off l) h status res)) := by
  simp [hv]

end Sys2Proof.Proofs
end

section
/-! The invariant: the basic services. -/

namespace Sys2Proof.Proofs

open Sys2Proof Sys2Proof.Machine Sys2Proof.Safety

@[simp] theorem sound_needCulm (s : State) (h : Nat) (j : Job) {body : State → State} (hb : Sound (invView (body s))) (hv : Sound (invView s)) :
    Sound (invView (needCulm s h j body)) := by
  simp [needCulm, hb, hv]

@[simp] theorem sound_needRandom (s : State) (h : Nat) (j : Job) (n : Nat) {body : State → List Byte → State}
    (hb : Sound (invView (body (drewOctets s n) (drawOctets s n)))) (hv : Sound (invView s)) : Sound (invView (needRandom s h j n body)) := by
  simp [needRandom, hb, hv]

@[simp] theorem sound_svcInfo (s : State) (j : Job) (_x : Hart) (h : Nat) (hv : Sound (invView s)) : Sound (invView (svcInfo s j _x h)) := by
  simp [svcInfo, hv]

@[simp] theorem sound_svcExit (s : State) (j : Job) (x : Hart) (hv : Sound (invView s)) : Sound (invView (svcExit s j x)) := by simp [svcExit, hv]

@[simp] theorem sound_svcArgRead (s : State) (j : Job) (x : Hart) (h : Nat) (data : List Byte) (err : Option HostErr) (hv : Sound (invView s)) :
    Sound (invView (svcArgRead s j x h data err)) := by
  unfold svcArgRead
  dsimp only
  repeat' split
  all_goals simp [hv]

@[simp] theorem sound_svcResultWrite (s : State) (j : Job) (x : Hart) (h : Nat) (hv : Sound (invView s)) : Sound (invView (svcResultWrite s j x h)) := by
  simp [svcResultWrite, hv]

@[simp] theorem sound_newHandle (s : State) (h : Nat) (j : Job) (key : List Byte) (nowrap : Bool) (hv : Sound (invView s)) :
    Sound (invView (newHandle s h j key nowrap)) := by
  simp [newHandle, hv]

@[simp] theorem sound_svcKeyLoad (s : State) (j : Job) (x : Hart) (h : Nat) (hv : Sound (invView s)) : Sound (invView (svcKeyLoad s j x h)) := by
  simp [svcKeyLoad, hv]

@[simp] theorem sound_svcKeyGen (s : State) (j : Job) (x : Hart) (h : Nat) (hv : Sound (invView s)) : Sound (invView (svcKeyGen s j x h)) := by
  simp [svcKeyGen, hv]

@[simp] theorem sound_svcKeyUnwrap (s : State) (j : Job) (x : Hart) (h : Nat) (hv : Sound (invView s)) : Sound (invView (svcKeyUnwrap s j x h)) := by
  unfold svcKeyUnwrap
  dsimp only
  repeat' split
  all_goals simp [hv]

@[simp] theorem sound_svcKeyWrap (s : State) (j : Job) (x : Hart) (h : Nat) (hv : Sound (invView s)) : Sound (invView (svcKeyWrap s j x h)) := by
  simp [svcKeyWrap, hv]

@[simp] theorem sound_svcKeyDerive (s : State) (j : Job) (x : Hart) (h : Nat) (hv : Sound (invView s)) : Sound (invView (svcKeyDerive s j x h)) := by
  simp [svcKeyDerive, hv]

@[simp] theorem sound_svcCmac (s : State) (j : Job) (x : Hart) (h : Nat) (hv : Sound (invView s)) : Sound (invView (svcCmac s j x h)) := by
  simp [svcCmac, hv]

@[simp] theorem sound_svcKeyFree (s : State) (j : Job) (x : Hart) (h : Nat) (hv : Sound (invView s)) : Sound (invView (svcKeyFree s j x h)) := by
  simp [svcKeyFree, hv]

@[simp] theorem sound_svcRandom (s : State) (j : Job) (x : Hart) (h : Nat) (hv : Sound (invView s)) : Sound (invView (svcRandom s j x h)) := by
  simp [svcRandom, hv]

end Sys2Proof.Proofs
end

section
/-! The invariant: the tag in the field. -/

namespace Sys2Proof.Proofs

open Sys2Proof Sys2Proof.Machine Sys2Proof.Safety

@[simp] theorem invView_tagNote (s : State) (src cnt : Nat) (data : List Nat) : invView (tagNote s src cnt data) = invView s := by simp [tagNote]
@[simp] theorem invView_ownHandle (s : State) (good : Bool) : invView (ownHandle s good) = invView s := by simp [ownHandle]
@[simp] theorem invView_drawHandle (s : State) (good : Bool) : invView (drawHandle s good) = invView s := by simp [drawHandle]
@[simp] theorem invView_lateHandle (s : State) : invView (lateHandle s) = invView s := by simp [lateHandle]

@[simp] theorem invView_tagCut (s : State) (done : Bool) : invView (tagCut s done) = invView s := by
  unfold tagCut
  split <;> simp

@[simp] theorem invView_tagDrop (s : State) : invView (tagDrop s) = invView s := by simp [tagDrop]
@[simp] theorem invView_tagOff (s : State) (done : Bool) : invView (tagOff s done) = invView s := by simp [tagOff]
@[simp] theorem invView_fieldRise (s : State) (strong good : Bool) : invView (fieldRise s strong good) = invView s := by simp [fieldRise]
@[simp] theorem invView_tagAnswer (s : State) (l : List Byte) : invView (tagAnswer s l) = invView s := by simp [tagAnswer]
@[simp] theorem invView_tagError (s : State) (good : Bool) : invView (tagError s good) = invView s := by simp [tagError]
@[simp] theorem invView_tagReady (s : State) : invView (tagReady s) = invView s := by simp [tagReady]
@[simp] theorem invView_tagReply (s : State) (status : Nat) (l : List Byte) : invView (tagReply s status l) = invView s := by simp [tagReply]
@[simp] theorem invView_tagWrong (s : State) (status : Nat) : invView (tagWrong s status) = invView s := by simp [tagWrong]

@[simp] theorem invView_tagCmd (s : State) {body : State → State} (hb : invView (body s) = invView s) : invView (tagCmd s body) = invView s := by
  simp [tagCmd, hb]

@[simp] theorem invView_readerWrite (s : State) (kind : Nat) (a : TagAsk) : invView (readerWrite s kind a) = invView s := by simp [readerWrite]

@[simp] theorem invView_tagEnd (s : State) (w : TagWrite) (good : Bool) : invView (tagEnd s w good) = invView s := by
  unfold tagEnd
  dsimp only
  repeat' split
  all_goals simp

@[simp] theorem invView_tagCopyDone (s : State) (w : TagWrite) : invView (tagCopyDone s w) = invView s := by
  unfold tagCopyDone
  split <;> simp

@[simp] theorem invView_pageWritten (s : State) (good : Bool) : invView (pageWritten s good) = invView s := by
  unfold pageWritten
  split <;> simp

end Sys2Proof.Proofs
end

section
/-! The invariant: metering. -/

namespace Sys2Proof.Proofs

open Sys2Proof Sys2Proof.Machine Sys2Proof.Safety

@[simp] theorem invView_setMt (s : State) (x : MtSt) : invView (setMt s x) = invView s := by simp [setMt]

@[simp] theorem sound_deliverOne (s : State) (k : Nat) (hv : Sound (invView s)) : Sound (invView (deliverOne s k)) := by
  unfold deliverOne
  dsimp only
  split <;> simp [hv]

@[simp] theorem sound_deliver (s : State) (hv : Sound (invView s)) : Sound (invView (deliver s)) := by
  have hd := sound_foldl (fun t k => sound_deliverOne t k) (s.mt.left.take (512 - ringHeld s)) s hv
  simp [deliver, hv, hd]

@[simp] theorem invView_boundaryStart (s : State) (b : Boundary) : invView (boundaryStart s b) = invView s := by simp [boundaryStart]
@[simp] theorem invView_timerBoundary (s : State) : invView (timerBoundary s) = invView s := by simp [timerBoundary]
@[simp] theorem invView_boundaryDue (s : State) : invView (boundaryDue s) = invView s := by simp [boundaryDue]

end Sys2Proof.Proofs
end

section
/-! The invariant: the port blocks. -/

namespace Sys2Proof.Proofs

open Sys2Proof Sys2Proof.Machine Sys2Proof.Safety

@[simp] theorem invView_slotDefaults (s : State) (p m : Nat) : invView (slotDefaults s p m) = invView s := by simp [slotDefaults]
@[simp] theorem invView_modeWrite (s : State) (b m : Nat) : invView (modeWrite s b m) = invView s := by simp [modeWrite]
@[simp] theorem invView_slotSet (s : State) (p : Nat) (on : Bool) : invView (slotSet s p on) = invView s := by simp [slotSet]
@[simp] theorem invView_slotEnWrite (s : State) (b mask : Nat) : invView (slotEnWrite s b mask) = invView s := by simp [slotEnWrite]
@[simp] theorem invView_pcfgWrite (s : State) (p : Nat) (v : W32) : invView (pcfgWrite s p v) = invView s := by simp [pcfgWrite]
@[simp] theorem invView_laneEvents (s : State) (l : List (Nat × Nat)) (what : Nat) : invView (laneEvents s l what) = invView s := by simp [laneEvents]
@[simp] theorem invView_afterAn (s : State) (p : Nat) (sd : Side) : invView (afterAn s p sd) = invView s := by simp [afterAn]
@[simp] theorem invView_signalMove (s : State) (p : Nat) (sd : Side) : invView (signalMove s p sd) = invView s := by simp [signalMove]
@[simp] theorem invView_signalDetect (s : State) (p : Nat) (sd : Side) : invView (signalDetect s p sd) = invView s := by simp [signalDetect]

@[simp] theorem invView_lockLoss (s : State) (p : Nat) (sd : Side) (lane : Nat) (signal : Bool) : invView (lockLoss s p sd lane signal) = invView s := by
  unfold lockLoss
  split <;> simp

@[simp] theorem invView_anDone (s : State) (p : Nat) (ability : Bool) : invView (anDone s p ability) = invView s := by simp [anDone]

@[simp] theorem invView_putTrained (s : State) (l : List (Nat × Nat)) (w : List W32) (pre : Bool) : invView (putTrained s l w pre) = invView s := by
  induction l generalizing s w with
  | nil => rfl
  | cons q r ih => simp [putTrained, ih]

@[simp] theorem invView_trainingDone (s : State) (p : Nat) (sd : Side) (txeq : List W32) (pre : Bool) : invView (trainingDone s p sd txeq pre) = invView s := by
  simp [trainingDone]

@[simp] theorem invView_trainingFail (s : State) (p : Nat) (sd : Side) (lane : Nat) : invView (trainingFail s p sd lane) = invView s := by
  unfold trainingFail
  split <;> simp

@[simp] theorem invView_alignLock (s : State) (p : Nat) (sd : Side) : invView (alignLock s p sd) = invView s := by simp [alignLock]
@[simp] theorem invView_fecUncorr (s : State) (p : Nat) (sd : Side) : invView (fecUncorr s p sd) = invView s := by simp [fecUncorr]

@[simp] theorem invView_windowEnd (s : State) (p : Nat) (sd : Side) : invView (windowEnd s p sd) = invView s := by
  unfold windowEnd
  dsimp only
  split <;> simp

@[simp] theorem invView_poolDrop (s : State) (p : Nat) (d : Dir) : invView (poolDrop s p d) = invView s := by simp [poolDrop]
@[simp] theorem invView_admitted (s : State) (p : Nat) (d : Dir) : invView (admitted s p d) = invView s := by simp [admitted]

@[simp] theorem invView_frameArrive (s : State) (p : Nat) (sd : Side) (pcp : Option Nat) : invView (frameArrive s p sd pcp) = invView s := by
  simp [frameArrive]

@[simp] theorem invView_puntDrop (s : State) (p stg : Nat) : invView (puntDrop s p stg) = invView s := by simp [puntDrop]
@[simp] theorem invView_setPunt (s : State) (stg : Nat) (l : List PuntFrame) : invView (setPunt s stg l) = invView s := by simp [setPunt]

@[simp] theorem invView_puntFrame (s : State) (p : Nat) (sd : Side) (stg seq : Nat) (octets : List Byte) (dom : Nat) (cookie : W32) :
    invView (puntFrame s p sd stg seq octets dom cookie) = invView s := by
  simp [puntFrame]

@[simp] theorem invView_frameEnds (s : State) (p : Nat) (sd : Side) (octets : List Byte) (fcsOk : Bool) : invView (frameEnds s p sd octets fcsOk) = invView s := by
  unfold frameEnds
  dsimp only
  repeat' split
  all_goals simp

@[simp] theorem invView_txComplete (s : State) (p : Nat) (d : Dir) : invView (txComplete s p d) = invView s := by
  unfold txComplete
  dsimp only
  repeat' split
  all_goals simp

@[simp] theorem invView_pauseRefresh (s : State) (p : Nat) (sd : Side) : invView (pauseRefresh s p sd) = invView s := by simp [pauseRefresh]

@[simp] theorem invView_pauseReceive (s : State) (p : Nat) (sd : Side) (classes : Option Nat) (quanta : Nat) :
    invView (pauseReceive s p sd classes quanta) = invView s := by
  simp [pauseReceive]

@[simp] theorem invView_macControl (s : State) (p : Nat) (sd : Side) : invView (macControl s p sd) = invView s := by simp [macControl]
@[simp] theorem invView_gateSide (s : State) (b : Nat) (sd : Side) : invView (gateSide s b sd) = invView s := by simp [gateSide]
@[simp] theorem invView_blockIdle (s : State) (b : Nat) : invView (blockIdle s b) = invView s := by simp [blockIdle]
@[simp] theorem invView_tillerWake (s : State) (b : Nat) : invView (tillerWake s b) = invView s := by simp [tillerWake]
@[simp] theorem invView_sidePowered (s : State) (b : Nat) (sd : Side) : invView (sidePowered s b sd) = invView s := by simp [sidePowered]
@[simp] theorem invView_laneCleared (s : State) (b n : Nat) (sym : Bool) : invView (laneCleared s b n sym) = invView s := by simp [laneCleared]

end Sys2Proof.Proofs
end

section
/-! The invariant: steering. -/

namespace Sys2Proof.Proofs

open Sys2Proof Sys2Proof.Machine Sys2Proof.Safety

@[simp] theorem invView_dropUnresolved (s : State) (p : Nat) (sd : Side) (seq : Nat) : invView (dropUnresolved s p sd seq) = invView s := by
  simp [dropUnresolved]

@[simp] theorem invView_placeResolved (s : State) (p : Nat) (sd : Side) (seq stg : Nat) (octets : List Byte) (q : Parse) (r : Result) :
    invView (placeResolved s p sd seq stg octets q r) = invView s := by
  simp [placeResolved]

@[simp] theorem invView_headResolve (s : State) (p : Nat) (sd : Side) (octets : List Byte) (tableErr : Option Bool) :
    invView (headResolve s p sd octets tableErr) = invView s := by
  unfold headResolve
  dsimp only
  repeat' split
  all_goals simp

@[simp] theorem invView_setQueue (s : State) (k : Nat) (l : List (Nat × Nat)) : invView (setQueue s k l) = invView s := by simp [setQueue]

@[simp] theorem invView_grantFetch (s : State) (p : Nat) (d : Dir) (ecc : Ecc) : invView (grantFetch s p d ecc) = invView s := by
  unfold grantFetch
  split <;> simp

@[simp] theorem invView_setTiller (s : State) (t : Nat) (x : Tiller) : invView (setTiller s t x) = invView s := by simp [setTiller]

@[simp] theorem invView_fetchReturn (s : State) (p : Nat) (d : Dir) : invView (fetchReturn s p d) = invView s := by
  unfold fetchReturn
  split <;> simp

@[simp] theorem invView_txanSet (s : State) (sc an : Nat) : invView (txanSet s sc an) = invView s := by simp [txanSet]
@[simp] theorem invView_emStore (s : State) (b i : Nat) (l : List W32) : invView (emStore s b i l) = invView s := by simp [emStore]
@[simp] theorem invView_ruleStore (s : State) (b i : Nat) (l : List W32) : invView (ruleStore s b i l) = invView s := by simp [ruleStore]
@[simp] theorem invView_emRead (s : State) (b : Nat) : invView (emRead s b) = invView s := by simp [emRead]
@[simp] theorem invView_emWrite (s : State) (b : Nat) : invView (emWrite s b) = invView s := by simp [emWrite]
@[simp] theorem invView_ruleWrite (s : State) (b : Nat) : invView (ruleWrite s b) = invView s := by simp [ruleWrite]
@[simp] theorem invView_injectDrop (s : State) (b : Nat) : invView (injectDrop s b) = invView s := by simp [injectDrop]
@[simp] theorem invView_injectGo (s : State) (b slot len : Nat) : invView (injectGo s b slot len) = invView s := by simp [injectGo]

end Sys2Proof.Proofs
end

section
/-! The invariant: tillers. -/

namespace Sys2Proof.Proofs

open Sys2Proof Sys2Proof.Machine Sys2Proof.Safety

@[simp] theorem invView_tillerTo (s : State) (t : Nat) (st : TState) (pos : Nat) : invView (tillerTo s t st pos) = invView s := by simp [tillerTo]
@[simp] theorem invView_tillerReady (s : State) (t : Nat) : invView (tillerReady s t) = invView s := by simp [tillerReady]

@[simp] theorem sound_tillerRetired (s : State) (t vec : Nat) (hv : Sound (invView s)) : Sound (invView (tillerRetired s t vec)) := by
  simp [tillerRetired, hv]

@[simp] theorem invView_tillerQuarantine (s : State) (t : Nat) : invView (tillerQuarantine s t) = invView s := by simp [tillerQuarantine]
@[simp] theorem invView_strike (s : State) (t : Nat) : invView (strike s t) = invView s := by simp [strike]
@[simp] theorem invView_putSwap (s : State) (w : Swap) : invView (putSwap s w) = invView s := by simp [putSwap]
@[simp] theorem invView_dropSwap (s : State) (pos : Nat) : invView (dropSwap s pos) = invView s := by simp [dropSwap]
@[simp] theorem invView_addSwap (s : State) (w : Swap) : invView (addSwap s w) = invView s := by simp [addSwap]

@[simp] theorem sound_forceSwap (s : State) (pos blame : Nat) (hv : Sound (invView s)) : Sound (invView (forceSwap s pos blame)) := by
  unfold forceSwap
  split <;> simp [hv]

@[simp] theorem sound_fillEmpty (s : State) (hv : Sound (invView s)) : Sound (invView (fillEmpty s)) := by
  refine sound_foldl (fun t pos ht => ?_) _ _ hv
  split <;> simp [ht]

@[simp] theorem invView_planSwap (s : State) (pos reserve : Nat) (retire rotation : Bool) : invView (planSwap s pos reserve retire rotation) = invView s := by
  simp [planSwap]

@[simp] theorem sound_mismatchCount (s : State) (t : Nat) (hv : Sound (invView s)) : Sound (invView (mismatchCount s t)) := by
  simp [mismatchCount, hv]

@[simp] theorem invView_noteMm (s : State) (t slot blk seq : Nat) (tag ingress patrol : Bool) :
    invView (noteMm s t slot blk seq tag ingress patrol) = invView s := by
  simp [noteMm]

@[simp] theorem invView_markTwin (s : State) (t : Nat) : invView (markTwin s t) = invView s := by simp [markTwin]
@[simp] theorem invView_verdicts (s : State) (d : Dir) (l : List (Nat × Nat)) : invView (verdicts s d l) = invView s := by simp [verdicts]

@[simp] theorem sound_twinMismatch (s : State) (t : Nat) (tag : Bool) (hv : Sound (invView s)) : Sound (invView (twinMismatch s t tag)) := by
  unfold twinMismatch
  dsimp only
  repeat' split
  all_goals simp [hv]

@[simp] theorem invView_tillerTakes (s : State) (t : Nat) : invView (tillerTakes s t) = invView s := by
  unfold tillerTakes
  dsimp only
  repeat' split
  all_goals simp

@[simp] theorem sound_drainDone (s : State) (t : Nat) (hv : Sound (invView s)) : Sound (invView (drainDone s t)) := by simp [drainDone, hv]

@[simp] theorem sound_blockRelease (s : State) (t : Nat) (hv : Sound (invView s)) : Sound (invView (blockRelease s t)) := by
  unfold blockRelease
  dsimp only
  repeat' split
  all_goals simp [hv]

@[simp] theorem invView_requestStep (s : State) (k : Nat) : invView (requestStep s k) = invView s := by
  unfold requestStep
  split <;> simp

@[simp] theorem sound_needCheck (s : State) (t : Nat) (hv : Sound (invView s)) : Sound (invView (needCheck s t)) := by
  unfold needCheck
  dsimp only
  repeat' split
  all_goals simp [hv]

@[simp] theorem sound_needRises (s : State) (t need : Nat) (hv : Sound (invView s)) : Sound (invView (needRises s t need)) := by simp [needRises, hv]

@[simp] theorem sound_reserveActive (s : State) (w : Swap) (hv : Sound (invView s)) : Sound (invView (reserveActive s w)) := by
  simp [reserveActive, hv]

@[simp] theorem sound_linkCheck (s : State) (pos : Nat) (good : Bool) (hv : Sound (invView s)) : Sound (invView (linkCheck s pos good)) := by
  unfold linkCheck
  split <;> simp [hv]

@[simp] theorem sound_swapBoundary (s : State) (pos : Nat) (hv : Sound (invView s)) : Sound (invView (swapBoundary s pos)) := by
  unfold swapBoundary
  dsimp only
  repeat' split
  all_goals simp [hv]

@[simp] theorem invView_beginStartTest (s : State) : invView (beginStartTest s) = invView s := by simp [beginStartTest]
@[simp] theorem sound_endStartTest (s : State) (hv : Sound (invView s)) : Sound (invView (endStartTest s)) := by simp [endStartTest, hv]

@[simp] theorem sound_katEnd (s : State) (t : Nat) (failed : Option Nat) (mismatch : Bool) (hv : Sound (invView s)) :
    Sound (invView (katEnd s t failed mismatch)) := by
  unfold katEnd
  dsimp only
  split
  · exact hv
  · split
    · exact sound_endStartTest _ (by simp [hv])
    · split
      · exact sound_endStartTest _ (by simp [hv])
      · split
        · simp [hv]
        · exact sound_fillEmpty _ (by simp [hv])

@[simp] theorem sound_patrol (s : State) (t : Nat) (bad : Option Bool) (hv : Sound (invView s)) : Sound (invView (patrol s t bad)) := by
  unfold patrol
  dsimp only
  repeat' split
  all_goals simp [hv]

@[simp] theorem invView_rotate (s : State) : invView (rotate s) = invView s := by
  unfold rotate
  dsimp only
  repeat' split
  all_goals simp

@[simp] theorem sound_tillerCommand (s : State) (t : Nat) (retire : Bool) (hv : Sound (invView s)) : Sound (invView (tillerCommand s t retire)) := by
  unfold tillerCommand
  dsimp only
  repeat' split
  all_goals simp [hv]

@[simp] theorem invView_orderSwap (s : State) (pos t : Nat) : invView (orderSwap s pos t) = invView s := by
  unfold orderSwap
  dsimp only
  split <;> simp

end Sys2Proof.Proofs
end

section
/-! The invariant: verdicts. -/

namespace Sys2Proof.Proofs

open Sys2Proof Sys2Proof.Machine Sys2Proof.Safety

@[simp] theorem invView_headStomped (s : State) (p : Nat) (d : Dir) (f : Frame) : invView (headStomped s p d f) = invView s := by simp [headStomped]
@[simp] theorem invView_headPass (s : State) (p : Nat) (d : Dir) (f : Frame) : invView (headPass s p d f) = invView s := by simp [headPass]
@[simp] theorem invView_headRx (s : State) (p : Nat) (f : Frame) : invView (headRx s p f) = invView s := by simp [headRx]
@[simp] theorem invView_headUntagged (s : State) (p : Nat) (f : Frame) : invView (headUntagged s p f) = invView s := by simp [headUntagged]

@[simp] theorem invView_headDecide (s : State) (p : Nat) (d : Dir) : invView (headDecide s p d) = invView s := by
  unfold headDecide
  repeat' split
  all_goals simp

@[simp] theorem invView_startSend (s : State) (p : Nat) (d : Dir) : invView (startSend s p d) = invView s := by
  unfold startSend
  split <;> simp

end Sys2Proof.Proofs
end

section
/-! The invariant: the granary. -/

namespace Sys2Proof.Proofs

open Sys2Proof Sys2Proof.Machine Sys2Proof.Safety

@[simp] theorem invView_grRefuse (s : State) (n : Nat) : invView (grRefuse s n) = invView s := by simp [grRefuse]
@[simp] theorem invView_xferWrite (s : State) (n : Nat) (v : W32) : invView (xferWrite s n v) = invView s := by simp [xferWrite]
@[simp] theorem invView_grInstall (s : State) (n : Nat) : invView (grInstall s n) = invView s := by simp [grInstall]
@[simp] theorem invView_grDrain (s : State) (n : Nat) : invView (grDrain s n) = invView s := by simp [grDrain]
@[simp] theorem invView_grPurge (s : State) (n : Nat) : invView (grPurge s n) = invView s := by simp [grPurge]
@[simp] theorem invView_purgeEmpty (s : State) (n code : Nat) : invView (purgeEmpty s n code) = invView s := by simp [purgeEmpty]

@[simp] theorem sound_purgeDone (s : State) (good : Bool) (hv : Sound (invView s)) : Sound (invView (purgeDone s good)) := by
  unfold purgeDone
  split <;> simp [hv]

@[simp] theorem invView_grRead (s : State) (n : Nat) : invView (grRead s n) = invView s := by simp [grRead]
@[simp] theorem invView_grZeroise (s : State) : invView (grZeroise s) = invView s := by simp [grZeroise]

@[simp] theorem sound_zeroiseDone (s : State) (good : Bool) (hv : Sound (invView s)) : Sound (invView (zeroiseDone s good)) := by
  unfold zeroiseDone
  dsimp only
  repeat' split
  all_goals simp [hv]

@[simp] theorem invView_grClearZeroed (s : State) : invView (grClearZeroed s) = invView s := by simp [grClearZeroed]

@[simp] theorem invView_fencePass (s : State) : invView (fencePass s) = invView s := by
  unfold fencePass
  split <;> simp

@[simp] theorem invView_sweepStart (s : State) : invView (sweepStart s) = invView s := by
  unfold sweepStart
  dsimp only
  repeat' split
  all_goals simp

@[simp] theorem invView_remaskSlot (s : State) (n : Nat) : invView (remaskSlot s n) = invView s := by simp [remaskSlot]

@[simp] theorem invView_slotVisit (s : State) (ecc : Ecc) : invView (slotVisit s ecc) = invView s := by
  unfold slotVisit
  dsimp only
  repeat' split
  all_goals simp

@[simp] theorem invView_seedReceive (s : State) (k : BitVec 256) : invView (seedReceive s k) = invView s := by simp [seedReceive]
@[simp] theorem invView_sessionStart (s : State) (nonce : BitVec 256) : invView (sessionStart s nonce) = invView s := by simp [sessionStart]

@[simp] theorem sound_sessionUp (s : State) (nonce : BitVec 256) (hv : Sound (invView s)) : Sound (invView (sessionUp s nonce)) := by
  simp [sessionUp, hv]

@[simp] theorem invView_sessionEnd (s : State) : invView (sessionEnd s) = invView s := by simp [sessionEnd]
@[simp] theorem invView_flitReceive (s : State) (down tagOk : Bool) : invView (flitReceive s down tagOk) = invView s := by simp [flitReceive]

@[simp] theorem invView_laneFail (s : State) (i : Nat) : invView (laneFail s i) = invView s := by
  unfold laneFail
  dsimp only
  repeat' split
  all_goals simp

end Sys2Proof.Proofs
end

section
/-! The invariant: services of associations. -/

namespace Sys2Proof.Proofs

open Sys2Proof Sys2Proof.Machine Sys2Proof.Safety

@[simp] theorem invView_setSc (s : State) (dir n : Nat) (x : ScRec) : invView (setSc s dir n x) = invView s := by simp [setSc]
@[simp] theorem invView_scWrite (s : State) (dir n : Nat) (l : List Byte) (x : ScRec) : invView (scWrite s dir n l x) = invView s := by simp [scWrite]

@[simp] theorem sound_svcScAlloc (s : State) (j : Job) (x : Hart) (h : Nat) (hv : Sound (invView s)) : Sound (invView (svcScAlloc s j x h)) := by
  unfold svcScAlloc
  dsimp only
  repeat' split
  all_goals simp [hv]

@[simp] theorem invView_scRelease (s : State) (dir n : Nat) : invView (scRelease s dir n) = invView s := by simp [scRelease]

@[simp] theorem sound_svcScFree (s : State) (j : Job) (x : Hart) (h : Nat) (hv : Sound (invView s)) : Sound (invView (svcScFree s j x h)) := by
  simp [svcScFree, hv]

@[simp] theorem sound_svcScModify (s : State) (j : Job) (x : Hart) (h : Nat) (hv : Sound (invView s)) : Sound (invView (svcScModify s j x h)) := by
  simp [svcScModify, hv]

@[simp] theorem invView_xferWords (s : State) (l : List W32) : invView (xferWords s l) = invView s := by simp [xferWords]
@[simp] theorem invView_granWait (s : State) (h : Nat) (j : Job) (slot : Nat) : invView (granWait s h j slot) = invView s := by simp [granWait]

@[simp] theorem invView_saIssue (s : State) (h : Nat) (j : Job) (v : Nat) (l mask : List Byte) : invView (saIssue s h j v l mask) = invView s := by
  simp [saIssue]

@[simp] theorem sound_svcSaInstall (s : State) (j : Job) (x : Hart) (h : Nat) (hv : Sound (invView s)) : Sound (invView (svcSaInstall s j x h)) := by
  simp [svcSaInstall, hv]

@[simp] theorem invView_keepCopy (s : State) (n : Nat) : invView (keepCopy s n) = invView s := by simp [keepCopy]
@[simp] theorem invView_dropCopy (s : State) (n : Nat) : invView (dropCopy s n) = invView s := by simp [dropCopy]

@[simp] theorem sound_svcSaErase (s : State) (j : Job) (x : Hart) (h : Nat) (hv : Sound (invView s)) : Sound (invView (svcSaErase s j x h)) := by
  simp [svcSaErase, hv]

@[simp] theorem sound_svcSaSwitch (s : State) (j : Job) (x : Hart) (h : Nat) (hv : Sound (invView s)) : Sound (invView (svcSaSwitch s j x h)) := by
  simp [svcSaSwitch, hv]

@[simp] theorem sound_svcSaRead (s : State) (j : Job) (x : Hart) (h : Nat) (hv : Sound (invView s)) : Sound (invView (svcSaRead s j x h)) := by
  simp [svcSaRead, hv]

@[simp] theorem sound_svcSaExport (s : State) (j : Job) (x : Hart) (h : Nat) (hv : Sound (invView s)) : Sound (invView (svcSaExport s j x h)) := by
  simp [svcSaExport, hv]

@[simp] theorem sound_granDone (s : State) (h : Nat) (j : Job) (slot : Nat) (hv : Sound (invView s)) : Sound (invView (granDone s h j slot)) := by
  simp [granDone, hv]

@[simp] theorem sound_svcCntRead (s : State) (j : Job) (x : Hart) (h : Nat) (hv : Sound (invView s)) : Sound (invView (svcCntRead s j x h)) := by
  simp [svcCntRead, hv]

@[simp] theorem sound_svcDomCntRead (s : State) (j : Job) (x : Hart) (h : Nat) (hv : Sound (invView s)) : Sound (invView (svcDomCntRead s j x h)) := by
  simp [svcDomCntRead, hv]

end Sys2Proof.Proofs
end

section
/-! The invariant: services of steering. -/

namespace Sys2Proof.Proofs

open Sys2Proof Sys2Proof.Machine Sys2Proof.Safety

theorem invView_emInsert {s : State} {b : Nat} {l : List W32} {p : State × Nat} (h : emInsert s b l = some p) : invView p.1 = invView s := by
  unfold emInsert at h
  split at h
  · simp [← Option.some.inj h]
  · split at h
    · simp [← Option.some.inj h]
    · simp at h

@[simp] theorem sound_svcEmAdd (s : State) (j : Job) (x : Hart) (h : Nat) (hv : Sound (invView s)) : Sound (invView (svcEmAdd s j x h)) := by
  simp only [svcEmAdd]
  split_ifs
  case neg =>
    refine sound_needCulm _ _ _ ?_ hv
    split
    next p hp => simp [invView_emInsert hp, hv]
    · simp [hv]
  all_goals simp [hv]

@[simp] theorem sound_svcEmDel (s : State) (j : Job) (x : Hart) (h : Nat) (hv : Sound (invView s)) : Sound (invView (svcEmDel s j x h)) := by
  simp [svcEmDel, hv]

@[simp] theorem sound_svcSteerQuery (s : State) (j : Job) (x : Hart) (h : Nat) (hv : Sound (invView s)) : Sound (invView (svcSteerQuery s j x h)) := by
  unfold svcSteerQuery
  dsimp only
  repeat' split
  all_goals simp [hv]

@[simp] theorem sound_svcRuleAdd (s : State) (j : Job) (x : Hart) (h : Nat) (hv : Sound (invView s)) : Sound (invView (svcRuleAdd s j x h)) := by
  unfold svcRuleAdd
  dsimp only
  repeat' split
  all_goals simp [hv]

@[simp] theorem sound_svcRuleDel (s : State) (j : Job) (x : Hart) (h : Nat) (hv : Sound (invView s)) : Sound (invView (svcRuleDel s j x h)) := by
  simp [svcRuleDel, hv]

@[simp] theorem sound_svcSteerGrant (s : State) (j : Job) (x : Hart) (h : Nat) (hv : Sound (invView s)) : Sound (invView (svcSteerGrant s j x h)) := by
  unfold svcSteerGrant
  dsimp only
  repeat' split
  all_goals simp [hv]

@[simp] theorem sound_svcFrameSend (s : State) (j : Job) (x : Hart) (h : Nat) (hv : Sound (invView s)) : Sound (invView (svcFrameSend s j x h)) := by
  simp [svcFrameSend, hv]

@[simp] theorem invView_setPunts (s : State) (d : Nat) (l : List PuntFrame) : invView (setPunts s d l) = invView s := by simp [setPunts]

@[simp] theorem sound_svcFrameRecv (s : State) (j : Job) (x : Hart) (h : Nat) (hv : Sound (invView s)) : Sound (invView (svcFrameRecv s j x h)) := by
  unfold svcFrameRecv
  split <;> simp [hv]

@[simp] theorem invView_puntQueue (s : State) (b : Nat) (f : PuntFrame) : invView (puntQueue s b f) = invView s := by
  unfold puntQueue
  dsimp only
  repeat' split
  all_goals simp

@[simp] theorem invView_puntPop (s : State) (b : Nat) : invView (puntPop s b) = invView s := by
  unfold puntPop
  split <;> simp

end Sys2Proof.Proofs
end

section
/-! The invariant: services of grants. -/

namespace Sys2Proof.Proofs

open Sys2Proof Sys2Proof.Machine Sys2Proof.Safety

@[simp] theorem sound_withdrawDomain (s : State) (f d : Nat) (hv : Sound (invView s)) : Sound (invView (withdrawDomain s f d).1) := by
  have he : ∀ (l : List Job) (t : State), Sound (invView t) → Sound (invView (l.foldl (fun t j => endJob t j 11 0 []) t)) :=
    sound_foldl fun t j => sound_endJob t j 11 0 []
  simp [withdrawDomain, he _ _ hv]

@[simp] theorem sound_withdrawDomains (s : State) (f : Nat) (ds : List Nat) (hv : Sound (invView s)) : Sound (invView (withdrawDomains s f ds)) := by
  unfold withdrawDomains
  rw [invView_withdrawn]
  refine List.foldlRecOn ds _ (motive := fun p : State × Nat => Sound (invView p.1)) hv fun p hp d _ => ?_
  exact sound_withdrawDomain p.1 f d hp

@[simp] theorem sound_applyGrant (s : State) (f : Nat) (l : List Byte) (hv : Sound (invView s)) : Sound (invView (applyGrant s f l)) := by
  simp [applyGrant, hv]

@[simp] theorem sound_svcFnGrant (s : State) (j : Job) (x : Hart) (h : Nat) (hv : Sound (invView s)) : Sound (invView (svcFnGrant s j x h)) := by
  simp [svcFnGrant, hv]

@[simp] theorem sound_svcFnQuery (s : State) (j : Job) (x : Hart) (h : Nat) (hv : Sound (invView s)) : Sound (invView (svcFnQuery s j x h)) := by
  simp [svcFnQuery, hv]

@[simp] theorem invView_quotaPut (s : State) (d : Nat) (q : Quota) : invView (quotaPut s d q) = invView s := by simp [quotaPut]
@[simp] theorem invView_reclaimRelease (s : State) (dir n : Nat) : invView (reclaimRelease s dir n) = invView s := by simp [reclaimRelease]

@[simp] theorem invView_reclaim (k : Nat) (s : State) (d : Nat) : invView (reclaim k s d).1 = invView s := by
  induction k generalizing s with
  | zero => rfl
  | succ k ih =>
    unfold reclaim
    repeat' split
    all_goals simp [ih]

@[simp] theorem invView_quotaApply (s : State) (j : Job) (d : Nat) (q : Quota) : invView (quotaApply s j d q) = invView s := by simp [quotaApply]

@[simp] theorem sound_quotaReclaim (s : State) (j : Job) (h d off : Nat) (hv : Sound (invView s)) : Sound (invView (quotaReclaim s j h d off)) := by
  simp [quotaReclaim, hv]

@[simp] theorem sound_svcDomQuota (s : State) (j : Job) (x : Hart) (h : Nat) (hv : Sound (invView s)) : Sound (invView (svcDomQuota s j x h)) := by
  simp [svcDomQuota, hv]

@[simp] theorem invView_logStart (s : State) (i : Nat) (l : List Byte) : invView (logStart s i l) = invView s := by simp [logStart]
@[simp] theorem invView_logRetire (s : State) (i : Nat) : invView (logRetire s i).1 = invView s := by simp [logRetire]
@[simp] theorem invView_logHarvest (s : State) (i : Nat) : invView (logHarvest s i).1 = invView s := by simp [logHarvest]
@[simp] theorem invView_logStop (s : State) (i : Nat) : invView (logStop s i).1 = invView s := by simp [logStop]

@[simp] theorem sound_svcFnLog (op : Nat) (s : State) (j : Job) (x : Hart) (h : Nat) (hv : Sound (invView s)) : Sound (invView (svcFnLog op s j x h)) := by
  unfold svcFnLog
  dsimp only
  repeat' split
  all_goals simp [hv]

end Sys2Proof.Proofs
end

section
/-! The invariant: harvests and minutes. -/

namespace Sys2Proof.Proofs

open Sys2Proof Sys2Proof.Machine Sys2Proof.Safety

@[simp] theorem invView_storeEvict (k : Nat) (s : State) (x : Minute) : invView (storeEvict k s x) = invView s := by
  induction k generalizing s with
  | zero => rfl
  | succ k ih =>
    unfold storeEvict
    dsimp only
    split
    · rfl
    · split <;> simp [ih]

@[simp] theorem invView_mtRefuse (s : State) : invView (mtRefuse s) = invView s := by simp [mtRefuse]
@[simp] theorem invView_closeMinute (s : State) (b : Boundary) (m : Nat) : invView (closeMinute s b m) = invView s := by simp [closeMinute]

@[simp] theorem sound_swapBanks (s : State) (hv : Sound (invView s)) : Sound (invView (swapBanks s)) := by
  unfold swapBanks
  dsimp only
  repeat' split
  all_goals simp [hv]

@[simp] theorem sound_harvestStart (s : State) (hv : Sound (invView s)) : Sound (invView (harvestStart s)) := by simp [harvestStart, hv]

@[simp] theorem invView_sheafBuild (s : State) : invView (sheafBuild s) = invView s := by
  unfold sheafBuild
  split <;> simp

@[simp] theorem invView_harvestEnd (s : State) : invView (harvestEnd s) = invView s := by simp [harvestEnd]
@[simp] theorem invView_clearStart (s : State) : invView (clearStart s) = invView s := by simp [clearStart]
@[simp] theorem invView_clearEnd (s : State) : invView (clearEnd s) = invView s := by simp [clearEnd]

@[simp] theorem sound_headWrite (s : State) (v : Nat) (hv : Sound (invView s)) : Sound (invView (headWrite s v)) := by
  unfold headWrite
  dsimp only
  repeat' split
  all_goals simp [hv]

@[simp] theorem invView_recordRead (s : State) : invView (recordRead s) = invView s := by simp [recordRead]
@[simp] theorem invView_fallback (s : State) : invView (fallback s) = invView s := by simp [fallback]

@[simp] theorem sound_svcMinuteTick (s : State) (j : Job) (x : Hart) (h : Nat) (hv : Sound (invView s)) : Sound (invView (svcMinuteTick s j x h)) := by
  simp [svcMinuteTick, hv]

@[simp] theorem invView_sheafDelivery (s : State) (x : Minute) : invView (sheafDelivery s x) = invView s := by simp [sheafDelivery]

@[simp] theorem invView_stookSigned (s : State) (status : Nat) : invView (stookSigned s status) = invView s := by
  unfold stookSigned
  split <;> simp

@[simp] theorem sound_svcSheafGet (s : State) (j : Job) (x : Hart) (h : Nat) (hv : Sound (invView s)) : Sound (invView (svcSheafGet s j x h)) := by
  unfold svcSheafGet
  dsimp only
  repeat' split
  all_goals simp [hv]

end Sys2Proof.Proofs
end

section
/-! The invariant: the journal. -/

namespace Sys2Proof.Proofs

open Sys2Proof Sys2Proof.Machine Sys2Proof.Safety

@[simp] theorem invView_stewardErase (s : State) (x : Nat) : invView (stewardErase s x) = invView s := by simp [stewardErase]
@[simp] theorem invView_stewardProgram (s : State) (a : Nat) (ws : List W32) : invView (stewardProgram s a ws) = invView s := by simp [stewardProgram]
@[simp] theorem invView_jEntry (s : State) (kind op addr pages ref : Nat) : invView (jEntry s kind op addr pages ref) = invView s := by simp [jEntry]

@[simp] theorem invView_journaled (s : State) (op addr pages : Nat) {g : State → State} (hg : ∀ t, invView (g t) = invView t) :
    invView (journaled s op addr pages g) = invView s := by
  simp [journaled, hg]

@[simp] theorem invView_jErase (s : State) (x : Nat) : invView (jErase s x) = invView s := by simp [jErase]
@[simp] theorem invView_jProgram (s : State) (a : Nat) (l : List Byte) : invView (jProgram s a l) = invView s := by simp [jProgram]
@[simp] theorem invView_jPrograms (s : State) (a : Nat) (l : List Byte) : invView (jPrograms s a l) = invView s := by simp [jPrograms]
@[simp] theorem invView_jStore (s : State) (x n : Nat) (l : List Byte) : invView (jStore s x n l) = invView s := by simp [jStore]
@[simp] theorem invView_jSettle (s : State) : invView (jSettle s) = invView s := by simp [jSettle]
@[simp] theorem invView_rewriteSector (s : State) (x : Nat) : invView (rewriteSector s x) = invView s := by simp [rewriteSector]

@[simp] theorem sound_refreshSector (s : State) (x : Nat) (hv : Sound (invView s)) : Sound (invView (refreshSector s x)) := by
  simp [refreshSector, hv]

end Sys2Proof.Proofs
end

section
/-! The invariant: the recorder. -/

namespace Sys2Proof.Proofs

open Sys2Proof Sys2Proof.Machine Sys2Proof.Safety

@[simp] theorem invView_setEv (s : State) (x : EvSt) : invView (setEv s x) = invView s := by simp [setEv]
@[simp] theorem invView_overwriteQuarter (s : State) (k : Nat) : invView (overwriteQuarter s k) = invView s := by simp [overwriteQuarter]

@[simp] theorem sound_addRecord (s : State) (k src code rep : Nat) (data : List Nat) (hv : Sound (invView s)) :
    Sound (invView (addRecord s k src code rep data)) := by
  simp [addRecord, hv]

@[simp] theorem sound_putRaising (s : State) (k : Nat) (r : Raising) (hv : Sound (invView s)) : Sound (invView (putRaising s k r)) := by
  unfold putRaising
  split
  · dsimp only
    split
    · simp [hv]
    · exact sound_addRecord _ _ _ _ _ _ (by simp [hv])
  · simp [hv]

@[simp] theorem sound_gapRecord (s : State) (k : Nat) (hv : Sound (invView s)) : Sound (invView (gapRecord s k)) := by simp [gapRecord, hv]

@[simp] theorem invView_refill (n : Nat) (s : State) : invView (refill s n) = invView s := by
  induction n generalizing s with
  | zero => rfl
  | succ n ih =>
    unfold refill
    split <;> simp [ih]

@[simp] theorem sound_recorderAccept (s : State) (hv : Sound (invView s)) : Sound (invView (recorderAccept s)) := by
  unfold recorderAccept
  dsimp only
  repeat' split
  all_goals simp [hv]

@[simp] theorem invView_mirrorQuarter (s : State) (q : Nat × Nat) : invView (mirrorQuarter s q) = invView s := by simp [mirrorQuarter]
@[simp] theorem invView_dropQuarter (s : State) (q : Nat × Nat) : invView (dropQuarter s q) = invView s := by simp [dropQuarter]
@[simp] theorem invView_quarterStep (s : State) (q : Nat × Nat) : invView (quarterStep s q) = invView s := by simp [quarterStep]
@[simp] theorem invView_crcErrors (s : State) : invView (crcErrors s) = invView s := by simp [crcErrors]

end Sys2Proof.Proofs
end

section
/-! The invariant: monitors and the tamper log. -/

namespace Sys2Proof.Proofs

open Sys2Proof Sys2Proof.Machine Sys2Proof.Safety

@[simp] theorem sound_monitorTrip (s : State) (ms : Nat) (hv : Sound (invView s)) : Sound (invView (monitorTrip s ms)) := by simp [monitorTrip, hv]

@[simp] theorem invView_logAppend (s : State) : invView (logAppend s) = invView s := by
  unfold logAppend
  dsimp only
  repeat' split
  all_goals simp

@[simp] theorem invView_mirrorLog (s : State) : invView (mirrorLog s) = invView s := by simp [mirrorLog]

@[simp] theorem sound_svcAlarmStatus (s : State) (j : Job) (x : Hart) (h : Nat) (hv : Sound (invView s)) : Sound (invView (svcAlarmStatus s j x h)) := by
  simp [svcAlarmStatus, hv]

theorem sound_clearApply {s : State} {target : Nat} (ht : target < 5) (hv : Sound (invView s)) : Sound (invView (clearApply s target)) := by
  have hc : Sound (s.sram, target, false, s.pending, s.now) := ⟨hv.1, ht.le, fun h => absurd h ht.ne⟩
  have hl : invView (levelCleared s target) = (s.sram, target, false, s.pending, s.now) := by
    unfold levelCleared
    simp only [invView_raise, invView_logPut]
    rfl
  have hu : invView (unsealed (levelCleared s target) target) = (s.sram, target, false, s.pending, s.now) := by
    rw [← hl]
    unfold unsealed
    simp
  rw [clearApply_eq]
  dsimp only
  split <;> simpa [hu] using hc

@[simp] theorem sound_svcAlarmClear (s : State) (j : Job) (x : Hart) (h : Nat) (hv : Sound (invView s)) : Sound (invView (svcAlarmClear s j x h)) := by
  unfold svcAlarmClear
  dsimp only
  split
  · simp [hv]
  · split
    · simp [hv]
    next hg =>
      have ht : leNat (octetsAt (scratchRead s j (svcArg x 2) 32) 20 1) < 5 := by
        simp only [clearGood, Bool.or_eq_true, Bool.not_eq_true', not_or, Bool.not_eq_false, Bool.and_eq_true, decide_eq_true_eq] at hg
        omega
      have hb := sound_svcRet _ h 0 [] (sound_clearApply ht hv)
      split_ifs <;> simp [hv, hb]

@[simp] theorem sound_svcFailPolicy (s : State) (j : Job) (x : Hart) (h : Nat) (hv : Sound (invView s)) : Sound (invView (svcFailPolicy s j x h)) := by
  simp [svcFailPolicy, hv]

@[simp] theorem sound_svcMonitorCfg (s : State) (x : Hart) (h : Nat) (hv : Sound (invView s)) : Sound (invView (svcMonitorCfg s x h)) := by
  simp [svcMonitorCfg, hv]

@[simp] theorem sound_svcEvRead (s : State) (j : Job) (x : Hart) (h : Nat) (hv : Sound (invView s)) : Sound (invView (svcEvRead s j x h)) := by
  simp [svcEvRead, hv]

@[simp] theorem sound_svcEvSteer (s : State) (j : Job) (x : Hart) (h : Nat) (hv : Sound (invView s)) : Sound (invView (svcEvSteer s j x h)) := by
  simp [svcEvSteer, hv]

end Sys2Proof.Proofs
end

section
/-! The invariant: steps of a start. -/

namespace Sys2Proof.Proofs

open Sys2Proof Sys2Proof.Machine Sys2Proof.Safety

@[simp] theorem invView_setPw (s : State) (x : PwSt) : invView (setPw s x) = invView s := by simp [setPw]
@[simp] theorem invView_setLc (s : State) (x : LcSt) : invView (setLc s x) = invView s := by simp [setLc]

@[simp] theorem invView_cutBurn (s : State) : invView (cutBurn s) = invView s := by
  unfold cutBurn
  dsimp only
  repeat' split
  all_goals simp

@[simp] theorem sound_coldState (s : State) (m : Mode) (hv : Sound (invView s)) : Sound (invView (coldState s m)) := ⟨rfl, hv.2⟩

@[simp] theorem sound_backupRestore (s : State) (hv : Sound (invView s)) : Sound (invView (backupRestore s)) := by
  unfold backupRestore
  generalize (copiesRead s).map (fun e => e.2) = recs
  have hl : Sound ((if recs.isEmpty then freed s else s).sram, logLevel recs, decide (logLevel recs = 5), (if recs.isEmpty then freed s else s).pending, s.now) :=
    ⟨by split <;> exact hv.1, logLevel_le recs, fun h => by simpa using h⟩
  refine sound_monitorEvent _ _ _ ?_
  rw [invView_raise, invView_raise, invView_logPut]
  exact hl

@[simp] theorem invView_epsPowered (s : State) : invView (epsPowered s) = invView s := by simp [epsPowered]

@[simp] theorem invView_flashSettle (s : State) (powerUp : Bool) : invView (flashSettle s powerUp) = invView s := by
  unfold flashSettle
  dsimp only
  repeat' split
  all_goals simp

@[simp] theorem sound_newStart (s : State) (cause : Nat) (hv : Sound (invView s)) : Sound (invView (newStart s cause)) := by
  unfold newStart
  dsimp only
  repeat' split
  all_goals simp [hv]

@[simp] theorem sound_enterDormant (s : State) (hv : Sound (invView s)) : Sound (invView (enterDormant s)) := by simp [enterDormant, hv]
@[simp] theorem invView_flushMirrors (s : State) : invView (flushMirrors s) = invView s := by simp [flushMirrors]

@[simp] theorem sound_dormantFrom5 (s : State) (flush : Bool) (hv : Sound (invView s)) : Sound (invView (dormantFrom5 s flush)) := by
  simp [dormantFrom5, hv]

end Sys2Proof.Proofs
end

section
/-! The invariant: images. -/

namespace Sys2Proof.Proofs

open Sys2Proof Sys2Proof.Machine Sys2Proof.Safety

@[simp] theorem invView_putMarker (s : State) (b kind : Nat) : invView (putMarker s b kind) = invView s := by simp [putMarker]
@[simp] theorem invView_enableRegion (s : State) (b : Nat) : invView (enableRegion s b) = invView s := by simp [enableRegion]
@[simp] theorem invView_writeHelper (s : State) (g gseq n : Nat) : invView (writeHelper s g gseq n) = invView s := by simp [writeHelper]
@[simp] theorem invView_useLine (s : State) (mem unit : Nat) : invView (useLine s mem unit) = invView s := by simp [useLine]
@[simp] theorem invView_useSram (s : State) (bank : Nat) : invView (useSram s bank) = invView s := by simp [useSram]

end Sys2Proof.Proofs
end

section
/-! The invariant: colours, remaps and DMA. -/

namespace Sys2Proof.Proofs

open Sys2Proof Sys2Proof.Machine Sys2Proof.Safety

@[simp] theorem sound_rcCommand (s : State) (op : Nat) (hv : Sound (invView s)) : Sound (invView (rcCommand s op)) := by
  unfold rcCommand
  split <;> simp [hv]

@[simp] theorem invView_rcComplete (s : State) : invView (rcComplete s) = invView s := by simp [rcComplete]
@[simp] theorem invView_setDma (s : State) (c : Nat) (x : DmaSt) : invView (setDma s c x) = invView s := by simp [setDma]
@[simp] theorem invView_setDmState (s : State) (c v : Nat) : invView (setDmState s c v) = invView s := by simp [setDmState]
@[simp] theorem invView_dmEvent (s : State) (c : Nat) : invView (dmEvent s c) = invView s := by simp [dmEvent]
@[simp] theorem invView_dmRefuse (s : State) (c : Nat) : invView (dmRefuse s c) = invView s := by simp [dmRefuse]

@[simp] theorem invView_dmRequest (c n : Nat) (s : State) : invView (dmRequest c n s) = invView s := by
  induction n generalizing s with
  | zero => rfl
  | succ n ih =>
    unfold dmRequest
    dsimp only
    split <;> simp [ih]

@[simp] theorem invView_dmDrop (s : State) (c : Nat) (keep : Bool) : invView (dmDrop s c keep) = invView s := by simp [dmDrop]
@[simp] theorem invView_dmAbort (s : State) (c cause : Nat) : invView (dmAbort s c cause) = invView s := by simp [dmAbort]

@[simp] theorem invView_dmFault (s : State) (c cause side addr : Nat) (keep : Bool) : invView (dmFault s c cause side addr keep) = invView s := by
  simp [dmFault]

@[simp] theorem invView_dmHead (s : State) (c : Nat) : invView (dmHead s c) = invView s := by
  unfold dmHead
  split <;> simp

@[simp] theorem invView_dmaGo (s : State) (c : Nat) : invView (dmaGo s c) = invView s := by simp [dmaGo]

@[simp] theorem invView_dmaPause (s : State) (c : Nat) : invView (dmaPause s c) = invView s := by
  unfold dmaPause
  split <;> simp

@[simp] theorem invView_dmContinue (s : State) (c : Nat) : invView (dmContinue s c) = invView s := by
  unfold dmContinue
  dsimp only
  split <;> simp

@[simp] theorem invView_dmaResume (s : State) (c : Nat) : invView (dmaResume s c) = invView s := by
  unfold dmaResume
  split <;> simp

@[simp] theorem invView_dmaAbort (s : State) (c : Nat) : invView (dmaAbort s c) = invView s := by
  unfold dmaAbort
  split <;> simp

@[simp] theorem invView_dmCheck (s : State) (c : Nat) (k : Kind) (a : Nat) (res : MemRes) : invView (dmCheck s c k a res).1 = invView s := by
  unfold dmCheck
  dsimp only
  split <;> simp

@[simp] theorem invView_beatSource (s : State) (c n : Nat) (res : MemRes) : invView (beatSource s c n res).1 = invView s := by
  unfold beatSource
  dsimp only
  repeat' split
  all_goals simp

@[simp] theorem sound_beatSram (s : State) (a : Nat) (l : List Byte) (res : MemRes) (hv : Sound (invView s)) : Sound (invView (beatSram s a l res).1) := by
  unfold beatSram
  dsimp only
  repeat' split
  all_goals simp only [invView_fields, invView_sramLane, sound_memWrite, hv]

@[simp] theorem invView_beatDone (s : State) (c n : Nat) : invView (beatDone s c n) = invView s := by
  unfold beatDone
  dsimp only
  split <;> simp

@[simp] theorem sound_dmaBeat (s : State) (c : Nat) (src dst : MemRes) (hv : Sound (invView s)) : Sound (invView (dmaBeat s c src dst)) := by
  unfold dmaBeat
  split
  · exact hv
  · split
    · simp [hv]
    · split
      · simp [hv]
      · split
        · exact hv
        · have hb (n : Nat) : Sound (invView (beatSource s c n src).1) := by simp [hv]
          dsimp only
          split
          next hq => simpa [hq] using hb (beatSize s c)
          next t l _ hq =>
            replace hb : Sound (invView t) := by simpa [hq] using hb (beatSize s c)
            split
            · simp [hb]
            · split
              · simp [hb]
              · rw [apply_ite invView, sound_ite]
                split <;> simp [hb]

@[simp] theorem invView_dmaCompletion (s : State) (c k : Nat) (stale : Bool) (data : List Byte) (err : Option HostErr) :
    invView (dmaCompletion s c k stale data err) = invView s := by
  unfold dmaCompletion
  dsimp only
  repeat' split
  all_goals simp

end Sys2Proof.Proofs
end

section
/-! The invariant: power. -/

namespace Sys2Proof.Proofs

open Sys2Proof Sys2Proof.Machine Sys2Proof.Safety

@[simp] theorem sound_powerGoodRise (s : State) (ownOk : Bool) (hv : Sound (invView s)) : Sound (invView (powerGoodRise s ownOk)) := by
  simp [powerGoodRise, hv]

@[simp] theorem sound_powerGoodFall (s : State) (pageDone : Bool) (hv : Sound (invView s)) : Sound (invView (powerGoodFall s pageDone)) := by
  simp [powerGoodFall, hv]

@[simp] theorem sound_withdrawQueued (s : State) (hv : Sound (invView s)) : Sound (invView (withdrawQueued s)) := by
  unfold withdrawQueued
  refine sound_foldl (fun u j => sound_endJob u j 11 0 []) _ _ ?_
  simpa using hv

@[simp] theorem invView_portsOff (s : State) : invView (portsOff s) = invView s := by simp [portsOff]
@[simp] theorem invView_dormantGo (s : State) : invView (dormantGo s) = invView s := by simp [dormantGo]

@[simp] theorem sound_dormantRequest (s : State) (who : Nat) (hv : Sound (invView s)) : Sound (invView (dormantRequest s who)) := by
  simp [dormantRequest, hv]

@[simp] theorem sound_dormantEntry (s : State) (hv : Sound (invView s)) : Sound (invView (dormantEntry s)) := by simp [dormantEntry, hv]
@[simp] theorem invView_setPll (s : State) (d : Nat) (x : Pll) : invView (setPll s d x) = invView s := by simp [setPll]

@[simp] theorem sound_bothLost (s : State) (d : Nat) (harts : Bool) (hv : Sound (invView s)) : Sound (invView (bothLost s d harts)) := by
  simp [bothLost, hv]

@[simp] theorem sound_startPllLocked (s : State) (a b : Nat) (hv : Sound (invView s)) : Sound (invView (startPllLocked s a b)) := by
  unfold startPllLocked
  dsimp only
  repeat' split
  all_goals simp [hv]

@[simp] theorem sound_pllLoss (s : State) (d : Nat) (hv : Sound (invView s)) : Sound (invView (pllLoss s d)) := by simp [pllLoss, hv]
@[simp] theorem invView_pllRetry (s : State) (d : Nat) (locked : Bool) : invView (pllRetry s d locked) = invView s := by simp [pllRetry]

@[simp] theorem invView_newerSeq (s : State) : invView (newerSeq s).1 = invView s := by
  unfold newerSeq
  dsimp only
  split <;> simp

@[simp] theorem invView_pufChecked (s : State) (worst : Nat) (same : Bool) : invView (pufChecked s worst same) = invView s := by simp [pufChecked]
@[simp] theorem invView_smbus (s : State) (l : List Byte) : invView (smbus s l) = invView s := by simp [smbus]
@[simp] theorem invView_smbusCause (s : State) : invView (smbusCause s) = invView s := by simp [smbusCause]
@[simp] theorem invView_smbusTemp (s : State) (l c : Nat) : invView (smbusTemp s l c) = invView s := by simp [smbusTemp]
@[simp] theorem invView_vbatChange (s : State) (v : Bool) : invView (vbatChange s v) = invView s := by simp [vbatChange]

end Sys2Proof.Proofs
end

section
/-! The invariant: the life cycle. -/

namespace Sys2Proof.Proofs

open Sys2Proof Sys2Proof.Machine Sys2Proof.Safety

@[simp] theorem invView_setRec (s : State) (r : Nat) (x : OtpRec) : invView (setRec s r x) = invView s := by simp [setRec]
@[simp] theorem invView_romErase (s : State) (l : List Nat) : invView (romErase s l) = invView s := by simp [romErase]
@[simp] theorem invView_wipeO (s : State) (keepKey : Bool) : invView (wipeO s keepKey) = invView s := by simp [wipeO]
@[simp] theorem invView_wipeH (s : State) : invView (wipeH s) = invView s := by simp [wipeH]
@[simp] theorem invView_wipeAll (s : State) : invView (wipeAll s) = invView s := by simp [wipeAll]

@[simp] theorem invView_lcWipe (s : State) (target : Nat) : invView (lcWipe s target) = invView s := by
  unfold lcWipe
  split <;> simp

@[simp] theorem sound_lcEnter (s : State) (hv : Sound (invView s)) : Sound (invView (lcEnter s)) := by simp [lcEnter, hv]

@[simp] theorem sound_lcDecode (s : State) (dis : Nat) (hv : Sound (invView s)) : Sound (invView (lcDecode s dis)) := by
  have hd : Sound (invView (if dis = 0 then ddTake s else ddTake (disagree (ddTake s) 5))) := by
    split <;> simp [hv]
  unfold lcDecode
  dsimp only
  split
  · exact hv
  · split
    · exact sound_enterDormant _ (sound_disagree _ _ hd)
    · split
      · simpa using hd
      · exact sound_lcEnter _ (by simpa using hd)
      · simpa using hd

theorem sound_levelZero {s : State} (hs : tblWf (fun _ => 0) s.sram = true) (hl : s.level = 0) : Sound (invView s) :=
  ⟨hs, hl.trans_le (Nat.zero_le 5), fun h => absurd (hl.symm.trans h) (by decide)⟩

/-- The state of `lcCommitted` before its level falls. -/
def unlatched (s : State) : State :=
  let t := { s with regs := s.regs.filter (fun e => !backupReg e.1), tm := { s.tm with latch := false, mons := [] },
                    rng := { s.rng with oscEn := 0xFF, hist := [] } }
  if t.rng.st = .disabled then rngStart t else t

theorem invView_unlatched (s : State) : invView (unlatched s) = (s.sram, s.level, false, s.pending, s.now) := by
  unfold unlatched
  dsimp only
  split
  · rw [invView_rngStart]
    simp only [invView]
  · simp only [invView]

@[simp] theorem sound_lcCommitted (s : State) (t : Nat) (hv : Sound (invView s)) : Sound (invView (lcCommitted s t)) := by
  unfold lcCommitted
  refine sound_lcEnter _ ?_
  dsimp only
  rw [invView_tagCount, invView_setLc, apply_ite invView, invView_setLc, ite_self, invView_raise, invView_lifeRecord]
  have hu : tblWf (fun _ => 0) (unlatched s).sram = true := (congrArg (·.1) (invView_unlatched s) : (unlatched s).sram = s.sram) ▸ hv.1
  change Sound (invView (if (unlatched s).level = 0 then unlatched s else _))
  split
  · next h => exact sound_levelZero hu h
  · rw [invView_logPut]
    exact sound_levelZero hu rfl

@[simp] theorem invView_lcRefuse (s : State) : invView (lcRefuse s) = invView s := by simp [lcRefuse]
@[simp] theorem invView_startBurn (s : State) (k r : Nat) (v : W32) : invView (startBurn s k r v) = invView s := by simp [startBurn]
@[simp] theorem invView_lcIntent (s : State) (t : Nat) : invView (lcIntent s t) = invView s := by simp [lcIntent]

@[simp] theorem invView_lcCommit (s : State) : invView (lcCommit s) = invView s := by
  unfold lcCommit
  split <;> simp

@[simp] theorem invView_lcVoid (s : State) : invView (Machine.lcVoid s) = invView s := by
  unfold Machine.lcVoid
  split
  · split <;> simp
  · simp

@[simp] theorem invView_lcPair (s : State) : invView (lcPair s) = invView s := by simp [lcPair]
@[simp] theorem invView_lcRefused (s : State) : invView (lcRefused s) = invView s := by simp [lcRefused]

@[simp] theorem sound_lcReturn (s : State) (h status : Nat) (res : List Nat) (hv : Sound (invView s)) : Sound (invView (lcReturn s h status res)) := by
  simp [lcReturn, hv]

@[simp] theorem invView_dbgUnlocked (s : State) (scope token : Nat) : invView (dbgUnlocked s scope token) = invView s := by simp [dbgUnlocked]

@[simp] theorem sound_burnEnds (s : State) (k r : Nat) (good : Bool) (hv : Sound (invView s)) : Sound (invView (burnEnds s k r good)) := by
  unfold burnEnds
  dsimp only
  repeat' split
  all_goals simp [hv]

@[simp] theorem sound_burnComplete (s : State) (got : W32) (hv : Sound (invView s)) : Sound (invView (burnComplete s got)) := by
  unfold burnComplete
  dsimp only
  repeat' split
  all_goals simp [hv]

@[simp] theorem sound_svcLc {s : State} (op : Nat) (x : Hart) (h : Nat) (j : Job) {body : State → List Byte → State}
    (hb : ∀ l, Sound (invView (body s l))) (hv : Sound (invView s)) : Sound (invView (svcLc op s x h j body)) := by
  unfold svcLc
  dsimp only
  split_ifs <;> simp [hv, hb]

@[simp] theorem sound_lcOutput (s : State) (j : Job) (x : Hart) (h : Nat) (l : List Byte) (hv : Sound (invView s)) : Sound (invView (lcOutput s j x h l)) := by
  simp [lcOutput, hv]

@[simp] theorem sound_lcTransition (s : State) (l : List Byte) (h : Nat) (hv : Sound (invView s)) : Sound (invView (lcTransition s l h)) := by
  simp [lcTransition, hv]

@[simp] theorem invView_jtag (s : State) (l : List Byte) : invView (jtag s l) = invView s := by simp [jtag]
@[simp] theorem invView_setIr (s : State) (v : Nat) : invView (setIr s v) = invView s := by simp [setIr]
@[simp] theorem invView_dbgChal (s : State) : invView (dbgChal s) = invView s := by simp [dbgChal]
@[simp] theorem invView_dbgRefuse (s : State) : invView (dbgRefuse s) = invView s := by simp [dbgRefuse]

@[simp] theorem sound_dbgResp (s : State) (l : List Byte) (agree : Bool) (hv : Sound (invView s)) : Sound (invView (dbgResp s l agree)) := by
  unfold dbgResp
  dsimp only
  repeat' split
  all_goals simp [hv]

@[simp] theorem invView_dbgCmd (s : State) (c : DbgCmd) : invView (dbgCmd s c) = invView s := by
  unfold dbgCmd
  split <;> simp

end Sys2Proof.Proofs
end

section
/-! The invariant: services of jobs. -/

namespace Sys2Proof.Proofs

open Sys2Proof Sys2Proof.Machine Sys2Proof.Safety

@[simp] theorem invView_liFill (s : State) (j : Job) (e : Nat) (l : List Byte) : invView (liFill s j e l) = invView s := by simp [liFill]
@[simp] theorem invView_liPlace (s : State) (j : Job) (e : Nat) (l : List Byte) : invView (liPlace s j e l) = invView s := by simp [liPlace]

theorem sound_liSubmitWith {s : State} (j : Job) (x : Hart) (h : Nat) (four : Bool) {k : State → Nat → State}
    (hk : ∀ t e, Sound (invView t) → Sound (invView (k t e))) (hv : Sound (invView s)) : Sound (invView (liSubmitWith s j x h four k)) := by
  have hk' : ∀ l e, Sound (invView (k (liPlace s j e l) e)) := fun l e => hk _ _ (by simp [hv])
  unfold liSubmitWith
  dsimp only
  split
  · simp [hv]
  · split
    · simp [hv]
    · split
      · simp [hv]
      · split
        · simp [hv]
        · split
          · simp [hv]
          · exact hk' _ _

@[simp] theorem sound_liResult (s : State) (h e : Nat) (hv : Sound (invView s)) : Sound (invView (liResult s h e)) := by simp [liResult, hv]
@[simp] theorem sound_liAwait (s : State) (j : Job) (h e : Nat) (hv : Sound (invView s)) : Sound (invView (liAwait s j h e)) := by simp [liAwait, hv]

@[simp] theorem sound_svcLiRun (s : State) (j : Job) (x : Hart) (h : Nat) (hv : Sound (invView s)) : Sound (invView (svcLiRun s j x h)) := by
  unfold svcLiRun
  split
  · simp [hv]
  · exact sound_liSubmitWith _ _ _ _ (fun t e ht => by simp [ht]) hv

@[simp] theorem sound_svcLiSubmit (s : State) (j : Job) (x : Hart) (h : Nat) (hv : Sound (invView s)) : Sound (invView (svcLiSubmit s j x h)) :=
  sound_liSubmitWith _ _ _ _ (fun t e ht => by split <;> simp [ht]) hv

@[simp] theorem sound_svcLiWait (s : State) (j : Job) (x : Hart) (h : Nat) (hv : Sound (invView s)) : Sound (invView (svcLiWait s j x h)) := by
  unfold svcLiWait
  repeat' split
  all_goals simp [hv]

end Sys2Proof.Proofs
end

section
/-! The invariant: custody. -/

namespace Sys2Proof.Proofs

open Sys2Proof Sys2Proof.Machine Sys2Proof.Safety

@[simp] theorem invView_sdIssue (s : State) (c : SdCmd) : invView (sdIssue s c) = invView s := by
  unfold sdIssue
  split <;> simp

@[simp] theorem invView_sdRaw (s : State) (i r : Nat) (d w : Bool) : invView (sdRaw s i r d w) = invView s := by simp [sdRaw]
@[simp] theorem invView_goInit (s : State) (k : Nat) : invView (goInit s k) = invView s := by simp [goInit]
@[simp] theorem invView_cardInit (s : State) (slow boot : Bool) : invView (cardInit s slow boot) = invView s := by simp [cardInit]
@[simp] theorem sound_bootNone (s : State) (hv : Sound (invView s)) : Sound (invView (bootNone s)) := by simp [bootNone, hv]
@[simp] theorem sound_cardOut (s : State) (card : Nat) (hv : Sound (invView s)) : Sound (invView (cardOut s card)) := by simp [cardOut, hv]
@[simp] theorem sound_cardFail (s : State) (hv : Sound (invView s)) : Sound (invView (cardFail s)) := by simp [cardFail, hv]
@[simp] theorem invView_startMount (s : State) : invView (startMount s) = invView s := by simp [startMount]

@[simp] theorem invView_initDone (s : State) : invView (initDone s) = invView s := by
  unfold initDone
  dsimp only
  split <;> simp

@[simp] theorem invView_speedStep (s : State) : invView (speedStep s) = invView s := by simp [speedStep]
@[simp] theorem invView_negotiateFail (s : State) (k : Nat) : invView (negotiateFail s k) = invView s := by simp [negotiateFail]

@[simp] theorem sound_initGood (s : State) (k : Nat) (r : List W32) (l : List Byte) (hv : Sound (invView s)) : Sound (invView (initGood s k r l)) := by
  unfold initGood
  dsimp only
  repeat' split
  all_goals simp [hv]

@[simp] theorem invView_mountEnd (s : State) (vol status : Nat) : invView (mountEnd s vol status) = invView s := by
  unfold mountEnd
  dsimp only
  split <;> simp

@[simp] theorem invView_startFormat (s : State) (o : CsOp) (b : SuperBlk) : invView (startFormat s o b) = invView s := by simp [startFormat]

@[simp] theorem sound_dirsRead (s : State) (hv : Sound (invView s)) : Sound (invView (dirsRead s)) := by
  unfold dirsRead
  dsimp only
  repeat' split
  all_goals simp [hv]

@[simp] theorem invView_slotsRead (s : State) : invView (slotsRead s) = invView s := by simp [slotsRead]
@[simp] theorem invView_settled (s : State) : invView (settled s) = invView s := by simp [settled]

@[simp] theorem invView_startWrite (s : State) (o : CsOp) (kind flags : Nat) : invView (startWrite s o kind flags) = invView s := by
  unfold startWrite
  dsimp only
  repeat' split
  all_goals simp

theorem invView_restoreKeys (dom : Nat) (ks : List (List Byte)) (p : State × List Nat) :
    invView (ks.foldl (fun p k => ((makeKey p.1 dom 0 k false).1, p.2 ++ [(makeKey p.1 dom 0 k false).2])) p).1 = invView p.1 := by
  induction ks generalizing p with
  | nil => rw [List.foldl_nil]
  | cons k ks ih => rw [List.foldl_cons, ih, invView_makeKey]

@[simp] theorem invView_restoreEnd (s : State) (o : CsOp) (l : List Byte) : invView (restoreEnd s o l) = invView s := by
  unfold restoreEnd
  dsimp only
  split
  · rw [invView_csEnd, invView_setCs]
  · split
    · rw [invView_csEnd, invView_setCs]
    · split
      · rw [invView_csEnd, invView_setCs]
      · rw [invView_csEnd, invView_setCs, invView_bindColour, invView_restoreKeys, invView_setCs]

@[simp] theorem invView_stageSlot (s : State) (l : List Byte) : invView (stageSlot s l) = invView s := by simp [stageSlot]
@[simp] theorem invView_stageEnd (s : State) (o : CsOp) (l : List Byte) : invView (stageEnd s o l) = invView s := by simp [stageEnd]

@[simp] theorem invView_startFetch (s : State) (o : CsOp) : invView (startFetch s o) = invView s := by
  unfold startFetch
  dsimp only
  repeat' split
  all_goals simp

@[simp] theorem sound_bootHeads (s : State) (hv : Sound (invView s)) : Sound (invView (bootHeads s)) := by
  unfold bootHeads
  dsimp only
  split <;> simp [hv]

@[simp] theorem sound_bootFetched (s : State) (hv : Sound (invView s)) : Sound (invView (bootFetched s)) := by
  unfold bootFetched
  split
  · simp [hv]
  · dsimp only
    split
    · simp [hv]
    · generalize List.range 384 = sectors
      rw [invView_stewardProgram, invView_foldl (fun t i => ?_), invView_foldl (fun t i => ?_)]
      · simpa using hv
      · exact invView_stewardErase ..
      · exact invView_stewardProgram ..

@[simp] theorem sound_phaseDone (s : State) (hv : Sound (invView s)) : Sound (invView (phaseDone s)) := by
  unfold phaseDone
  split <;> simp [hv]

@[simp] theorem sound_csRun (n : Nat) (s : State) (hv : Sound (invView s)) : Sound (invView (csRun n s)) := by
  induction n generalizing s with
  | zero => simpa [csRun] using hv
  | succ n ih =>
    unfold csRun
    split
    · exact hv
    · split
      · simpa using hv
      · exact hv
      · exact hv
      · exact ih _ (sound_phaseDone s hv)

@[simp] theorem sound_csGo (s : State) (hv : Sound (invView s)) : Sound (invView (csGo s)) := by simp [csGo, hv]
@[simp] theorem sound_cardRemove (s : State) (hv : Sound (invView s)) : Sound (invView (cardRemove s)) := by simp [cardRemove, hv]
@[simp] theorem sound_cardInsert (s : State) (wp : Bool) (hv : Sound (invView s)) : Sound (invView (cardInsert s wp)) := by simp [cardInsert, hv]

@[simp] theorem sound_sdGood (s : State) (c : SdCmd) (r : List W32) (l : List Byte) (hv : Sound (invView s)) : Sound (invView (sdGood s c r l)) := by
  unfold sdGood
  dsimp only
  split <;> simp [hv]

@[simp] theorem sound_sdBad (s : State) (c : SdCmd) (code : Nat) (hv : Sound (invView s)) : Sound (invView (sdBad s c code)) := by
  unfold sdBad
  dsimp only
  repeat' split
  all_goals simp [hv]

@[simp] theorem sound_sdComplete (s : State) (code done : Nat) (r : List W32) (l : List Byte) (hv : Sound (invView s)) :
    Sound (invView (sdComplete s code done r l)) := by
  unfold sdComplete
  dsimp only
  repeat' split
  all_goals simp [hv]

@[simp] theorem sound_busyTimeout (s : State) (hv : Sound (invView s)) : Sound (invView (busyTimeout s)) := by
  unfold busyTimeout
  dsimp only
  repeat' split
  all_goals simp [hv]

theorem sound_csStart {s : State} (h : Nat) (o : CsOp) {g : State → CsOp → State} (hg : ∀ t p, Sound (invView t) → Sound (invView (g t p)))
    (hv : Sound (invView s)) : Sound (invView (csStart s h o g)) := by
  rw [csStart, apply_ite invView, sound_ite]
  split
  · simp [hv]
  · exact sound_csGo _ (hg _ _ (sound_svcRet _ _ _ _ (by simpa using hv)))

@[simp] theorem sound_svcCsStatus (s : State) (j : Job) (x : Hart) (h : Nat) (hv : Sound (invView s)) : Sound (invView (svcCsStatus s j x h)) := by
  simp [svcCsStatus, hv]

@[simp] theorem invView_mountBegin (s : State) (o : CsOp) : invView (mountBegin s o) = invView s := by simp [mountBegin]

@[simp] theorem sound_svcCsMount (s : State) (j : Job) (x : Hart) (h : Nat) (hv : Sound (invView s)) : Sound (invView (svcCsMount s j x h)) := by
  have hm (t : State) (o : CsOp) (ht : Sound (invView t)) : Sound (invView (csStart t h o mountBegin)) :=
    sound_csStart _ _ (fun u p hu => by simp [hu]) ht
  unfold svcCsMount
  dsimp only
  split
  · simp [hv]
  · split
    · exact sound_needRandom _ _ _ _ (hm _ _ (by simp [hv])) hv
    · exact hm _ _ hv

@[simp] theorem invView_unmountBegin (s : State) (_o : CsOp) : invView (unmountBegin s _o) = invView s := by simp [unmountBegin]

@[simp] theorem sound_svcCsArchive (s : State) (j : Job) (x : Hart) (h : Nat) (hv : Sound (invView s)) : Sound (invView (svcCsArchive s j x h)) := by
  unfold svcCsArchive
  dsimp only
  split
  · simp [hv]
  · split
    · simp [hv]
    · refine sound_needRandom _ _ _ _ (sound_csStart _ _ (fun u p hu => ?_) (by simp [hv])) hv
      split
      · simp [hu]
      · split <;> simp [hu]

@[simp] theorem sound_svcCsRestore (s : State) (j : Job) (x : Hart) (h : Nat) (hv : Sound (invView s)) : Sound (invView (svcCsRestore s j x h)) := by
  unfold svcCsRestore
  extract_lets ko alg klen keys
  split
  · simp [hv]
  · split
    · simp [hv]
    · exact sound_csStart _ _ (fun u p hu => by split <;> simp [hu]) hv

@[simp] theorem sound_svcCsExport (s : State) (j : Job) (x : Hart) (h : Nat) (hv : Sound (invView s)) : Sound (invView (svcCsExport s j x h)) := by
  unfold svcCsExport
  dsimp only
  split
  · simp [hv]
  · exact sound_csStart _ _ (fun u p hu => by split <;> simp [hu]) hv

@[simp] theorem sound_svcCsStage (s : State) (j : Job) (x : Hart) (h : Nat) (hv : Sound (invView s)) : Sound (invView (svcCsStage s j x h)) := by
  unfold svcCsStage
  split
  · simp [hv]
  · exact sound_csStart _ _ (fun u p hu => by simp [hu]) hv

end Sys2Proof.Proofs
end

section
/-! The invariant: services of scripts and updates. -/

namespace Sys2Proof.Proofs

open Sys2Proof Sys2Proof.Machine Sys2Proof.Safety

@[simp] theorem sound_svcResLoad (s : State) (j : Job) (x : Hart) (h : Nat) (hv : Sound (invView s)) : Sound (invView (svcResLoad s j x h)) := by
  simp [svcResLoad, hv]

@[simp] theorem sound_svcResDelete (s : State) (x : Hart) (h : Nat) (hv : Sound (invView s)) : Sound (invView (svcResDelete s x h)) := by
  simp [svcResDelete, hv]

@[simp] theorem invView_setUpd (s : State) (x : UpdSt) : invView (setUpd s x) = invView s := by simp [setUpd]

@[simp] theorem sound_updCall {s : State} (h step : Nat) {body : State → Job → Hart → State} (hb : ∀ j x, Sound (invView (body s j x)))
    (hv : Sound (invView s)) : Sound (invView (updCall s h step body)) := by
  refine sound_svcCall h 0x7F true (fun j x => ?_) hv
  dsimp only
  split
  · simp [hv]
  · split
    · exact hv
    · exact hb j x

@[simp] theorem invView_releaseSlot (s : State) (b : Nat) : invView (releaseSlot s b) = invView s := by simp [releaseSlot]
@[simp] theorem sound_updClear (s : State) (h : Nat) (hv : Sound (invView s)) : Sound (invView (updClear s h)) := by simp [updClear, hv]

@[simp] theorem sound_updWrite (s : State) (j : Job) (x : Hart) (h : Nat) (hv : Sound (invView s)) : Sound (invView (updWrite s j x h)) := by
  simp [updWrite, hv]

@[simp] theorem invView_runningFloor (s : State) : invView (runningFloor s).1 = invView s := by
  unfold runningFloor
  split <;> simp

@[simp] theorem invView_runningMajor (s : State) : invView (runningMajor s).1 = invView s := by
  unfold runningMajor
  split <;> simp

@[simp] theorem sound_updVerify (s : State) (h : Nat) (agree : Bool) (hv : Sound (invView s)) : Sound (invView (updVerify s h agree)) := by
  simp [updVerify, hv]

@[simp] theorem invView_switchOff (s : State) : invView (switchOff s) = invView s := by simp [switchOff]
@[simp] theorem invView_putSandbox (s : State) (h entry : Nat) : invView (putSandbox s h entry) = invView s := by simp [putSandbox]
@[simp] theorem invView_switchOver (s : State) (caller : Nat) : invView (switchOver s caller) = invView s := by simp [switchOver]

@[simp] theorem sound_updSwitch (s : State) (j : Job) (h : Nat) (agree : Bool) (hv : Sound (invView s)) : Sound (invView (updSwitch s j h agree)) := by
  unfold updSwitch
  split <;> simp [hv]

@[simp] theorem sound_updCommit (s : State) (h : Nat) (hv : Sound (invView s)) : Sound (invView (updCommit s h)) := by simp [updCommit, hv]
@[simp] theorem invView_probationArm (s : State) (secs : Nat) : invView (probationArm s secs) = invView s := by simp [probationArm]
@[simp] theorem invView_probationDisarm (s : State) : invView (probationDisarm s) = invView s := by simp [probationDisarm]
@[simp] theorem invView_sramRemap (s : State) (bank row : Nat) : invView (sramRemap s bank row) = invView s := by simp [sramRemap]
@[simp] theorem invView_lineRemap (s : State) (mem unit row : Nat) : invView (lineRemap s mem unit row) = invView s := by simp [lineRemap]
@[simp] theorem sound_remapDone (s : State) (line : Bool) (hv : Sound (invView s)) : Sound (invView (remapDone s line)) := by simp [remapDone, hv]

end Sys2Proof.Proofs
end

section
/-! The invariant: starts. -/

namespace Sys2Proof.Proofs

open Sys2Proof Sys2Proof.Machine Sys2Proof.Safety

@[simp] theorem invView_repairRow (s : State) (e : Nat × Nat × Nat) : invView (repairRow s e) = invView s := by simp [repairRow]

@[simp] theorem invView_wipeComplete (s : State) (fails : List (Nat × Nat × Nat)) : invView (wipeComplete s fails) = invView s := by
  simp [wipeComplete]

@[simp] theorem invView_rootFound (s : State) (g : Nat) (other repeated : Bool) (worst : Nat) : invView (rootFound s g other repeated worst) = invView s := by
  simp [rootFound]

@[simp] theorem invView_pufEnrol (s : State) (worst : Nat) : invView (pufEnrol s worst) = invView s := by simp [pufEnrol]

@[simp] theorem invView_pufRegen (s : State) (gen : Option Nat) (other repeated : Bool) (worst : Nat) :
    invView (pufRegen s gen other repeated worst) = invView s := by
  unfold pufRegen
  dsimp only
  repeat' split
  all_goals simp

@[simp] theorem invView_setMpus (s : State) : invView (setMpus s) = invView s := by simp [setMpus]
@[simp] theorem invView_setLayout (s : State) : invView (setLayout s) = invView s := by simp [setLayout]
@[simp] theorem invView_writeSeeds (s : State) : invView (writeSeeds s) = invView s := by simp [writeSeeds]
@[simp] theorem invView_makeMetKey (s : State) : invView (makeMetKey s) = invView s := by simp [makeMetKey]

@[simp] theorem sound_applyRetirements (s : State) (hv : Sound (invView s)) : Sound (invView (applyRetirements s)) := by
  have hf : Sound (invView (s.line.retireRec.foldl (fun u e => if (tillerOf u e.1).st = .retired then u else tillerCommand u e.1 true) s)) := by
    refine sound_foldl (fun u e hu => ?_) _ _ hv
    split <;> simp [hu]
  unfold applyRetirements
  rw [invView_fields]
  split
  · exact hf
  · exact hv

@[simp] theorem invView_startHarts (s : State) (entry : Nat) : invView (startHarts s entry) = invView s := by simp [startHarts]

@[simp] theorem invView_readerWrites (s : State) : invView (readerWrites s) = invView s := by
  unfold readerWrites
  refine (invView_foldl (fun t k => ?_) _ _).trans ((invView_foldl (fun t k => ?_) _ _).trans ?_)
  · simp
  · simp
  · simp

@[simp] theorem sound_stewardSettles (s : State) (entry : Nat) (hv : Sound (invView s)) : Sound (invView (stewardSettles s entry)) := by
  simp [stewardSettles, hv]

@[simp] theorem invView_enterSteward (s : State) (entry : Nat) : invView (enterSteward s entry) = invView s := by simp [enterSteward]
@[simp] theorem sound_acceptSlot (s : State) (b : Nat) (hv : Sound (invView s)) : Sound (invView (acceptSlot s b)) := by simp [acceptSlot, hv]

@[simp] theorem sound_stewardAccept (s : State) (said : Option Nat) (dis : Nat) (hv : Sound (invView s)) : Sound (invView (stewardAccept s said dis)) := by
  have hn (t : State) (ht : Sound (invView t)) : Sound (invView (if t.cs.cd then csGo (cardInit t false true) else bootNone t)) := by
    split <;> simp [ht]
  unfold stewardAccept
  dsimp only
  split
  · exact hv
  · split
    · simp [hv]
    · split
      · simp [hv]
      · exact hn _ (by simp [hv])
    · exact hn _ (by split <;> simp [hv])
    · exact hn _ (by simpa using hv)

@[simp] theorem invView_openFirst (s : State) : invView (openFirst s) = invView s := by simp [openFirst]
@[simp] theorem sound_serviceEntry (s : State) (hv : Sound (invView s)) : Sound (invView (serviceEntry s)) := by simp [serviceEntry, hv]

@[simp] theorem sound_stewardTick (s : State) (hv : Sound (invView s)) : Sound (invView (stewardTick s)) := by
  unfold stewardTick
  dsimp only
  repeat' split
  all_goals simp [hv]

end Sys2Proof.Proofs
end

section
/-! The invariant: writes of registers. -/

namespace Sys2Proof.Proofs

open Sys2Proof Sys2Proof.Machine Sys2Proof.Safety

@[simp] theorem sound_outState {o : Out} {s : State} (ho : OSound o) (hv : Sound (invView s)) : Sound (invView (outState o s)) := by
  unfold outState
  split
  next t => exact ho t rfl
  · exact hv

@[simp] theorem invView_storeWrite (s : State) (a : Nat) (d : RegDesc) (v : W32) : invView (storeWrite s a d v) = invView s := by simp [storeWrite]
@[simp] theorem invView_regRefuse (s : State) (a : Nat) : invView (regRefuse s a) = invView s := by simp [regRefuse]
@[simp] theorem invView_plainWrite (s : State) (a : Nat) (d : RegDesc) (v : W32) : invView (plainWrite s a d v) = invView s := by simp [plainWrite]
@[simp] theorem invView_ctlWrite (s : State) (b : Nat) (v : W32) : invView (ctlWrite s b v) = invView s := by simp [ctlWrite]
@[simp] theorem invView_pbWrite (s : State) (a : Nat) (d : RegDesc) (v : W32) : invView (pbWrite s a d v) = invView s := by simp [pbWrite]
@[simp] theorem invView_seedWrite (s : State) (b : Nat) (d : RegDesc) (v : W32) : invView (seedWrite s b d v) = invView s := by simp [seedWrite]
@[simp] theorem invView_injCmd (s : State) (b : Nat) (v : W32) : invView (injCmd s b v) = invView s := by simp [injCmd]

@[simp] theorem sound_stWrite (s : State) (a : Nat) (d : RegDesc) (v : W32) (hv : Sound (invView s)) : Sound (invView (stWrite s a d v)) := by
  have hh (n : Fin 16) : OSound (execEmHash n s) := by simp [execEmHash, hv]
  have hr (n : Fin 16) : OSound (execRuleRead n s) := by simp [execRuleRead, hv]
  unfold stWrite
  dsimp only
  repeat' split
  all_goals simp [hv, hh, hr]

@[simp] theorem sound_tlWrite (s : State) (a : Nat) (d : RegDesc) (v : W32) (hv : Sound (invView s)) : Sound (invView (tlWrite s a d v)) := by
  have hs (k : Fin 16) : OSound (execStepSet k s) := by simp [execStepSet, hv]
  unfold tlWrite
  dsimp only
  repeat' split
  all_goals simp [hv, hs]

@[simp] theorem sound_vdWrite (s : State) (a : Nat) (d : RegDesc) (v : W32) (hv : Sound (invView s)) : Sound (invView (vdWrite s a d v)) := by
  have hr : OSound (execSciRead s) := by simp [execSciRead, hv]
  have hw : OSound (execSciWrite s) := by simp [execSciWrite, hv]
  unfold vdWrite
  repeat' split
  all_goals simp [hv, hr, hw]

@[simp] theorem invView_grCommand (s : State) (v : W32) : invView (grCommand s v) = invView s := by
  unfold grCommand
  split <;> simp

@[simp] theorem invView_grWrite (s : State) (a : Nat) (d : RegDesc) (v : W32) : invView (grWrite s a d v) = invView s := by simp [grWrite]
@[simp] theorem invView_cuWrite (s : State) (a : Nat) (d : RegDesc) (v : W32) : invView (cuWrite s a d v) = invView s := by simp [cuWrite]

@[simp] theorem sound_mtWrite (s : State) (a : Nat) (d : RegDesc) (v : W32) (hv : Sound (invView s)) : Sound (invView (mtWrite s a d v)) := by
  unfold mtWrite
  repeat' split
  all_goals simp [hv]

@[simp] theorem sound_lineWrite (s : State) (a : Nat) (d : RegDesc) (v : W32) (hv : Sound (invView s)) : Sound (invView (lineWrite s a d v)) := by
  simp [lineWrite, hv]

@[simp] theorem sound_pwCommand (s : State) (v : W32) (hv : Sound (invView s)) : Sound (invView (pwCommand s v)) := by
  unfold pwCommand
  repeat' split
  all_goals simp [hv]

@[simp] theorem sound_pufCtl (s : State) (a : Nat) (d : RegDesc) (v : W32) (hv : Sound (invView s)) : Sound (invView (pufCtl s a d v)) := by
  have hr (t : State) (ht : Sound (invView t)) : Sound (invView (if bitAt v.toNat 0 then outState (execPufRefresh t) t else t)) := by
    split
    · exact sound_outState (by simp [execPufRefresh, ht]) ht
    · exact ht
  have hc (t : State) (ht : Sound (invView t)) : Sound (invView (if bitAt v.toNat 1 then outState (execPufCheck t) t else t)) := by
    split
    · exact sound_outState (by simp [execPufCheck, ht]) ht
    · exact ht
  rw [pufCtl, apply_ite invView, invView_refuse, sound_ite]
  split
  · exact hc _ (hr _ (by simpa using hv))
  · exact hv

@[simp] theorem invView_updCtl (s : State) (a : Nat) (d : RegDesc) (v : W32) : invView (updCtl s a d v) = invView s := by simp [updCtl]

@[simp] theorem sound_pwWrite (s : State) (a : Nat) (d : RegDesc) (v : W32) (hv : Sound (invView s)) : Sound (invView (pwWrite s a d v)) := by
  simp [pwWrite, hv]

@[simp] theorem invView_lcCommand (s : State) (v : W32) : invView (lcCommand s v) = invView s := by
  unfold lcCommand
  repeat' split
  all_goals simp

@[simp] theorem sound_tmWrite (s : State) (a : Nat) (d : RegDesc) (v : W32) (hv : Sound (invView s)) : Sound (invView (tmWrite s a d v)) := by
  simp [tmWrite, hv]

@[simp] theorem invView_pendClear (s : State) (w : Nat) (v : W32) : invView (pendClear s w v) = invView s := by simp [pendClear]
@[simp] theorem invView_evWrite (s : State) (a : Nat) (d : RegDesc) (v : W32) : invView (evWrite s a d v) = invView s := by simp [evWrite]

@[simp] theorem invView_rgWrite (s : State) (a : Nat) (d : RegDesc) (v : W32) : invView (rgWrite s a d v) = invView s := by
  unfold rgWrite
  repeat' split
  all_goals simp

@[simp] theorem invView_liCommand (s : State) (v : W32) : invView (liCommand s v) = invView s := by
  unfold liCommand
  split <;> simp

@[simp] theorem invView_liWrite (s : State) (a : Nat) (d : RegDesc) (v : W32) : invView (liWrite s a d v) = invView s := by simp [liWrite]
@[simp] theorem invView_xoWrite (s : State) (a : Nat) (d : RegDesc) (v : W32) : invView (xoWrite s a d v) = invView s := by simp [xoWrite]
@[simp] theorem invView_flWrite (s : State) (h a : Nat) (d : RegDesc) (v : W32) : invView (flWrite s h a d v) = invView s := by simp [flWrite]
@[simp] theorem invView_dmCommand (s : State) (c : Nat) (v : W32) : invView (dmCommand s c v) = invView s := by simp [dmCommand]
@[simp] theorem invView_dmWrite (s : State) (a : Nat) (d : RegDesc) (v : W32) : invView (dmWrite s a d v) = invView s := by simp [dmWrite]

@[simp] theorem sound_mpWrite (s : State) (a : Nat) (d : RegDesc) (v : W32) (hv : Sound (invView s)) : Sound (invView (mpWrite s a d v)) := by
  simp [mpWrite, hv]

@[simp] theorem sound_epWrite (s : State) (a : Nat) (d : RegDesc) (v : W32) (hv : Sound (invView s)) : Sound (invView (epWrite s a d v)) := by
  simp [epWrite, hv]

@[simp] theorem invView_logCtl (s : State) (a : Nat) (d : RegDesc) (v : W32) : invView (logCtl s a d v) = invView s := by simp [logCtl]

@[simp] theorem sound_vfWrite (s : State) (a : Nat) (d : RegDesc) (v : W32) (hv : Sound (invView s)) : Sound (invView (vfWrite s a d v)) := by
  have he (f : Fin 512) : OSound (execGenerationEndComplete f s) := by simp [execGenerationEndComplete, hv]
  unfold vfWrite
  dsimp only
  repeat' split
  all_goals simp [hv, he]

@[simp] theorem sound_htCommand (s : State) (w h : Nat) (v : W32) (hv : Sound (invView s)) : Sound (invView (htCommand s w h v)) := by
  unfold htCommand
  split <;> simp [hv]

@[simp] theorem sound_htWrite (s : State) (w a : Nat) (d : RegDesc) (v : W32) (hv : Sound (invView s)) : Sound (invView (htWrite s w a d v)) := by
  simp [htWrite, hv]

@[simp] theorem sound_tgWrite (s : State) (a : Nat) (d : RegDesc) (v : W32) (hv : Sound (invView s)) : Sound (invView (tgWrite s a d v)) := by
  have hw (k : Fin 8) : OSound (execTgWrite k s) := by simp [execTgWrite, hv]
  have hi (c : Fin 4) : OSound (execTgIncrement c s) := by simp [execTgIncrement, hv]
  have hr (k : Fin 8) : OSound (execTgRead k s) := by simp [execTgRead, hv]
  unfold tgWrite
  repeat' split
  all_goals simp [hv, hw, hi, hr]

@[simp] theorem invView_csWrite (s : State) (a : Nat) (d : RegDesc) (v : W32) : invView (csWrite s a d v) = invView s := by simp [csWrite]
@[simp] theorem invView_cuCtl (s : State) (v : W32) : invView (cuCtl s v) = invView s := by simp [cuCtl]

@[simp] theorem sound_ctlDieWrite (s : State) (h a : Nat) (d : RegDesc) (v : W32) (hv : Sound (invView s)) : Sound (invView (ctlDieWrite s h a d v)) := by
  simp [ctlDieWrite, hv]

@[simp] theorem invView_msixWrite (s : State) (f v w : Nat) (x : W32) : invView (msixWrite s f v w x) = invView s := by
  unfold msixWrite
  split <;> simp

@[simp] theorem invView_msixControl (s : State) (f : Nat) (v : W32) : invView (msixControl s f v) = invView s := by simp [msixControl]
@[simp] theorem invView_hfWrite (s : State) (f o : Nat) (d : RegDesc) (v : W32) : invView (hfWrite s f o d v) = invView s := by simp [hfWrite]

@[simp] theorem sound_winWrite (s : State) (f o : Nat) (v : W32) (hv : Sound (invView s)) : Sound (invView (winWrite s f o v)) := by
  unfold winWrite
  dsimp only
  repeat' split
  all_goals simp [hv]

theorem sound_regWrite {s t : State} {h a : Nat} {v : W32} (hw : regWrite s h a v = some t) (hv : Sound (invView s)) : Sound (invView t) := by
  unfold regWrite at hw
  dsimp only at hw
  split at hw
  · cases hw
  · split at hw
    · split at hw
      · obtain rfl := Option.some.inj hw
        split <;> simp [hv]
      · cases hw
    · obtain rfl := Option.some.inj hw
      split <;> simp [hv]

@[simp] theorem sound_regWriteD (s : State) (h a : Nat) (v : W32) (hv : Sound (invView s)) : Sound (invView ((regWrite s h a v).getD s)) := by
  cases hw : regWrite s h a v with
  | none => exact hv
  | some t => exact sound_regWrite hw hv

@[simp] theorem sound_registerWrite (s : State) (h a : Nat) (v : W32) (hv : Sound (invView s)) : Sound (invView (registerWrite s h a v)) := by
  simp [registerWrite, hv]

end Sys2Proof.Proofs
end

section
/-! The invariant: reads of registers. -/

namespace Sys2Proof.Proofs

open Sys2Proof Sys2Proof.Machine Sys2Proof.Safety

@[simp] theorem invView_beforeRead (s : State) (a : Nat) : invView (beforeRead s a) = invView s := by simp [beforeRead]
@[simp] theorem invView_afterRead (s : State) (a : Nat) : invView (afterRead s a) = invView s := by simp [afterRead]
@[simp] theorem invView_setLatch (s : State) (q a : Nat) (v : Option W32) : invView (setLatch s q a v) = invView s := by simp [setLatch]

@[simp] theorem invView_latched (s : State) (q a : Nat) (value : Nat → W32) : invView (latched s q a value).1 = invView s := by
  unfold latched
  repeat' split
  all_goals simp

theorem invView_regRead {s : State} {q a : Nat} {p : State × W32} (h : regRead s q a = some p) : invView p.1 = invView s := by
  unfold regRead at h
  split at h
  · simp at h
  · split at h
    · simp at h
    · simp [← Option.some.inj h]

@[simp] theorem invView_winRead (s : State) (f o : Nat) : invView (winRead s f o) = invView s := by
  unfold winRead
  dsimp only
  repeat' split
  all_goals simp

@[simp] theorem sound_loRead (s : State) (q a : Nat) (hv : Sound (invView s)) : Sound (invView (loRead s q a)) := by
  unfold loRead
  repeat' split
  any_goals simpa using hv
  next p hp => simpa [invView_regRead hp] using hv

end Sys2Proof.Proofs
end

section
/-! The invariant: string instructions. -/

namespace Sys2Proof.Proofs

open Sys2Proof Sys2Proof.Machine Sys2Proof.Safety

@[simp] theorem invView_hartCheck (s : State) (h : Nat) (x : Hart) (k : Kind) (a n : Nat) (res : MemRes) : invView (hartCheck s h x k a n res).1 = invView s := by
  unfold hartCheck
  dsimp only
  split <;> simp

@[simp] theorem invView_hartRead (s : State) (x : Hart) (a n : Nat) (res : MemRes) : invView (hartRead s x a n res).1 = invView s := by
  unfold hartRead
  dsimp only
  repeat' split
  all_goals simp

@[simp] theorem invView_hartLoad (s : State) (h : Nat) (x : Hart) (k : Kind) (a n : Nat) (res : MemRes) : invView (hartLoad s h x k a n res).1 = invView s := by
  unfold hartLoad
  dsimp only
  split <;> simp

@[simp] theorem sound_loadOp (i : Issue) (signed : Bool) (z rd ra : Nat) (imm : BitVec 12) (res : MemRes) (t : State) (x : Hart) (hv : Sound (invView t)) :
    HSound (loadOp i signed z rd ra imm res t x) := by
  unfold loadOp
  dsimp only
  split <;> simp [hv]

@[simp] theorem invView_hartStore (s : State) (h : Nat) (x : Hart) (k : Kind) (a n : Nat) (v : W32) (tag : MemRes) :
    invView (hartStore s h x k a n v tag).1 = invView s := by
  unfold hartStore
  dsimp only
  repeat' split
  all_goals simp

@[simp] theorem sound_storeOp (i : Issue) (z rs ra : Nat) (imm : BitVec 12) (tag : MemRes) (t : State) (x : Hart) (hv : Sound (invView t)) :
    HSound (storeOp i z rs ra imm tag t x) := by
  unfold storeOp
  dsimp only
  split <;> simp [hv]

@[simp] theorem sound_amoOp (i : Issue) (cas : Bool) (rd ra rb : Nat) (res : MemRes) (t : State) (x : Hart) (hv : Sound (invView t)) :
    HSound (amoOp i cas rd ra rb res t x) := by
  unfold amoOp
  dsimp only
  repeat' split
  all_goals simp [hv]

@[simp] theorem sound_elemWrite (s : State) (h : Nat) (x : Hart) (a z v : Nat) (hv : Sound (invView s)) : ESound (elemWrite s h x a z v) := by
  unfold elemWrite
  dsimp only
  split <;> simp [hv]

theorem sound_elemRead {s : State} (h : Nat) (x : Hart) (a z : Nat) (res : MemRes) {f : State → Nat → ERes}
    (hf : ∀ t v, Sound (invView t) → ESound (f t v)) (hv : Sound (invView s)) : ESound (elemRead s h x a z res f) := by
  have hl : Sound (invView (hartLoad s h x .eread a z res).1) := by simpa using hv
  unfold elemRead
  dsimp only
  split
  · exact hf _ _ hl
  · exact hl
  · trivial

@[simp] theorem sound_element (k : Str) (z rd ra : Nat) (s : State) (h : Nat) (x : Hart) (res : MemRes) (hv : Sound (invView s)) :
    ESound (element k z rd ra s h x res) := by
  unfold element
  generalize (gget x rd).toNat = d
  generalize (gget x ra).toNat = a
  dsimp only
  split
  · exact sound_elemRead _ _ _ _ _ (fun t v ht => sound_elemWrite _ _ _ _ _ _ ht) hv
  · exact sound_elemWrite _ _ _ _ _ _ hv
  · exact sound_elemRead _ _ _ _ _ (fun t v ht => sound_elemRead _ _ _ _ _ (fun u w hu => sound_elemWrite _ _ _ _ _ _ hu) ht) hv
  · exact sound_elemRead _ _ _ _ _ (fun t v ht => sound_elemRead _ _ _ _ _ (fun u w hu => by simp [hu]) ht) hv
  · exact sound_elemRead _ _ _ _ _ (fun t v ht => by split <;> simp [ht]) hv

@[simp] theorem sound_strLoop (k : Str) (z pd rd ra rb h : Nat) (res : MemRes) (n : Nat) (s : State) (x : Hart) (hv : Sound (invView s)) :
    HSound (strLoop k z pd rd ra rb h res n s x) := by
  induction n generalizing s x with
  | zero =>
    unfold strLoop
    split <;> exact hv
  | succ n ih =>
    have he (r : MemRes) : ESound (element k z rd ra s h x r) := by simp [hv]
    unfold strLoop
    split
    · exact hv
    · specialize he (if n = 0 then res else .ok)
      split
      next hq => exact ih _ _ (by simpa [hq] using he)
      next hq => simpa [hq] using he
      next hq => simpa [hq] using he
      next => exact hv

@[simp] theorem sound_strOp (k : Str) (i : Issue) (func rd ra rb n : Nat) (res : MemRes) (t : State) (x : Hart) (hv : Sound (invView t)) :
    HSound (strOp k i func rd ra rb n res t x) := by
  unfold strOp
  dsimp only
  split <;> simp [hv]

@[simp] theorem sound_strIssue (s : State) (k : Str) (i : Issue) (rd ra rb : Fin 32) (func : Fin 128) (n : Nat) (res : MemRes)
    (hv : Sound (invView s)) : Sound (invView (strIssue s k i rd ra rb func n res)) :=
  sound_issue _ _ _ _ (fun _ _ ht => sound_strOp _ _ _ _ _ _ _ _ _ _ ht) hv

end Sys2Proof.Proofs
end

section
/-! The invariant: the window of registers. -/

namespace Sys2Proof.Proofs

open Sys2Proof Sys2Proof.Machine Sys2Proof.Safety

@[simp] theorem sound_regLoad (i : Issue) (rd a : Nat) (res : MemRes) (t : State) (x : Hart) (hv : Sound (invView t)) :
    HSound (regLoad i rd a res t x) := by
  have hc : Sound (invView (hartCheck t i.h x .load a 4 res).1) := by simpa using hv
  unfold regLoad
  dsimp only
  repeat' split
  any_goals simp [hv]
  next r hr => simpa [invView_regRead hr] using hc

@[simp] theorem sound_rd32Op (i : Issue) (rd ra : Nat) (imm : BitVec 12) (res : MemRes) (t : State) (x : Hart) (hv : Sound (invView t)) :
    HSound (rd32Op i rd ra imm res t x) := by
  simp [rd32Op, hv]

@[simp] theorem invView_lateStore (s : State) (h : Nat) (e : StoreEnt) : invView (lateStore s h e) = invView s := by simp [lateStore]

@[simp] theorem sound_storeAt (s : State) (h : Nat) (e : StoreEnt) (res : MemRes) (hv : Sound (invView s)) : Sound (invView (storeAt s h e res).1) := by
  unfold storeAt
  split
  · split
    · exact hv
    · split
      next hw => exact sound_regWrite hw hv
      next => exact hv
  · dsimp only
    split <;> simp [hv]

@[simp] theorem sound_storeDrain (s : State) (h : Nat) (res : MemRes) (hv : Sound (invView s)) : Sound (invView (storeDrain s h res)) := by
  unfold storeDrain
  dsimp only
  repeat' split
  all_goals simp [hv]

end Sys2Proof.Proofs
end

section
/-! The invariant: services of ports and tillers. -/

namespace Sys2Proof.Proofs

open Sys2Proof Sys2Proof.Machine Sys2Proof.Safety

@[simp] theorem sound_svcPortStatus (s : State) (j : Job) (x : Hart) (h : Nat) (hv : Sound (invView s)) : Sound (invView (svcPortStatus s j x h)) := by
  simp [svcPortStatus, hv]

@[simp] theorem invView_failFirst (s : State) (b mask : Nat) : invView (failFirst s b mask) = invView s := by simp [failFirst]

@[simp] theorem sound_stewardWrite (s : State) (h : Nat) (e : Nat × W32) (hv : Sound (invView s)) : Sound (invView (stewardWrite s h e)) := by
  simp [stewardWrite, hv]

@[simp] theorem sound_cfgApply (s : State) (h b : Nat) (l : List (Nat × W32)) (hv : Sound (invView s)) : Sound (invView (cfgApply s h b l)) := by
  unfold cfgApply
  split
  · exact hv
  · exact sound_stewardWrite _ _ _ (sound_foldl (fun t w ht => sound_stewardWrite t h w ht) _ _ (sound_stewardWrite _ _ _ hv))

@[simp] theorem sound_svcPortCfg (s : State) (j : Job) (x : Hart) (h : Nat) (hv : Sound (invView s)) : Sound (invView (svcPortCfg s j x h)) := by
  unfold svcPortCfg
  dsimp only
  split
  · simp [hv]
  · split
    · simp [hv]
    · exact sound_needCulm _ _ _ (by split <;> simp [hv]) hv

@[simp] theorem sound_svcTillerCmd (s : State) (j : Job) (x : Hart) (h : Nat) (hv : Sound (invView s)) : Sound (invView (svcTillerCmd s j x h)) := by
  unfold svcTillerCmd
  dsimp only
  split
  · simp [hv]
  · exact sound_needCulm _ _ _ (by split <;> simp [hv]) hv

@[simp] theorem sound_serdesComplete (s : State) (cfg : List (Nat × W32)) (hv : Sound (invView s)) : Sound (invView (serdesComplete s cfg)) := by
  unfold serdesComplete
  split
  · exact hv
  · dsimp only
    rw [invView_startStep]
    split
    · exact sound_foldl (fun t e ht => sound_stewardWrite _ _ _ ht) _ _ (by simpa using hv)
    · simpa using hv

@[simp] theorem invView_resumeOn (s : State) (h : Nat) (j : Job) (w : Wait) : invView (resumeOn s h j w) = invView s := by simp [resumeOn]

@[simp] theorem sound_readBackDone (s : State) (h : Nat) (j : Job) (x : Hart) (slot : Nat) (hv : Sound (invView s)) :
    Sound (invView (readBackDone s h j x slot)) := by
  simp [readBackDone, hv]

@[simp] theorem sound_granResume (s : State) (j : Job) (h slot : Nat) (hv : Sound (invView s)) : Sound (invView (granResume s j h slot)) := by
  simp [granResume, hv]

end Sys2Proof.Proofs
end

section
/-! The invariant: every command and every step. -/

namespace Sys2Proof.Proofs

open Sys2Proof Sys2Proof.Machine Sys2Proof.Safety

@[simp] theorem sound_serviceAgain (s : State) (h : Fin 8) (n : Nat) (hv : Sound (invView s)) : Sound (invView (serviceAgain s h n)) := by
  unfold serviceAgain
  refine sound_outState ?_ hv
  split
  rotate_right
  · exact (oSound_next _).2 hv
  all_goals exact (oSound_ok _).2 (sound_svcCall _ _ _ (fun j x => by simp [hv]) hv)

@[simp] theorem sound_resumeRun (s : State) (h : Fin 8) (j : Job) (w : Wait) (hv : Sound (invView s)) : Sound (invView (resumeRun s h j w)) := by
  unfold resumeRun
  dsimp only
  split
  · exact hv
  · split
    · simp [hv]
    · split <;> simp [hv]

@[simp] theorem sound_waitResume (s : State) (i : Nat) (h : Fin 8) (hv : Sound (invView s)) : Sound (invView (waitResume s i h)) := by
  unfold waitResume
  split
  · exact hv
  · split
    · split <;> simp [hv]
    · split
      · exact hv
      · split
        · exact hv
        · exact sound_resumeRun _ _ _ _ (by simpa using hv)

@[simp] theorem oSound_execFrameHeadResolve (port : Fin 64) (side : Side) (octets : List Byte) (tableErr : Option Bool) (s : State) (hv : Sound (invView s)) :
    OSound (execFrameHeadResolve port side octets tableErr s) := by
  unfold execFrameHeadResolve
  split
  · exact oSound_powered (by simp [hv]) hv
  · exact fun _ h => nomatch h

@[simp] theorem oSound_execPuntAgeExpiry (stage : Fin 16) (s : State) (hv : Sound (invView s)) : OSound (execPuntAgeExpiry stage s) := by
  unfold execPuntAgeExpiry
  split
  · exact (oSound_ok _).2 hv
  · exact oSound_powered (by simp [hv]) hv

@[simp] theorem oSound_execTillerBlockRelease (t : Fin 72) (miss : Option Bool) (cnt : Ecc) (s : State) (hv : Sound (invView s)) :
    OSound (execTillerBlockRelease t miss cnt s) := by
  unfold execTillerBlockRelease
  split
  · exact (oSound_ok _).2 hv
  · split <;> exact oSound_powered (sound_withEcc _ (fun t ht => by simp [ht]) hv) hv

@[simp] theorem oSound_execStepChangeComplete (s : State) (hv : Sound (invView s)) : OSound (execStepChangeComplete s) := by
  unfold execStepChangeComplete
  split
  · exact (oSound_ok _).2 hv
  · exact oSound_powered (by simp [hv]) hv

@[simp] theorem oSound_execRetentionDailyCheck (s : State) (hv : Sound (invView s)) : OSound (execRetentionDailyCheck s) := by
  refine oSound_powered ?_ hv
  split
  · exact hv
  · exact sound_foldl (fun t x ht => sound_refreshSector t x ht) _ _ hv

@[simp] theorem oSound_execRecorderQuarterMirror (s : State) (hv : Sound (invView s)) : OSound (execRecorderQuarterMirror s) := by
  unfold execRecorderQuarterMirror
  refine (oSound_ok _).2 ?_
  repeat' split
  all_goals simp [hv]

@[simp] theorem oSound_execReqa (ownOk : Bool) (s : State) (hv : Sound (invView s)) : OSound (execReqa ownOk s) := by
  unfold execReqa
  refine (oSound_ok _).2 ?_
  repeat' split
  all_goals simp [hv]

@[simp] theorem oSound_execWupa (ownOk : Bool) (s : State) (hv : Sound (invView s)) : OSound (execWupa ownOk s) := by
  unfold execWupa
  refine (oSound_ok _).2 ?_
  repeat' split
  all_goals simp [hv]

/-- A command that runs on a sound state answers with a sound one. -/
theorem oSound_exec (c : Instr) (s : State) (hv : Sound (invView s)) : OSound (exec c s) := by
  cases c with
  | registerWrite | loReadLatch | puntPop | add | sub | and | or | xor | andn | shl | shr | sar | rot | mins | maxs | minz | maxz | mul | mulhs | mulhz | divs
    | divz | mods | modz | clz | ctz | popc | bswap | addk | andk | ork | xork | shlk | shrk | sark | rotk | pand | por | pxor | pandn | pnot | bcopy | bfill
    | bcomp | bxor | bscan | storeDrain | pllIdleStop | powerGoodRise | powerGoodFall | resetPin | resetCommand | dormantCommand | holdNLow | smbusVersion |
    smbusMode | smbusCause | smbusTemp | dormantReq | wake | startPllLocked | lcDecode | startServiceEntry | pllLockLoss | pllRetryExpiry | pufRefresh |
    pufRefreshComplete | pufCheck | pufCheckComplete | dormantSealTimeout | dormantEntry | vbatLow | loopSample | monitorTrip | assertedClearExpiry |
    alarmRaise | shadowMismatch | tamperLogAppend | tamperMirrorUpdate | logTokenRefill | recorderAccept | recorderTokenRefill | msixTokenRefill | lcIntent |
    lcCommit | lcVoid | lcPair | otpBurnComplete | extest | samplePreload | idcode | dbgChal | dbgResp | dbgCmd | dbgLock | bypass | fieldRise | fieldCollapse
    | anticollision | select | hlta | rats | pps | sDeselect | tagProtocolError | wtxExpiry | tagHello | identity | summary | counters | increment | inboxRead
    | inboxStage | inboxCommit | nvmPageWriteComplete | tgWrite | tgIncrement | tgRead | cardInsert | cardRemoval | sdCommand | sdBusyEnd | sdBusyTimeout |
    acmd41RetryExpiry | probationArm | probationDisarm | probationExpiry | sramRemap | lineRemap | remapComplete | vbatOkChange | perstAssert | perstDeassert
    | serviceWaitResume | startWipeComplete | pufRegen | stewardAccept | serdesCalibrationComplete | sdCommandComplete | updateClear | updateWrite |
    updateVerify | updateSwitch | updateCommit | holdNHigh =>
    exact (oSound_ok _).2 (by simp [hv])
  | laneErrorCountRead | modeWrite | slotEnableWrite | portConfigWrite | laneSignalDetect | laneLockLoss | anComplete | trainingComplete | trainingFail |
    alignmentLock | faultReceived | faultClearExpiry | fecUncorrectable | fecWindowEnd | frameEnd | frameTxComplete | pauseRefreshExpiry | pauseQuantaExpiry |
    macControlFrame | sideGateExpiry | blockIdleExpiry | tillerWakeComplete | sidePowerUpComplete | fetchGrant | saFetchReturn | txanSet | emRead | emWrite |
    ruleWrite | puntTokenRefill | injectGo | tillerTake | reserveLinkCheck | quarantineExpiry | patrolTick | rotationExpiry | plannedSwapBoundary | tillerTest
    | tillerRetire | tillerSwap | stepSet | needRise | verdictStartSend | xferWordWrite | install | eraseDrain | erasePurge | purgeComplete | granaryRead |
    zeroise | zeroiseComplete | clearZeroed | drainFencePass | remaskSweepStart | remaskSlotVisit | remaskSeedReceive | culmSessionStart | culmSessionUp |
    culmFlitReceive | culmLaneFail | culmLaneReplaced | culmHeartbeatExpiry | deadmanExpiry | endpointLinkUp | endpointLinkDown | hotReset | linkEnWrite |
    hostReadyWrite | vfEnableWrite | barAccessRefused | poisonedWrite | unexpectedCompletion | ringHello | ringEnable | ringQuiesce | orTailDoorbell |
    crHeadDoorbell | orderFetch | phaseRecheck | nopEntry | cancelEntry | orderEntry | completionWrite | msixIntervalExpiry | msixUnmask | functionLevelReset
    | generationEndComplete | logLineFill | logFlush | hello | orderDispatch | budgetExpiry | rxSpacingExpiry | frameRecvTimeout | swap | harvest |
    harvestComplete | clear | clearComplete | hvHeadWrite | minuteFallbackExpiry | counterRecordRead | stookSigned | signRetryExpiry | atomicWindowExpiry |
    interruptTake | asyncCauseTake | hartParityError | waitWake | hartHalt | haltComplete | hartResume | hartRestart | hartRetire | hartRaise | hartClaim |
    evRaise | routeWrite | recolourAll | recolourIf | wipe | recolourComplete | dmaGo | dmaPause | dmaResume | dmaAbort | dmaBeat | dmaHostCompletion |
    jobSubmit | jobAbort | jobResume | jobFree | liLoadComplete | liYield | liComputeComplete | liStoreComplete | liContextHoldExpiry | liNeedRise | liStepSet
    | rngSampleTick | rngFreqWindow | rngStartupComplete | retry | reseed | reinstantiate | enable | rngRetryExpiry | autoReseed | reseedComplete | drbgCall |
    rngPortRequest | rngDataRead | flashKeyWrite | flashSequenceStep | flashDataWrite | program | erase | move | flashSeqTimeout | flashOpComplete |
    malformedTlp | harvestStall | upHoldExpiry | frameArrival | pauseReceived | katComplete | installComplete | orderEntriesArrive | release | emHash |
    ruleRead | sciRead | sciWrite | busMasterChange | powerStateChange =>
    exact oSound_powered (by simp [hv]) hv
  | verdictHead =>
    exact oSound_powered (sound_withEcc _ (fun t ht => by simpa using ht) hv) hv
  | svcInfo | exit | argRead | resultWrite | clock | scAlloc | scFree | scModify | saInstall | saErase | saSwitch | saRead | saExport | keyLoad | keyGen |
    keyUnwrap | keyWrap | keyDerive | cmac | keyFree | emAdd | emDel | ruleAdd | ruleDel | steerQuery | cntRead | domCntRead | random | liRun | liSubmit |
    liWait | sheafGet | minuteTick | evRead | evSteer | frameSend | frameRecv | portStatus | portCfg | tillerCmd | fnGrant | fnQuery | domQuota | fnLogStart |
    fnLogHarvest | fnLogStop | steerGrant | alarmStatus | alarmClear | failPolicy | monitorCfg | rngEnable | resLoad | resDelete | csStatus | csMount |
    csArchive | csRestore | csExportEvents | csStageImage | lcStatus | lcChallenge | lcTransition | lcExercise | lcKeys =>
    exact (oSound_ok _).2 (sound_svcCall _ _ _ (fun j x => by simp [hv]) hv)
  | csUnmount =>
    exact (oSound_ok _).2 (sound_svcCall _ _ _ (fun _ _ => sound_csStart _ _ (fun t o ht => by simp [ht]) hv) hv)
  | kset | khi | klo | cmp | cmpi | rd8s | rd8z | rd16s | rd16z | rd32 | wr8 | wr16 | wr32 | xchg | cas | b | call | jmpr | callr | loop | loopi =>
    exact (oSound_ok _).2 (sound_issue _ _ _ _ (fun t x ht => by simp [ht]) hv)
  | mfc | mtc | msc | mcc =>
    exact (oSound_ok _).2 (sound_ctl _ _ _ _ _ (fun t x ht => by simp [ht]) hv)
  | svc | barrier | atomic | endatomic | eret | wait | brk =>
    exact (oSound_ok _).2 (sound_sys _ _ _ _ _ (fun t x ht => by simp [ht]) hv)
  | completionTimeout x =>
    exact oSound_powered (by cases x <;> simp [hv]) hv
  | frameHeadResolve => exact oSound_execFrameHeadResolve _ _ _ _ _ hv
  | puntAgeExpiry => exact oSound_execPuntAgeExpiry _ _ hv
  | tillerBlockRelease => exact oSound_execTillerBlockRelease _ _ _ _ hv
  | stepChangeComplete => exact oSound_execStepChangeComplete _ hv
  | retentionDailyCheck => exact oSound_execRetentionDailyCheck _ hv
  | recorderQuarterMirror => exact oSound_execRecorderQuarterMirror _ hv
  | reqa => exact oSound_execReqa _ _ hv
  | wupa => exact oSound_execWupa _ _ hv

/-- Settles O54: an idle step is the steward's microsecond (`sound_stewardTick`), and every command answers with a sound state (`oSound_exec`). -/
theorem stepKeepsInv : Obligations.StepKeepsInv := by
  intro s t hi hs
  rw [inv_iff_sound] at hi ⊢
  unfold step at hs
  split at hs
  next =>
    obtain rfl := Host.Outcome.next.inj hs
    exact sound_stewardTick _ ⟨hi.1, hi.2⟩
  next c r _ => exact oSound_exec c { s with pending := r } ⟨hi.1, hi.2⟩ t hs

end Sys2Proof.Proofs
end

section
/-! Steps: the queue's front command, and the idle microsecond. -/

namespace Sys2Proof.Proofs

open Sys2Proof Sys2Proof.Machine Sys2Proof.Safety

theorem step_cons {s : State} {c : Instr} {r : List Instr} (h : s.pending = c :: r) : Machine.step s = exec c { s with pending := r } := by
  unfold Machine.step
  rw [h]

theorem step_nil {s : State} (h : s.pending = []) : Machine.step s = .next (stewardTick { s with now := s.now + 1 }) := by
  unfold Machine.step
  rw [h]

/-- Settles O51, by `step_cons`. -/
theorem stepRunsFrontCommand : Obligations.StepRunsFrontCommand := fun _ _ _ h => step_cons h

/-- What an idle microsecond leaves as it was: the ladder's level, the queue, and the clock it has set. -/
def idleView (s : State) : Nat × List Instr × Nat := (s.level, s.pending, s.now)

theorem idleView_of_invView {s t : State} (h : invView t = invView s) : idleView t = idleView s :=
  congrArg (fun v : Tbl Byte × Nat × Bool × List Instr × Nat => (v.2.1, v.2.2.2)) h

theorem idleView_coldState (s : State) (m : Mode) : idleView (coldState s m) = idleView s := rfl

theorem idleView_bootNone (s : State) : idleView (bootNone s) = idleView s :=
  (idleView_coldState _ _).trans (idleView_of_invView ((invView_dbgClose _).trans (invView_raise ..)))

theorem idleView_dirsRead (s : State) : idleView (dirsRead s) = idleView s := by
  unfold dirsRead
  extract_lets a b dirs va vb pick other format fresh
  clear_value pick
  split
  · refine idleView_of_invView ?_
    repeat' split
    all_goals simp
  · dsimp only
    split
    · split
      · exact idleView_bootNone _
      · exact idleView_of_invView (by simp)
    · exact idleView_of_invView (by simp)
  · split
    · exact idleView_bootNone s
    · refine idleView_of_invView ?_
      repeat' split
      all_goals simp

theorem idleView_bootHeads (s : State) : idleView (bootHeads s) = idleView s := by
  unfold bootHeads
  dsimp only
  split
  · exact idleView_of_invView (invView_setCs ..)
  · exact idleView_bootNone s

theorem idleView_bootFetched (s : State) : idleView (bootFetched s) = idleView s := by
  unfold bootFetched
  split
  · exact idleView_bootNone s
  · dsimp only
    split
    · exact idleView_bootNone _
    · generalize List.range 384 = sectors
      refine idleView_of_invView ?_
      rw [invView_stewardProgram, invView_foldl (fun t i => ?_), invView_foldl (fun t i => ?_)]
      · rw [invView_csOff, invView_setCs]
      · exact invView_stewardErase ..
      · exact invView_stewardProgram ..

theorem idleView_phaseDone (s : State) : idleView (phaseDone s) = idleView s := by
  unfold phaseDone
  split
  case h_2 => exact idleView_dirsRead s
  case h_12 => exact idleView_bootHeads s
  case h_13 => exact idleView_bootFetched s
  case h_14 => rfl
  all_goals exact idleView_of_invView (by simp)

theorem idleView_csRun (n : Nat) (s : State) : idleView (csRun n s) = idleView s := by
  induction n generalizing s with
  | zero => simp [csRun]
  | succ n ih =>
    unfold csRun
    split
    · rfl
    · split
      · exact idleView_of_invView ((invView_sdIssue ..).trans (invView_setCs ..))
      · rfl
      · rfl
      · exact (ih _).trans (idleView_phaseDone s)

theorem idleView_stewardTick (s : State) : idleView (stewardTick s) = idleView s := by
  unfold stewardTick
  split
  · rfl
  · have hg : idleView (csGo (makeMetKey (writeSeeds (dormantGo s)))) = idleView s :=
      (idleView_csRun 8 _).trans (idleView_of_invView (by simp))
    rw [← hg]
    generalize csGo (makeMetKey (writeSeeds (dormantGo s))) = u
    refine idleView_of_invView ?_
    dsimp only
    repeat' split
    all_goals simp

theorem stewardTick_waits {s : State} (h : runs s = false ∨ s.pw.step < 12) : stewardTick s = s := by
  unfold stewardTick
  rw [if_pos (by simpa using h)]

/-- Settles O52: the steward's microsecond keeps the level and the queue (`idleView_stewardTick`) and waits for step 12 (`stewardTick_waits`). -/
theorem idleStep : Obligations.IdleStep := by
  intro s hp
  have hv := idleView_stewardTick { s with now := s.now + 1 }
  obtain ⟨hl, hq, hn⟩ : _ ∧ _ ∧ _ := by simpa only [idleView, Prod.mk.injEq] using hv
  exact ⟨_, step_nil hp, hn, hq.trans hp, hl, fun h => stewardTick_waits h⟩

end Sys2Proof.Proofs
end

section
/-! The tag's type A values (R591). -/

namespace Sys2Proof.Proofs

open Sys2Proof Sys2Proof.Machine Sys2Proof.Safety

theorem leNat_lt (l : List Byte) : leNat l < 2 ^ (8 * l.length) := by
  induction l with
  | nil => exact Nat.one_pos
  | cons b l ih =>
    have hb := b.isLt
    have hp : 2 ^ (8 * (l.length + 1)) = 256 * 2 ^ (8 * l.length) := by rw [Nat.mul_add, Nat.pow_add, Nat.mul_comm]
    simp only [leNat, List.length_cons, hp]
    omega

theorem length_drawOctets_le (s : State) (n : Nat) : (drawOctets s n).length ≤ n := List.length_take_le ..

@[simp] theorem tagNote_tag (s : State) (src cnt : Nat) (data : List Nat) : (tagNote s src cnt data).tag = s.tag := by
  unfold tagNote
  split
  · split <;> simp
  · rfl

@[simp] theorem tagAnswer_tag (s : State) (l : List Byte) : (tagAnswer s l).tag = s.tag := rfl

@[simp] theorem tagAnswer_sent (s : State) (l : List Byte) : (tagAnswer s l).sent = s.sent ++ [.answer 2 l] := rfl

/-- A field that rises with the tag's own source good brings a handle of 24 bits (R591, R608). -/
theorem drawHandle_uid (s : State) : ∃ u, (drawHandle s true).tag.uid = some u ∧ u < 2 ^ 24 := by
  unfold drawHandle
  split
  · refine ⟨_, rfl, (leNat_lt _).trans_le (Nat.pow_le_pow_right two_pos ?_)⟩
    exact Nat.mul_le_mul_left 8 (length_drawOctets_le s 3)
  · exact ⟨free s % 2 ^ 24, by simp [ownHandle], Nat.mod_lt _ (by decide)⟩

theorem reqa_idle {s : State} (own : Bool) (hf : s.tag.field = true) (hi : s.tag.iso = .idle) : exec (.reqa own) s = .next (tagReady s) :=
  exec_ok rfl (by simp [hf, hi])

theorem tagReady_sent (s : State) : (tagReady s).sent = s.sent ++ [.answer 2 [0x04, 0x00]] := by
  unfold tagReady lateHandle
  dsimp only
  split <;> rfl

theorem anticollision_zero {s : State} (v : BitVec 32) (own : Bool) (hf : s.tag.field = true) (hi : s.tag.iso = .ready) :
    exec (.anticollision 0 v own) s = .next (tagAnswer s (tagUid s ++ [tagBcc (tagUid s)])) :=
  exec_ok rfl (by simp [hf, hi, Nat.mod_one])

theorem select_ready {s : State} {v : BitVec 32} (own : Bool) (hf : s.tag.field = true) (hi : s.tag.iso = .ready) (hu : leNat (tagUid s) = v.toNat) :
    exec (.select v own) s = .next (tagAnswer (tagNote (setTagSt s { s.tag with iso := .active, l4 := false, hello := false }) 168 0x800 []) [0x20]) :=
  exec_ok rfl (by simp [hf, hi, hu])

/-- Settles O60: the answers are those of `tagReady_sent`, `anticollision_zero` and `select_ready`, the handle that of `drawHandle_uid`. -/
theorem typeAValues : Obligations.TypeAValues := by
  intro s strong own v
  refine ⟨fun hf hi => ⟨_, reqa_idle own hf hi, tagReady_sent s⟩, rfl, rfl, rfl, ⟨_, rfl, drawHandle_uid _⟩, rfl, fun a b c d => ?_,
    fun hf hi => anticollision_zero v own hf hi, fun hf hi hu => ⟨_, select_ready own hf hi hu, by simp⟩⟩
  simp [tagBcc]

end Sys2Proof.Proofs
end

section
/-! The random source and the DRBG (R453 to R472). -/

namespace Sys2Proof.Proofs

open Sys2Proof Sys2Proof.Machine Sys2Proof.Safety

/-! ### What the shared operations do to the random source -/

theorem rngDown_eq_false {s : State} : rngDown s = false ↔ s.rng.st = .starting ∨ s.rng.st = .running := by
  unfold rngDown
  cases s.rng.st <;> simp

@[simp] theorem startStep_rng (s : State) (n : Nat) : (startStep s n).rng = s.rng := by
  unfold startStep
  dsimp only
  repeat' split
  · exact raise_rng ..
  · rfl
  · rfl

@[simp] theorem rngRefused_rng (s : State) : (rngRefused s).rng = s.rng := by simp [rngRefused]

/-- The random source but for its list of requests. -/
def SameButReqs (x y : RngSt) : Prop := y = { x with reqs := y.reqs }

theorem SameButReqs.trans {x y z : RngSt} (h : SameButReqs x y) (k : SameButReqs y z) : SameButReqs x z := by
  rw [SameButReqs, k, h]

theorem sameButReqs_rngRequest (s : State) (cls blocks : Nat) : SameButReqs s.rng (rngRequest s cls blocks).rng := by
  unfold rngRequest
  split
  · rw [rngRefused_rng]
    rfl
  · rfl

theorem sameButReqs_ddRefill (s : State) : SameButReqs s.rng (ddRefill s).rng := by
  unfold ddRefill
  split
  · exact sameButReqs_rngRequest ..
  · rfl

/-- A source that becomes RUNNING has a new instance, of which no block is drawn (R457). -/
theorem rngRunning_rng (s : State) :
    SameButReqs { s.rng with st := .running, inst := s.rng.inst + 1, blk := 0, calls := 0, lastSeed := s.now, busy := 0 } (rngRunning s).rng := by
  unfold rngRunning
  dsimp only
  refine .trans ?_ (sameButReqs_ddRefill _)
  rw [startStep_rng]
  split
  · exact .trans (by simp [SameButReqs]) (sameButReqs_rngRequest ..)
  · simp [SameButReqs]

theorem refuseReq_rng (s : State) (r : RngReq) :
    (refuseReq s r).rng.st = s.rng.st ∧ (refuseReq s r).rng.hist = s.rng.hist ∧ (refuseReq s r).rng.pool = s.rng.pool := by
  unfold refuseReq
  dsimp only
  rw [rngRefused_rng]
  split
  · exact ⟨rfl, rfl, rfl⟩
  · split <;> exact ⟨rfl, rfl, rfl⟩

/-- The refusals of a failed source's requests leave it as it is but for the ports' own state. -/
theorem refuseReqs_rng (l : List RngReq) (s : State) :
    (l.foldl refuseReq s).rng.st = s.rng.st ∧ (l.foldl refuseReq s).rng.hist = s.rng.hist ∧ (l.foldl refuseReq s).rng.pool = s.rng.pool := by
  induction l generalizing s with
  | nil => exact ⟨rfl, rfl, rfl⟩
  | cons r l ih =>
    obtain ⟨hst, hhist, hpool⟩ := ih (refuseReq s r)
    obtain ⟨kst, khist, kpool⟩ := refuseReq_rng s r
    exact ⟨hst.trans kst, hhist.trans khist, hpool.trans kpool⟩

/-- The first failure of an hour leaves the source FAILED with its pool emptied (R460). -/
theorem rngFail_first {s : State} (h : recentFails s = []) (test a b src : Nat) (data : List Nat) (disable : Option Nat) :
    (rngFail s test a b src data disable).rng.st = .failed ∧ (rngFail s test a b src data disable).rng.hist = [tscOf s] ∧
    (rngFail s test a b src data disable).rng.pool = 0 := by
  unfold rngFail
  dsimp only
  rw [h]
  obtain ⟨hst, hhist, hpool⟩ := refuseReqs_rng s.rng.reqs (cinc (setRng (rset (raise s src data) (rgA + 0x10) (w32 (packFields [(test, 0), (a, 4), (b, 7), (1, 10)])))
    _) (rgA + 0x218))
  exact ⟨hst, hhist, hpool⟩

theorem reseedBegin_rng (s : State) (kind : Nat) : (reseedBegin s kind).rng = { s.rng with busy := kind } := by
  rw [reseedBegin, apply_ite State.rng]
  simp

theorem foldl_rset_rng (g : Nat → W32) (l : List Nat) (s : State) (a : Nat) : (l.foldl (fun t o => rset t (a + 4 * o) (g o)) s).rng = s.rng := by
  induction l generalizing s with
  | nil => rfl
  | cons o l ih => exact (ih _).trans rfl

theorem rget_foldl_rset (g : Nat → W32) (l : List Nat) (s : State) (a : Nat) {o : Nat} (h : o ∈ l) :
    rget (l.foldl (fun t o => rset t (a + 4 * o) (g o)) s) (a + 4 * o) = g o := by
  induction l using List.reverseRecOn with
  | nil => cases h
  | append_singleton l p ih =>
    rw [List.foldl_append, List.foldl_cons, List.foldl_nil, rget_rset_if]
    split
    next he => rw [show o = p by omega]
    next hn => 
      refine ih ((List.mem_append.mp h).resolve_right fun hp => hn ?_)
      rw [List.mem_singleton.mp hp]

/-- A window in which every oscillator in use counts well only notes the counts (R455). -/
theorem freqWindow_good {s : State} {counts : List Nat} (hd : rngDown s = false)
    (hc : ∀ o ∈ oscOn s, 6 * nth oscNominal o 0 ≤ nth counts o 0 ∧ nth counts o 0 ≤ 14 * nth oscNominal o 0) :
    freqWindow s counts = (oscOn s).foldl (fun t o => rset t (rgA + 0x20 + 4 * o) (w32 (nth counts o 0 / 10 % 65536))) s := by
  unfold freqWindow
  dsimp only
  rw [if_neg (by simp [hd]), if_pos]
  rw [List.filter_eq_nil_iff]
  intro o ho
  rw [oscOn, foldl_rset_rng] at ho
  have := hc o ho
  simp only [Bool.or_eq_true, decide_eq_true_eq]
  omega

theorem rngTick_starting {s : State} (hst : s.rng.st = .starting) (ht : s.rng.ticks < 110) (smp : Nat) :
    rngTick s smp = setRng s { s.rng with ticks := s.rng.ticks + 1 } := by
  have hd : rngDown s = false := rngDown_eq_false.mpr (.inl hst)
  unfold rngTick
  rw [if_neg (by simp [hd])]
  exact if_pos ⟨hst, ht⟩

theorem startupDone_passed {s : State} (hst : s.rng.st = .starting) (hb : 4224 ≤ s.rng.startBits)
    (ho : ∀ o ∈ oscOn s, 384 ≤ tget (fun _ => 0) s.rng.startOsc o) : startupDone s true = rngRunning s := by
  unfold startupDone
  rw [if_neg (by simp [hst]), if_neg (by simp), if_neg (by omega), if_neg (by simpa using ho)]

theorem startupDone_failed {s : State} (hst : s.rng.st = .starting) : startupDone s false = rngFail s 6 0 0 117 [] none := by
  unfold startupDone
  rw [if_neg (by simp [hst]), if_pos (show (!false) = true from rfl)]

/-- A reseed whose bits the pool holds draws them into a new instance (R459). -/
theorem reseedDone_filled {s : State} (hst : s.rng.st = .running) (hk : s.rng.busy ≠ 0) (hn : (if s.rng.busy = 2 then 640 else 512) ≤ s.rng.pool) :
    reseedDone s = raise (cinc (setRng s { s.rng with
      pool := s.rng.pool - (if s.rng.busy = 2 then 640 else 512), inst := s.rng.inst + 1, blk := 0, calls := 0, lastSeed := s.now, busy := 0 }) (rgA + 0x210))
      (if s.rng.busy = 2 then 112 else 118) [] := by
  unfold reseedDone
  dsimp only
  rw [if_neg (by simp [hst, hk]; omega)]

theorem randomSource : Claims.RandomSource := by
  intro s samples counts kind need hr
  refine ⟨fun hst ht => ⟨_, exec_powered hr rfl (rngTick_starting hst ht _), rfl⟩, fun hd hc => ⟨_, exec_powered hr rfl (freqWindow_good hd hc), foldl_rset_rng .., fun o ho => rget_foldl_rset _ _ _ _ ho⟩,
    fun hst hb ho => ⟨_, exec_powered hr rfl rfl, ?startup⟩, fun hst hf => ⟨_, exec_powered hr rfl rfl, ?fail⟩,
    fun hst => ⟨_, exec_powered hr rfl (if_pos hst), rfl, rfl, rfl⟩, fun hst => ⟨_, exec_powered hr rfl (if_pos hst), rfl, rfl⟩,
    fun hst => ⟨_, exec_powered hr rfl (if_pos hst), rfl, by simp [rngStart]⟩,
    fun hst hk => ⟨_, exec_powered hr rfl ?reseed, reseedBegin_rng s 1⟩, fun hst => ⟨_, exec_powered hr rfl ?reinst, reseedBegin_rng s 2⟩,
    fun hst hk hd => ⟨_, exec_powered hr rfl (if_pos ⟨hst, hk, hd⟩), reseedBegin_rng s 1⟩, fun hst hk hn => ⟨_, exec_powered hr rfl (reseedDone_filled hst hk hn), by simp [need, kind]⟩⟩
  case startup =>
    rw [startupDone_passed hst hb ho]
    have h := rngRunning_rng s
    exact ⟨congrArg RngSt.st h, congrArg RngSt.inst h, congrArg RngSt.blk h⟩
  case fail =>
    rw [startupDone_failed hst]
    exact rngFail_first hf ..
  case reseed => rw [rgReseed, if_neg (by simp [hst]), if_pos hk]
  case reinst => exact if_neg (by simp [hst])

/-! ### Calls of the DRBG -/

/-- The request that a call serves gives way to the rest of it (R462). -/
def served (l : List RngReq) (r : RngReq) : List RngReq :=
  if r.left ≤ 2 then l.erase r else l.map (fun q => if q = r then { q with left := q.left - 2 } else q)

/-- A call serves the waiting request of highest priority with at most two blocks, the instance's next ones (R462). -/
theorem drbgCall_top {s : State} {r : RngReq} (hc : canDraw s = true) (ht : topReq s.rng.reqs = some r) :
    drbgCall s = deliverBlocks (drawn (setRng s { s.rng with reqs := served s.rng.reqs r }) (Nat.min 2 r.left)) r (blocksOf s.rng (Nat.min 2 r.left)) := by
  unfold drbgCall
  rw [if_neg (by simp [hc]), ht]
  rfl

theorem portRequest_waits {s : State} {k n : Nat} (h1 : 1 ≤ n) (h16 : n ≤ 16) (hl : tget (fun _ => 0) s.rng.portLeft k = 0) (hd : rngDown s = false) :
    portRequest s k n = setRng s { s.rng with portErr := tput (fun _ => false) s.rng.portErr k false, portLeft := tput (fun _ => 0) s.rng.portLeft k n,
                                              reqs := s.rng.reqs ++ [⟨5 + k, n⟩] } := by
  unfold portRequest
  rw [if_neg (by simp [hl]; omega), if_neg (by simp [hd]), rngRequest, if_neg (by rw [rngDown] at hd ⊢; simp [hd])]
  rfl

theorem randomCalls : Claims.RandomCalls := by
  intro s r k n b l hr
  refine ⟨fun hc ht hcls => ⟨_, exec_powered hr rfl (drbgCall_top hc ht), ?dd⟩, fun hc ht hcls => ⟨_, exec_powered hr rfl (drbgCall_top hc ht), ?port⟩,
    fun h1 h16 hl hd => ⟨_, exec_powered hr rfl (portRequest_waits h1 h16 hl hd), rfl, tget_tput ..⟩, fun hb => ⟨_, exec_powered hr rfl rfl, ?read⟩⟩
  case dd => 
    simp only [deliverBlocks, hcls]
    exact ⟨rfl, rfl, rfl, fun h => if_pos h⟩
  case port =>
    simp only [deliverBlocks, hcls]
    exact tget_tput ..
  case read =>
    unfold portRead
    dsimp only [answer]
    rw [hb]
    exact ⟨rfl, tget_tput .., tget_tput ..⟩

/-- Settles O23, by `randomSource` and `randomCalls`. -/
theorem random : Obligations.Random := ⟨randomSource, randomCalls⟩

end Sys2Proof.Proofs
end

section
/-! A field put into a register reads back. -/

namespace Sys2Proof.Proofs

open Sys2Proof Sys2Proof.Machine Sys2Proof.Safety

/-- A number with its k bits from l replaced by those of v: what stands from l is v's, and the number keeps its size. -/
theorem replaced_bits {W v P K M : Nat} (hP : 0 < P) (hv : v < K) (hW : W < P * K * M) :
    W - W / P % K * P + v * P < P * K * M ∧ (W - W / P % K * P + v * P) / P % K = v := by
  have hr := Nat.mod_lt W hP
  have h1 : P * (W / P) + W % P = W := Nat.div_add_mod W P
  have h2 : K * (W / P / K) + W / P % K = W / P := Nat.div_add_mod (W / P) K
  have hA : W / P / K < M := by
    rw [Nat.div_div_eq_div_mul]
    exact Nat.div_lt_of_lt_mul hW
  have he : W - W / P % K * P + v * P = P * (K * (W / P / K) + v) + W % P := by
    have : W = P * (K * (W / P / K)) + W / P % K * P + W % P := by
      rw [Nat.mul_comm (W / P % K) P, ← Nat.mul_add, h2, h1]
    rw [Nat.mul_add, Nat.mul_comm v P]
    omega
  constructor
  · rw [he, Nat.mul_assoc]
    have : K * (W / P / K) + v + 1 ≤ K * M := by nlinarith
    nlinarith
  · rw [he, Nat.mul_add_div hP, Nat.div_eq_of_lt hr, Nat.add_zero, Nat.mul_add_mod, Nat.mod_eq_of_lt hv]

/-- A field put into a word reads back as put. -/
theorem fld_putFld (w : W32) {m l : Nat} (v : Nat) (hl : l ≤ m) (hm : m < 32) : fld (putFld w m l v) m l = v % 2 ^ (m + 1 - l) := by
  have hp : 2 ^ l * 2 ^ (m + 1 - l) * 2 ^ (31 - m) = 2 ^ 32 := by
    rw [← Nat.pow_add, ← Nat.pow_add]
    congr 1
    omega
  obtain ⟨hlt, hfld⟩ := replaced_bits (W := w.toNat) (Nat.two_pow_pos l) (Nat.mod_lt v (Nat.two_pow_pos _)) (hp ▸ w.isLt)
  rw [hp] at hlt
  simp only [fld, putFld, bitsOf, Nat.shiftRight_eq_div_pow, Nat.shiftLeft_eq, BitVec.toNat_ofNat, Nat.mod_eq_of_lt hlt, hfld]

theorem rf_rsetf (s : State) (a : Nat) {m l : Nat} (v : Nat) (hl : l ≤ m) (hm : m < 32) : rf (rsetf s a m l v) a m l = v % 2 ^ (m + 1 - l) := by
  rw [rf, rsetf, rget_rset, fld_putFld _ v hl hm]

theorem rbit_rsetf (s : State) (a : Nat) {i : Nat} (v : Nat) (hi : i < 32) : rbit (rsetf s a i i v) a i = (v % 2 == 1) := by
  rw [rbit, rf_rsetf s a v le_rfl hi, Nat.add_sub_cancel_left, pow_one]

end Sys2Proof.Proofs
end

section
/-! The flash controller: its sequence and its operations (R474 to R500). -/

namespace Sys2Proof.Proofs

open Sys2Proof Sys2Proof.Machine Sys2Proof.Safety

/-! ### The sequence -/

@[simp] theorem flBreak_fl (s : State) (o : Nat) : (flBreak s o).fl = { s.fl with seq := 0, words := [] } := by simp [flBreak, flRefuse]

theorem flashKey_first {s : State} (h : Nat) (hq : s.fl.seq = 0) (ho : s.fl.op = none) :
    flashKey s h 0x5A17 = setFl s { s.fl with seq := 1, owner := h, words := [] } := by
  rw [flashKey, if_pos hq, if_neg (by simp [ho])]

theorem flashKey_second {s : State} {h : Nat} (hq : s.fl.seq = 1) (ho : s.fl.owner = h) : flashKey s h 0xA5E8 = setFl s { s.fl with seq := 2 } := by
  rw [flashKey, if_neg (by simp [hq]), if_pos ⟨hq, ho, rfl⟩]

theorem flashKey_wrong {s : State} {h k : Nat} (hq : s.fl.seq = 1) (ho : s.fl.owner = h) (hk : k ≠ 0xA5E8) : flashKey s h k = flBreak s 8 := by
  rw [flashKey, if_neg (by simp [hq]), if_neg (by simp [hk]), flOther, if_neg (by simp [ho])]

theorem flashStep_cmd {s : State} {h : Nat} {v : W32} (hq : s.fl.seq = 2) (ho : s.fl.owner = h) (h1 : 1 ≤ fld v 2 0) (h4 : fld v 2 0 ≤ 4)
    (hc : fld v 2 0 = 1 ∨ fld v 5 3 = 0) : flashStep s h false v = setFl s { s.fl with seq := 3, cmd := fld v 2 0, count := fld v 5 3 } := by
  rw [flashStep, if_neg (by simp [hq]), if_neg (by simp [ho]), if_pos (show (!false) = true from rfl), if_pos ⟨hq, h1, h4, hc⟩]

theorem flashStep_addr {s : State} {h : Nat} {v : W32} (hq : s.fl.seq = 3) (ho : s.fl.owner = h) (ha : addrOk s s.fl.cmd s.fl.count v.toNat = true) :
    flashStep s h true v = if s.fl.cmd = 1 then setFl s { s.fl with seq := 4, addr := v.toNat }
      else flStart s s.fl.cmd (if s.fl.cmd = 4 then v.toNat % 4 else v.toNat) [] := by
  rw [flashStep, if_neg (by simp [hq]), if_neg (by simp [ho]), if_neg (by simp), if_pos ⟨hq, ha⟩]

theorem flashData_next {s : State} {h w : Nat} (v : W32) (hq : s.fl.seq = 4) (ho : s.fl.owner = h) (hw : w = s.fl.words.length % 64) :
    flashData s h w v = if s.fl.words.length + 1 = 64 * (s.fl.count + 1) then flStart s 1 s.fl.addr (s.fl.words ++ [v])
      else setFl s { s.fl with words := s.fl.words ++ [v] } := by
  rw [flashData, if_neg (by simp [hq]), if_neg (by simp [ho]), if_pos ⟨hq, hw⟩]
  simp only [List.length_append, List.length_singleton]

theorem flashSequence : Claims.FlashSequence := by
  intro s h k v w hr
  refine ⟨fun hq ho => ⟨_, exec_powered hr rfl (flashKey_first h hq ho), rfl⟩, fun hq ho => ⟨_, exec_powered hr rfl (flashKey_second hq ho), rfl⟩,
    fun hq ho hk => ⟨_, exec_powered hr rfl (flashKey_wrong hq ho fun he => hk (Fin.ext he)), flBreak_fl ..⟩,
    fun hq ho h1 h4 hc => ⟨_, exec_powered hr rfl (flashStep_cmd hq ho h1 h4 hc), rfl⟩,
    fun hq ho ha hc => ⟨_, exec_powered hr rfl ((flashStep_addr hq ho ha).trans (if_pos hc)), rfl⟩,
    fun hq ho ha hc => ⟨_, exec_powered hr rfl ((flashStep_addr hq ho ha).trans (if_neg hc)), rfl⟩,
    fun hq ho hw hn => ⟨_, exec_powered hr rfl ((flashData_next v hq ho hw).trans (if_neg hn)), rfl⟩,
    fun hq ho hw hn => ⟨_, exec_powered hr rfl ((flashData_next v hq ho hw).trans (if_pos hn)), rfl⟩,
    fun hq => ⟨_, exec_powered hr rfl (if_neg hq), flBreak_fl ..⟩⟩

/-! ### The operations: what wear leaves of the flash -/

@[simp] theorem setSect_data (s : State) (x : Nat) (v : Sect) : (setSect s x v).fl.data = s.fl.data := rfl
@[simp] theorem setSect_op (s : State) (x : Nat) (v : Sect) : (setSect s x v).fl.op = s.fl.op := rfl

@[simp] theorem wearNear_data (s : State) (x why : Nat) : (wearNear s x why).fl.data = s.fl.data := by
  unfold wearNear
  split <;> simp

@[simp] theorem wearNear_op (s : State) (x why : Nat) : (wearNear s x why).fl.op = s.fl.op := by
  unfold wearNear
  split <;> simp

@[simp] theorem wearProgram_op (s : State) (x n : Nat) : (wearProgram s x n).fl.op = s.fl.op := by
  unfold wearProgram
  dsimp only
  split <;> simp

@[simp] theorem wearProgram_data (s : State) (x n : Nat) : (wearProgram s x n).fl.data = s.fl.data := by
  unfold wearProgram
  dsimp only
  split <;> simp

@[simp] theorem wearErase_op (s : State) (x n : Nat) : (wearErase s x n).fl.op = s.fl.op := by
  unfold wearErase
  dsimp only
  split_ifs <;> simp

@[simp] theorem wearErase_data (s : State) (x n : Nat) : (wearErase s x n).fl.data = s.fl.data := by
  unfold wearErase
  dsimp only
  split_ifs <;> simp

@[simp] theorem eraseSector_op (s : State) (x pulses : Nat) (good : Bool) : (eraseSector s x pulses good).fl.op = s.fl.op := by
  unfold eraseSector
  dsimp only
  split <;> simp [setUndef, eraseData]

/-- An erase that verifies leaves no octet of its sector (R486). -/
theorem eraseSector_data (s : State) (x pulses : Nat) :
    (eraseSector s x pulses true).fl.data = s.fl.data.filter (fun e => !(decide (sectorA x ≤ e.1 ∧ e.1 < sectorA x + 8192))) := by
  simp [eraseSector, setUndef, eraseData]

@[simp] theorem eraseRange_op (pulses : Nat) (bad : Option Nat) (n : Nat) (s : State) (x : Nat) :
    (eraseRange s pulses bad x n).1.fl.op = s.fl.op := by
  induction n generalizing s x with
  | zero => rfl
  | succ n ih =>
    unfold eraseRange
    split
    · simp
    · simp [ih]

theorem eraseRange_good (pulses : Nat) (n : Nat) (s : State) (x : Nat) : (eraseRange s pulses none x n).2 = true := by
  induction n generalizing s x with
  | zero => rfl
  | succ n ih =>
    rw [eraseRange, if_neg (by simp)]
    exact ih ..

/-- A move takes a spare and leaves the data where they are (R495). -/
theorem moveSector_fl {s : State} {x : Nat} (h : sparesOf s (poolOf x) ≠ 0) :
    (moveSector s x).2 = true ∧ (moveSector s x).1.fl.data = s.fl.data ∧ (moveSector s x).1.fl.op = s.fl.op := by
  unfold moveSector
  dsimp only
  rw [if_neg h]
  split
  · exact ⟨rfl, by split <;> simp, by split <;> simp⟩
  · exact ⟨rfl, rfl, rfl⟩

/-! ### The operations: their ends -/

theorem op_of_flDue {s : State} {n : Nat} {o : FlOp} (h : flDue s n = some o) : s.fl.op = some o := by
  unfold flDue at h
  split at h
  next p hp =>
    split at h
    · exact hp.trans h
    · cases h
  · cases h

/-- The operation o stands done with a code. -/
def FlWorked (o : FlOp) (code : Nat) (t : State) : Prop :=
  ∃ q, t.fl.op = some q ∧ q.done = true ∧ q.code = code ∧ q.op = o.op ∧ q.addr = o.addr

theorem flWorked_eq {s : State} {o : FlOp} (h : s.fl.op = some o) (code pulses : Nat) :
    flWorked s code pulses = setFl s { s.fl with op := some { o with done := true, code := code, pulses := pulses } } := by
  rw [flWorked, h]

theorem flWorked_done {s : State} {o : FlOp} (h : s.fl.op = some o) (code pulses : Nat) : FlWorked o code (flWorked s code pulses) := by
  rw [flWorked_eq h]
  exact ⟨_, rfl, rfl, rfl, rfl, rfl⟩

@[simp] theorem flWorked_data (s : State) (code pulses : Nat) : (flWorked s code pulses).fl.data = s.fl.data := by
  unfold flWorked
  split <;> rfl

theorem flWorked_rbit (s : State) (code pulses a i : Nat) : rbit (flWorked s code pulses) a i = rbit s a i := by
  unfold flWorked
  split <;> rfl

theorem flProgram_good {s : State} {o : FlOp} {p : Nat} (hd : flDue s 1 = some o) (hb : blankCheck s o.addr (o.words.length / 64) = true)
    (hu : ∀ i, i < o.words.length / 64 → pageUndef s (o.addr + 256 * i) = false) :
    flProgram s p true = flWorked (setFl (wearProgram s (sectorOf o.addr) p)
      { (wearProgram s (sectorOf o.addr) p).fl with data := tputs (fun _ => 0xFF) s.fl.data o.addr (octetsOf o.words) }) 0 p := by
  have hn : ¬ (List.range (o.words.length / 64)).any (fun i => pageUndef s (o.addr + 256 * i)) = true := by simpa using hu
  unfold flProgram
  rw [hd]
  dsimp only
  rw [if_neg hn, if_neg (by simp [hb]), if_pos rfl, wearProgram_data]

theorem flProgram_notBlank {s : State} {o : FlOp} {p : Nat} (hd : flDue s 1 = some o) (hb : blankCheck s o.addr (o.words.length / 64) = false) :
    ∃ t, t.fl = s.fl ∧ flProgram s p true = flWorked t 1 0 := by
  unfold flProgram
  rw [hd]
  dsimp only
  rw [if_pos (by simp [hb])]
  refine ⟨_, ?_, rfl⟩
  split <;> rfl

/-- The end of an operation clears BUSY and notes its result (R480, R500). -/
theorem flashDone_done {s : State} {o : FlOp} (ho : s.fl.op = some o) (hd : o.done = true) :
    (flashDone s).fl = { s.fl with op := none } ∧ rget (flashDone s) (flA + 0x14) = w32 (packFields [(o.code, 0), (o.op, 3), (o.pulses % 32, 6),
      ((if o.op = 4 then rf s (flA + 0x20 + 4 * o.addr) 10 0 else sectorOf o.addr) % 2048, 11), ((rf s (flA + 0x14) 31 22 + 1) % 1024, 22)]) := by
  unfold flashDone
  rw [ho]
  dsimp only
  rw [if_neg (by simp [hd])]
  constructor
  · split_ifs <;> simp
  · simp only [apply_ite (fun t => rget t (flA + 0x14)), rget_raise, rget_cinc, ite_self, rget_rset, rf, rget_setFl]

theorem flErase_good {s : State} {o : FlOp} {p : Nat} (hd : flDue s 2 = some o) :
    flErase s p true = flWorked (eraseSector s (sectorOf o.addr) p true) 0 p := by
  unfold flErase
  rw [hd]
  rfl

theorem flMove_spare {s : State} {o : FlOp} (hd : flDue s 3 = some o) (hs : sparesOf s (poolOf (sectorOf o.addr)) ≠ 0) :
    flMove s = flWorked (moveSector s (sectorOf o.addr)).1 0 0 := by
  unfold flMove
  rw [hd]
  exact if_pos (moveSector_fl hs).1

/-- A RELEASE whose erases all verify clears its region's EN (R496). -/
theorem flRelease_good {s : State} {o : FlOp} {p : Nat} (hd : flDue s 4 = some o) :
    ∃ t, t.fl.op = s.fl.op ∧ flRelease s p none = flWorked (rsetf t (flA + 0x20 + 4 * o.addr) 31 31 0) 0 p := by
  unfold flRelease
  rw [hd]
  dsimp only
  rw [if_pos (eraseRange_good ..)]
  exact ⟨_, eraseRange_op .., rfl⟩

theorem flashOperations : Claims.FlashOperations := by
  intro s o p done pages hr
  refine ⟨fun hd hb hu => ⟨_, exec_powered hr rfl (flProgram_good hd hb hu), flWorked_done ?program .., flWorked_data ..⟩, fun hd hb => ?notBlank,
    fun hd => ⟨_, exec_powered hr rfl (flErase_good hd), flWorked_done ?erase .., (flWorked_data ..).trans (eraseSector_data ..)⟩, fun hd hs => ?move,
    fun hd => ?release, fun ho hd => ⟨_, exec_powered hr rfl rfl, flashDone_done ho hd⟩, fun ho => exec_powered hr rfl (if_neg (by simp [ho])),
    fun x d ha hl => ?fresh⟩
  case program => simpa using op_of_flDue hd
  case notBlank =>
    obtain ⟨t, ht, he⟩ := flProgram_notBlank (p := p) hd hb
    exact ⟨_, exec_powered hr rfl he, flWorked_done (by rw [ht, op_of_flDue hd]) .., by rw [flWorked_data, ht]⟩
  case erase => simpa using op_of_flDue hd
  case move =>
    obtain ⟨_, hdata, hop⟩ := moveSector_fl hs
    exact ⟨_, exec_powered hr rfl (flMove_spare hd hs), flWorked_done (hop.trans (op_of_flDue hd)) .., (flWorked_data ..).trans hdata⟩
  case release =>
    obtain ⟨t, ht, he⟩ := flRelease_good (p := p) hd
    refine ⟨_, exec_powered hr rfl he, flWorked_done (by simpa [rsetf] using ht.trans (op_of_flDue hd)) .., ?_⟩
    rw [flWorked_rbit, rbit_rsetf _ _ _ (by decide)]
    rfl
  case fresh => rw [refreshSector, ha, if_pos (by simp [hl])]

/-- Settles O36, by `flashSequence` and `flashOperations`. -/
theorem flash : Obligations.Flash := ⟨flashSequence, flashOperations⟩

end Sys2Proof.Proofs
end

section
/-! The tag: its exchange with a reader, the commands of a session, and the writes of its records (R589 to R610). -/

namespace Sys2Proof.Proofs

open Sys2Proof Sys2Proof.Machine Sys2Proof.Safety

/-! ### The exchange -/

/-- A handle drawn changes no more of the tag than the handle and its source's state. -/
theorem drawHandle_tag (s : State) (good : Bool) : ∃ u d, (drawHandle s good).tag = { s.tag with uid := u, degraded := d } := by
  unfold drawHandle ownHandle
  split
  · exact ⟨_, _, rfl⟩
  · split
    · exact ⟨_, _, tagNote_tag ..⟩
    · exact ⟨_, _, tagNote_tag ..⟩

/-- A wrong frame takes READY and ACTIVE back to IDLE (R593, R608). -/
theorem tagError_selected {s : State} (good : Bool) (h : s.tag.iso = .ready ∨ s.tag.iso = .active) :
    ∃ u d, (tagError s good).tag = { s.tag with iso := .idle, l4 := false, hello := false, uid := u, degraded := d } := by
  unfold tagError
  rw [if_pos (by simpa using h)]
  obtain ⟨u, d, hd⟩ := drawHandle_tag (setTagSt (tagNote s 174 0x830 [])
    { (tagNote s 174 0x830 []).tag with iso := .idle, l4 := false, hello := false }) good
  exact ⟨u, d, by rw [hd]; simp⟩

theorem tagError_quiet {s : State} (good : Bool) (hr : s.tag.iso ≠ .ready) (ha : s.tag.iso ≠ .active) : (tagError s good).tag = s.tag := by
  unfold tagError
  rw [if_neg (by simp [hr, ha]), tagNote_tag]

theorem tagReady_tag (s : State) : ∃ u, (tagReady s).tag = { s.tag with iso := .ready, uid := u } ∧ (s.tag.uid.isSome = true → u = s.tag.uid) := by
  unfold tagReady lateHandle
  split
  next h => exact ⟨_, rfl, fun hs => by simp [Option.isNone_iff_eq_none.mp h] at hs⟩
  next => exact ⟨_, rfl, fun _ => rfl⟩

section
variable {s : State} (own : Bool) (hf : s.tag.field = true)
include hf

theorem fieldCollapse_powered (done : Bool) (hm : mainOn s = true) : exec (.fieldCollapse done) s = .next (tagDrop s) := exec_ok rfl (by simp [hf, hm])
theorem fieldCollapse_off (done : Bool) (hm : mainOn s = false) : exec (.fieldCollapse done) s = .next (tagOff s done) := exec_ok rfl (by simp [hf, hm])

theorem wupa_quiet (hi : s.tag.iso = .idle ∨ s.tag.iso = .halt) : exec (.wupa own) s = .next (tagReady s) :=
  exec_ok rfl (by rcases hi with hi | hi <;> simp [hf, hi])

theorem anticollision_fits {n : Fin 33} {v : BitVec 32} (hi : s.tag.iso = .ready) (hu : leNat (tagUid s) % 2 ^ n.val = v.toNat % 2 ^ n.val) :
    exec (.anticollision n v own) s = .next (tagAnswer s ((tagUid s ++ [tagBcc (tagUid s)]).drop (n.val / 8))) := exec_ok rfl (by simp [hf, hi, hu])

theorem hlta_active (hi : s.tag.iso = .active) (hl : s.tag.l4 = false) : exec (.hlta own) s = .next (setTagSt s { s.tag with iso := .halt }) :=
  exec_ok rfl (by simp [hf, hi, hl])

theorem rats_active (fsdi : Fin 16) (hi : s.tag.iso = .active) (hl : s.tag.l4 = false) : exec (.rats fsdi own) s =
    .next (tagAnswer (setTagSt s { s.tag with l4 := true, hello := false, stage := [], fsd := fsdOf fsdi }) [0x05, 0x75, 0x00, 0x80, 0x00]) :=
  exec_ok rfl (by simp [hf, hi, hl])

theorem pps_session (hl : s.tag.l4 = true) : exec (.pps own) s = .next (tagAnswer s [0xD0]) := exec_ok rfl (by simp [hf, hl])

theorem sDeselect_session (hl : s.tag.l4 = true) :
    exec (.sDeselect own) s = .next (tagAnswer (setTagSt s { s.tag with iso := .halt, l4 := false, hello := false }) [0xC2]) :=
  exec_ok rfl (by simp [hf, hl])

end

theorem tagExchange : Claims.TagExchange := by
  intro s strong own done n v fsdi
  dsimp only
  refine ⟨⟨_, rfl, ?rise⟩, fun hf hm => ⟨_, fieldCollapse_powered hf done hm, rfl⟩, fun hf hm => ⟨_, fieldCollapse_off hf done hm, rfl, rfl, rfl⟩,
    fun hf hi => ⟨_, reqa_idle own hf hi, ?reqa⟩, fun hi => exec_ok rfl (by simp [hi]), fun hf hi => ⟨_, wupa_quiet own hf hi, ?wupa⟩,
    fun hf hi hu => anticollision_fits own hf hi hu, fun hf hi hu => ⟨_, select_ready own hf hi hu, by simp, by simp⟩,
    fun hf hi hl => ⟨_, hlta_active own hf hi hl, rfl, rfl⟩, fun hf hi hl => ⟨_, rats_active own hf fsdi hi hl, rfl, rfl⟩,
    fun hf hl => ⟨_, pps_session own hf hl, rfl, rfl⟩, fun hf hl => ⟨_, sDeselect_session own hf hl, rfl, rfl⟩,
    fun hf hi => ⟨_, exec_ok rfl (if_pos hf), ?error⟩, fun hf hr ha => ⟨_, exec_ok rfl (if_pos hf), tagError_quiet own hr ha⟩,
    fun hl hw => exec_ok rfl (if_pos (by simp [hl, hw]))⟩
  case rise =>
    obtain ⟨u, d, hd⟩ := drawHandle_tag (setTagSt (tagDrop s) { (tagDrop s).tag with field := true, strong := strong }) own
    refine ⟨?_, ?_, ?_, ?_, ?_, ?_, fun h => ?uid⟩
    case uid =>
      obtain ⟨u, hu, _⟩ := drawHandle_uid (setTagSt (tagDrop s) { (tagDrop s).tag with field := true, strong := strong })
      rw [h, fieldRise, hu]
      rfl
    all_goals
      rw [fieldRise, hd]
      rfl
  case reqa =>
    obtain ⟨u, ht, hu⟩ := tagReady_tag s
    exact ⟨by rw [ht], tagReady_sent s, fun h => by rw [ht, hu h]⟩
  case wupa =>
    obtain ⟨u, ht, _⟩ := tagReady_tag s
    exact ⟨by rw [ht], tagReady_sent s⟩
  case error =>
    obtain ⟨u, d, ht⟩ := tagError_selected own hi
    exact ⟨by rw [ht], by rw [ht], by rw [ht]⟩

/-! ### Commands of a session -/

theorem tagCmd_open {s : State} (hl : s.tag.l4 = true) (hh : s.tag.hello = true) (body : State → State) : tagCmd s body = body s := by
  simp [tagCmd, hl, hh]

theorem tagCmd_early {s : State} (hl : s.tag.l4 = true) (hh : s.tag.hello = false) (body : State → State) : tagCmd s body = tagWrong s 1 := by
  simp [tagCmd, hl, hh]

theorem readerWrite_taken {s : State} {kind : Nat} {a : TagAsk} (hc : (tagPayload s 2).head? ≠ some 5) (hm : mainOn s = true ∨ s.tag.strong = true) :
    readerWrite s kind a = tagQueue s { kind := kind, ask := a, who := .reader } := by
  rw [readerWrite, if_neg hc, if_neg (by rcases hm with h | h <;> simp [h])]

theorem length_octetsAt (l : List Byte) (i n : Nat) : (octetsAt l i n).length = n := by
  simp [octetsAt]

/-- A summary with LIVE clear (R606). -/
def liveCleared (l : List Byte) : List Byte := putOctets l 2 (leBytes 1 ((nth l 2 0).toNat / 8 * 8 + (nth l 2 0).toNat % 4 + 4 * 0))

theorem liveCleared_spec {l : List Byte} (h : 3 ≤ l.length) :
    (liveCleared l).take 2 = l.take 2 ∧ (liveCleared l).drop 3 = l.drop 3 ∧ (nth (liveCleared l) 2 0).toNat / 4 % 2 = 0 := by
  obtain ⟨a, b, c, r, rfl⟩ : ∃ a b c r, l = a :: b :: c :: r := by
    match l, h with
    | a :: b :: c :: r, _ => exact ⟨a, b, c, r, rfl⟩
  have hp : liveCleared (a :: b :: c :: r) = a :: b :: BitVec.ofNat 8 (c.toNat / 8 * 8 + c.toNat % 4) :: r := by
    simp [liveCleared, putOctets, leBytes, nth]
  rw [hp]
  refine ⟨rfl, rfl, ?_⟩
  have hc := c.isLt
  simp [nth]
  omega

theorem tagCommands : Claims.TagCommands := by
  intro s v c amount len off n data crc
  dsimp only
  intro hl
  have hello {i : Instr} {body : State → State} {t : State} (hh : s.tag.hello = true) (he : exec i s = ok (tagCmd s body)) (ht : body s = t) :
      exec i s = .next t := exec_ok he ((tagCmd_open hl hh body).trans ht)
  refine ⟨fun hv => exec_ok rfl (by rw [if_neg (by simp [hl]), if_neg (by simpa using hv)]; rfl),
    fun hv => exec_ok rfl (by rw [if_neg (by simp [hl]), if_pos hv]; rfl), fun hh => ⟨_, exec_ok rfl (tagCmd_early hl hh _), ?early⟩,
    fun hh => ⟨hello hh rfl rfl, fun hv hn => hello hh rfl ?absent, fun hv hn => ⟨liveCleared (tagPayload s 3), hello hh rfl ?stored, liveCleared_spec ?length⟩,
      hello hh rfl rfl, fun h4 h16 ha hb hc hm => hello hh rfl ?inc, fun h4 h16 ha hb => hello hh rfl ?wrap, fun ho h0 h56 => hello hh rfl ?read,
      fun h0 h56 ho => hello hh rfl ?stage, fun hn hc hs hm => hello hh rfl ?commit, fun hn hc => hello hh rfl ?crc⟩⟩
  case early => exact ⟨by simp [tagWrong, tagReply], by simp [tagWrong, tagReply, leBytes]⟩
  case absent => rw [if_neg (by simp [hv]), if_pos hn]; rfl
  case stored => rw [if_neg (by simp [hv]), if_neg (by simp [hn])]; rfl
  case length => rw [tagPayload, length_octetsAt]; decide
  case inc => rw [if_neg (by omega), if_pos hb, readerWrite_taken hc hm]
  case wrap => rw [if_neg (by omega), if_neg (by omega)]; rfl
  case read => rw [if_neg (by omega)]; rfl
  case stage => rw [if_neg (by omega)]; rfl
  case commit => rw [if_neg (by omega), if_neg (by simpa using hc), readerWrite_taken hs hm]
  case crc => rw [if_neg (by omega), if_pos hc]; rfl

/-- Settles O41, by `tagExchange` and `tagCommands`. -/
theorem tagSession : Obligations.TagSession := ⟨tagExchange, tagCommands⟩

/-! ### Writes of records -/

@[simp] theorem tagRec_setTagSt (s : State) (x : TagSt) (k : Nat) : tagRec (setTagSt s x) k = tget (fun _ => {}) x.nvm k := rfl

theorem tagRec_setCopy (s : State) (k : Nat) (primary : Bool) (c : TagCopy) :
    tagRec (setCopy s k primary c) k = if primary then { tagRec s k with p := c } else { tagRec s k with b := c } := tget_tput ..

@[simp] theorem setCopy_writes (s : State) (k : Nat) (primary : Bool) (c : TagCopy) : (setCopy s k primary c).tag.writes = s.tag.writes := rfl

theorem tagEnter_writes (s : State) (w : TagWrite) :
    (tagEnter s w).tag.writes = { w with page := 0, failed := false } :: s.tag.writes.tail := rfl

theorem tagRec_tagEnter (s : State) (w : TagWrite) : tagRec (tagEnter s w) w.kind =
    if onPrimary w.step then { tagRec s w.kind with p := {} } else { tagRec s w.kind with b := {} } := tagRec_setCopy ..

/-- A write of a record whose copies agree begins with copy B (R602). -/
theorem tagBegin_agreed {s : State} {w : TagWrite} (hb : (tagRec s w.kind).b.valid = true) (hp : (tagRec s w.kind).p.valid = true)
    (hq : (tagRec s w.kind).b.seq = (tagRec s w.kind).p.seq) :
    tagBegin s w = tagEnter s { w with step := .writeB, copy := newCopy s w.kind w.ask } := by
  have hv : tagValue (tagRec s w.kind) ≠ none := by simp [tagValue, hb, hp]
  unfold tagBegin
  dsimp only
  rw [if_pos (by simp [hb, hp, hq]), if_neg (by simp [hv])]

theorem tagQueue_idle {s : State} (w : TagWrite) (h : s.tag.writes = []) : tagQueue s w = tagBegin (setTagSt s { s.tag with writes := [w] }) w := by
  simp [tagQueue, h]

theorem tagQueue_busy {s : State} {v : TagWrite} {r : List TagWrite} (w : TagWrite) (h : s.tag.writes = v :: r) :
    tagQueue s w = setTagSt s { s.tag with writes := v :: r ++ [w] } := by
  simp [tagQueue, h]

section
variable {s : State} {w : TagWrite} {r : List TagWrite} (h : s.tag.writes = w :: r)
include h

theorem pageWritten_next (hp : w.page + 1 < tagPages w.kind) :
    pageWritten s true = setTagSt s { s.tag with writes := { w with page := w.page + 1, failed := false } :: r } := by
  rw [pageWritten, h]
  exact if_pos hp

theorem pageWritten_last (hp : tagPages w.kind ≤ w.page + 1) : pageWritten s true = tagCopyDone s w := by
  rw [pageWritten, h]
  exact if_neg (not_lt.mpr hp)

theorem pageWritten_again (hf : w.failed = false) : pageWritten s false = setTagSt s { s.tag with writes := { w with failed := true } :: r } := by
  rw [pageWritten, h]
  exact if_neg (ne_true_of_eq_false hf)

theorem pageWritten_failed (hf : w.failed = true) :
    pageWritten s false = tagEnd (tagNote s 172 0x820 [tagPage w.kind (onPrimary w.step) + w.page]) w false := by
  rw [pageWritten, h]
  exact if_pos hf

end

/-- The end of the only write leaves none. -/
theorem tagNext_last {s : State} {w : TagWrite} (h : s.tag.writes = [w]) : tagNext s = setTagSt s { s.tag with writes := [] } := by
  simp [tagNext, h]

/-- What the end of the only write leaves once its result is told. -/
theorem tagNext_seen {u : State} {w : TagWrite} (h : u.tag.writes = [w]) (noted : Bool) (seen : Tbl Nat) :
    let t := tagNext (if noted then setTagSt u { u.tag with seen := seen } else u)
    t.tag.writes = [] ∧ t.tag.code = u.tag.code ∧ t.tag.kind = u.tag.kind ∧ t.tag.nvm = u.tag.nvm ∧ t.sent = u.sent := by
  dsimp only
  split
  · rw [tagNext_last (w := w) (by simpa using h)]
    exact ⟨rfl, rfl, rfl, rfl, rfl⟩
  · rw [tagNext_last h]
    exact ⟨rfl, rfl, rfl, rfl, rfl⟩

/-- The only write, of the device, ends with its result in TG_RES (R608, R610). -/
theorem tagEnd_device {s : State} {w : TagWrite} (h : s.tag.writes = [w]) (hw : w.who = .device) (good : Bool) :
    (tagEnd s w good).tag.writes = [] ∧ (tagEnd s w good).tag.code = (if good then 0 else 1) ∧ (tagEnd s w good).tag.kind = w.kind ∧
    (tagEnd s w good).tag.nvm = s.tag.nvm := by
  unfold tagEnd
  dsimp only
  rw [hw]
  dsimp only
  generalize hs : setTagSt s _ = s1
  generalize hu : (if runs s1 then _ else _ : State) = u
  have ht : u.tag.writes = [w] ∧ u.tag.code = (if good then 0 else 1) ∧ u.tag.kind = w.kind ∧ u.tag.nvm = s.tag.nvm := by
    subst hu
    split
    all_goals
      subst hs
      simp [h]
  obtain ⟨h1, hcode, hkind, hnvm⟩ := ht
  obtain ⟨hw', hcode', hkind', hnvm', _⟩ := tagNext_seen h1 (good && runs u) (tput (fun _ => 0) u.tag.seen w.kind w.copy.seq)
  exact ⟨hw', hcode'.trans hcode, hkind'.trans hkind, hnvm'.trans hnvm⟩

/-- The only write, of a reader in its session, ends with the reply (R604). -/
theorem tagEnd_reader {s : State} {w : TagWrite} (h : s.tag.writes = [w]) (hw : w.who = .reader) (hl : s.tag.l4 = true) :
    (tagEnd s w true).tag.writes = [] ∧ (tagEnd s w true).tag.nvm = s.tag.nvm ∧
    (tagEnd s w true).sent.getLast? = some (.answer 2 (leBytes 1 0 ++ wroteValue w)) := by
  unfold tagEnd
  dsimp only
  rw [hw]
  simp only [ite_true, tagNote_tag, hl, tagReply]
  generalize hu : tagAnswer _ _ = u
  have ht : u.tag = s.tag ∧ u.sent.getLast? = some (.answer 2 (leBytes 1 0 ++ wroteValue w)) := by
    subst hu
    simp
  obtain ⟨htag, hsent⟩ := ht
  obtain ⟨hw', _, _, hnvm', hsent'⟩ := tagNext_seen (htag ▸ h) (true && runs u) (tput (fun _ => 0) u.tag.seen w.kind w.copy.seq)
  exact ⟨hw', by rw [hnvm', htag], by rw [hsent', hsent]⟩

/-- The second copy's last page ends the write, the first one's begins the second copy (R602). -/
theorem tagCopyDone_writeB {s : State} {w : TagWrite} (h : w.step = .writeB) :
    tagCopyDone s w = tagEnter (setCopy s w.kind false w.copy) { w with step := .writeP } := by
  rw [tagCopyDone, h]
  rfl

theorem tagCopyDone_writeP {s : State} {w : TagWrite} (h : w.step = .writeP) : tagCopyDone s w = tagEnd (setCopy s w.kind true w.copy) w true := by
  rw [tagCopyDone, h]
  rfl

theorem tagRec_of_nvm {s t : State} (h : t.tag.nvm = s.tag.nvm) (k : Nat) : tagRec t k = tagRec s k := by rw [tagRec, h]; rfl

/-! ### TG_CMD -/

@[simp] theorem rsets_tag (l : List W32) (s : State) (a : Nat) : (rsets s a l).tag = s.tag := by
  induction l generalizing s a with
  | nil => rfl
  | cons w l ih => exact (ih _ _).trans rfl

theorem tgWrite_taken {s : State} {kind : Fin 8} (hr : runs s = true) (hw : s.tag.writes = [])
    (hk : kind.val = 3 ∨ kind.val = 5 ∨ ((kind.val = 1 ∨ kind.val = 2) ∧ s.pw.step < 10)) :
    exec (.tgWrite kind) s = .next (tagQueue s { kind := kind, ask := .payload (octetsOf (rgets s (tgA + 0x400) 272)), who := .device }) := by
  refine exec_ok rfl ?_
  rw [if_neg (by simp [hr]), if_neg, tagDevice]
  simp [tgBad, hw]
  omega

theorem tgRead_taken {s : State} {kind : Fin 8} (hr : runs s = true) (hw : s.tag.writes = []) (h1 : 1 ≤ kind.val) (h5 : kind.val ≤ 5) :
    Yields (.tgRead kind) s fun t =>
      t.tag = { s.tag with code := if (tagValue (tagRec s kind)).isNone then 2 else 0, repaired := false, kind := kind.val } := by
  refine ⟨_, exec_ok rfl ((if_neg (by simp [hr])).trans (if_neg ?_)), ?_⟩
  · simp [tgBad, hw]
    omega
  · generalize hu : (if (tagValue (tagRec s kind)).isNone then raise s 171 [kind.val] else s) = u
    have ht : u.tag = s.tag := by
      subst hu
      split <;> simp
    simp only [setTagSt_tag, tagRec, rsets_tag, ht]
    congr

/-- Settles O42: each page's completion is one of the cases of `pageWritten`, and the commands queue or read as `tagQueue` and `tgRead_taken` say. -/
theorem tagWrites : Obligations.TagWrites := by
  intro s w r kind c
  dsimp only
  refine ⟨fun h hb hp hq => ?begin, fun h => tagQueue_busy w h, fun h hp => ⟨_, exec_ok rfl (pageWritten_next h hp), rfl⟩,
    fun h hf => ⟨_, exec_ok rfl (pageWritten_again h hf), rfl⟩, fun h hf hw => ⟨_, exec_ok rfl (pageWritten_failed h hf), ?failed⟩,
    fun h hp hs => ⟨_, exec_ok rfl ((pageWritten_last h hp).trans (tagCopyDone_writeB hs)), ?copyB⟩,
    fun h hp hs hw => ⟨_, exec_ok rfl ((pageWritten_last h hp).trans (tagCopyDone_writeP hs)), ?device⟩,
    fun h hp hs hw hl => ⟨_, exec_ok rfl ((pageWritten_last h hp).trans (tagCopyDone_writeP hs)), ?reader⟩,
    fun hr hw hk => tgWrite_taken hr hw hk, fun hr hw => exec_ok rfl (by rw [if_neg (by simp [hr]), if_neg (by simp [hw])]; rfl), fun hr hw h1 h5 => tgRead_taken hr hw h1 h5⟩
  case begin =>
    rw [tagQueue_idle w h, tagBegin_agreed (s := setTagSt s { s.tag with writes := [w] }) hb hp hq]
    exact ⟨rfl, tagRec_tagEnter ..⟩
  case failed =>
    obtain ⟨hwr, hcode, hkind, hnvm⟩ := tagEnd_device (s := tagNote s 172 0x820 [tagPage w.kind (onPrimary w.step) + w.page]) (by simpa using h) hw false
    exact ⟨hwr, hcode, hkind, by simpa using hnvm⟩
  case copyB =>
    refine ⟨(tagRec_tagEnter _ { w with step := .writeP }).trans ?_, ?_⟩
    · simp [onPrimary, tagRec_setCopy]
    · rw [tagEnter_writes, setCopy_writes, h]
      rfl
  case device =>
    obtain ⟨hwr, hcode, hkind, hnvm⟩ := tagEnd_device (s := setCopy s w.kind true w.copy) h hw true
    exact ⟨(tagRec_of_nvm hnvm _).trans (tagRec_setCopy ..), hwr, hcode, hkind⟩
  case reader =>
    obtain ⟨hwr, hnvm, hsent⟩ := tagEnd_reader (s := setCopy s w.kind true w.copy) h hw hl
    exact ⟨(tagRec_of_nvm hnvm _).trans (tagRec_setCopy ..), hwr, hsent⟩

end Sys2Proof.Proofs
end

section
/-! What the end of a service or of a script leaves as it was (R276, R280): the custody slot, the life cycle, power, minutes, the tamper part, flash, the
random source, the key handles and the clock of the orders. -/

namespace Sys2Proof.Proofs

open Sys2Proof Sys2Proof.Machine Sys2Proof.Safety

/-- The parts of a state that no end of a service or of a script touches. -/
def callView (s : State) : CsSt × LcSt × PwSt × MtSt × TmSt × UpdSt × FlSt × RngSt × Nat × Tbl KeyRec × Bool :=
  (s.cs, s.lc, s.pw, s.mt, s.tm, s.upd, s.fl, s.rng, s.level, s.ord.keys, s.ord.paused)

section
variable {s t : State} (h : callView t = callView s)
include h

theorem cs_of_callView : t.cs = s.cs := congrArg (·.1) h
theorem lc_of_callView : t.lc = s.lc := congrArg (·.2.1) h
theorem pw_of_callView : t.pw = s.pw := congrArg (·.2.2.1) h
theorem mt_of_callView : t.mt = s.mt := congrArg (·.2.2.2.1) h
theorem tm_of_callView : t.tm = s.tm := congrArg (·.2.2.2.2.1) h
theorem upd_of_callView : t.upd = s.upd := congrArg (·.2.2.2.2.2.1) h
theorem fl_of_callView : t.fl = s.fl := congrArg (·.2.2.2.2.2.2.1) h
theorem rng_of_callView : t.rng = s.rng := congrArg (·.2.2.2.2.2.2.2.1) h
theorem level_of_callView : t.level = s.level := congrArg (·.2.2.2.2.2.2.2.2.1) h
theorem keys_of_callView : t.ord.keys = s.ord.keys := congrArg (·.2.2.2.2.2.2.2.2.2.1) h
theorem paused_of_callView : t.ord.paused = s.ord.paused := congrArg (·.2.2.2.2.2.2.2.2.2.2) h

theorem keyOf_of_callView (n : Nat) : keyOf t n = keyOf s n := by simp only [keyOf, keys_of_callView h]

end

@[simp] theorem callView_ite (c : Prop) [Decidable c] (s t : State) : callView (if c then s else t) = if c then callView s else callView t := apply_ite ..

@[simp] theorem callView_foldl {α : Type} {g : State → α → State} (hg : ∀ s a, callView (g s a) = callView s) (l : List α) (s : State) :
    callView (l.foldl g s) = callView s := foldl_keeps hg l s

/-! ### The operations that an end is made of -/

@[simp] theorem callView_rset (s : State) (a : Nat) (v : W32) : callView (rset s a v) = callView s := rfl
@[simp] theorem callView_rsetf (s : State) (a m l v : Nat) : callView (rsetf s a m l v) = callView s := rfl

@[simp] theorem callView_rsets (s : State) (a : Nat) (l : List W32) : callView (rsets s a l) = callView s := by
  induction l generalizing s a with
  | nil => rfl
  | cons w l ih => rw [rsets, ih, callView_rset]

@[simp] theorem rsets_cs (s : State) (a : Nat) (l : List W32) : (rsets s a l).cs = s.cs := cs_of_callView (callView_rsets s a l)

@[simp] theorem callView_cadd (s : State) (a n : Nat) : callView (cadd s a n) = callView s := rfl
@[simp] theorem callView_cinc (s : State) (a : Nat) : callView (cinc s a) = callView s := rfl
@[simp] theorem callView_freed (s : State) : callView (freed s) = callView s := rfl
@[simp] theorem callView_setHart (s : State) (h : Nat) (x : Hart) : callView (setHart s h x) = callView s := rfl
@[simp] theorem callView_setLi (s : State) (x : LiSt) : callView (setLi s x) = callView s := rfl
@[simp] theorem callView_setJobs (s : State) (l : List Job) : callView (setJobs s l) = callView s := rfl
@[simp] theorem callView_modJob (s : State) (i : Nat) (g : Job → Job) : callView (modJob s i g) = callView s := rfl
@[simp] theorem callView_modFn (s : State) (f : Nat) (g : FnSt → FnSt) : callView (modFn s f g) = callView s := rfl
@[simp] theorem callView_raiseEv (s : State) (src code : Nat) (data : List Nat) : callView (raiseEv s src code data) = callView s := by simp [callView]
@[simp] theorem callView_raise (s : State) (src : Nat) (data : List Nat) : callView (raise s src data) = callView s := by simp [callView]
@[simp] theorem callView_memWrite (s : State) (a : Nat) (l : List Byte) : callView (memWrite s a l) = callView s := by simp [callView]
@[simp] theorem callView_scratchWrite (s : State) (j : Job) (off : Nat) (l : List Byte) : callView (scratchWrite s j off l) = callView s := by
  simp [scratchWrite]

@[simp] theorem callView_releaseHart (s : State) (h : Nat) : callView (releaseHart s h) = callView s := by simp [releaseHart]
@[simp] theorem callView_setTags (s : State) (g n v : Nat) : callView (setTags s g n v) = callView s := by
  rw [setTags_eq]
  exact callView_foldl (fun t j => by simp [callView]) _ _

@[simp] theorem callView_wipeSandbox (s : State) (k : Nat) : callView (wipeSandbox s k) = callView s := by
  have wiped (t : State) (g n v : Nat) : callView (wipeTags t g n v) = callView t :=
    (callView_setTags (memZero t (0x20000000 + 64 * g) (64 * n)) g n v).trans (by simp [callView])
  rw [wipeSandbox, callView_cadd, wiped, wiped]

@[simp] theorem callView_setLiJob (s : State) (j : Nat) (x : LiJob) : callView (setLiJob s j x) = callView s := rfl
@[simp] theorem callView_ctxWatch (s : State) : callView (ctxWatch s) = callView s := rfl

@[simp] theorem callView_liRun (s : State) (j : Nat) : callView (liRun s j) = callView s := by
  unfold liRun
  dsimp only
  split <;> simp

@[simp] theorem callView_liSelect (s : State) : callView (liSelect s) = callView s := by
  unfold liSelect
  repeat' split
  all_goals simp

@[simp] theorem callView_liKick (s : State) : callView (liKick s) = callView s := by simp [liKick]
@[simp] theorem callView_liEnd (s : State) (j status : Nat) : callView (liEnd s j status) = callView s := by simp [liEnd]
@[simp] theorem callView_liWithdraw (s : State) (p : LiJob → Bool) : callView (liWithdraw s p) = callView s := by simp [liWithdraw]
@[simp] theorem callView_withdrawLi (s : State) (i : Nat) : callView (withdrawLi s i) = callView s := by simp [withdrawLi]

@[simp] theorem callView_dropJob (s : State) (j : Job) : callView (dropJob s j) = callView s := by
  unfold dropJob
  dsimp only
  rw [callView_setJobs]
  cases j.sandbox <;> cases j.stage <;> simp

@[simp] theorem callView_joinMembers (s : State) (old : List Nat) : callView (joinMembers s old) = callView s := by
  refine callView_foldl (fun t f => ?_) _ _
  dsimp only
  split <;> simp

@[simp] theorem callView_complete (s : State) (f : Nat) (c : Compl) : callView (complete s f c) = callView s := by simp [complete]
@[simp] theorem callView_completeRaw (s : State) (f : Nat) (r : RawEntry) (status : Nat) : callView (completeRaw s f r status) = callView s := by
  simp [completeRaw]

/-! ### The ends -/

@[simp] theorem callView_endJob (s : State) (j : Job) (status cause : Nat) (result : List Byte) :
    callView (endJob s j status cause result) = callView s := by simp [endJob]

@[simp] theorem callView_endTimeout (s : State) (j : Job) : callView (endTimeout s j) = callView s := by simp [endTimeout]
@[simp] theorem callView_notNowEv (s : State) (f tag n : Nat) : callView (notNowEv s f tag n) = callView s := by simp [notNowEv]

@[simp] theorem callView_svcReturn (s : State) (h status : Nat) (res : List Nat) : callView (svcReturn s h status res) = callView s := by
  have counted (t : State) (n : Nat) : callView { t with freeCtr := n } = callView t := rfl
  unfold svcReturn
  dsimp only
  rw [counted, callView_setHart]
  split <;> simp

/-- A service that returns changes harts, orders, events and counters. -/
@[simp] theorem callView_svcRet (s : State) (h status : Nat) (res : List Nat) : callView (svcRet s h status res) = callView s := by
  have counted (t : State) (n : Nat) : callView { t with freeCtr := n } = callView t := rfl
  unfold svcRet
  split <;> simp [counted]

/-! ### Power of the custody slot's card -/

@[simp] theorem csPower_liRun (s : State) (j : Nat) : rget (liRun s j) csA = rget s csA := by
  unfold liRun
  dsimp only
  split
  · exact rget_rset_ne _ _ (by decide)
  · rfl

@[simp] theorem csPower_liSelect (s : State) : rget (liSelect s) csA = rget s csA := by
  unfold liSelect
  repeat' split
  all_goals simp
  all_goals rfl

@[simp] theorem csPower_liWithdraw (s : State) (p : LiJob → Bool) : rget (liWithdraw s p) csA = rget s csA := by
  have ended (t : State) (j : Nat) : rget (liEnd t j 4) csA = rget t csA := by
    unfold liEnd
    dsimp only
    split_ifs <;> simp_all <;> rfl
  have kicked (t : State) : rget (liKick t) csA = rget t csA := by
    unfold liKick
    split <;> simp
  unfold liWithdraw
  dsimp only
  split
  · rfl
  · rw [kicked]
    exact foldl_keeps (v := fun t => rget t csA) ended _ s

@[simp] theorem csPower_wipeSandbox (s : State) (k : Nat) : rget (wipeSandbox s k) csA = rget s csA := by
  have tags (t : State) (g n v : Nat) : rget (setTags t g n v) csA = rget t csA := by
    rw [setTags_eq]
    exact foldl_keeps (v := fun t => rget t csA) (fun t j => rget_setTag t j v csA) _ t
  have wiped (t : State) (g n v : Nat) : rget (wipeTags t g n v) csA = rget t csA := tags _ g n v
  rw [wipeSandbox, rget_cadd, wiped, wiped]

theorem csPower_dropJob (s : State) (j : Job) (h : Fin 8) (hj : j.stage = .running h) : rget (dropJob s j) csA = rget s csA := by
  have released : rget (releaseHart s h) csA = rget s csA := by
    have hne (o : Nat) (ho : o ≤ 0x200) : csA ≠ mpA h + o := by
      have : csA = 0x300D0000 := rfl
      unfold mpA
      omega
    simp only [releaseHart, rsetf]
    rw [rget_rset_ne _ _ (hne 0x200 (by omega)), rget_rset_ne _ _ (hne 0x18 (by omega)), rget_rset_ne _ _ (hne 8 (by omega)), rget_setHart]
  unfold dropJob
  dsimp only
  rw [hj, rget_setJobs]
  cases j.sandbox <;> simp [withdrawLi, released]

theorem csPower_endJob (s : State) (j : Job) (h : Fin 8) (hj : j.stage = .running h) (status cause : Nat) (result : List Byte) :
    rget (endJob s j status cause result) csA = rget s csA := by
  have joined (t : State) (old : List Nat) : rget (joinMembers t old) csA = rget t csA := by
    refine foldl_keeps (v := fun t => rget t csA) (fun t f => ?_) _ t
    dsimp only
    split <;> rfl
  unfold endJob
  dsimp only
  split_ifs <;> simp [complete, joined, csPower_dropJob _ j h hj]

/-- A return of the service of a job that runs on hart h leaves the card's power as it was. -/
theorem csPower_svcRet {s : State} {j : Job} (h : Fin 8) (hj : (hartOf s h).job.bind (jobOf s) = some j) (hr : j.stage = .running h) (status : Nat)
    (res : List Nat) : rget (svcRet s h status res) csA = rget s csA := by
  have counted (t : State) (n : Nat) : rget { t with freeCtr := n } csA = rget t csA := rfl
  unfold svcRet svcReturn notNowEv endTimeout
  rw [hj]
  dsimp only
  split
  · split_ifs <;> simp [csPower_endJob _ j h hr, counted]
  · rw [counted, rget_setHart]
    split
    · split_ifs <;> simp [modJob]
    · rfl

end Sys2Proof.Proofs

end

section
/-! The custody card and the SD host (R612 to R617, R631). -/

namespace Sys2Proof.Proofs

open Sys2Proof Sys2Proof.Machine Sys2Proof.Safety

/-! ### The custody program -/

@[simp] theorem sdIssue_cs (s : State) (c : SdCmd) : (sdIssue s c).cs = { s.cs with cmd := some c } := by
  unfold sdIssue
  cases c <;> simp

/-- The program issues the plan's next command once nothing is waited for. -/
theorem csGo_issues {s : State} {c : SdCmd} {r : List SdCmd} (hc : s.cs.cmd = none) (hd : s.cs.dat0 = false) (hp : s.cs.plan = c :: r) :
    csGo s = sdIssue (setCs s { s.cs with plan := r }) c := by
  simp only [csGo, csRun, hc, hd, hp, Option.isSome_none, Bool.or_self, Bool.false_eq_true, if_false]

theorem csGo_issues_cs {s : State} {c : SdCmd} {r : List SdCmd} (hc : s.cs.cmd = none) (hd : s.cs.dat0 = false) (hp : s.cs.plan = c :: r) :
    (csGo s).cs = { s.cs with plan := r, cmd := some c } := by
  rw [csGo_issues hc hd hp, sdIssue_cs]
  rfl

theorem csGo_idle {s : State} (hp : s.cs.plan = []) (hi : s.cs.phase = .idle) : csGo s = s := by
  simp only [csGo, csRun, hp, hi, ite_self]

/-! ### An operation that ends -/

theorem csSettle_cs (s : State) : ∃ ph pl g rt cm, (csSettle s).cs = { s.cs with phase := ph, plan := pl, got := g, retry := rt, cmd := cm } := by
  unfold csSettle
  split
  · exact ⟨_, _, _, _, _, rfl⟩
  · exact ⟨_, _, _, _, _, rfl⟩

/-- An operation that ends may have the journal settled again; the rest of the slot stays. -/
theorem csEnd_cs (s : State) (status : Nat) : ∃ ph pl g rt cm os oc,
    (csEnd s status).cs = { s.cs with op := none, phase := ph, plan := pl, got := g, retry := rt, cmd := cm, opState := os, outcome := oc } := by
  unfold csEnd
  split
  next h => exact ⟨_, _, _, _, _, _, _, by rw [← h]⟩
  next =>
    generalize (if s.cs.phase = .commit then 0 else status) = st
    dsimp only
    split
    · obtain ⟨ph, pl, g, rt, cm, h⟩ := csSettle_cs (raise (setCs s { s.cs with op := none, opState := 2, outcome := st }) 176 [_, _, st])
      exact ⟨ph, pl, g, rt, cm, _, _, h.trans (by rw [raise_cs]; rfl)⟩
    · exact ⟨_, _, _, _, _, _, _, raise_cs ..⟩

/-- Power off ends what was under way; the card and the volume keep what they are known as. -/
theorem csOff_csEnd_cs (s : State) (status : Nat) : ∃ os oc, (csOff (csEnd s status)).cs =
    { s.cs with op := none, opState := os, outcome := oc, cmd := none, dat0 := false, plan := [], phase := .idle, got := [], retry := 0, resume := none, acmd := 0,
                slowed := false, boot := false } := by
  obtain ⟨ph, pl, g, rt, cm, os, oc, h⟩ := csEnd_cs s status
  exact ⟨os, oc, by rw [csOff, setCs_cs, h]⟩

/-- A card that leaves or fails, but in the boot ROM's recovery (R617, R628). -/
theorem cardOut_cs {s : State} (hb : s.cs.boot = false) (card : Nat) :
    (cardOut s card).cs.card = card ∧ (cardOut s card).cs.vol = 0 ∧ (cardOut s card).cs.op = none ∧ (cardOut s card).cs.dat0 = false := by
  unfold cardOut
  dsimp only
  rw [if_neg (ne_true_of_eq_false hb)]
  generalize raise _ _ _ = t
  obtain ⟨os, oc, h⟩ := csOff_csEnd_cs (setCs t { t.cs with card := card, vol := 0 }) 9
  rw [h]
  exact ⟨rfl, rfl, rfl, rfl⟩

theorem cardRemove_cs {s : State} (hc : s.cs.cd = true) (hb : s.cs.boot = false) : (cardRemove s).cs.cd = false ∧ (cardRemove s).cs.card = 0 ∧
    (cardRemove s).cs.vol = 0 ∧ (cardRemove s).cs.op = none ∧ (cardRemove s).cs.cmd = none ∧ (cardRemove s).cs.phase = .idle := by
  unfold cardRemove
  dsimp only
  rw [if_neg (by simp [hc]), if_neg (ne_true_of_eq_false hb)]
  obtain ⟨os, oc, h⟩ := csOff_csEnd_cs (cinc (raise s 177 []) (csA + 0x118)) 11
  rw [setCs_cs, h]
  exact ⟨rfl, rfl, rfl, rfl, rfl, rfl⟩

/-! ### Insertion (R613, R614) -/

theorem cardInsert_unserved {s : State} (wp : Bool) (hc : s.cs.cd = false) (h : runs s = false ∨ s.pw.mode ≠ .service) :
    (cardInsert s wp).cs = { s.cs with cd := true, wp := wp } := by
  unfold cardInsert
  rw [if_neg (ne_true_of_eq_false hc)]
  dsimp only
  split
  · rfl
  next hr =>
    have hm : s.pw.mode ≠ .service := h.resolve_left fun hf => hr (by rw [hf]; rfl)
    rw [if_neg (by simpa using hm), raise_cs, setCs_cs]

theorem goInit_cs (s : State) (k : Nat) : (goInit s k).cs = { s.cs with phase := .init k, plan := [initCmd s k] } := rfl

/-- In SERVICE an insertion has the card initialised: CMD0 leaves first. -/
theorem cardInsert_served {s : State} (wp : Bool) (hc : s.cs.cd = false) (hm : s.pw.mode = .service) (hn : s.cs.cmd = none) (hd : s.cs.dat0 = false) :
    (cardInsert s wp).cs.cd = true ∧ (cardInsert s wp).cs.wp = wp ∧ (cardInsert s wp).cs.card = 1 ∧ (cardInsert s wp).cs.phase = .init 0 ∧
      (cardInsert s wp).cs.cmd = some (.plain 0 0) ∧ (cardInsert s wp).sent.getLast? = some (.sd 0 0 []) := by
  have hr : ¬((!runs s) = true) := by simp [runs, hm]
  unfold cardInsert
  rw [if_neg (ne_true_of_eq_false hc)]
  dsimp only
  rw [if_neg hr, if_pos (by simpa using hm)]
  have hgo : csGo (cardInit (raise (setCs s { s.cs with cd := true, wp := wp }) 177 []) false false) = _ :=
    csGo_issues (c := .plain 0 0) (r := []) (by simp [cardInit, goInit_cs, hn]) (by simp [cardInit, goInit_cs, hd]) (by simp [cardInit, goInit_cs, initCmd])
  rw [hgo, sdIssue_cs]
  refine ⟨?_, ?_, ?_, ?_, rfl, ?_⟩
  case refine_5 => simp [sdIssue, send, w32]
  all_goals simp [cardInit, goInit_cs]

/-! ### Commands that end (R614, R616, R617) -/

section
variable {s : State} (n : Nat) (w : List W32) (l : List Byte)

/-- A command without data that hart code has sent ends with its code and response. -/
theorem sdComplete_raw {i rsp code : Nat} (hc : s.cs.cmd = some (.raw i rsp false false)) (hr : rsp ≠ 2) (ha : code ≠ 10) (hp : s.cs.plan = [])
    (hi : s.cs.phase = .idle) : (sdComplete s code n w l).cs = { s.cs with cmd := none, code := code, done := n, resp := w.take 4 } := by
  unfold sdComplete
  rw [hc]
  dsimp only
  rw [if_neg ha, if_neg (show ¬((false : Bool) = true) from nofun), if_neg (by simp [hr]), csGo_idle (by exact hp) (by exact hi)]
  rfl

/-- CMD0 answered: CMD8 follows. -/
theorem sdComplete_initial (hc : s.cs.cmd = some (.plain 0 0)) (hi : s.cs.phase = .init 0) (hd : s.cs.dat0 = false) :
    (sdComplete s 0 n w l).cs.phase = .init 1 ∧ (sdComplete s 0 n w l).cs.cmd = some (.plain 8 0x1AA) := by
  unfold sdComplete
  rw [hc]
  dsimp only
  rw [if_neg (by decide), if_pos rfl]
  unfold sdGood
  simp only [setCs_cs, hi]
  rw [initGood, csGo_issues_cs (c := .plain 8 0x1AA) (r := []) rfl (by exact hd) rfl]
  exact ⟨rfl, rfl⟩

/-- Blocks read join those read before, and the plan goes on. -/
theorem sdComplete_read {lba k : Nat} {c : SdCmd} {r : List SdCmd} (hc : s.cs.cmd = some (.read lba k))
    (hi : s.cs.phase = .fetch ∨ s.cs.phase = .supers ∨ s.cs.phase = .dirs) (hd : s.cs.dat0 = false) (hp : s.cs.plan = c :: r) :
    (sdComplete s 0 n w l).cs = { s.cs with code := 0, done := n, resp := w.take 4, retry := 0, got := s.cs.got ++ octetsAt l 0 (512 * k), plan := r, cmd := some c } := by
  unfold sdComplete
  rw [hc]
  dsimp only
  rw [if_neg (by decide), if_pos rfl]
  have good {t : State} (ht : t.cs = { s.cs with cmd := none, code := 0, done := n, resp := w.take 4 }) :
      (csGo (sdGood t (.read lba k) w l)).cs =
        { s.cs with code := 0, done := n, resp := w.take 4, retry := 0, got := s.cs.got ++ octetsAt l 0 (512 * k), plan := r, cmd := some c } := by
    have hg : (sdGood t (.read lba k) w l).cs =
        { s.cs with cmd := none, code := 0, done := n, resp := w.take 4, retry := 0, got := s.cs.got ++ octetsAt l 0 (512 * k) } := by
      unfold sdGood
      rcases hi with hi | hi | hi <;> simp [ht, hi]
    rw [csGo_issues_cs (by rw [hg]) (by rw [hg]; exact hd) (by rw [hg]; exact hp), hg]
  exact good (by rw [cadd_cs, rsets_cs, setCs_cs])

end

/-! ### The obligation -/

/-- The card and the SD host (R612 to R617, R631). -/
theorem custodyCard : Claims.CustodyCard := by
  intro s wp i rsp code n w l c r lba k
  dsimp only
  refine ⟨fun hc hm => ⟨_, exec_ok rfl rfl, cardInsert_unserved wp hc hm⟩,
    fun hc hm ⟨hn, hd⟩ => ⟨_, exec_ok rfl rfl, cardInsert_served wp hc hm hn hd⟩,
    fun hc hr hb => ⟨_, exec_ok rfl (if_pos hr), cardRemove_cs hc hb⟩,
    fun hr hn hc hi => ⟨_, exec_ok rfl (if_pos hr), ?raw⟩,
    fun hr hc h2 hA hp hi => ⟨_, exec_ok rfl (if_pos hr), sdComplete_raw n w l hc h2 hA hp hi⟩,
    fun hr hc hi hd => ⟨_, exec_ok rfl (if_pos hr), sdComplete_initial n w l hc hi hd⟩,
    fun hr hc hi hd hp => ⟨_, exec_ok rfl (if_pos hr), ?read⟩,
    fun hr hd hn hp => ⟨_, exec_ok rfl (if_pos (by simp [hr, hd])), csGo_issues_cs (by exact hn) rfl (by exact hp)⟩,
    fun hr hd hi => ⟨_, exec_ok rfl (if_pos hr), ?lateIdle⟩,
    fun hr hd hi hb => ⟨_, exec_ok rfl (if_pos hr), ?late⟩,
    fun hr hi ⟨hn, hd⟩ => ⟨_, exec_ok rfl (if_pos ⟨hr, hi⟩), ?again⟩⟩
  case raw =>
    have h : sdRaw s i rsp false false = sdIssue s (.raw i rsp false false) := by
      unfold sdRaw
      rw [if_neg (by rw [hi, hn, hc]; decide)]
    rw [h]
    exact ⟨sdIssue_cs .., rfl⟩
  case read =>
    have h := sdComplete_read n w l hc hi hd hp
    exact ⟨congrArg CsSt.got h, congrArg CsSt.plan h, congrArg CsSt.cmd h, congrArg CsSt.retry h⟩
  case lateIdle =>
    unfold busyTimeout
    rw [if_neg (by simp [hd]), if_pos (by exact hi)]
    rfl
  case late =>
    unfold busyTimeout
    rw [if_neg (by simp [hd]), if_neg (by exact hi)]
    exact cardOut_cs (by exact hb) 3
  case again =>
    have h := csGo_issues_cs (s := goInit (setCs s { s.cs with acmd := s.cs.acmd + 1 }) 2) (c := .plain 55 0) (r := []) hn hd rfl
    exact ⟨congrArg CsSt.phase h, congrArg CsSt.acmd h, congrArg CsSt.cmd h⟩

end Sys2Proof.Proofs

end

section
/-! The custody services (R620 to R627). -/

namespace Sys2Proof.Proofs

open Sys2Proof Sys2Proof.Machine Sys2Proof.Safety

/-! ### Sizes of what is written (R624) -/

@[simp] theorem length_leBytes (n v : Nat) : (leBytes n v).length = n := by
  induction n generalizing v with
  | zero => rfl
  | succ n ih => simp [leBytes, ih]

@[simp] theorem length_tgets {α : Type} (d : Nat → α) (t : Tbl α) (k n : Nat) : (tgets d t k n).length = n := by
  induction n generalizing k with
  | zero => rfl
  | succ n ih => simp [tgets, ih]

@[simp] theorem length_memRead (s : State) (a n : Nat) : (memRead s a n).length = n := length_tgets ..

theorem length_flatMap_le {α : Type} {f : α → List Byte} {b : Nat} {l : List α} (h : ∀ x ∈ l, (f x).length ≤ b) : (l.flatMap f).length ≤ b * l.length := by
  induction l with
  | nil => simp
  | cons x l ih =>
    have hx := h x (by simp)
    have hl := ih fun y hy => h y (by simp [hy])
    rw [List.flatMap_cons, List.length_append, List.length_cons, Nat.mul_succ]
    omega

theorem sigLen_le (alg : Nat) : sigLen alg ≤ 3309 := by
  unfold sigLen
  split <;> decide

theorem length_signed_le (s : State) (l : List Byte) : (signed s l).length ≤ l.length + 3309 := by
  have := sigLen_le s.lc.ownAlg
  simp only [signed, List.length_append, length_octetsAt]
  omega

/-- An archive of at most 64 keys fits in 200 blocks. -/
theorem blocks_archiveOf (s : State) (dom : Nat) {p : Nat} {hs : List Nat} (hp : p ≤ 2) (hl : hs.length ≤ 64) (pub : List Byte) (seed : BitVec 256) :
    cdiv (archiveOf s dom p hs pub seed).length 512 ≤ 200 := by
  have ct : nth [1088, 1568, 97] p 0 ≤ 1568 := by interval_cases p <;> decide
  have keys := length_flatMap_le (l := hs) (b := 48) (f := fun n => leBytes 1 (keyOf s n).len ++ leBytes 7 0 ++
    octetsAt (octetsAt (Config.keyWrap (Config.kemEncap p pub seed).2 (keyOf s n).key) 0 ((keyOf s n).len + 8)) 0 40)
    fun n _ => by simp [length_octetsAt]
  have := length_signed_le s (leBytes 2 0x4B41 ++ leBytes 2 0x0100 ++ leBytes 2 dom ++ leBytes 1 p ++ leBytes 1 hs.length ++
    leBytes 2 (nth [1088, 1568, 97] p 0) ++ leBytes 6 0 ++ octetsAt (Config.kemEncap p pub seed).1 0 (nth [1088, 1568, 97] p 0) ++
    hs.flatMap fun n => leBytes 1 (keyOf s n).len ++ leBytes 7 0 ++
      octetsAt (octetsAt (Config.keyWrap (Config.kemEncap p pub seed).2 (keyOf s n).key) 0 ((keyOf s n).len + 8)) 0 40)
  simp only [List.length_append, length_leBytes, length_octetsAt] at this
  unfold archiveOf cdiv
  dsimp only
  omega

theorem mem_insSeq {x y : Nat × List Byte} {l : List (Nat × List Byte)} (h : y ∈ insSeq x l) : y = x ∨ y ∈ l := by
  induction l with
  | nil => exact Or.inl (List.mem_singleton.mp h)
  | cons z l ih =>
    rw [insSeq] at h
    split at h
    · exact List.mem_cons.mp h
    · rcases List.mem_cons.mp h with rfl | h
      · exact Or.inr (by simp)
      · exact (ih h).imp_right (List.mem_cons_of_mem _)

theorem mem_of_mem_recordsFrom {s : State} {first : Nat} {r : Nat × List Byte} (h : r ∈ recordsFrom s first) : r ∈ (heldRecords s).map (fun x => x.2) := by
  have all : ∀ (held : List (Bool × Nat × List Byte)) (l : List (Nat × List Byte)),
      r ∈ held.foldl (fun l r => if r.1 && decide (first ≤ r.2.1) then insSeq r.2 l else l) l → r ∈ l ∨ r ∈ held.map (fun x => x.2) := by
    intro held
    induction held with
    | nil => exact fun l h => Or.inl h
    | cons x held ih =>
      intro l h
      rcases ih _ h with h | h
      · dsimp only at h
        split at h
        · exact (mem_insSeq h).symm.imp_right fun e => by simp [e]
        · exact Or.inl h
      · exact Or.inr (List.mem_cons_of_mem _ h)
  exact (all _ _ h).resolve_left (by simp)

/-- Records returned have 32 octets. -/
theorem length_recordsFrom {s : State} {first : Nat} {r : Nat × List Byte} (h : r ∈ recordsFrom s first) : r.2.length = 32 := by
  obtain ⟨x, hx, rfl⟩ := List.mem_map.mp (mem_of_mem_recordsFrom h)
  obtain ⟨k, _, hx⟩ := List.mem_flatMap.mp hx
  obtain ⟨i, _, rfl⟩ := List.mem_map.mp hx
  exact length_memRead ..

/-- An export of at most 2,048 records fits in 200 blocks. -/
theorem blocks_exportOf (s : State) (first : Nat) {limit : Nat} (hn : limit ≤ 2048) : cdiv (exportOf s first limit).length 512 ≤ 200 := by
  have recs := length_flatMap_le (l := (recordsFrom s first).take limit) (b := 32) (f := fun r => r.2)
    fun r hr => Nat.le_of_eq (length_recordsFrom (List.mem_of_mem_take hr))
  have count : ((recordsFrom s first).take limit).length ≤ 2048 := by rw [List.length_take]; omega
  unfold exportOf
  dsimp only
  generalize (if (recordsFrom s first).take limit = [] then _ else _) = a
  generalize (if (recordsFrom s first).take limit = [] then _ else _) = b
  have := length_signed_le s (leBytes 2 0x4545 ++ leBytes 2 0x0100 ++ leBytes 8 Config.identity.toNat ++ leBytes 6 a ++ leBytes 6 b ++
    leBytes 4 ((recordsFrom s first).take limit).length ++ leBytes 4 0 ++ ((recordsFrom s first).take limit).flatMap (fun r => r.2) ++ octetsAt (logView s) 0 (513 * 32))
  simp only [List.length_append, length_leBytes, length_octetsAt] at this
  unfold cdiv
  omega

/-! ### Commands of a plan -/

theorem range_cdiv {n b : Nat} (hn : 1 ≤ n) (hb : 1 ≤ b) : ∃ r, List.range (cdiv n b) = 0 :: r := by
  have : 1 ≤ cdiv n b := by
    unfold cdiv
    exact (Nat.one_le_div_iff (by omega)).mpr (by omega)
  obtain ⟨k, hk⟩ := Nat.exists_eq_add_of_le this
  exact ⟨_, by rw [hk, Nat.add_comm, List.range_succ_eq_map]⟩

theorem readOps_ne_nil (lba : Nat) {n : Nat} (hn : 1 ≤ n) : ∃ c r, readOps lba n = c :: r := by
  obtain ⟨r, hr⟩ := range_cdiv (b := 16) hn (by decide)
  exact ⟨_, _, by rw [readOps, hr, List.flatMap_cons]; rfl⟩

theorem writeOps_ne_nil (s : State) (lba : Nat) {l : List Byte} (hl : 1 ≤ l.length) : ∃ c r, writeOps s lba l = c :: r := by
  obtain ⟨r, hr⟩ := range_cdiv (n := cdiv l.length 512) (b := 16) (by
    unfold cdiv
    exact (Nat.one_le_div_iff (by omega)).mpr (by omega)) (by decide)
  exact ⟨_, _, by unfold writeOps; dsimp only; rw [hr, List.flatMap_cons]; rfl⟩

theorem length_journalBytes (kind op txn lba nblk : Nat) (name : List Byte) : 1 ≤ (journalBytes kind op txn lba nblk name).length := by
  simp only [journalBytes, withCrc, List.length_append, length_leBytes]
  omega

/-! ### Operations that start (R622, R626) -/

/-- What the volume holds depends on the slot's state alone. -/
theorem entries_of_cs {s t : State} (h : t.cs.dir = s.cs.dir) : entries t = entries s := by simp only [entries, h]

theorem entryOf_of_cs {s t : State} (h : t.cs.dir = s.cs.dir) (name : List Byte) : entryOf t name = entryOf s name := by
  simp only [entryOf, entries_of_cs h]

theorem firstFit_of_cs {s t : State} (h : t.cs.dir = s.cs.dir) (hb : t.cs.sb = s.cs.sb) (n : Nat) : firstFit t n = firstFit s n := by
  simp only [firstFit, entries_of_cs h, hb]

theorem freeEntry_of_cs {s t : State} (h : t.cs.dir = s.cs.dir) : freeEntry t = freeEntry s := by simp only [freeEntry, h]

/-- An operation that reads an object fetches it. -/
theorem startFetch_eq {s : State} {o : CsOp} {e : DirEnt} (hi : s.cs.phase = .idle) (hv : s.cs.vol = 1 ∨ s.cs.vol = 2) (he : entryOf s o.name = some e) :
    startFetch s o = setCs s { s.cs with op := some { o with ent := some e }, phase := .fetch, plan := readOps e.lba e.nblk, got := [] } := by
  unfold startFetch
  rw [if_neg (by rcases hv with hv | hv <;> simp [hi, hv]), he]

/-- An operation that writes an object begins its transaction in the first extent. -/
theorem startWrite_cs {s : State} {o : CsOp} (kind flags : Nat) (hi : s.cs.phase = .idle) (hv : s.cs.vol = 1) (he : entryOf s o.name = none)
    (hr : (firstFit s (cdiv o.obj.length 512)).isSome = true) (hf : (freeEntry s).isSome = true) : ∃ o' c r,
    o'.op = o.op ∧ o'.num = o.num ∧ (startWrite s o kind flags).cs = { s.cs with op := some o', phase := .begin, got := [], plan := c :: r } := by
  obtain ⟨a, ha⟩ := Option.isSome_iff_exists.mp hr
  obtain ⟨i, hi'⟩ := Option.isSome_iff_exists.mp hf
  obtain ⟨c, r, hp⟩ := writeOps_ne_nil s (ringBlock (s.cs.sb.head + 1))
    (length_journalBytes 1 o.op (s.cs.sb.txn + 1) a (cdiv o.obj.length 512) o.name)
  unfold startWrite
  dsimp only
  rw [if_neg (by simp [hi, hv, he]), ha, hi']
  dsimp only
  rw [hp]
  exact ⟨{ o with ent := some _, txn := _, head := _ }, c, r, rfl, rfl, setCs_cs ..⟩

theorem csEnd_ok {s : State} {o : CsOp} (h : s.cs.op = some o) : csEnd s 0 = raise (setCs s { s.cs with op := none, opState := 2, outcome := 0 }) 176 [o.num, o.op, 0] := by
  unfold csEnd
  simp only [h, ite_self]
  rw [if_neg (by simp)]

/-- The slot with an operation begun under the next number. -/
def csOpened (x : CsSt) (o : CsOp) : CsSt :=
  { x with op := some { o with num := (x.opNum + 1) % 65536 }, opNum := (x.opNum + 1) % 65536, opState := 1, outcome := 0, handles := [] }

/-- The state in which the service of an operation has returned its number. -/
def csStarted (s : State) (h : Nat) (o : CsOp) : State := svcRet (setCs s (csOpened s.cs o)) h 0 [(s.cs.opNum + 1) % 65536]

theorem csStart_eq {s : State} (hn : s.cs.op = none) (h : Nat) (o : CsOp) (b : State → CsOp → State) :
    csStart s h o b = csGo (b (csStarted s h o) { o with num := (s.cs.opNum + 1) % 65536 }) := by
  unfold csStart
  rw [hn]
  rfl

theorem callView_csStarted (s : State) (h : Nat) (o : CsOp) : callView (csStarted s h o) = callView (setCs s (csOpened s.cs o)) := callView_svcRet ..

theorem csStarted_cs (s : State) (h : Nat) (o : CsOp) : (csStarted s h o).cs = csOpened s.cs o := cs_of_callView (callView_csStarted s h o)

theorem csStarted_lc (s : State) (h : Nat) (o : CsOp) : (csStarted s h o).lc = s.lc := lc_of_callView (s := setCs s (csOpened s.cs o)) (callView_csStarted s h o)
theorem csStarted_pw (s : State) (h : Nat) (o : CsOp) : (csStarted s h o).pw = s.pw := pw_of_callView (s := setCs s (csOpened s.cs o)) (callView_csStarted s h o)
theorem keyOf_csStarted (s : State) (h : Nat) (o : CsOp) (n : Nat) : keyOf (csStarted s h o) n = keyOf s n := keyOf_of_callView (callView_csStarted s h o) n

/-- An operation of a kind is under way in a phase with its first command sent, under the next number. -/
def Runs (num op : Nat) (ph : CsPhase) (t : State) : Prop :=
  t.cs.phase = ph ∧ t.cs.cmd.isSome = true ∧ t.cs.opNum = num ∧ t.cs.opState = 1 ∧ ∃ o, t.cs.op = some o ∧ o.op = op ∧ o.num = num

theorem runs_csGo {t : State} {num op : Nat} {ph : CsPhase} {o : CsOp} {c : SdCmd} {r : List SdCmd} (hc : t.cs.cmd = none) (hd : t.cs.dat0 = false)
    (hp : t.cs.plan = c :: r) (hph : t.cs.phase = ph) (hn : t.cs.opNum = num) (hs : t.cs.opState = 1) (ho : t.cs.op = some o) (hop : o.op = op) (hnum : o.num = num) :
    Runs num op ph (csGo t) := by
  unfold Runs
  rw [csGo_issues_cs hc hd hp]
  exact ⟨hph, rfl, hn, hs, o, ho, hop, hnum⟩

section
variable {s : State} {o : CsOp} (h : Nat) (hn : s.cs.op = none) (hi : s.cs.phase = .idle) (hc : s.cs.cmd = none) (hd : s.cs.dat0 = false)
include hn hi hc hd

/-- A fetch under way. -/
theorem csStart_fetches {e : DirEnt} (hv : s.cs.vol = 1 ∨ s.cs.vol = 2) (he : entryOf s o.name = some e) (hb : 1 ≤ e.nblk) :
    Runs ((s.cs.opNum + 1) % 65536) o.op .fetch (csStart s h o startFetch) := by
  obtain ⟨c, r, hp⟩ := readOps_ne_nil e.lba hb
  have hcs := csStarted_cs s h o
  have hst : (startFetch (csStarted s h o) { o with num := (s.cs.opNum + 1) % 65536 }).cs = { csOpened s.cs o with
      op := some { o with num := (s.cs.opNum + 1) % 65536, ent := some e }, phase := .fetch, plan := c :: r, got := [] } := by
    rw [startFetch_eq (o := { o with num := (s.cs.opNum + 1) % 65536 }) (e := e) (by rw [hcs]; exact hi) (by rw [hcs]; exact hv) ((entryOf_of_cs (by rw [hcs]; rfl) _).trans he), setCs_cs, hcs, hp]
  rw [csStart_eq hn]
  exact runs_csGo (o := { o with num := (s.cs.opNum + 1) % 65536, ent := some e }) (by rw [hst]; exact hc) (by rw [hst]; exact hd) (by rw [hst]) (by rw [hst])
    (by rw [hst]; rfl) (by rw [hst]; rfl) (by rw [hst]) rfl rfl

/-- A transaction under way, from a state that differs from the start's outside the slot. -/
theorem csStart_writes {b : State → CsOp → State} {u : State} {obj : List Byte} {kind flags : Nat}
    (hb : b (csStarted s h o) { o with num := (s.cs.opNum + 1) % 65536 } = startWrite u { o with num := (s.cs.opNum + 1) % 65536, obj := obj } kind flags)
    (hu : u.cs = (csStarted s h o).cs) (hv : s.cs.vol = 1) (he : entryOf s o.name = none) (hr : (firstFit s (cdiv obj.length 512)).isSome = true)
    (hf : (freeEntry s).isSome = true) : Runs ((s.cs.opNum + 1) % 65536) o.op .begin (csStart s h o b) := by
  have hcs : u.cs = _ := hu.trans (csStarted_cs s h o)
  have dir : u.cs.dir = s.cs.dir := by rw [hcs]; rfl
  obtain ⟨o', c, r, hop, hnum, hw⟩ := startWrite_cs (s := u) (o := { o with num := (s.cs.opNum + 1) % 65536, obj := obj }) kind flags (by rw [hcs]; exact hi)
    (by rw [hcs]; exact hv) (by rw [entryOf_of_cs dir]; exact he) (by rw [firstFit_of_cs dir (by rw [hcs]; rfl)]; exact hr) (by rw [freeEntry_of_cs dir]; exact hf)
  rw [csStart_eq hn, hb]
  exact runs_csGo (by rw [hw, hcs]; exact hc) (by rw [hw, hcs]; exact hd) (by rw [hw]) (by rw [hw]) (by rw [hw, hcs]; rfl) (by rw [hw, hcs]; rfl) (by rw [hw]) hop hnum

/-- CS_MOUNT of a READY card reads the superblocks. -/
theorem csStart_mounts {j : Job} (k : Fin 8) (hk : (hartOf s k).job.bind (jobOf s) = some j) (hj : j.stage = .running k) (hcd : s.cs.cd = true) (hca : s.cs.card = 2)
    (hpo : rbit s csA 0 = true) (hm : s.pw.mode = .service) (ho : o.format = false) :
    Runs ((s.cs.opNum + 1) % 65536) o.op .supers (csStart s k o mountBegin) ∧ (csStart s k o mountBegin).cs.cmd = some (.read 0 2) ∧
      (csStart s k o mountBegin).cs.vol = 0 := by
  have hcs := csStarted_cs s k o
  have hpow : rbit (csStarted s k o) csA 0 = true := by
    rw [← hpo, rbit, rbit, rf, rf, csStarted, csPower_svcRet k (by exact hk) hj, rget_setCs]
  have hb : mountBegin (csStarted s k o) { o with num := (s.cs.opNum + 1) % 65536 } = startMount (setCs (csStarted s k o) { (csStarted s k o).cs with vol := 0 }) := by
    unfold mountBegin
    rw [if_neg (by simp [hcs, csOpened, hcd, hca, csStarted_pw, hm, ho]), if_pos ⟨by rw [hcs]; exact hca, hpow⟩, if_neg (by simp [ho]), if_pos (by rw [hcs]; exact hi)]
  have hplan : readOps 0 2 = [.read 0 2, .plain 12 0] := by decide
  have hst : (startMount (setCs (csStarted s k o) { (csStarted s k o).cs with vol := 0 })).cs =
      { (csStarted s k o).cs with vol := 0, phase := .supers, plan := [.read 0 2, .plain 12 0], got := [] } := by
    rw [startMount, hplan]
    rfl
  have hcmd := csGo_issues_cs (s := startMount (setCs (csStarted s k o) { (csStarted s k o).cs with vol := 0 })) (c := .read 0 2) (r := [.plain 12 0])
    (by rw [hst, hcs]; exact hc) (by rw [hst, hcs]; exact hd) (by rw [hst])
  rw [csStart_eq hn, hb]
  refine ⟨runs_csGo (o := { o with num := (s.cs.opNum + 1) % 65536 }) (by rw [hst, hcs]; exact hc) (by rw [hst, hcs]; exact hd) (by rw [hst]) (by rw [hst])
    (by rw [hst, hcs]; rfl) (by rw [hst, hcs]; rfl) (by rw [hst, hcs]; rfl) rfl rfl, ?_, ?_⟩
  · rw [hcmd]
  · rw [hcmd, hst]

omit hi hc hd in
/-- CS_UNMOUNT releases the volume at once. -/
theorem csStart_unmounts : (csStart s h o unmountBegin).cs.vol = 4 ∧ (csStart s h o unmountBegin).cs.dir = [] ∧ (csStart s h o unmountBegin).cs.op = none ∧
    (csStart s h o unmountBegin).cs.opState = 2 ∧ (csStart s h o unmountBegin).cs.outcome = 0 ∧
    (csStart s h o unmountBegin).cs.opNum = (s.cs.opNum + 1) % 65536 := by
  have hcs := csStarted_cs s h o
  have hend : (csEnd (csStarted s h o) 0).cs = { (csStarted s h o).cs with op := none, opState := 2, outcome := 0 } := by
    rw [csEnd_ok (o := { o with num := (s.cs.opNum + 1) % 65536 }) (by rw [hcs]; rfl), raise_cs]
    rfl
  have hu : (unmountBegin (csStarted s h o) { o with num := (s.cs.opNum + 1) % 65536 }).cs = { (csStarted s h o).cs with
      op := none, opState := 2, outcome := 0, cmd := none, dat0 := false, plan := [], phase := .idle, got := [], retry := 0, resume := none, acmd := 0,
      slowed := false, boot := false, vol := 4, dir := [] } := by
    rw [unmountBegin, setCs_cs, csOff, setCs_cs, hend]
  rw [csStart_eq hn, csGo_idle (by rw [hu]) (by rw [hu]), hu]
  exact ⟨rfl, rfl, rfl, rfl, rfl, by rw [hcs]; rfl⟩

end

/-! ### The services up to their operation's start -/

section
variable {s : State} (j : Job) (x : Hart) (h : Nat)

theorem svcCsMount_eq (hn : s.cs.op = none) (hf : bitAt (svcArg x 2) 0 = false) :
    svcCsMount s j x h = csStart s h { num := 0, op := 1, readOnly := bitAt (svcArg x 2) 1 } mountBegin := by
  unfold svcCsMount
  simp [hn, hf]

theorem svcCsRestore_eq (hin : inScratch (svcArg x 2) 12 = true) (hdom : svcArg x 4 ≤ 4095) (hlo : 0x8000 ≤ svcArg x 3) (hhi : svcArg x 3 < 0x10000)
    (hno : svcArg x 5 = 0xFFFFFFFF) (hu : (keyOf s (svcArg x 3)).used = true) : svcCsRestore s j x h =
      csStart s h { num := 0, op := 4, name := scratchRead s j (svcArg x 2) 12, handle := svcArg x 3, dom := svcArg x 4 } startFetch := by
  unfold svcCsRestore
  simp [hin, hno, Nat.not_lt.mpr hdom, hlo, hhi, hu]

/-- What CS_ARCHIVE does once its operation has started. -/
def archiveBegin (dom p : Nat) (hs : List Nat) (pub r : List Byte) (s : State) (o : CsOp) : State :=
  if !hs.all (fun v => (keyOf s v).used && (keyOf s v).dom == dom && !(keyOf s v).nowrap) then csEnd s 2
  else if !s.lc.metKey then csEnd s 1
  else startWrite s { o with obj := archiveOf s dom p hs pub (BitVec.ofNat 256 (leNat r)) } 1 0

theorem archiveBegin_eq {dom p : Nat} {hs : List Nat} {u : State} (hk : hs.all (fun v => (keyOf u v).used && (keyOf u v).dom == dom && !(keyOf u v).nowrap) = true)
    (hm : u.lc.metKey = true) (pub r : List Byte) (o : CsOp) :
    archiveBegin dom p hs pub r u o = startWrite u { o with obj := archiveOf u dom p hs pub (BitVec.ofNat 256 (leNat r)) } 1 0 := by
  unfold archiveBegin
  rw [hk, hm, if_neg (by decide), if_neg (by decide)]

theorem svcCsArchive_eq (hn : s.cs.op = none) (hdr : canDraw s = true) :
    let l := scratchRead s j (svcArg x 2) (svcArg x 3)
    let f := fun (o n : Nat) => leNat (octetsAt l o n)
    let hs := (List.range (f 15 1)).map (fun i => f (16 + 2 * i) 2)
    let pub := l.drop (16 + 2 * f 15 1)
    inScratch (svcArg x 2) (svcArg x 3) = true → f 12 2 ≤ 4095 → f 14 1 ≤ 2 → 1 ≤ f 15 1 → f 15 1 ≤ 64 → pub.length = nth [1184, 1568, 97] (f 14 1) 0 →
    hs.all (fun v => decide (v < 0x8000)) = true → svcCsArchive s j x h =
      csStart (drewOctets s 32) h { num := 0, op := 3, name := octetsAt l 0 12, dom := f 12 2 } (archiveBegin (f 12 2) (f 14 1) hs pub (drawOctets s 32)) := by
  intro l f hs pub hin hdom hp h1 h64 hpub hall
  unfold svcCsArchive
  dsimp only
  have formed : ¬((!inScratch (svcArg x 2) (svcArg x 3) || decide (4095 < f 12 2) || decide (2 < f 14 1) || decide (f 15 1 = 0 ∨ 64 < f 15 1) ||
      pub.length != nth [1184, 1568, 97] (f 14 1) 0 || !hs.all (fun v => decide (v < 0x8000))) = true) := by
    simp [hin, Nat.not_lt.mpr hdom, Nat.not_lt.mpr hp, Nat.not_lt.mpr h64, Nat.one_le_iff_ne_zero.mp h1, hpub, hall]
  refine (if_neg formed).trans ?_
  rw [hn, if_neg (by decide), needRandom_drawn hdr]
  rfl

end

/-! ### The obligation -/

/-- Custody services (R620 to R627). -/
theorem custodyServices : Claims.CustodyServices := by
  intro s h j e
  dsimp only
  refine ⟨fun hs h3 hin => exec_inService rfl hs ?status, fun hs ho => exec_inService rfl hs ?busy,
    fun hs ⟨hn, hi, hc, hd⟩ hf hcd hca hpo hm => ⟨_, exec_inService rfl hs (svcCsMount_eq j _ h hn hf), ?mount⟩,
    fun hs ⟨hn, _, _, _⟩ => ⟨_, exec_inService rfl hs rfl, csStart_unmounts h hn⟩,
    fun hs ⟨hn, hi, hc, hd⟩ hin hdom hp h1 h64 hpub hall hdr hmk hv he hroom hfree =>
      ⟨_, exec_inService rfl hs (svcCsArchive_eq j _ h hn hdr hin hdom hp h1 h64 hpub ?publicHandles), ?archive⟩,
    fun hs ⟨hn, hi, hc, hd⟩ hin hdom hlo hhi hno hu hv he hb =>
      ⟨_, exec_inService rfl hs (svcCsRestore_eq j _ h hin hdom hlo hhi hno hu), csStart_fetches h hn hi hc hd hv he hb⟩,
    fun hs ⟨hn, hi, hc, hd⟩ hin hfst h1 h2 hmk hv he hroom hfree =>
      ⟨_, exec_inService rfl hs (if_neg (by rw [hin, decide_eq_false (Nat.not_le.mpr hfst), decide_eq_true ⟨h1, h2⟩]; decide)), ?exported⟩,
    fun hs ⟨hn, hi, hc, hd⟩ hin hv he hb => ⟨_, exec_inService rfl hs (if_neg (by rw [hin]; decide)), csStart_fetches h hn hi hc hd hv he hb⟩⟩
  case status =>
    unfold svcCsStatus
    dsimp only
    rw [if_neg (by simp [Nat.not_lt.mpr h3, hin])]
  case busy => exact if_pos ho
  case mount =>
    obtain ⟨_, _, _, hj, hst, _⟩ := hs
    exact csStart_mounts hn hi hc hd h hj hst hcd hca hpo hm rfl
  case publicHandles =>
    refine List.all_eq_true.mpr fun v hv => ?_
    have := List.all_eq_true.mp hall v hv
    simp only [Bool.and_eq_true] at this
    exact this.1.1.1
  case archive =>
    refine csStart_writes (s := drewOctets s 32) h hn hi hc hd (archiveBegin_eq ?keys ?signs _ _ _) rfl hv he (hroom _ (blocks_archiveOf _ _ hp ?count _ _)) hfree
    case keys =>
      simp only [keyOf_csStarted]
      refine List.all_eq_true.mpr fun v hv => ?_
      have := List.all_eq_true.mp hall v hv
      simp only [Bool.and_eq_true] at this ⊢
      exact ⟨⟨this.1.1.2, this.1.2⟩, this.2⟩
    case signs => rw [csStarted_lc]; exact hmk
    case count => rw [List.length_map, List.length_range]; exact h64
  case exported =>
    refine csStart_writes (u := freed (freed (crcErrors (csStarted s h _)))) h hn hi hc hd (if_neg ?signs) ?same hv he (hroom _ (blocks_exportOf _ _ h2)) hfree
    case signs => rw [csStarted_lc, hmk]; decide
    case same =>
      unfold crcErrors
      dsimp only
      split <;> simp

/-- Settles O48: the card's commands end as the program of the slot goes on, and each service starts its operation under the next number. -/
theorem custody : Obligations.Custody := ⟨custodyCard, custodyServices⟩

end Sys2Proof.Proofs

end

section
/-! The debug port (R581 to R585). -/

namespace Sys2Proof.Proofs

open Sys2Proof Sys2Proof.Machine Sys2Proof.Safety

/-! ### A delay of the double decisions taken -/

@[simp] theorem rngRefused_lc (s : State) : (rngRefused s).lc = s.lc := by simp [rngRefused]

@[simp] theorem ddRefill_lc (s : State) : (ddRefill s).lc = s.lc := by
  unfold ddRefill rngRequest
  split_ifs <;> simp

@[simp] theorem ddTake_lc (s : State) : (ddTake s).lc = s.lc := by
  unfold ddTake
  split <;> simp

/-! ### Harts that the port halted resume (R585) -/

/-- A hart halted by the debugger resumes. -/
def unhalt (s : State) (h : Nat) : State :=
  if hstOf s h = .haltedDebug then raise { s with hstate := tput hstInit s.hstate h .running } (8 * h + 6) [HState.running.code] else s

theorem unhalt_lc (s : State) (h : Nat) : (unhalt s h).lc = s.lc := by
  unfold unhalt
  split <;> simp

theorem hstOf_unhalt (s : State) (h k : Nat) : hstOf (unhalt s h) k = if k = h ∧ hstOf s h = .haltedDebug then .running else hstOf s k := by
  unfold unhalt
  split
  next hh =>
    rw [hstOf_raise]
    by_cases hk : k = h
    · rw [if_pos ⟨hk, hh⟩, hk]
      exact tget_tput ..
    · rw [if_neg (by simp [hk])]
      exact tget_tput_ne _ _ _ hk
  next hh => rw [if_neg (by simp [hh])]

theorem not_halted_unhalt {s : State} {h k : Nat} (hk : k = h ∨ hstOf s k ≠ .haltedDebug) : hstOf (unhalt s h) k ≠ .haltedDebug := by
  rw [hstOf_unhalt]
  split
  · decide
  next hn =>
    rcases hk with rfl | hk
    · simpa using hn
    · exact hk

theorem not_halted_foldl_unhalt {k : Nat} (l : List Nat) (s : State) (hk : k ∈ l ∨ hstOf s k ≠ .haltedDebug) : hstOf (l.foldl unhalt s) k ≠ .haltedDebug := by
  induction l generalizing s with
  | nil => simpa using hk
  | cons h l ih =>
    refine ih _ ?_
    rcases hk with hk | hk
    · rcases List.mem_cons.mp hk with rfl | hk
      · exact Or.inr (not_halted_unhalt (Or.inl rfl))
      · exact Or.inl hk
    · exact Or.inr (not_halted_unhalt (Or.inr hk))

theorem dbgClose_eq {s : State} (h : s.lc.dbgOpen = true) : dbgClose s = (List.range 8).foldl unhalt
    (raise (lifeRecord { s with lc := { s.lc with dbgOpen := false, scope := 0, unlock := none } } 5 s.lc.state s.lc.scope 0xFF []) 165 []) := by
  unfold dbgClose
  rw [if_neg (by simp [h])]
  rfl

/-- An open port that closes. -/
theorem dbgClose_open {s : State} (h : s.lc.dbgOpen = true) :
    (dbgClose s).lc = { s.lc with dbgOpen := false, scope := 0, unlock := none } ∧ ∀ k, k < 8 → hstOf (dbgClose s) k ≠ .haltedDebug := by
  rw [dbgClose_eq h]
  refine ⟨(foldl_keeps (v := State.lc) unhalt_lc _ _).trans (raise_lc ..), fun k hk => not_halted_foldl_unhalt _ _ (Or.inl (List.mem_range.mpr hk))⟩

/-! ### A challenge and its answer (R582 to R584) -/

@[simp] theorem lifeRecord_lc (s : State) (phase src tgt token : Nat) (key : List Byte) : (lifeRecord s phase src tgt token key).lc = s.lc := rfl

theorem lcRefused_lc (s : State) : (lcRefused s).lc = s.lc := by simp [lcRefused]

theorem dbgRefuse_lc (s : State) : (dbgRefuse s).lc = { s.lc with dbgRefused := s.lc.dbgRefused + 1, dbgNonce := none } := by
  rw [dbgRefuse, lcRefused_lc, setLc_lc]

theorem dbgUnlocked_lc (s : State) (scope token : Nat) : (dbgUnlocked s scope token).lc = { s.lc with dbgOpen := true, scope := scope, unlock := none } := by
  unfold dbgUnlocked
  dsimp only
  rw [raise_lc, cinc_lc, lifeRecord_lc, setLc_lc]
  split <;> rfl

/-- The state's bound on a scope that passes. -/
theorem scope_of_dbgGood {s : State} {l : List Byte} (h : dbgGood s l = true) :
    leNat (octetsAt l 0 2) ||| scopeAllowed s.lc.state = scopeAllowed s.lc.state := by
  unfold dbgGood at h
  simp only [Bool.and_eq_true, decide_eq_true_eq] at h
  exact h.1.1.1.1.1.1.1

section
variable {s : State} {l : List Byte} (hm : dbgMay s = true) (hb : s.lc.burn = none) (hd : ddReady s = true)
include hm hb hd

theorem dbgResp_taken (ag : Bool) : dbgResp s l ag =
    if 4 ≤ s.lc.dbgRefused ∨ !dbgGood s l then dbgRefuse (setIr s 0x11)
    else if !ag then disagree (dbgRefuse (ddTake (setIr s 0x11))) 4
    else if s.lc.state = 1 then startBurn (setLc (ddTake (setIr s 0x11)) { (ddTake (setIr s 0x11)).lc with dbgNonce := none, unlock := some (leNat (octetsAt l 0 2), leNat (octetsAt l 2 1)) })
      5 (leNat (octetsAt l 2 1)) 0xFFFFFFFF
    else dbgUnlocked (setLc (ddTake (setIr s 0x11)) { (ddTake (setIr s 0x11)).lc with dbgNonce := none, unlock := some (leNat (octetsAt l 0 2), leNat (octetsAt l 2 1)) })
      (leNat (octetsAt l 0 2)) (leNat (octetsAt l 2 1)) := by
  unfold dbgResp
  rw [if_neg (by simp [hm]), if_neg (by simp [hb, hd])]
  simp only [setLc_lc, ddTake_lc]
  rfl

theorem dbgResp_refused (ag : Bool) (h : 4 ≤ s.lc.dbgRefused ∨ dbgGood s l = false) :
    (dbgResp s l ag).lc = { s.lc with ir := 0x11, dbgRefused := s.lc.dbgRefused + 1, dbgNonce := none } := by
  rw [dbgResp_taken hm hb hd, if_pos (by simpa using h), dbgRefuse_lc]
  rfl

theorem dbgResp_opens (hr : s.lc.dbgRefused < 4) (hg : dbgGood s l = true) (hst : s.lc.state ≠ 1) : (dbgResp s l true).lc =
    { s.lc with ir := 0x11, dbgNonce := none, dbgOpen := true, scope := leNat (octetsAt l 0 2), unlock := none } := by
  rw [dbgResp_taken hm hb hd, if_neg (by simp [hg, hr]), if_neg (by decide), if_neg hst, dbgUnlocked_lc, setLc_lc, ddTake_lc]
  rfl

theorem dbgResp_burns (hr : s.lc.dbgRefused < 4) (hg : dbgGood s l = true) (hst : s.lc.state = 1) : (dbgResp s l true).lc =
    { s.lc with ir := 0x11, dbgNonce := none, unlock := some (leNat (octetsAt l 0 2), leNat (octetsAt l 2 1)), burn := some (5, leNat (octetsAt l 2 1), 0xFFFFFFFF) } := by
  rw [dbgResp_taken hm hb hd, if_neg (by simp [hg, hr]), if_neg (by decide), if_pos hst, startBurn, setLc_lc, setLc_lc, ddTake_lc]
  rfl

end

/-! ### The obligation -/

/-- Settles O47: each instruction of the port and each debug command leaves the life-cycle part, or the hart, as stated. -/
theorem debugPort : Obligations.DebugPort := by
  intro s l h lv ag
  dsimp only
  intro hr
  have hm := mainOn_of_runs hr
  have instr {i : Instr} {t : State} (he : exec i s = ok (if mainOn s then t else s)) : exec i s = .next t := exec_ok he (if_pos hm)
  have cmd (c : DbgCmd) : exec (.dbgCmd c) s = .next (dbgCmd (setIr s 0x12) c) := exec_ok rfl (if_pos hr)
  refine ⟨fun he => ⟨_, instr rfl, ?extest⟩, fun he => ⟨_, instr rfl, ?noExtest⟩, fun he => ⟨_, instr rfl, ?sample⟩, ⟨_, instr rfl, rfl, rfl⟩, ⟨_, instr rfl, rfl, rfl⟩,
    fun hg hc => ⟨_, instr rfl, ?chal⟩, fun hg hb hd hn hst => ⟨_, instr rfl, fun ht => ?opens, fun hf => dbgResp_refused hg hb hd _ (Or.inr hf)⟩,
    fun hg hb hd hn hst => ⟨_, instr rfl, fun ht => ?burns, fun hf => dbgResp_refused hg hb hd _ (Or.inr hf)⟩,
    fun hg hb hd hn => ⟨_, instr rfl, dbgResp_refused hg hb hd _ (Or.inl hn)⟩, fun ho => ⟨_, instr rfl, ?lock⟩,
    fun hd hs => ⟨_, cmd _, ?halt⟩, fun hb hs => ⟨_, cmd _, ?resume⟩, fun hd hs hb => ⟨_, cmd _, ?feed⟩⟩
  case extest =>
    rw [if_pos (by simpa using he)]
    exact ⟨rfl, rfl⟩
  case noExtest =>
    rw [if_neg (by simpa using he)]
    exact ⟨rfl, rfl⟩
  case sample =>
    rw [if_neg he]
    exact ⟨rfl, rfl⟩
  case chal =>
    unfold dbgChal
    rw [if_neg (show ¬((!dbgMay s) = true) by simp [hg]), if_neg (show ¬((!canDraw s) = true) by simp [hc])]
    exact ⟨rfl, List.getLast?_concat ..⟩
  case opens =>
    rw [dbgResp_opens hg hb hd hn ht hst]
    exact ⟨rfl, rfl, rfl, scope_of_dbgGood ht⟩
  case burns =>
    rw [dbgResp_burns hg hb hd hn ht hst]
    exact ⟨rfl, rfl, rfl⟩
  case lock =>
    obtain ⟨hlc, hh⟩ := dbgClose_open (s := setIr s 0x13) ho
    rw [hlc]
    exact ⟨rfl, rfl, rfl, hh⟩
  case halt =>
    have hc : dbgCmd (setIr s 0x12) (.halt h) = stateChange (setIr s 0x12) h .haltedDebug := if_pos (by
      rw [Bool.and_eq_true, Bool.or_eq_true, beq_iff_eq, beq_iff_eq]
      exact ⟨hd, hs⟩)
    rw [hc]
    exact ⟨hstOf_stateChange .., hartOf_stateChange ..⟩
  case resume =>
    have hc : dbgCmd (setIr s 0x12) (.resume h) = stateChange (setHart (setIr s 0x12) h { hartOf s h with fed := none }) h .running := if_pos (by
      rw [Bool.and_eq_true, beq_iff_eq]
      exact ⟨hb, hs⟩)
    rw [hc]
    exact ⟨hstOf_stateChange .., by rw [hartOf_stateChange, hartOf_setHart]⟩
  case feed =>
    have hc : dbgCmd (setIr s 0x12) (.feed h lv) = setHart (setIr s 0x12) h { hartOf s h with fed := some lv.val } := if_pos (by
      rw [Bool.and_eq_true, Bool.and_eq_true, beq_iff_eq, Bool.or_eq_true]
      exact ⟨⟨hd, hs⟩, Or.inl hb⟩)
    rw [hc]
    exact hartOf_setHart ..

end Sys2Proof.Proofs

end

section
/-! What a write of the steward's flash leaves as it was (R481 to R500): everything but flash itself, its counters and registers, and what the event recorder
has still to take. The field tag's writes likewise (R597 to R604). -/

namespace Sys2Proof.Proofs

open Sys2Proof Sys2Proof.Machine Sys2Proof.Safety

/-- The event recorder's areas, its mirror and its tokens, which no raising touches before the recorder takes it. -/
def evRecorder (x : EvSt) : Tbl Nat × Tbl (Option EvLast) × Tbl Nat × Nat × List (Nat × Nat) × Int × Int × Nat :=
  (x.filled, x.latest, x.heads, x.seq, x.quarters, x.recTok, x.logTok, x.mirSeg)

/-- The parts of a state that writes of flash leave. -/
def storeView (s : State) : (Tbl Byte × Nat × TmSt × LcSt × CsSt × PwSt × MtSt × UpdSt) × TagSt × RngSt × OrdSt × CulmSt × Tbl Hart × Tbl HState × Nat ×
    Tbl Nat × Tbl (Option EvLast) × Tbl Nat × Nat × List (Nat × Nat) × Int × Int × Nat :=
  ((s.sram, s.level, s.tm, s.lc, s.cs, s.pw, s.mt, s.upd), s.tag, s.rng, s.ord, s.culm, s.harts, s.hstate, s.now, evRecorder s.ev)

section
variable {s t : State} (h : storeView t = storeView s)
include h

theorem sram_of_storeView : t.sram = s.sram := congrArg (·.1.1) h
theorem tm_of_storeView : t.tm = s.tm := congrArg (·.1.2.2.1) h
theorem lc_of_storeView : t.lc = s.lc := congrArg (·.1.2.2.2.1) h
theorem pw_of_storeView : t.pw = s.pw := congrArg (·.1.2.2.2.2.2.1) h
theorem upd_of_storeView : t.upd = s.upd := congrArg (·.1.2.2.2.2.2.2.2) h
theorem evRecorder_of_storeView : evRecorder t.ev = evRecorder s.ev := congrArg (·.2.2.2.2.2.2.2.2) h

end

/-! ### Raisings -/

theorem evRecorder_routeEv (s : State) (src : Nat) : evRecorder (routeEv s src).ev = evRecorder s.ev := by
  unfold routeEv
  dsimp only
  split
  · split <;> rfl
  · have h (t : State) (f v : Nat) : (vecCause t f v).ev = t.ev := by
      unfold vecCause vecTry
      dsimp only
      split_ifs <;> rfl
    rw [h]
    rfl
  · rfl

theorem evRecorder_offerEv (s : State) (r : Raising) : evRecorder (offerEv s r).1.ev = evRecorder s.ev := by
  unfold offerEv loseEv
  dsimp only
  repeat' split
  all_goals rfl

@[simp] theorem evRecorder_raiseEv (s : State) (src code : Nat) (data : List Nat) : evRecorder (raiseEv s src code data).ev = evRecorder s.ev := by
  have one (t : State) (r : Raising) : evRecorder (raiseOne t r).1.ev = evRecorder t.ev := by
    unfold raiseOne
    dsimp only
    rw [evRecorder_routeEv, evRecorder_offerEv]
    rfl
  unfold raiseEv
  dsimp only
  split
  · rw [one, one]
  · rw [one]

@[simp] theorem evRecorder_raise (s : State) (src : Nat) (data : List Nat) : evRecorder (raise s src data).ev = evRecorder s.ev := evRecorder_raiseEv ..

@[simp] theorem storeView_raise (s : State) (src : Nat) (data : List Nat) : storeView (raise s src data) = storeView s := by simp [storeView]

/-! ### Flash -/

@[simp] theorem storeView_ite (c : Prop) [Decidable c] (s t : State) : storeView (if c then s else t) = if c then storeView s else storeView t := apply_ite ..
@[simp] theorem storeView_setFl (s : State) (x : FlSt) : storeView (setFl s x) = storeView s := rfl
@[simp] theorem storeView_freed (s : State) : storeView (freed s) = storeView s := rfl
@[simp] theorem storeView_cinc (s : State) (a : Nat) : storeView (cinc s a) = storeView s := rfl
@[simp] theorem storeView_rset (s : State) (a : Nat) (v : W32) : storeView (rset s a v) = storeView s := rfl
@[simp] theorem storeView_setSect (s : State) (x : Nat) (v : Sect) : storeView (setSect s x v) = storeView s := rfl
@[simp] theorem storeView_setUndef (s : State) (a pages : Nat) (b : Bool) : storeView (setUndef s a pages b) = storeView s := rfl
@[simp] theorem storeView_eraseData (s : State) (x : Nat) : storeView (eraseData s x) = storeView s := rfl

@[simp] theorem storeView_wearNear (s : State) (x why : Nat) : storeView (wearNear s x why) = storeView s := by simp [wearNear]
@[simp] theorem storeView_wearProgram (s : State) (x n : Nat) : storeView (wearProgram s x n) = storeView s := by simp [wearProgram]
@[simp] theorem storeView_wearErase (s : State) (x n : Nat) : storeView (wearErase s x n) = storeView s := by simp [wearErase]
@[simp] theorem storeView_eraseSector (s : State) (x pulses : Nat) (good : Bool) : storeView (eraseSector s x pulses good) = storeView s := by simp [eraseSector]

@[simp] theorem storeView_flWorked (s : State) (code pulses : Nat) : storeView (flWorked s code pulses) = storeView s := by
  unfold flWorked
  split <;> rfl

@[simp] theorem storeView_flErase (s : State) (pulses : Nat) (good : Bool) : storeView (flErase s pulses good) = storeView s := by
  unfold flErase
  split <;> simp

@[simp] theorem storeView_flProgram (s : State) (pulses : Nat) (good : Bool) : storeView (flProgram s pulses good) = storeView s := by
  unfold flProgram
  split <;> simp

@[simp] theorem storeView_flashDone (s : State) : storeView (flashDone s) = storeView s := by
  unfold flashDone
  split <;> simp

@[simp] theorem storeView_stewardErase (s : State) (x : Nat) : storeView (stewardErase s x) = storeView s := by simp [stewardErase, flStart]
@[simp] theorem storeView_stewardProgram (s : State) (a : Nat) (ws : List W32) : storeView (stewardProgram s a ws) = storeView s := by
  simp [stewardProgram, flStart]
@[simp] theorem storeView_jEntry (s : State) (kind op addr pages ref : Nat) : storeView (jEntry s kind op addr pages ref) = storeView s := by simp [jEntry]
@[simp] theorem storeView_jErase (s : State) (x : Nat) : storeView (jErase s x) = storeView s := by simp [jErase, journaled]
@[simp] theorem storeView_jProgram (s : State) (a : Nat) (l : List Byte) : storeView (jProgram s a l) = storeView s := by simp [jProgram, journaled]

/-- A record kept in flash through the write journal. -/
@[simp] theorem storeView_jStore (s : State) (x n : Nat) (l : List Byte) : storeView (jStore s x n l) = storeView s := by
  have he := foldl_keeps (v := storeView) (fun t i => storeView_jErase t (x + i)) (List.range n) s
  exact (foldl_keeps (v := storeView) (fun t _ => storeView_jProgram t ..) ..).trans he

@[simp] theorem storeView_jSettle (s : State) : storeView (jSettle s) = storeView s := by simp [jSettle]

/-! ### The field tag's records -/

@[simp] theorem callView_setTagSt (s : State) (x : TagSt) : callView (setTagSt s x) = callView s := rfl
@[simp] theorem callView_tagEnter (s : State) (w : TagWrite) : callView (tagEnter s w) = callView s := rfl

@[simp] theorem callView_tagBegin (s : State) (w : TagWrite) : callView (tagBegin s w) = callView s := by
  unfold tagBegin
  dsimp only
  split
  · simp
  · split <;> simp

@[simp] theorem callView_tagQueue (s : State) (w : TagWrite) : callView (tagQueue s w) = callView s := by simp [tagQueue]
@[simp] theorem callView_tagDevice (s : State) (kind : Nat) (a : TagAsk) : callView (tagDevice s kind a) = callView s := by simp [tagDevice]
@[simp] theorem callView_tagCount (s : State) (c : Nat) : callView (tagCount s c) = callView s := by simp [tagCount]
@[simp] theorem callView_tagSummary (s : State) (reason : Nat) (must : Bool) : callView (tagSummary s reason must) = callView s := by simp [tagSummary]
@[simp] theorem callView_tagLevel (s : State) (new : Nat) : callView (tagLevel s new) = callView s := by simp [tagLevel]
@[simp] theorem callView_tagBoot (s : State) : callView (tagBoot s) = callView s := by simp [tagBoot]

@[simp] theorem callView_tagRefresh (s : State) (epoch : Nat) (first : Bool) : callView (tagRefresh s epoch first) = callView s := by
  have rewritten (t : State) (k : Nat) :
      callView (if (tagValue (tagRec t k)).isSome then tagDevice t k (.payload (tagPayload t k)) else t) = callView t := by simp
  unfold tagRefresh
  dsimp only
  rw [callView_ite, callView_foldl rewritten, callView_setTagSt, ite_self]

end Sys2Proof.Proofs

end

section
/-! The life cycle: burns of its words and LC_REQUEST (R568 to R579). -/

namespace Sys2Proof.Proofs

open Sys2Proof Sys2Proof.Machine Sys2Proof.Safety

/-! ### Codes and records -/

theorem lcStateOf_lcCode {t : Nat} (h1 : 1 ≤ t) (h5 : t ≤ 5) : lcStateOf (lcCode t) = some t := by interval_cases t <;> decide

theorem otpRec_of_recs {s t : State} (h : t.lc.recs = s.lc.recs) (r : Nat) : otpRec t r = otpRec s r := by simp only [otpRec, h]

@[simp] theorem otpRec_setRec (s : State) (r : Nat) (x : OtpRec) : otpRec (setRec s r x) r = x := tget_tput ..

/-! ### A burn that begins -/

theorem lcCommit_burns {s : State} {st t r : Nat} (hc : lcScan s (List.range 8) 0 = .state st (some (t, r))) (hb : bootRom s = true) (hw : s.lc.wiped = true)
    (hn : s.lc.burn = none) : lcCommit s = startBurn s 2 r (lcCode t) := by
  unfold lcCommit
  rw [hc]
  dsimp only
  rw [if_pos ⟨hb, hw, by rw [hn]; rfl⟩]

theorem lcVoid_burns {s : State} {r : Nat} (hv : s.lc.voiding = some r) (hb : bootRom s = true) (hn : s.lc.burn = none) :
    Machine.lcVoid s = startBurn s 3 r 0xFFFFFFFF := by
  unfold Machine.lcVoid
  rw [hv]
  dsimp only
  rw [if_pos ⟨hb, by rw [hn]; rfl⟩]

/-! ### A burn that ends -/

/-- The state that a whole burn of a record's word leaves before what follows from it. -/
def burned (s : State) (r : Nat) (x : OtpRec) : State :=
  setLc (setRec s r x) { (setRec s r x).lc with burn := none, burnRes := 1 }

@[simp] theorem otpRec_burned (s : State) (r : Nat) (x : OtpRec) : otpRec (burned s r x) r = x := otpRec_setRec s r x

/-- Every bit of a burn burned. -/
theorem and_full (v : W32) : v &&& 0xFFFFFFFF = v := BitVec.and_allOnes

section
variable {s : State} {r : Nat} {v : W32}

theorem burnComplete_intent (hb : s.lc.burn = some (1, r, v)) (hi : (otpRec s r).intent = 0) :
    burnComplete s 0xFFFFFFFF = burnEnds (burned s r { otpRec s r with intent := v }) 1 r true := by
  have h : burnComplete s 0xFFFFFFFF =
      (let x := otpRec s r
       let t := setRec s r { x with intent := x.intent ||| (v &&& 0xFFFFFFFF) }
       burnEnds (setLc t { t.lc with burn := none, burnRes := if (otpRec t r).intent == v then 1 else 2 }) 1 r ((otpRec t r).intent == v)) := by
    unfold burnComplete
    rw [hb]
    rfl
  rw [h]
  dsimp only
  rw [and_full, hi, show (0 : W32) ||| v = v from BitVec.zero_or, otpRec_setRec, beq_self_eq_true, if_pos rfl]
  rfl

theorem burnComplete_commit (hb : s.lc.burn = some (2, r, v)) (hi : (otpRec s r).commit = 0) :
    burnComplete s 0xFFFFFFFF = burnEnds (burned s r { otpRec s r with commit := v }) 2 r true := by
  have h : burnComplete s 0xFFFFFFFF =
      (let x := otpRec s r
       let t := setRec s r { x with commit := x.commit ||| (v &&& 0xFFFFFFFF) }
       burnEnds (setLc t { t.lc with burn := none, burnRes := if (otpRec t r).commit == v then 1 else 2 }) 2 r ((otpRec t r).commit == v)) := by
    unfold burnComplete
    rw [hb]
    rfl
  rw [h]
  dsimp only
  rw [and_full, hi, show (0 : W32) ||| v = v from BitVec.zero_or, otpRec_setRec, beq_self_eq_true, if_pos rfl]
  rfl

theorem burnComplete_void (hb : s.lc.burn = some (3, r, 0xFFFFFFFF)) :
    burnComplete s 0xFFFFFFFF = burnEnds (burned s r { otpRec s r with void := 0xFFFFFFFF }) 3 r true := by
  have h : burnComplete s 0xFFFFFFFF =
      (let x := otpRec s r
       let t := setRec s r { x with void := x.void ||| (0xFFFFFFFF &&& 0xFFFFFFFF) }
       burnEnds (setLc t { t.lc with burn := none, burnRes := if (otpRec t r).void == 0xFFFFFFFF then 1 else 2 }) 3 r ((otpRec t r).void == 0xFFFFFFFF)) := by
    unfold burnComplete
    rw [hb]
    rfl
  rw [h]
  dsimp only
  rw [and_full, show (otpRec s r).void ||| 0xFFFFFFFF = 0xFFFFFFFF from BitVec.or_allOnes, otpRec_setRec, beq_self_eq_true, if_pos rfl]
  rfl

theorem burnComplete_pair (hb : s.lc.burn = some (4, 0, 0xFFFFFFFF)) :
    burnComplete s 0xFFFFFFFF = { s with lc := { s.lc with burn := none, burnRes := 1, paired := true }, culm := { s.culm with paired := true } } := by
  unfold burnComplete
  rw [hb]
  rfl

end

/-! ### What a burned word brings about -/

@[simp] theorem callView_startBurn_lc (s : State) (k r : Nat) (v : W32) : (startBurn s k r v).lc = { s.lc with burn := some (k, r, v) } := rfl

theorem lcReturn_lc (s : State) (h status : Nat) (res : List Nat) : (lcReturn s h status res).lc = s.lc := by
  unfold lcReturn
  dsimp only
  rw [lc_of_callView (callView_svcRet ..)]
  split
  · rfl
  · rw [lcRefused_lc, cinc_lc]

/-- An INTENT burned whole: its target is pending, and a caller that waited returns (R572, R576). -/
theorem burnEnds_intent {s : State} {r t : Nat} (ht : lcStateOf (otpRec s r).intent = some t) :
    (burnEnds s 1 r true).lc = { s.lc with pending := some t, waitHart := none } := by
  have h : burnEnds s 1 r true =
      (let u := raise (lifeRecord (setLc s { s.lc with pending := some ((lcStateOf (otpRec s r).intent).getD 0), waitHart := none }) 1 s.lc.state
        ((lcStateOf (otpRec s r).intent).getD 0) 0xFF (if s.lc.waitHart.isSome then (lcSigner s).1 else [])) 161 []
       match s.lc.waitHart with
       | some (h, _) => if (hartOf s h).svc = some 0x80 then lcReturn u h 0 [] else u
       | none => u) := rfl
  rw [h, ht, Option.getD_some]
  dsimp only
  split
  · split
    · rw [lcReturn_lc, raise_lc, lifeRecord_lc, setLc_lc]
    · rw [raise_lc, lifeRecord_lc, setLc_lc]
  · rw [raise_lc, lifeRecord_lc, setLc_lc]

/-- A VOID word burned: the record is no longer to be voided. -/
theorem burnEnds_void {s : State} {r : Nat} (hv : (otpRec s r).void ≠ 0) : (burnEnds s 3 r true).lc = { s.lc with voiding := none } := by
  have h : burnEnds s 3 r true = if (otpRec s r).void = 0 then s else
      raise (lifeRecord (setLc s { s.lc with voiding := none }) 3 s.lc.state ((lcStateOf (otpRec s r).intent).getD 0xFF) 0xFF []) 163 [r] := rfl
  rw [h, if_neg hv, raise_lc, lifeRecord_lc, setLc_lc]

theorem otpRec_burnEnds_intent {s : State} {r t : Nat} (ht : lcStateOf (otpRec s r).intent = some t) (k : Nat) :
    otpRec (burnEnds s 1 r true) k = otpRec s k := otpRec_of_recs (by rw [burnEnds_intent ht]) k

theorem otpRec_burnEnds_void {s : State} {r : Nat} (hv : (otpRec s r).void ≠ 0) (k : Nat) : otpRec (burnEnds s 3 r true) k = otpRec s k :=
  otpRec_of_recs (by rw [burnEnds_void hv]) k

theorem burnEnds_commit {s : State} {r t : Nat} (ht : lcStateOf (otpRec s r).intent = some t) : burnEnds s 2 r true = lcCommitted s t := by
  have h : burnEnds s 2 r true = lcCommitted s ((lcStateOf (otpRec s r).intent).getD 0) := rfl
  rw [h, ht, Option.getD_some]

@[simp] theorem startStep_lc (s : State) (n : Nat) : (startStep s n).lc = s.lc := by
  unfold startStep
  dsimp only
  split_ifs <;> simp

/-- The decode of a state other than SCRAP ends with its key and no pending target (R514, R568). -/
theorem lcEnter_lc {s : State} (h5 : s.lc.state ≠ 5) :
    (lcEnter s).lc = { s.lc with pending := none, ownKey := if octetsAt (Config.sha384 s.lc.flashKey) 0 48 = s.lc.ownHash then s.lc.flashKey else [] } := by
  unfold lcEnter
  dsimp only
  rw [if_neg h5, startStep_lc, lc_of_callView (callView_tagBoot _)]
  rfl

theorem invView_lcEnter {s : State} (h5 : s.lc.state ≠ 5) : invView (lcEnter s) = invView s := by
  unfold lcEnter
  dsimp only
  rw [if_neg h5]
  simp

/-- The state of `lcCommitted` before its new state is decoded. -/
def committed (s : State) (t : Nat) : State :=
  let old := s.lc.state
  let s := unlatched s
  let s := if s.level = 0 then s else logPut { s with level := 0 } 2 0xFF 0 0 false [s.level]
  let s := raise (lifeRecord s 2 old t 0xFF []) 162 [t]
  if t = 2 then setLc s { s.lc with tokens := (List.range 16).map (fun i => (i, if tokenOf s i = 0 then 0xFFFFFFFF else tokenOf s i)) } else s

theorem lcCommitted_eq (s : State) (t : Nat) : lcCommitted s t = lcEnter (tagCount (setLc (committed s t) { (committed s t).lc with state := t }) 3) := rfl

theorem committed_ladder (s : State) (t : Nat) : (committed s t).level = 0 ∧ (committed s t).tm.latch = false ∧ (committed s t).lc.recs = s.lc.recs := by
  have hu : (unlatched s).tm.latch = false := congrArg (·.2.2.1) (invView_unlatched s)
  have hr : (unlatched s).lc = s.lc := by
    unfold unlatched
    dsimp only
    split <;> rfl
  -- the level falls to 0 with a LADDER record where it is not 0 yet
  have fallen : ∃ u : State, u.level = 0 ∧ u.tm.latch = false ∧ u.lc = s.lc ∧
      (if (unlatched s).level = 0 then unlatched s else logPut { unlatched s with level := 0 } 2 0xFF 0 0 false [(unlatched s).level]) = u := by
    split
    next h => exact ⟨_, h, hu, hr, rfl⟩
    next =>
      refine ⟨_, ?_, ?_, ?_, rfl⟩
      · rfl
      · exact hu
      · exact hr
  obtain ⟨u, hul, huh, hur, he⟩ := fallen
  unfold committed
  dsimp only
  rw [he]
  have hl : (raise (lifeRecord u 2 s.lc.state t 0xFF []) 162 [t]).level = 0 ∧ (raise (lifeRecord u 2 s.lc.state t 0xFF []) 162 [t]).tm.latch = false ∧
      (raise (lifeRecord u 2 s.lc.state t 0xFF []) 162 [t]).lc.recs = s.lc.recs := by
    rw [raise_level, raise_tm, raise_lc, lifeRecord_lc, hur]
    exact ⟨hul, huh, rfl⟩
  split
  · exact hl
  · exact hl

/-- A transition committed: the new state at level 0, the latch cleared (R577). -/
theorem lcCommitted_enters {s : State} {t : Nat} (ht : t ≠ 5) : (lcCommitted s t).lc.state = t ∧ (lcCommitted s t).lc.pending = none ∧
    (lcCommitted s t).level = 0 ∧ (lcCommitted s t).tm.latch = false ∧ (lcCommitted s t).lc.recs = s.lc.recs := by
  obtain ⟨hl, hh, hr⟩ := committed_ladder s t
  have hc : (tagCount (setLc (committed s t) { (committed s t).lc with state := t }) 3).lc = { (committed s t).lc with state := t } :=
    lc_of_callView (s := setLc (committed s t) _) (callView_tagCount ..)
  rw [lcCommitted_eq]
  have hv := invView_lcEnter (s := tagCount (setLc (committed s t) { (committed s t).lc with state := t }) 3) (by rw [hc]; exact ht)
  rw [invView_tagCount, invView_setLc] at hv
  rw [lcEnter_lc (by rw [hc]; exact ht), hc]
  exact ⟨rfl, rfl, (congrArg (·.2.1) hv).trans hl, (congrArg (·.2.2.1) hv).trans hh, hr⟩

/-! ### The obligation's burns -/

/-- Burns of the life cycle (R569 to R572, R576 to R578). -/
theorem lifeCycleBurns : Claims.LifeCycleBurns := by
  intro s t5 st t r v
  dsimp only
  intro hr
  refine ⟨fun hm => ⟨_, exec_ok rfl ((if_pos hr).trans (if_pos hm)), rfl, rfl⟩, fun hm => exec_ok rfl ((if_pos hr).trans (if_neg (ne_true_of_eq_false hm))),
    fun hc hb hw hn => ⟨_, exec_ok rfl ((if_pos hr).trans (lcCommit_burns hc hb hw hn)), rfl, rfl⟩,
    fun hv hb hn => ⟨_, exec_ok rfl ((if_pos hr).trans (lcVoid_burns hv hb hn)), rfl, rfl⟩,
    fun hs ho hp hk hn => ⟨_, exec_ok rfl ((if_pos hr).trans (if_pos ⟨hs, ho, hp, hk, by rw [hn]; rfl⟩)), rfl, rfl⟩,
    fun hb hi hv h1 h5 => ⟨_, exec_ok rfl ((if_pos hr).trans (burnComplete_intent hb hi)), ?intent⟩,
    fun hb hi hc hv h1 h4 => ⟨_, exec_ok rfl ((if_pos hr).trans (burnComplete_commit hb hc)), ?commit⟩,
    fun hb => ⟨_, exec_ok rfl ((if_pos hr).trans (burnComplete_void hb)), ?void⟩,
    fun hb => ⟨_, exec_ok rfl ((if_pos hr).trans (burnComplete_pair hb)), rfl, rfl, rfl⟩⟩
  case intent =>
    have ht : lcStateOf (otpRec (burned s r { otpRec s r with intent := v }) r).intent = some t := by
      rw [otpRec_burned]
      exact (congrArg lcStateOf hv).trans (lcStateOf_lcCode h1 h5)
    have hl := burnEnds_intent ht
    exact ⟨congrArg LcSt.burn hl, by rw [otpRec_burnEnds_intent ht, otpRec_burned], congrArg LcSt.pending hl, congrArg LcSt.burnRes hl⟩
  case commit =>
    have ht : lcStateOf (otpRec (burned s r { otpRec s r with commit := v }) r).intent = some t := by
      rw [otpRec_burned]
      exact (congrArg lcStateOf (hi.trans hv)).trans (lcStateOf_lcCode h1 (by omega))
    obtain ⟨hst, hp, hl, hla, hrec⟩ := lcCommitted_enters (s := burned s r { otpRec s r with commit := v }) (t := t) (by omega)
    dsimp only
    rw [burnEnds_commit ht]
    exact ⟨hst, hp, hl, hla, by rw [otpRec_of_recs hrec, otpRec_burned]⟩
  case void =>
    have hv : (otpRec (burned s r { otpRec s r with void := 0xFFFFFFFF }) r).void ≠ 0 := by
      rw [otpRec_burned]
      exact show (0xFFFFFFFF : W32) ≠ 0 by decide
    have hl := burnEnds_void hv
    exact ⟨by rw [otpRec_burnEnds_void hv, otpRec_burned], congrArg LcSt.voiding hl, congrArg LcSt.burn hl⟩

/-! ### LC_REQUEST (R573 to R576, R579) -/

/-- A record of the operation that the command is for, on a hart that waits for no burn, is answered by its check (R575). -/
theorem svcLc_checked {s : State} {x : Hart} {j : Job} {op : Nat} (hw : s.lc.waitHart = none) (hin : inScratch (svcArg x 2) (svcArg x 3) = true)
    (ho : lcOp (scratchRead s j (svcArg x 2) (svcArg x 3)) = op) (h : Nat) (body : State → List Byte → State) :
    let l := scratchRead s j (svcArg x 2) (svcArg x 3)
    svcLc op s x h j body = if lcGood s l then body s l
      else lcReturn (if op = 3 ∧ s.lc.nonce.map (fun v => v.toNat) = some (lcNonce l) then setLc s { s.lc with nonce := none } else s) h 3 [] := by
  unfold svcLc
  dsimp only
  rw [hw, if_neg (by decide), hin, if_neg (by decide), if_neg (by simp [ho]), ho]
  by_cases hg : lcGood s (scratchRead s j (svcArg x 2) (svcArg x 3)) = true
  · rw [if_neg (by simp [hg]), if_pos hg]
  · rw [if_pos (by simp [hg]), if_neg hg]

theorem lcOutput_fits {s : State} {x : Hart} {l : List Byte} (hin : inScratch (svcArg x 4) l.length = true) (j : Job) (h : Nat) :
    lcOutput s j x h l = lcReturn (scratchWrite s j (svcArg x 4) l) h 0 [] := by
  unfold lcOutput
  rw [if_neg (by simp [hin])]

theorem inScratch_le {o m n : Nat} (h : inScratch o n = true) (hm : m ≤ n) : inScratch o m = true := by
  unfold inScratch at *
  simp only [decide_eq_true_eq] at *
  omega

/-- A stale nonce, or a transition that may not begin (R575). -/
theorem lcTransition_stale {s : State} {l : List Byte} (hn : s.lc.nonce.map (fun v => v.toNat) ≠ some (lcNonce l)) (h : Nat) :
    lcTransition s l h = lcReturn s h 1 [] := by
  unfold lcTransition
  dsimp only
  rw [if_neg (c := (s.lc.nonce.map (fun v => v.toNat)) = some (lcNonce l)) hn, if_pos (by simp [hn])]

/-- The INTENT that a transition of this request begins, once what goes before it is done. -/
def intentBegun (s : State) (l : List Byte) (h : Nat) : State :=
  startBurn (setLc s { s.lc with waitHart := some (h, lcTarget l) }) 1 ((freeRecs s).headD 0) (lcCode (lcTarget l))

/-- The nonce of a request is spent (R575). -/
def nonceSpent (s : State) : State := setLc s { s.lc with nonce := none }

theorem lcTransition_fresh {s : State} {l : List Byte} (hn : s.lc.nonce.map (fun v => v.toNat) = some (lcNonce l)) (hm : mayIntend s (lcTarget l) = true)
    (hp : lcTarget l = 2 → s.lc.paired = true) (h : Nat) : lcTransition s l h =
      if lcTarget l = 3 ∧ !flashFree s then nonceSpent s
      else intentBegun (if lcTarget l = 3 then
          (let u := jStore (nonceSpent s) 1956 1 (leBytes 4 (leNat (octetsAt l 40 1)) ++ octetsAt l 44 (lcPayLen l - 4))
           setLc u { u.lc with flashKey := octetsAt l 44 (lcPayLen l - 4), flashAlg := leNat (octetsAt l 40 1) })
        else nonceSpent s) l h := by
  have hm' : mayIntend (nonceSpent s) (lcTarget l) = true := hm
  have hp' : (decide (lcTarget l = 2) && !(nonceSpent s).lc.paired) = false := by
    by_cases h2 : lcTarget l = 2
    · rw [show (nonceSpent s).lc.paired = true from hp h2, Bool.not_true, Bool.and_false]
    · rw [decide_eq_false h2, Bool.false_and]
  unfold lcTransition
  dsimp only
  rw [if_pos (c := (s.lc.nonce.map (fun v => v.toNat)) = some (lcNonce l)) hn]
  change (if (_ || !mayIntend (nonceSpent s) (lcTarget l) || (decide (lcTarget l = 2) && !(nonceSpent s).lc.paired)) = true then _ else _) = _
  rw [hm', hp', decide_eq_true hn, if_neg (by decide)]
  rfl

/-- A transition on a fresh nonce begins its INTENT (R575, R576). -/
theorem lcTransition_begins {s : State} {l : List Byte} (hn : s.lc.nonce.map (fun v => v.toNat) = some (lcNonce l)) (hm : mayIntend s (lcTarget l) = true)
    (hp : lcTarget l = 2 → s.lc.paired = true) (h3 : lcTarget l ≠ 3) (h : Nat) : (lcTransition s l h).lc =
      { s.lc with nonce := none, waitHart := some (h, lcTarget l), burn := some (1, (freeRecs s).headD 0, lcCode (lcTarget l)) } := by
  rw [lcTransition_fresh hn hm hp, if_neg (fun hb => h3 hb.1), if_neg h3]
  rfl

/-- An enrolment stores the owner key record first (R575, R579). -/
theorem lcTransition_enrols {s : State} {l : List Byte} (hn : s.lc.nonce.map (fun v => v.toNat) = some (lcNonce l)) (hm : mayIntend s 3 = true)
    (h3 : lcTarget l = 3) (hf : flashFree s = true) (h : Nat) : (lcTransition s l h).lc.nonce = none ∧
      (lcTransition s l h).lc.burn = some (1, (freeRecs s).headD 0, lcCode 3) ∧ (lcTransition s l h).lc.flashKey = octetsAt l 44 (lcPayLen l - 4) := by
  rw [lcTransition_fresh hn (by rw [h3]; exact hm) (fun h2 => absurd (h3.symm.trans h2) (by decide)), if_neg (by simp [hf]), if_pos h3]
  have hl : (jStore (nonceSpent s) 1956 1 (leBytes 4 (leNat (octetsAt l 40 1)) ++ octetsAt l 44 (lcPayLen l - 4))).lc = (nonceSpent s).lc :=
    lc_of_storeView (storeView_jStore ..)
  simp only [intentBegun, startBurn, setLc_lc, freeRecs, otpRec, hl, h3]
  exact ⟨rfl, rfl, trivial⟩

/-- LC_REQUEST (R573 to R576, R579). -/
theorem lifeCycleServices : Claims.LifeCycleServices := by
  intro s h j
  dsimp only
  refine ⟨fun ⟨hs, hw, hin, ho⟩ hout => exec_inService rfl hs ?status, fun ⟨hs, hw, hin, ho⟩ hout hc => exec_inService rfl hs ?challenge,
    fun ⟨hs, hw, hin, ho⟩ hn hm hp h3 => ⟨_, exec_inService rfl hs (svcLc_checked hw hin ho h _), ?transition⟩,
    fun ⟨hs, hw, hin, ho⟩ hn hm h3 hf => ⟨_, exec_inService rfl hs (svcLc_checked hw hin ho h _), ?enrol⟩,
    fun ⟨hs, hw, hin, ho⟩ hn => exec_inService rfl hs ?stale, fun ⟨hs, hw, hin, ho⟩ hst => exec_inService rfl hs ?exercise,
    fun ⟨hs, hw, hin, ho⟩ hst hk => exec_inService rfl hs ?keys⟩
  case status =>
    refine (svcLc_checked hw hin ho h _).trans ?_
    rw [lcOutput_fits hout]
    rfl
  case challenge =>
    refine (svcLc_checked hw hin ho h _).trans ?_
    rw [if_pos hc, lcOutput_fits (inScratch_le hout (length_drawOctets_le s 16))]
    rfl
  case transition =>
    dsimp only
    split
    · exact lcTransition_begins hn hm hp h3 h
    · rw [if_pos ⟨rfl, hn⟩, lcReturn_lc]
      rfl
  case enrol =>
    dsimp only
    split
    next hg =>
      obtain ⟨h1, h2, h4⟩ := lcTransition_enrols hn hm h3 hf h
      exact ⟨h1, fun _ => ⟨h2, h4⟩, fun hb => absurd hg (ne_true_of_eq_false hb)⟩
    next hg =>
      rw [if_pos ⟨rfl, hn⟩, lcReturn_lc]
      exact ⟨rfl, fun ht => absurd ht hg, fun _ => rfl⟩
  case stale =>
    refine (svcLc_checked hw hin ho h _).trans ?_
    dsimp only
    split
    next hg => rw [lcTransition_stale hn]
    next hg => rw [if_neg fun hb => hn hb.2]
  case exercise =>
    refine (svcLc_checked hw hin ho h _).trans ?_
    rw [if_neg (show ¬(s.lc.state ≠ 1) from fun hne => hne hst)]
    rfl
  case keys =>
    refine (svcLc_checked hw hin ho h _).trans ?_
    dsimp only
    rw [if_neg (show ¬(s.lc.state ≠ 3 ∨ s.lc.metKey = false) by simp [hst, hk])]
    split
    next hg =>
      by_cases hf : inScratch (svcArg (hartOf s h) 4) (lcKeys s).length = true
      · rw [lcOutput_fits hf, if_pos ⟨hg, hf⟩]
      · rw [if_neg fun hb => hf hb.2]
        exact if_pos (by simp [hf])
    next hg => rw [if_neg fun hb => absurd hb.1 (by decide), if_neg fun hb => hg hb.1]

/-- Settles O46: burns begin and end as R576 has them, and LC_REQUEST answers each operation on a good record. -/
theorem lifeCycle : Obligations.LifeCycle := ⟨lifeCycleBurns, lifeCycleServices⟩

end Sys2Proof.Proofs

end

section
/-! The tamper log and the event recorder (R549 to R561). -/

namespace Sys2Proof.Proofs

open Sys2Proof Sys2Proof.Machine Sys2Proof.Safety

/-! ### The tamper log (R549 to R551) -/

/-- A record appended with the next LSEQ. -/
theorem logAppend_tm {s : State} {r : LogRec} {l : List LogRec} (h : s.tm.logPend = r :: l) : (logAppend s).tm =
    { (if s.tm.first.length < 64 then { s.tm with first := s.tm.first ++ [{ r with lseq := s.tm.lseq }] }
       else { s.tm with ring := (if 448 ≤ s.tm.ring.length then s.tm.ring.tail else s.tm.ring) ++ [{ r with lseq := s.tm.lseq }] }) with
      logPend := l, lseq := s.tm.lseq + 1, dirty := true } := by
  unfold logAppend
  rw [h]
  simp only [decide_eq_true_eq, apply_ite State.tm, raise_tm, ite_self]

/-- The copies written in turn: a token, and the log no longer dirty. -/
theorem mirrorLog_tm (s : State) : (mirrorLog s).tm = { s.tm with nextB := !s.tm.nextB, dirty := false } ∧ (mirrorLog s).ev.logTok = s.ev.logTok - 1 := by
  have hv := storeView_jStore s (copySector s.tm.nextB) 2 (logSlots s)
  have htok : (jStore s (copySector s.tm.nextB) 2 (logSlots s)).ev.logTok = s.ev.logTok :=
    congrArg (·.2.2.2.2.2.2.1) (evRecorder_of_storeView hv)
  unfold mirrorLog
  dsimp only
  refine ⟨by rw [raise_tm, cinc_tm, tm_of_storeView hv], ?_⟩
  rw [← htok]
  exact congrArg (·.2.2.2.2.2.2.1) (evRecorder_raise _ 3779 [])

theorem tamperLog : Claims.TamperLog := by
  intro s r l
  refine ⟨fun hm hl => ⟨_, exec_ok rfl (if_neg hm), ?append⟩, fun hr hd ht hf => ⟨_, exec_ok rfl (if_pos (by simp [hr, hd, ht, hf])), mirrorLog_tm s⟩,
    fun h => ⟨_, exec_ok rfl (if_pos h), rfl⟩, fun h => exec_ok rfl (if_neg (not_lt.mpr h))⟩
  case append =>
    have h := logAppend_tm hl
    dsimp only
    rw [h]
    refine ⟨rfl, rfl, rfl, fun h64 => ?_, fun h64 h448 => ?_, fun h64 h448 => ?_⟩
    · rw [if_pos h64]
      exact ⟨rfl, rfl⟩
    · rw [if_neg (not_lt.mpr h64), if_neg (not_le.mpr h448)]
      exact ⟨rfl, rfl⟩
    · rw [if_neg (not_lt.mpr h64), if_pos h448]
      exact ⟨rfl, rfl⟩

/-! ### Records in their areas (R553 to R555) -/

theorem length_recBytes (seq src code rep : Nat) (data : List Nat) : (recBytes seq src code rep data).length = 32 := by
  simp [recBytes, length_octetsAt]

theorem length_recRepeat {l : List Byte} (h : l.length = 32) (rep : Nat) : (recRepeat l rep).length = 32 := by
  simp [recRepeat, putOctets, h]

/-- Reading 32 octets back where a record was written. -/
theorem memRead_record (s : State) (a : Nat) {l : List Byte} (h : l.length = 32) : memRead (memWrite s a l) a 32 = l := by
  rw [← h]
  exact memRead_memWrite s a l

theorem overwriteQuarter_cases (s : State) (k : Nat) : ∃ q c, overwriteQuarter s k = { s with ev := { s.ev with quarters := q }, cnts := c } := by
  unfold overwriteQuarter
  dsimp only
  split
  · exact ⟨_, _, rfl⟩
  · exact ⟨s.ev.quarters, s.cnts, rfl⟩

/-- A new record lies at its area's head, under the next SEQ, and the head moves on. -/
theorem addRecord_head (s : State) (k src code rep : Nat) (data : List Nat) :
    memRead (addRecord s k src code rep data) (recSlotA k (areaHead s k)) 32 = recBytes s.ev.seq src code rep data ∧
      (addRecord s k src code rep data).ev.seq = (s.ev.seq + 1) % 2 ^ 48 ∧ areaHead (addRecord s k src code rep data) k = (areaHead s k + 1) % areaLen k ∧
      (addRecord s k src code rep data).ev.intake = s.ev.intake ∧ (addRecord s k src code rep data).ev.held = s.ev.held := by
  obtain ⟨q, c, hq⟩ := overwriteQuarter_cases s k
  unfold addRecord
  rw [hq]
  refine ⟨memRead_record _ _ (length_recBytes ..), rfl, ?_, rfl, rfl⟩
  exact tget_tput ..

/-! ### A raising taken (R555 to R558) -/

/-- A raising has left the intake. -/
def intakeTaken (s : State) (r : Raising) : State := { s with ev := { s.ev with intake := s.ev.intake.erase r } }

/-- A raising taken where no write is refused, no gap is to be told and nothing is held. -/
theorem recorderAccept_taken {s t : State} {r : Raising} (hn : nextRaising s = some r)
    (hb : bufferFault (intakeTaken s r) 26 .store (recSlotA (evClass r.src) (areaHead s (evClass r.src))) 32 = none)
    (hg : tget (fun _ => false) s.ev.gapped (evClass r.src) = false) (hp : putRaising (intakeTaken s r) (evClass r.src) r = t) (hh : t.ev.held = []) :
    recorderAccept s = t := by
  have hgap : gapRecord (intakeTaken s r) (evClass r.src) = intakeTaken s r := if_neg (ne_true_of_eq_false hg)
  unfold recorderAccept
  rw [hn]
  dsimp only
  rw [show setEv s { s.ev with intake := s.ev.intake.erase r } = intakeTaken s r from rfl,
    show areaHead (intakeTaken s r) (evClass r.src) = areaHead s (evClass r.src) from rfl, hb]
  dsimp only
  rw [hgap, hp, hh]
  rfl

/-- A raising without an open record of its source and code becomes a record. -/
theorem putRaising_new {s : State} {k : Nat} {r : Raising} (ho : openRecord s k r.src r.code = none) :
    putRaising s k r = cadd (addRecord s k r.src r.code (r.count - 1) r.data) 0x30038140 (r.count - 1) := by
  unfold putRaising
  rw [ho]

theorem natMin_right {a b : Nat} (h : b ≤ a) : Nat.min a b = b := Nat.min_eq_right h

/-- Another raising of an open record's source and code is added to its REPEAT. -/
theorem putRaising_repeat {s : State} {k : Nat} {r : Raising} {l : EvLast} (ho : openRecord s k r.src r.code = some l) (hr : l.rep + r.count ≤ 0xFFFF) :
    memRead (putRaising s k r) (recSlotA k l.slot) 32 = recRepeat (memRead s (recSlotA k l.slot) 32) (l.rep + r.count) ∧
      (putRaising s k r).ev.seq = s.ev.seq ∧ areaHead (putRaising s k r) k = areaHead s k ∧ (putRaising s k r).ev.held = s.ev.held := by
  unfold putRaising
  rw [ho]
  dsimp only
  rw [natMin_right hr, Nat.sub_self, if_pos rfl]
  refine ⟨?_, rfl, rfl, rfl⟩
  rw [memRead_cadd, memRead_setEv]
  exact memRead_record _ _ (length_recRepeat (length_memRead ..) _)

/-! ### The mirror (R559) -/

theorem mirrorQuarter_eq (s : State) (q : Nat × Nat) : ∃ j, storeView j = storeView s ∧ mirrorQuarter s q =
    raise (cinc (setEv j { j.ev with quarters := j.ev.quarters.filter (fun x => x != q), recTok := j.ev.recTok - 1, mirSeg := (j.ev.mirSeg + 1) % 64 }) 0x30038150)
      202 [q.1, q.2] := ⟨_, storeView_jStore .., rfl⟩

/-- A quarter mirrored leaves the areas, draws a token and takes the ring's next segment. -/
theorem mirrorQuarter_mirrors (s : State) (q : Nat × Nat) : (mirrorQuarter s q).ev.quarters = s.ev.quarters.filter (fun x => x != q) ∧
    (mirrorQuarter s q).ev.recTok = s.ev.recTok - 1 ∧ (mirrorQuarter s q).ev.mirSeg = (s.ev.mirSeg + 1) % 64 ∧ (mirrorQuarter s q).sram = s.sram := by
  obtain ⟨j, hj, he⟩ := mirrorQuarter_eq s q
  have hv := evRecorder_of_storeView hj
  have hr : evRecorder (mirrorQuarter s q).ev = evRecorder
      { j.ev with quarters := j.ev.quarters.filter (fun x => x != q), recTok := j.ev.recTok - 1, mirSeg := (j.ev.mirSeg + 1) % 64 } := by
    rw [he, evRecorder_raise, cinc_ev, setEv_ev]
  simp only [evRecorder, Prod.mk.injEq] at hv hr
  obtain ⟨-, -, -, -, hq, ht, -, hm⟩ := hv
  obtain ⟨-, -, -, -, hq', ht', -, hm'⟩ := hr
  exact ⟨hq'.trans (congrArg _ hq), ht'.trans (congrArg (· - 1) ht), hm'.trans (congrArg (fun n => (n + 1) % 64) hm),
    by rw [he, raise_sram, cinc_sram, setEv_sram, sram_of_storeView hj]⟩

/-- The one quarter that waits is the one looked for. -/
theorem waiting_quarter {q : Nat × Nat} (p : Nat → Bool) (hk : q.1 < 4) (hp : p q.1 = true) :
    (List.range 4).findSome? (fun k => [q].find? (fun x => x.1 == k && p k)) = some q := by
  have here : [q].find? (fun x => x.1 == q.1 && p q.1) = some q := by simp [hp]
  have other {k : Nat} (h : q.1 ≠ k) : [q].find? (fun x => x.1 == k && p k) = none := by simp [h]
  have hr : List.range 4 = [0, 1, 2, 3] := rfl
  rw [hr]
  simp only [List.findSome?_cons]
  obtain ⟨a, b⟩ := q
  have h : a = 0 ∨ a = 1 ∨ a = 2 ∨ a = 3 := by
    have : a < 4 := hk
    omega
  rcases h with rfl | rfl | rfl | rfl
  · rw [here]
  · rw [other Nat.one_ne_zero, here]
  · rw [other (show 2 ≠ 0 by decide), other (show 2 ≠ 1 by decide), here]
  · rw [other (show 3 ≠ 0 by decide), other (show 3 ≠ 1 by decide), other (show 3 ≠ 2 by decide), here]

theorem mirror_exec {s : State} {q : Nat × Nat} (hr : runs s = true) (hf : flashFree s = true) (hq : s.ev.quarters = [q]) (hk : q.1 < 4)
    (ht : 0 < s.ev.recTok) (hm : q.1 = 0 ∨ rbit s 0x30038000 0 = true) : exec .recorderQuarterMirror s = .next (mirrorQuarter s q) := by
  refine exec_ok rfl ?_
  rw [if_neg (by simp [hr, hf]), hq, waiting_quarter (fun k => k != 1 || decide (0 < s.ev.recTok) || !rbit s 0x30038000 0 || !([q].any (fun p => decide (1 < p.1)))) hk
    (by simp [ht])]
  dsimp only
  unfold quarterStep
  rw [if_neg (by rcases hm with hm | hm <;> simp [hm]), if_pos ht]

/-! ### The obligation -/

theorem recorder : Claims.Recorder := by
  intro s r l q f v
  dsimp only
  refine ⟨fun hr hn hk hh he hb hg ho => ?adds, fun hr hn hk hh he hb hg ho hc => ?repeats, fun hr hf hq hk ht hm => ?mirrors,
    fun h => ⟨_, exec_ok rfl (if_pos h), rfl⟩, fun hp => ⟨_, exec_ok rfl rfl, ?bucket⟩⟩
  case adds =>
    obtain ⟨hm, hs, ha, hi, hd⟩ := addRecord_head (intakeTaken s r) (evClass r.src) r.src r.code (r.count - 1) r.data
    exact ⟨_, exec_ok rfl ((if_pos hr).trans (recorderAccept_taken hn hb hg (putRaising_new ho) (hd.trans he))), hm, hs, ha, hi⟩
  case repeats =>
    obtain ⟨hm, hs, ha, hd⟩ := putRaising_repeat (s := intakeTaken s r) (k := evClass r.src) (r := r) (l := l) ho hc
    exact ⟨_, exec_ok rfl ((if_pos hr).trans (recorderAccept_taken hn hb hg rfl (hd.trans he))), hm, hs, ha⟩
  case mirrors =>
    obtain ⟨h1, h2, h3, h4⟩ := mirrorQuarter_mirrors s q
    exact ⟨_, mirror_exec hr hf hq hk ht hm, by rw [h1, hq]; simp, h2, h3, h4⟩
  case bucket =>
    have hv : vecOf (setVec s f v { vecOf s f v with used := (vecOf s f v).used - 1 }) f v = { vecOf s f v with used := (vecOf s f v).used - 1 } := vecOf_setVec ..
    have ht : vecTry (setVec s f v { vecOf s f v with used := (vecOf s f v).used - 1 }) f v = setVec s f v { vecOf s f v with used := (vecOf s f v).used - 1 } := by
      unfold vecTry
      dsimp only
      rw [hv, if_pos (by simp [hp])]
    dsimp only
    rw [ht, hv]

/-- Settles O39: records are appended and taken one at a time, and each mirror costs a token. -/
theorem tamperLogAndRecorder : Obligations.TamperLogAndRecorder := ⟨tamperLog, recorder⟩

end Sys2Proof.Proofs

end

section
/-! What the sub-systems' own work leaves of the start, the update slots and the alarm records: a view of them, and each operation that keeps it. -/

namespace Sys2Proof.Proofs

open Sys2Proof Sys2Proof.Machine Sys2Proof.Safety

/-- The power state, with LOCKDOWN counted as SERVICE: the ladder's rise moves it from the one to the other. -/
def pwRise (x : PwSt) : PwSt := { x with mode := if x.mode = .lockdown then .service else x.mode }

/-- What a rise of the ladder and the work of the sub-systems leave. -/
def riseView (s : State) : PwSt × UpdSt × Bool × Tbl MonSt × Nat × List Firing × List LogRec × List LogRec × Bool × Bool :=
  (pwRise s.pw, s.upd, s.ord.paused, s.tm.mons, s.tm.fired, s.tm.late, s.tm.first, s.tm.ring, s.tm.sigOk, s.tm.backupLost)

theorem riseView_of_callView {s t : State} (h : callView s = callView t) : riseView s = riseView t := by
  simp only [riseView, pw_of_callView h, upd_of_callView h, paused_of_callView h, tm_of_callView h]

/-- An update of other fields keeps the view. -/
@[simp] theorem riseView_fields (s : State) (regs : Tbl W32) (locks : Tbl Bool) (cnts : Tbl W64) (latches : Tbl (Option W32)) (reply : List Nat)
    (sent : List Sent) (now freeCtr : Nat) (line : LineSt) (saCnt domCnt : Tbl W64) (bank : Nat) (gran : GranSt) (culm : CulmSt) (ev : EvSt) (host : HostSt)
    (hstate : Tbl HState) (harts : Tbl Hart) (sram : Tbl Byte) (tags : Tbl Nat) (badTag badLane : Tbl Bool) (rc : RcSt) (dma : Tbl DmaSt) (li : LiSt)
    (tag : TagSt) (rmSram rmLine : RemapSt) (pending : List Instr) (cs : CsSt) (lc : LcSt) (mt : MtSt) (fl : FlSt) (rng : RngSt) (level : Nat) : riseView { s with
      regs, locks, cnts, latches, reply, sent, now, freeCtr, line, saCnt, domCnt, bank, gran, culm, ev, host, hstate, harts, sram, tags, badTag, badLane,
      rc, dma, li, tag, rmSram, rmLine, pending, cs, lc, mt, fl, rng, level } = riseView s := rfl

/-- An update of the orders that leaves whether they are paused. -/
theorem riseView_ord (s : State) (x : OrdSt) (h : x.paused = s.ord.paused) : riseView { s with ord := x } = riseView s := by
  simp only [riseView, h]

@[simp] theorem riseView_logPend (s : State) (l : List LogRec) : riseView { s with tm := { s.tm with logPend := l } } = riseView s := rfl

@[simp] theorem riseView_ite (c : Prop) [Decidable c] (s t : State) : riseView (if c then s else t) = if c then riseView s else riseView t :=
  apply_ite _ _ _ _

@[simp] theorem riseView_foldl {α : Type} {g : State → α → State} (hg : ∀ s a, riseView (g s a) = riseView s) (l : List α) (s : State) :
    riseView (l.foldl g s) = riseView s := foldl_keeps hg l s

@[simp] theorem riseView_rset (s : State) (a : Nat) (v : W32) : riseView (rset s a v) = riseView s := riseView_of_callView (by simp)
@[simp] theorem riseView_rsetf (s : State) (a m l v : Nat) : riseView (rsetf s a m l v) = riseView s := riseView_of_callView (by simp)
@[simp] theorem riseView_rsets (s : State) (a : Nat) (l : List W32) : riseView (rsets s a l) = riseView s := riseView_of_callView (by simp)
@[simp] theorem riseView_cadd (s : State) (a n : Nat) : riseView (cadd s a n) = riseView s := riseView_of_callView (by simp)
@[simp] theorem riseView_cinc (s : State) (a : Nat) : riseView (cinc s a) = riseView s := riseView_of_callView (by simp)
@[simp] theorem riseView_freed (s : State) : riseView (freed s) = riseView s := riseView_of_callView (by simp)
@[simp] theorem riseView_setHart (s : State) (h : Nat) (x : Hart) : riseView (setHart s h x) = riseView s := riseView_of_callView (by simp)
@[simp] theorem riseView_modJob (s : State) (i : Nat) (g : Job → Job) : riseView (modJob s i g) = riseView s := riseView_of_callView (by simp)
@[simp] theorem riseView_raiseEv (s : State) (src code : Nat) (data : List Nat) : riseView (raiseEv s src code data) = riseView s := riseView_of_callView (by simp)
@[simp] theorem riseView_raise (s : State) (src : Nat) (data : List Nat) : riseView (raise s src data) = riseView s := riseView_of_callView (by simp)
@[simp] theorem riseView_liWithdraw (s : State) (p : LiJob → Bool) : riseView (liWithdraw s p) = riseView s := riseView_of_callView (by simp)
@[simp] theorem riseView_setTagSt (s : State) (x : TagSt) : riseView (setTagSt s x) = riseView s := riseView_of_callView (by simp)
@[simp] theorem riseView_tagDevice (s : State) (kind : Nat) (a : TagAsk) : riseView (tagDevice s kind a) = riseView s := riseView_of_callView (by simp)
@[simp] theorem riseView_tagLevel (s : State) (new : Nat) : riseView (tagLevel s new) = riseView s := riseView_of_callView (by simp)
@[simp] theorem riseView_send (s : State) (x : Sent) : riseView (send s x) = riseView s := by simp [send]
@[simp] theorem riseView_setVec (s : State) (f v : Nat) (x : VecSt) : riseView (setVec s f v x) = riseView s := by simp [setVec]
@[simp] theorem riseView_vecTry (s : State) (f v : Nat) : riseView (vecTry s f v) = riseView s := by simp [vecTry]
@[simp] theorem riseView_vecCause (s : State) (f v : Nat) : riseView (vecCause s f v) = riseView s := by simp [vecCause]
@[simp] theorem riseView_recZero (s : State) (b kind i : Nat) : riseView (recZero s b kind i) = riseView s := by simp [recZero]
@[simp] theorem riseView_recUpdate (s : State) (kind i : Nat) : riseView (recUpdate s kind i) = riseView s := by
  unfold recUpdate
  dsimp only
  split <;> simp
@[simp] theorem riseView_saAdd (s : State) (slot idx n : Nat) : riseView (saAdd s slot idx n) = riseView s := by simp [saAdd]
@[simp] theorem riseView_domAdd (s : State) (d idx n : Nat) : riseView (domAdd s d idx n) = riseView s := by simp [domAdd]
@[simp] theorem riseView_refuse (s : State) (a : Nat) : riseView (refuse s a) = riseView s := by simp [refuse]
@[simp] theorem riseView_setCs (s : State) (x : CsSt) : riseView (setCs s x) = riseView s := by simp [setCs]
@[simp] theorem riseView_csOff (s : State) : riseView (csOff s) = riseView s := by simp [csOff]
@[simp] theorem riseView_csSettle (s : State) : riseView (csSettle s) = riseView s := by simp [csSettle]
@[simp] theorem riseView_csEnd (s : State) (status : Nat) : riseView (csEnd s status) = riseView s := by
  unfold csEnd
  split <;> simp
@[simp] theorem riseView_csAbandon (s : State) : riseView (csAbandon s) = riseView s := by simp [csAbandon]
@[simp] theorem riseView_csLadder (s : State) (new : Nat) : riseView (csLadder s new) = riseView s := by
  unfold csLadder
  split <;> simp
@[simp] theorem riseView_setSide (s : State) (p : Nat) (d : Side) (x : SideSt) : riseView (setSide s p d x) = riseView s := by simp [setSide]
@[simp] theorem riseView_setBlock (s : State) (b : Nat) (x : BlockSt) : riseView (setBlock s b x) = riseView s := by simp [setBlock]
@[simp] theorem riseView_setFrames (s : State) (p : Nat) (d : Dir) (l : List Frame) : riseView (setFrames s p d l) = riseView s := by simp [setFrames]
@[simp] theorem riseView_modFrame (s : State) (p : Nat) (d : Dir) (n : Nat) (g : Frame → Frame) : riseView (modFrame s p d n g) = riseView s := by
  simp [modFrame]
@[simp] theorem riseView_dropFrame (s : State) (p : Nat) (d : Dir) (n : Nat) : riseView (dropFrame s p d n) = riseView s := by simp [dropFrame]
@[simp] theorem riseView_sendPause (s : State) (p : Nat) (d : Dir) (was now : Nat) : riseView (sendPause s p d was now) = riseView s := by
  simp [sendPause]
@[simp] theorem riseView_pauseUpdate (s : State) (p : Nat) (d : Dir) : riseView (pauseUpdate s p d) = riseView s := by simp [pauseUpdate]
@[simp] theorem riseView_releasePause (s : State) (p : Nat) (d : Dir) : riseView (releasePause s p d) = riseView s := by simp [releasePause]
@[simp] theorem riseView_powerEvent (old s : State) (b : Nat) : riseView (powerEvent old s b) = riseView s := by simp [powerEvent]
@[simp] theorem riseView_blockAdmit (s : State) (b : Nat) : riseView (blockAdmit s b) = riseView s := by simp [blockAdmit]
@[simp] theorem riseView_recordErr (s : State) (v : Nat) (d : Dir) (f : Frame) (cls : Nat) : riseView (recordErr s v d f cls) = riseView s := by
  simp [recordErr]
@[simp] theorem riseView_endFrame (s : State) (p : Nat) (d : Dir) (n : Nat) : riseView (endFrame s p d n) = riseView s := by simp [endFrame]
@[simp] theorem riseView_countStomped (s : State) (p : Nat) (d : Dir) (f : Frame) : riseView (countStomped s p d f) = riseView s := by
  unfold countStomped
  split <;> simp
@[simp] theorem riseView_icvFailure (s : State) (v : Nat) : riseView (icvFailure s v) = riseView s := by simp [icvFailure]
@[simp] theorem riseView_setSlot (s : State) (n : Nat) (e : SaEntry) : riseView (setSlot s n e) = riseView s := by simp [setSlot]
@[simp] theorem riseView_setMargin (s : State) (n : Nat) (b : Bool) : riseView (setMargin s n b) = riseView s := by simp [setMargin]
@[simp] theorem riseView_raiseNextPn (s : State) (n pn : Nat) : riseView (raiseNextPn s n pn) = riseView s := by simp [raiseNextPn]
@[simp] theorem riseView_countDrop (s : State) (p : Nat) (d : Dir) (f : Frame) : riseView (countDrop s p d f) = riseView s := by
  unfold countDrop
  split <;> simp
@[simp] theorem riseView_runDescriptors (k : Nat) (s : State) (p : Nat) (d : Dir) : riseView (runDescriptors k s p d) = riseView s := by
  induction k generalizing s with
  | zero => rfl
  | succ k ih =>
    unfold runDescriptors
    repeat' split
    all_goals simp [ih]
@[simp] theorem riseView_headRun (s : State) (p : Nat) (d : Dir) : riseView (headRun s p d) = riseView s := by simp [headRun]
@[simp] theorem riseView_dropWhole (s : State) (p : Nat) (d : Dir) (f : Frame) : riseView (dropWhole s p d f) = riseView s := by simp [dropWhole]
@[simp] theorem riseView_stompDrop (s : State) (p : Nat) (d : Dir) (f : Frame) (how : Fate) (out : List Byte) : riseView (stompDrop s p d f how out) = riseView s := by
  simp [stompDrop]
@[simp] theorem riseView_passFrame (s : State) (p : Nat) (d : Dir) (f : Frame) (out : List Byte) : riseView (passFrame s p d f out) = riseView s := by
  simp [passFrame]
@[simp] theorem riseView_icvFail (s : State) (p : Nat) (f : Frame) (cls : Nat) : riseView (icvFail s p f cls) = riseView s := by simp [icvFail]
@[simp] theorem riseView_verdictRx (s : State) (p : Nat) (f : Frame) : riseView (verdictRx s p f) = riseView s := by simp [verdictRx]
@[simp] theorem riseView_verdictTx (s : State) (p : Nat) (f : Frame) : riseView (verdictTx s p f) = riseView s := by simp [verdictTx]
@[simp] theorem riseView_verdictBypass (s : State) (p : Nat) (d : Dir) (f : Frame) : riseView (verdictBypass s p d f) = riseView s := by
  unfold verdictBypass
  split <;> simp
@[simp] theorem riseView_tryVerdict (s : State) (p : Nat) (d : Dir) : riseView (tryVerdict s p d) = riseView s := by
  unfold tryVerdict
  dsimp only
  repeat' split
  all_goals simp
@[simp] theorem riseView_faultSide (s : State) (p : Nat) (d : Side) : riseView (faultSide s p d) = riseView s := by simp [faultSide]
@[simp] theorem riseView_faultUpdate (s : State) (p : Nat) : riseView (faultUpdate s p) = riseView s := by simp [faultUpdate]
@[simp] theorem riseView_outDown (s : State) (p : Nat) (d : Dir) (f : Frame) : riseView (outDown s p d f) = riseView s := by simp [outDown]
@[simp] theorem riseView_discardOut (s : State) (p : Nat) (d : Dir) : riseView (discardOut s p d) = riseView s := by simp [discardOut]
@[simp] theorem riseView_inputLost (s : State) (p : Nat) (sd : Side) : riseView (inputLost s p sd) = riseView s := by
  unfold inputLost
  split <;> simp
@[simp] theorem riseView_sideLeaves (s : State) (p : Nat) (sd : Side) : riseView (sideLeaves s p sd) = riseView s := by simp [sideLeaves]
@[simp] theorem riseView_linkTo (s : State) (p : Nat) (sd : Side) (st : Link) : riseView (linkTo s p sd st) = riseView s := by simp [linkTo]
@[simp] theorem riseView_purgeFrames (s : State) (q : Frame → Bool) : riseView (purgeFrames s q) = riseView s := by simp [purgeFrames]
@[simp] theorem riseView_purgeAll (s : State) : riseView (purgeAll s) = riseView s := by simp [purgeAll]
@[simp] theorem riseView_liPurge (s : State) : riseView (liPurge s) = riseView s := by simp [liPurge]
@[simp] theorem riseView_grComplete (s : State) (op slot code : Nat) : riseView (grComplete s op slot code) = riseView s := by simp [grComplete]
@[simp] theorem riseView_zeroiseStart (s : State) : riseView (zeroiseStart s) = riseView s := by
  unfold zeroiseStart
  split <;> simp
@[simp] theorem riseView_drbgReinst (s : State) : riseView (drbgReinst s) = riseView s := by simp [drbgReinst]
@[simp] theorem riseView_wipeHandles (s : State) : riseView (wipeHandles s) = riseView s := by
  simp [wipeHandles, riseView_ord]
@[simp] theorem riseView_setCopy (s : State) (k : Nat) (primary : Bool) (c : TagCopy) : riseView (setCopy s k primary c) = riseView s := by
  simp [setCopy]
@[simp] theorem riseView_logAt (s : State) (tsc kind monitor level count : Nat) (concurrent : Bool) (data : List Nat) :
    riseView (logAt s tsc kind monitor level count concurrent data) = riseView s := by
  simp [logAt]
@[simp] theorem riseView_logPut (s : State) (kind monitor level count : Nat) (concurrent : Bool) (data : List Nat) :
    riseView (logPut s kind monitor level count concurrent data) = riseView s := by
  simp [logPut]
@[simp] theorem riseView_failWrite (s : State) (off : Bool) : riseView (failWrite s off) = riseView s := by simp [failWrite]
@[simp] theorem riseView_lifeRecord (s : State) (phase src tgt token : Nat) (key : List Byte) : riseView (lifeRecord s phase src tgt token key) = riseView s := by
  simp [lifeRecord]
@[simp] theorem riseView_dbgClose (s : State) : riseView (dbgClose s) = riseView s := by
  unfold dbgClose
  split
  · rfl
  · refine (riseView_foldl (fun t h => ?_) _ _).trans (by simp)
    split <;> simp
@[simp] theorem riseView_sealPart (s : State) : riseView (sealPart s) = riseView s := by simp [sealPart]
@[simp] theorem riseView_purgePart (s : State) : riseView (purgePart s) = riseView s := by simp [purgePart]
@[simp] theorem riseView_lockdownPart (s : State) : riseView (lockdownPart s) = riseView s := by
  unfold lockdownPart
  split
  case isTrue h => simp [riseView, pwRise, h]
  · rfl
@[simp] theorem riseView_levelParts (s : State) (old new : Nat) : riseView (levelParts s old new) = riseView s := by simp [levelParts]
@[simp] theorem riseView_fnEv (s : State) (f code : Nat) (data : List Nat) : riseView (fnEv s f code data) = riseView s := by simp [fnEv]
@[simp] theorem riseView_setHst (s : State) (h : Nat) (x : HState) : riseView (setHst s h x) = riseView s := by simp [setHst]
@[simp] theorem riseView_liWeight (s : State) (f w : Nat) : riseView (liWeight s f w) = riseView s := by simp [liWeight]
@[simp] theorem riseView_setRng (s : State) (x : RngSt) : riseView (setRng s x) = riseView s := by simp [setRng]
@[simp] theorem riseView_drawn (s : State) (n : Nat) : riseView (drawn s n) = riseView s := by simp [drawn]
@[simp] theorem riseView_drewOctets (s : State) (n : Nat) : riseView (drewOctets s n) = riseView s := by simp [drewOctets]
@[simp] theorem riseView_stateChange (s : State) (h : Nat) (st : HState) : riseView (stateChange s h st) = riseView s := by simp [stateChange]
@[simp] theorem riseView_retire (s : State) (h : Nat) : riseView (retire s h) = riseView s := by simp [retire]
@[simp] theorem riseView_fnRefuse (s : State) (f : Nat) : riseView (fnRefuse s f) = riseView s := by simp [fnRefuse]
@[simp] theorem riseView_retireHart (s : State) (h : Nat) : riseView (retireHart s h) = riseView s := by simp [retireHart]
@[simp] theorem riseView_touchColour (s : State) (d : Nat) : riseView (touchColour s d) = riseView s := rfl
@[simp] theorem riseView_bindColour (s : State) (d : Nat) : riseView (bindColour s d) = riseView s := by
  unfold bindColour
  split
  · simp
  · dsimp only
    rw [riseView_touchColour]
    split
    · rfl
    · split <;> rfl
@[simp] theorem riseView_makeReady (s : State) (i : Nat) (w : Wait) : riseView (makeReady s i w) = riseView s :=
  (riseView_ord _ _ rfl).trans (riseView_modJob ..)
@[simp] theorem riseView_tagNote (s : State) (src cnt : Nat) (data : List Nat) : riseView (tagNote s src cnt data) = riseView s := by simp [tagNote]
@[simp] theorem riseView_ownHandle (s : State) (good : Bool) : riseView (ownHandle s good) = riseView s := by simp [ownHandle]
@[simp] theorem riseView_drawHandle (s : State) (good : Bool) : riseView (drawHandle s good) = riseView s := by simp [drawHandle]
@[simp] theorem riseView_tagCut (s : State) (done : Bool) : riseView (tagCut s done) = riseView s := by
  unfold tagCut
  split <;> simp
@[simp] theorem riseView_tagDrop (s : State) : riseView (tagDrop s) = riseView s := by simp [tagDrop]
@[simp] theorem riseView_tagOff (s : State) (done : Bool) : riseView (tagOff s done) = riseView s := by simp [tagOff]
@[simp] theorem riseView_setMt (s : State) (x : MtSt) : riseView (setMt s x) = riseView s := by simp [setMt]
@[simp] theorem riseView_boundaryStart (s : State) (b : Boundary) : riseView (boundaryStart s b) = riseView s := by simp [boundaryStart]
@[simp] theorem riseView_timerBoundary (s : State) : riseView (timerBoundary s) = riseView s := by simp [timerBoundary]
@[simp] theorem riseView_slotDefaults (s : State) (p m : Nat) : riseView (slotDefaults s p m) = riseView s := by simp [slotDefaults]
@[simp] theorem riseView_modeWrite (s : State) (b m : Nat) : riseView (modeWrite s b m) = riseView s := by simp [modeWrite]
@[simp] theorem riseView_slotSet (s : State) (p : Nat) (on : Bool) : riseView (slotSet s p on) = riseView s := by simp [slotSet]
@[simp] theorem riseView_slotEnWrite (s : State) (b mask : Nat) : riseView (slotEnWrite s b mask) = riseView s := by simp [slotEnWrite]
@[simp] theorem riseView_pcfgWrite (s : State) (p : Nat) (v : W32) : riseView (pcfgWrite s p v) = riseView s := by simp [pcfgWrite]
@[simp] theorem riseView_poolDrop (s : State) (p : Nat) (d : Dir) : riseView (poolDrop s p d) = riseView s := by simp [poolDrop]
@[simp] theorem riseView_admitted (s : State) (p : Nat) (d : Dir) : riseView (admitted s p d) = riseView s := by simp [admitted]
@[simp] theorem riseView_puntDrop (s : State) (p stg : Nat) : riseView (puntDrop s p stg) = riseView s := by simp [puntDrop]
@[simp] theorem riseView_setPunt (s : State) (stg : Nat) (l : List PuntFrame) : riseView (setPunt s stg l) = riseView s := by simp [setPunt]
@[simp] theorem riseView_setTiller (s : State) (t : Nat) (x : Tiller) : riseView (setTiller s t x) = riseView s := by simp [setTiller]
@[simp] theorem riseView_txanSet (s : State) (sc an : Nat) : riseView (txanSet s sc an) = riseView s := by simp [txanSet]
@[simp] theorem riseView_emStore (s : State) (b i : Nat) (l : List W32) : riseView (emStore s b i l) = riseView s := by simp [emStore]
@[simp] theorem riseView_ruleStore (s : State) (b i : Nat) (l : List W32) : riseView (ruleStore s b i l) = riseView s := by simp [ruleStore]
@[simp] theorem riseView_emRead (s : State) (b : Nat) : riseView (emRead s b) = riseView s := by simp [emRead]
@[simp] theorem riseView_emWrite (s : State) (b : Nat) : riseView (emWrite s b) = riseView s := by simp [emWrite]
@[simp] theorem riseView_ruleWrite (s : State) (b : Nat) : riseView (ruleWrite s b) = riseView s := by simp [ruleWrite]
@[simp] theorem riseView_injectDrop (s : State) (b : Nat) : riseView (injectDrop s b) = riseView s := by simp [injectDrop]
@[simp] theorem riseView_injectGo (s : State) (b slot len : Nat) : riseView (injectGo s b slot len) = riseView s := by simp [injectGo]
@[simp] theorem riseView_tillerTo (s : State) (t : Nat) (st : TState) (pos : Nat) : riseView (tillerTo s t st pos) = riseView s := by simp [tillerTo]
@[simp] theorem riseView_tillerQuarantine (s : State) (t : Nat) : riseView (tillerQuarantine s t) = riseView s := by simp [tillerQuarantine]
@[simp] theorem riseView_strike (s : State) (t : Nat) : riseView (strike s t) = riseView s := by simp [strike]
@[simp] theorem riseView_addSwap (s : State) (w : Swap) : riseView (addSwap s w) = riseView s := by simp [addSwap]
@[simp] theorem riseView_planSwap (s : State) (pos reserve : Nat) (retire rotation : Bool) : riseView (planSwap s pos reserve retire rotation) = riseView s := by
  simp [planSwap]
@[simp] theorem riseView_noteMm (s : State) (t slot blk seq : Nat) (tag ingress patrol : Bool) :
    riseView (noteMm s t slot blk seq tag ingress patrol) = riseView s := by
  simp [noteMm]
@[simp] theorem riseView_grZeroise (s : State) : riseView (grZeroise s) = riseView s := by simp [grZeroise]
@[simp] theorem riseView_setPunts (s : State) (d : Nat) (l : List PuntFrame) : riseView (setPunts s d l) = riseView s := rfl
@[simp] theorem riseView_puntQueue (s : State) (b : Nat) (f : PuntFrame) : riseView (puntQueue s b f) = riseView s := by
  unfold puntQueue
  dsimp only
  repeat' split
  all_goals simp
@[simp] theorem riseView_puntPop (s : State) (b : Nat) : riseView (puntPop s b) = riseView s := by
  unfold puntPop
  split <;> simp
@[simp] theorem riseView_setLc (s : State) (x : LcSt) : riseView (setLc s x) = riseView s := by simp [setLc]
@[simp] theorem riseView_epsPowered (s : State) : riseView (epsPowered s) = riseView s := by simp [epsPowered]
@[simp] theorem riseView_flashSettle (s : State) (powerUp : Bool) : riseView (flashSettle s powerUp) = riseView s := by
  unfold flashSettle
  dsimp only
  repeat' split
  all_goals simp
@[simp] theorem riseView_dmEvent (s : State) (c : Nat) : riseView (dmEvent s c) = riseView s := by simp [dmEvent]
@[simp] theorem riseView_dmRefuse (s : State) (c : Nat) : riseView (dmRefuse s c) = riseView s := by simp [dmRefuse]
@[simp] theorem riseView_portsOff (s : State) : riseView (portsOff s) = riseView s := by simp [portsOff]
@[simp] theorem riseView_putSandbox (s : State) (h entry : Nat) : riseView (putSandbox s h entry) = riseView s := by simp [putSandbox]
@[simp] theorem riseView_setMpus (s : State) : riseView (setMpus s) = riseView s := by simp [setMpus]
@[simp] theorem riseView_setLayout (s : State) : riseView (setLayout s) = riseView s := by simp [setLayout]
@[simp] theorem riseView_writeSeeds (s : State) : riseView (writeSeeds s) = riseView s := by
  unfold writeSeeds
  dsimp only
  split
  · rfl
  · exact (riseView_foldl (fun u i => by simp) _ _).trans (by simp)
@[simp] theorem riseView_startHarts (s : State) (entry : Nat) : riseView (startHarts s entry) = riseView s := by simp [startHarts]
@[simp] theorem riseView_readerWrites (s : State) : riseView (readerWrites s) = riseView s := by
  unfold readerWrites
  refine (riseView_foldl (fun t k => ?_) _ _).trans ((riseView_foldl (fun t k => ?_) _ _).trans ?_)
  · simp
  · simp
  · simp
@[simp] theorem riseView_storeWrite (s : State) (a : Nat) (d : RegDesc) (v : W32) : riseView (storeWrite s a d v) = riseView s := by simp [storeWrite]
@[simp] theorem riseView_regRefuse (s : State) (a : Nat) : riseView (regRefuse s a) = riseView s := by simp [regRefuse]
@[simp] theorem riseView_plainWrite (s : State) (a : Nat) (d : RegDesc) (v : W32) : riseView (plainWrite s a d v) = riseView s := by simp [plainWrite]
@[simp] theorem riseView_ctlWrite (s : State) (b : Nat) (v : W32) : riseView (ctlWrite s b v) = riseView s := by simp [ctlWrite]
@[simp] theorem riseView_pbWrite (s : State) (a : Nat) (d : RegDesc) (v : W32) : riseView (pbWrite s a d v) = riseView s := by simp [pbWrite]
@[simp] theorem riseView_seedWrite (s : State) (b : Nat) (d : RegDesc) (v : W32) : riseView (seedWrite s b d v) = riseView s := by simp [seedWrite]
@[simp] theorem riseView_injCmd (s : State) (b : Nat) (v : W32) : riseView (injCmd s b v) = riseView s := by simp [injCmd]
@[simp] theorem riseView_failFirst (s : State) (b mask : Nat) : riseView (failFirst s b mask) = riseView s := by simp [failFirst]

/-! ### Rises of the ladder -/

@[simp] theorem riseView_ladderTo (s : State) (target : Nat) : riseView (ladderTo s target) = riseView s := by
  unfold ladderTo
  dsimp only
  split
  · rfl
  · split <;> simp <;> rfl

@[simp] theorem riseView_alarmRaise (s : State) (level reason : Nat) : riseView (alarmRaise s level reason) = riseView s := by simp [alarmRaise]
@[simp] theorem riseView_alarmFree (s : State) (level : Nat) : riseView (alarmFree s level) = riseView s := by simp [alarmFree]
@[simp] theorem riseView_warn (s : State) : riseView (warn s) = riseView s := by simp [warn]

/-! ### Commands of the tillers, and the registers that the line's owners keep -/

@[simp] theorem riseView_tillerRetired (s : State) (t vec : Nat) : riseView (tillerRetired s t vec) = riseView s := by simp [tillerRetired]

@[simp] theorem riseView_forceSwap (s : State) (pos blame : Nat) : riseView (forceSwap s pos blame) = riseView s := by
  unfold forceSwap
  split <;> simp

@[simp] theorem riseView_fillEmpty (s : State) : riseView (fillEmpty s) = riseView s := by
  refine riseView_foldl (fun t pos => ?_) _ _
  split <;> simp

@[simp] theorem riseView_mismatchCount (s : State) (t : Nat) : riseView (mismatchCount s t) = riseView s := by simp [mismatchCount]

@[simp] theorem riseView_patrol (s : State) (t : Nat) (bad : Option Bool) : riseView (patrol s t bad) = riseView s := by
  unfold patrol
  dsimp only
  repeat' split
  all_goals simp

@[simp] theorem riseView_tillerCommand (s : State) (t : Nat) (retire : Bool) : riseView (tillerCommand s t retire) = riseView s := by
  unfold tillerCommand
  dsimp only
  repeat' split
  all_goals simp

@[simp] theorem riseView_applyRetirements (s : State) : riseView (applyRetirements s) = riseView s := by
  unfold applyRetirements
  rw [riseView_fields]
  split
  · refine riseView_foldl (fun u e => ?_) _ _
    split <;> simp
  · rfl

@[simp] theorem riseView_powered (s t : State) : riseView (outState (powered s t) s) = if runs s then riseView t else riseView s :=
  riseView_ite ..

@[simp] theorem riseView_stWrite (s : State) (a : Nat) (d : RegDesc) (v : W32) : riseView (stWrite s a d v) = riseView s := by
  unfold stWrite
  dsimp only
  repeat' split
  all_goals simp [execEmHash, execRuleRead]

end Sys2Proof.Proofs

end

section
/-! The monitors' filter, their firings and the raises of the ladder (R534 to R548). -/

namespace Sys2Proof.Proofs

open Sys2Proof Sys2Proof.Machine Sys2Proof.Safety

/-! ### A rise of the ladder (R540) -/

theorem level_of_invView {s t : State} (h : invView t = invView s) : t.level = s.level := congrArg (·.2.1) h

theorem latch_of_invView {s t : State} (h : invView t = invView s) : t.tm.latch = s.tm.latch := congrArg (·.2.2.1) h

theorem ladderTo_stays {s : State} {target : Nat} (h : Nat.min 5 target ≤ s.level) : ladderTo s target = s := if_pos h

/-- The ladder's level and the latch of LOCKDOWN as a rise sets them, before the parts of the rise. -/
def risen (s : State) (target : Nat) : State :=
  { s with level := Nat.min 5 target, tm := { s.tm with latch := s.tm.latch || decide (Nat.min 5 target = 5) } }

theorem invView_ladderTo {s : State} {target : Nat} (h : s.level < Nat.min 5 target) : invView (ladderTo s target) = invView (risen s target) := by
  unfold ladderTo
  rw [if_neg (not_le.mpr h)]
  dsimp only
  split <;> simp [risen]

theorem ladderTo_level (s : State) (target : Nat) : (ladderTo s target).level = Nat.max s.level (Nat.min 5 target) := by
  by_cases h : Nat.min 5 target ≤ s.level
  · rw [ladderTo_stays h]
    exact (Nat.max_eq_left h).symm
  · have hlt := not_le.mp h
    rw [level_of_invView (invView_ladderTo hlt)]
    exact (Nat.max_eq_right hlt.le).symm

theorem ladderTo_latch {s : State} (h : s.level < 5) : (ladderTo s 5).tm.latch = true :=
  (latch_of_invView (invView_ladderTo (target := 5) h)).trans (Bool.or_true _)

/-! ### What the filter keeps of the monitors -/

/-- The monitors' records: their filters, FIRED, and the firings that wait for a session. -/
def monView (s : State) : Tbl MonSt × Nat × List Firing := (s.tm.mons, s.tm.fired, s.tm.late)

theorem monView_of_riseView {s t : State} (h : riseView t = riseView s) : monView t = monView s :=
  congrArg (fun v : PwSt × UpdSt × Bool × Tbl MonSt × Nat × List Firing × List LogRec × List LogRec × Bool × Bool => (v.2.2.2.1, v.2.2.2.2.1, v.2.2.2.2.2.1)) h

@[simp] theorem monView_ladderTo (s : State) (target : Nat) : monView (ladderTo s target) = monView s := monView_of_riseView (by simp)

@[simp] theorem monView_lineFire (s : State) (m level : Nat) : monView (lineFire s m level) = monView s := by
  unfold lineFire
  split
  · exact monView_of_riseView (by simp)
  · rfl

theorem monView_fireRecord (s : State) (f : Firing) : monView (fireRecord s f) = (s.tm.mons, s.tm.fired ||| 2 ^ f.mon, s.tm.late) := by
  unfold fireRecord
  dsimp only
  split <;> split <;> simp [monView, logAt]

/-- A monitor's filter after an event: noted, or cleared by the firing. -/
def monAfter (s : State) (m dd : Nat) : MonSt :=
  { times := if willFire s m then [] else withEvent s m, count := if willFire s m then 0 else (monOf s m).count + 1,
    firstTsc := if (monOf s m).count = 0 then tscOf s else (monOf s m).firstTsc, asserted := true, last := s.now, lastResp := response s m dd }

/-- The firing that the N-th event within W ms makes. -/
def firingOf (s : State) (m dd : Nat) (concurrent : Bool) : Firing :=
  ⟨m, response s m dd, (monOf s m).count + 1, if (monOf s m).count = 0 then tscOf s else (monOf s m).firstTsc, tscOf s, concurrent⟩

/-- The event noted in the filter, before the firing's own work. -/
def monNoted (s : State) (m : Nat) (data : List Nat) (dd : Nat) : State :=
  let t := cinc (setMon s m (monAfter s m dd)) 0x30020208
  if (monOf s m).count = 0 && runs t then raise t (monSrc m) data else t

theorem monView_monNoted (s : State) (m : Nat) (data : List Nat) (dd : Nat) :
    monView (monNoted s m data dd) = (tput (fun _ => {}) s.tm.mons m (monAfter s m dd), s.tm.fired, s.tm.late) := by
  unfold monNoted
  dsimp only
  split
  · exact monView_of_riseView (riseView_raise ..)
  · rfl

theorem monitorNote_eq (s : State) (m : Nat) (data : List Nat) (dd : Nat) (c : Bool) : monitorNote s m data dd c =
    if !willFire s m then monNoted s m data dd
    else if lateMon s m then { monNoted s m data dd with tm := { (monNoted s m data dd).tm with late := (monNoted s m data dd).tm.late ++ [firingOf s m dd c] } }
    else fireRecord (monNoted s m data dd) (firingOf s m dd c) := by
  have hl : lateMon (monNoted s m data dd) m = lateMon s m := by
    unfold monNoted
    dsimp only
    split <;> simp [lateMon]
  rw [← hl]
  rfl

theorem monView_monitorNote (s : State) (m : Nat) (data : List Nat) (dd : Nat) (c : Bool) : monView (monitorNote s m data dd c) =
    (tput (fun _ => {}) s.tm.mons m (monAfter s m dd), if willFire s m ∧ ¬lateMon s m then s.tm.fired ||| 2 ^ m else s.tm.fired,
      if willFire s m ∧ lateMon s m then s.tm.late ++ [firingOf s m dd c] else s.tm.late) := by
  rw [monitorNote_eq]
  have h := monView_monNoted s m data dd
  simp only [monView, Prod.mk.injEq] at h
  obtain ⟨hm, hf, hl⟩ := h
  cases hw : willFire s m
  · simp [monView_monNoted]
  · cases ht : lateMon s m
    · simp [monView_fireRecord, hm, hf, hl, firingOf]
    · simp [monView, hm, hf, hl]

/-! ### One monitor's event (R535 to R538) -/

theorem monitorEvents_quiet {s : State} {m : Nat} (hr : monitorRuns s m = true) (hw : willFire s m = false) (data : List Nat) (dd : Nat) :
    monitorEvents s [m] data dd = monitorNote s m data dd false := by
  simp [monitorEvents, hr, hw, ladderTo_zero]

theorem monitorEvents_exercise {s : State} {m : Nat} (hr : monitorRuns s m = true) (he : exercising s = true) (data : List Nat) (dd : Nat) :
    monitorEvents s [m] data dd = monitorNote s m data dd false := by
  cases hw : willFire s m <;> cases hl : lateMon s m <;> simp [monitorEvents, hr, he, hw, hl]

theorem monitorEvents_fires {s : State} {m : Nat} (hr : monitorRuns s m = true) (hw : willFire s m = true) (he : exercising s = false) (data : List Nat)
    (dd : Nat) : monitorEvents s [m] data dd =
      ladderTo (lineFire (monitorNote s m data dd false) m (response s m dd)) (if lateMon s m then 0 else response s m dd) := by
  cases hl : lateMon s m <;> simp [monitorEvents, hr, hw, he, hl]

theorem monOf_of_monView {s t : State} {m : Nat} {x : MonSt} {f : Nat} {l : List Firing} (h : monView t = (tput (fun _ => {}) s.tm.mons m x, f, l)) :
    monOf t m = x ∧ t.tm.fired = f ∧ t.tm.late = l := by
  simp only [monView, Prod.mk.injEq] at h
  obtain ⟨hm, hf, hl⟩ := h
  exact ⟨by rw [monOf, hm, tget_tput], hf, hl⟩

/-- What one event leaves of its monitor and of FIRED and the firings that wait, whether it fires or not. -/
theorem monitorEvents_monView {s : State} {m : Nat} (hr : monitorRuns s m = true) (data : List Nat) (dd : Nat) :
    monView (monitorEvents s [m] data dd) = monView (monitorNote s m data dd false) := by
  cases hw : willFire s m
  · rw [monitorEvents_quiet hr hw]
  · cases he : exercising s
    · rw [monitorEvents_fires hr hw he, monView_ladderTo, monView_lineFire]
    · rw [monitorEvents_exercise hr he]

theorem monitorEvents_monOf {s : State} {m : Nat} (hr : monitorRuns s m = true) (data : List Nat) (dd : Nat) :
    monOf (monitorEvents s [m] data dd) m = monAfter s m dd ∧
      (monitorEvents s [m] data dd).tm.fired = (if willFire s m ∧ ¬lateMon s m then s.tm.fired ||| 2 ^ m else s.tm.fired) ∧
      (monitorEvents s [m] data dd).tm.late = (if willFire s m ∧ lateMon s m then s.tm.late ++ [firingOf s m dd false] else s.tm.late) :=
  monOf_of_monView ((monitorEvents_monView hr data dd).trans (monView_monitorNote ..))

theorem monitorEvents_level {s : State} {m : Nat} (hr : monitorRuns s m = true) (data : List Nat) (dd : Nat) : (monitorEvents s [m] data dd).level =
    if willFire s m ∧ ¬lateMon s m ∧ ¬exercising s then Nat.max s.level (Nat.min 5 (response s m dd)) else s.level := by
  have hn : (monitorNote s m data dd false).level = s.level := level_of_invView (by simp)
  cases hw : willFire s m
  · rw [monitorEvents_quiet hr hw, hn]
    simp
  · cases he : exercising s
    · have hf : (lineFire (monitorNote s m data dd false) m (response s m dd)).level = s.level := level_of_invView (by simp)
      rw [monitorEvents_fires hr hw he]
      cases hl : lateMon s m
      · simp [ladderTo_level, hf]
      · simp [ladderTo_zero, hf]
    · rw [monitorEvents_exercise hr he, hn]
      simp

/-! ### Trips, samples and shadows -/

theorem trip_selects : ∀ m : Fin 19, bitAt (2 ^ m.val) 21 = false ∧
    (bitsSet 22 (2 ^ m.val)).filter (fun k => k != 19 && k != 20 && (k != 21 || false)) = [m.val] := by decide

theorem monitorTrip_one (s : State) (m : Fin 19) : monitorTrip s (2 ^ m.val) = monitorEvents s [m.val] [] 1 := by
  obtain ⟨h21, hs⟩ := trip_selects m
  unfold monitorTrip
  simp only [h21, Bool.false_and, Bool.false_eq_true, if_false, hs]

/-- The pulse comparison's own level is monitor 21's alone. -/
theorem response_of_ne {m : Nat} (h : m ≠ 21) (s : State) (d e : Nat) : response s m d = response s m e := by
  unfold response
  rw [if_neg h, if_neg h]

theorem sample_selects : ∀ m : Fin 19, 2 ^ m.val < 256 → bitsSet 8 (2 ^ m.val) = [m.val] := by decide

/-- The filter of a monitor that an event does not fire. -/
theorem monAfter_quiet {s : State} {m : Nat} (h : willFire s m = false) (dd : Nat) : monAfter s m dd =
    { monOf s m with times := withEvent s m, count := (monOf s m).count + 1, firstTsc := if (monOf s m).count = 0 then tscOf s else (monOf s m).firstTsc,
                     asserted := true, last := s.now, lastResp := response s m dd } := by
  simp [monAfter, h]

/-- Each clause by the one event that its command brings (R534 to R539, R547). -/
theorem monitorFilters : Claims.MonitorFilters := by
  intro s m ms bad n a
  have hne : m.val ≠ 21 := by omega
  have hresp := response_of_ne hne s 1 0
  have trips (hm : ms.val = 2 ^ m.val) : monitorTrip s ms = monitorEvents s [m.val] [] 1 := by rw [hm, monitorTrip_one]
  dsimp only
  refine ⟨fun hm _ hr hw => ⟨_, exec_ok rfl (trips hm), ?quiet⟩, fun hm _ hr hw hl he => ⟨_, exec_ok rfl (trips hm), ?fires⟩,
    fun hm _ hr hw hl he => ⟨_, exec_ok rfl (trips hm), ?exercises⟩, fun hm _ hr hw hl => ⟨_, exec_ok rfl (trips hm), ?waits⟩,
    fun hb hr hw => ⟨_, exec_ok rfl rfl, ?sample⟩, ⟨_, exec_ok rfl rfl, tget_tput .., rfl⟩, exec_ok rfl rfl,
    fun hr hs hm hw => ⟨_, exec_ok rfl (if_pos (by simp [hr, hs])), ?shadow⟩⟩
  case sample =>
    have hlist : bitsSet 8 bad = [m.val] := by rw [hb, sample_selects m (hb ▸ bad.isLt)]
    rw [hlist]
    obtain ⟨hx, -, -⟩ := monitorEvents_monOf hr [] 0
    exact ⟨hx.trans (monAfter_quiet hw 0), by simp [monitorEvents_level hr, hw]⟩
  case shadow =>
    obtain ⟨hx, -, -⟩ := monitorEvents_monOf (s := cinc s 0x30020210) (m := 20) hm [a.toNat] 0
    have hq := monAfter_quiet (s := cinc s 0x30020210) (m := 20) hw 0
    have hlevel := monitorEvents_level (s := cinc s 0x30020210) (m := 20) hm [a.toNat] 0
    rw [if_neg (fun h => ne_true_of_eq_false hw h.1)] at hlevel
    unfold monitorEvent
    rw [hx, hq]
    exact ⟨rfl, rfl, hlevel⟩
  all_goals
    obtain ⟨hx, hf, ht⟩ := monitorEvents_monOf hr [] 1
    have hlevel := monitorEvents_level hr [] 1
    rw [hresp] at hlevel
  case quiet => exact ⟨by rw [hx, monAfter_quiet hw, hresp], by simp [hlevel, hw], by simp [hf, hw]⟩
  case fires =>
    exact ⟨by simp [hlevel, hw, hl, he], by simp [hx, monAfter, hw], by rw [hx]; rfl, by simp [hf, hw, hl]⟩
  case exercises => exact ⟨by simp [hlevel, hw, hl, he], by simp [hx, monAfter, hw], by simp [hf, hw, hl]⟩
  case waits => exact ⟨by simp [hlevel, hl], by simp [hf, hl], by simp [ht, hw, hl, firingOf]⟩

/-! ### Raises (R540, R544, R648) -/

/-- The raise recorded, from THROTTLE on, before the ladder moves. -/
def raiseNoted (s : State) (level reason : Nat) : State :=
  let t := raise s 3782 [level, reason]
  if 2 ≤ level then logPut t 7 0xFF level 0 false [reason] else t

theorem raiseNoted_level (s : State) (level reason : Nat) : (raiseNoted s level reason).level = s.level := by
  unfold raiseNoted
  dsimp only
  split <;> exact level_of_invView (by simp)

theorem raiseNoted_logPend (s : State) (level reason : Nat) : (raiseNoted s level reason).tm.logPend =
    if 2 ≤ level then (logPut s 7 0xFF level 0 false [reason]).tm.logPend else s.tm.logPend := by
  unfold raiseNoted
  dsimp only
  split <;> simp [logPut, logAt, tscOf, exercising]

theorem alarmRaise_eq (s : State) (level reason : Nat) : alarmRaise s level reason = ladderTo (raiseNoted s level reason) level := rfl

theorem vbatLow_noted {s : State} (hr : runs s = true) (hv : s.pw.vbatOk = true) (hl : s.pw.vbatLow = false) :
    (if !s.pw.vbatOk || s.pw.vbatLow then s
     else let t := setPw s { s.pw with vbatLow := true }; if runs s then raise t 153 [] else t) = raise (setPw s { s.pw with vbatLow := true }) 153 [] := by
  simp [hr, hv, hl]

theorem alarmRaises : Claims.AlarmRaises := by
  intro s level reason hr
  have raises (h5 : level.val ≤ 5) : (if !runs s then s else if 6 ≤ level.val then refuse s 0x30020008 else alarmRaise s level reason) =
      ladderTo (raiseNoted s level reason) level := by
    rw [hr, if_neg (by simp), if_neg (by omega), alarmRaise_eq]
  refine ⟨fun h5 => ⟨_, exec_ok rfl (raises h5), ?rises, fun hl h => ?latches⟩, fun h5 hle => ⟨_, exec_ok rfl (raises h5), ?logs⟩,
    fun h6 => exec_ok rfl (by rw [hr, if_neg (by simp), if_pos h6]), fun hv hl => ⟨_, exec_ok rfl (vbatLow_noted hr hv hl), ?warns⟩⟩
  case rises =>
    rw [ladderTo_level, raiseNoted_level]
    exact congrArg (Nat.max s.level) (Nat.min_eq_right h5)
  case latches =>
    rw [h]
    exact ladderTo_latch (by rwa [raiseNoted_level])
  case logs =>
    rw [ladderTo_stays (by rw [raiseNoted_level]; exact (Nat.min_le_right ..).trans hle)]
    exact raiseNoted_logPend s level reason
  case warns => simp

/-- Settles O38, by `monitorFilters` and `alarmRaises`. -/
theorem monitorsAndAlarms : Obligations.MonitorsAndAlarms := ⟨monitorFilters, alarmRaises⟩

end Sys2Proof.Proofs

end

section
/-! The start from the wipe to SERVICE or LOCKDOWN (R508, R514, R517, R526, R527, R570, R644). -/

namespace Sys2Proof.Proofs

open Sys2Proof Sys2Proof.Machine Sys2Proof.Safety

/-! ### The power state through work that keeps it -/

theorem upd_of_riseView {s t : State} (h : riseView t = riseView s) : t.upd = s.upd := congrArg (·.2.1) h

theorem pwRise_of_ne {x : PwSt} (h : x.mode ≠ .lockdown) : pwRise x = x := by
  unfold pwRise
  rw [if_neg h]

theorem pwRise_inj {x y : PwSt} (h : pwRise y = pwRise x) (hs : x.mode ≠ .service) (hl : x.mode ≠ .lockdown) : y = x := by
  rw [pwRise_of_ne hl] at h
  have hy : y.mode ≠ .lockdown := fun hm => by
    have : (pwRise y).mode = .service := if_pos hm
    exact hs (by rw [← h, this])
  rw [← pwRise_of_ne hy, h]

/-- Outside SERVICE and LOCKDOWN a rise of the ladder leaves the power state. -/
theorem pw_of_riseView {s t : State} (h : riseView t = riseView s) (hs : s.pw.mode ≠ .service) (hl : s.pw.mode ≠ .lockdown) : t.pw = s.pw :=
  pwRise_inj (congrArg (·.1) h) hs hl

theorem pw_starting {s t : State} (h : riseView t = riseView s) (hm : s.pw.mode = .starting) : t.pw = s.pw :=
  pw_of_riseView h (by simp [hm]) (by simp [hm])

/-! ### Steps (R514) -/

theorem startStep_upd (s : State) (n : Nat) : (startStep s n).upd = s.upd := by
  unfold startStep
  dsimp only
  split_ifs <;> simp

theorem startStep_mode {s : State} (hm : s.pw.mode = .starting) (n : Nat) : (startStep s n).pw.mode = .starting := by
  rw [startStep_pw hm]
  exact hm

theorem startStep_step {s : State} (hm : s.pw.mode = .starting) (n : Nat) : (startStep s n).pw.step = Nat.max s.pw.step n := by rw [startStep_pw hm]

@[simp] theorem repairRow_pw (s : State) (e : Nat × Nat × Nat) : (repairRow s e).pw = s.pw := by
  unfold repairRow useSram useLine
  dsimp only
  split_ifs <;> simp

/-- The wipe done, with its rows repaired. -/
def wipeDone (s : State) (fails : List (Nat × Nat × Nat)) : State := fails.foldl repairRow (setPw s { s.pw with wiped := true })

theorem wipeDone_pw (s : State) (fails : List (Nat × Nat × Nat)) : (wipeDone s fails).pw = { s.pw with wiped := true } :=
  foldl_keeps (v := State.pw) repairRow_pw fails _

theorem wipeComplete_steps {s : State} (hm : s.pw.mode = .starting) (h2 : s.pw.step = 2) (hw : s.pw.wiped = false) (fails : List (Nat × Nat × Nat)) :
    (wipeComplete s fails).pw.step = 4 ∧ (wipeComplete s fails).pw.wiped = true ∧ (wipeComplete s fails).pw.mode = .starting := by
  have hp := wipeDone_pw s fails
  have h3 : (wipeDone s fails).pw.mode = .starting := by rw [hp]; exact hm
  have h4 : wipeComplete s fails = startStep (startStep (wipeDone s fails) 3) 4 := if_neg (by simp [hm, h2, hw])
  rw [h4, startStep_pw (startStep_mode h3 3), startStep_pw h3, hp]
  exact ⟨by rw [h2]; rfl, rfl, hm⟩

/-! ### The life-cycle state decoded (R514 step 6, R570) -/

@[simp] theorem riseView_rngRefused (s : State) : riseView (rngRefused s) = riseView s := by simp [rngRefused]

@[simp] theorem riseView_ddRefill (s : State) : riseView (ddRefill s) = riseView s := by
  unfold ddRefill rngRequest
  split_ifs <;> simp

@[simp] theorem riseView_ddTake (s : State) : riseView (ddTake s) = riseView s := by
  unfold ddTake
  split <;> simp

theorem lcScan_of_lc {s t : State} (h : t.lc = s.lc) : ∀ (l : List Nat) (st : Nat), lcScan t l st = lcScan s l st
  | [], _ => rfl
  | r :: l, st => by
    have hr : otpRec t r = otpRec s r := otpRec_of_recs (congrArg LcSt.recs h) r
    simp only [lcScan, hr, lcScan_of_lc h l]

theorem decodeReady_starting {s : State} (h : decodeReady s = true) : s.pw.mode = .starting := by
  simp only [decodeReady, Bool.and_eq_true, beq_iff_eq] at h
  exact h.1.1.1.1.1

/-- The state decoded from its records, before what its entry brings. -/
def stateKnown (s : State) (st : Nat) : State := raise (setLc (ddTake s) { (ddTake s).lc with state := st }) 160 [st, 0xFF]

theorem lcDecode_state {s : State} {st : Nat} (h : decodeReady s = true) (hs : lcScan s (List.range 8) 0 = .state st none) :
    lcDecode s 0 = lcEnter (stateKnown s st) := by
  unfold lcDecode
  rw [if_neg (by simp [h])]
  dsimp only
  rw [if_pos rfl, if_neg (by decide), lcScan_of_lc (ddTake_lc s), hs]
  rfl

/-- The decode of a state other than SCRAP completes step 6. -/
theorem lcEnter_steps {s : State} (h5 : s.lc.state ≠ 5) (hm : s.pw.mode = .starting) :
    (lcEnter s).pw.decoded = true ∧ (lcEnter s).pw.step = Nat.max s.pw.step 6 := by
  have hb (t : State) : (tagBoot t).pw = t.pw := pw_of_callView (callView_tagBoot t)
  unfold lcEnter
  dsimp only
  rw [if_neg h5, startStep_pw (by rw [hb]; exact hm), hb]
  exact ⟨rfl, rfl⟩

theorem lcDecode_steps {s : State} {st : Nat} (h : decodeReady s = true) (hs : lcScan s (List.range 8) 0 = .state st none) (h5 : st ≠ 5) :
    (lcDecode s 0).lc.state = st ∧ (lcDecode s 0).lc.pending = none ∧ (lcDecode s 0).pw.decoded = true ∧
      (lcDecode s 0).pw.step = Nat.max s.pw.step 6 := by
  have hm := decodeReady_starting h
  have hlc : (stateKnown s st).lc.state = st := by simp [stateKnown]
  have hpw : (stateKnown s st).pw = s.pw := pw_starting (by simp [stateKnown]) hm
  obtain ⟨hd, h6⟩ := lcEnter_steps (by rw [hlc]; exact h5) (by rw [hpw]; exact hm)
  rw [lcDecode_state h hs, lcEnter_lc (by rw [hlc]; exact h5)]
  exact ⟨hlc, rfl, hd, by rw [h6, hpw]⟩

/-! ### The PUF root (R514 step 7, R517, R518) -/

theorem pufReady_starts {s : State} (h : pufReady s = true) : s.pw.mode = .starting ∧ s.pw.step = 6 := by
  simp only [pufReady, Bool.and_eq_true, beq_iff_eq] at h
  obtain ⟨⟨⟨⟨⟨hm, -⟩, h6⟩, -⟩, -⟩, -⟩ := h
  exact ⟨hm, h6⟩

theorem rootFound_steps {s : State} (hm : s.pw.mode = .starting) (h6 : s.pw.step = 6) (g : Nat) (other repeated : Bool) (worst : Nat) :
    (rootFound s g other repeated worst).pw.rootOk = true ∧ (rootFound s g other repeated worst).pw.gen = g ∧
      (rootFound s g other repeated worst).pw.step = 7 ∧ (rootFound s g other repeated worst).pw.worst = worst ∧
      (rootFound s g other repeated worst).pw.repeated = repeated := by
  unfold rootFound
  extract_lets unknown ov t p u
  have ht : t.pw = s.pw := by
    unfold t
    split <;> rfl
  have hu (c : Prop) [Decidable c] : (if c then raise u 147 [] else u).pw = 
      { s.pw with rootOk := true, gen := g, otherValid := ov, repeated := repeated, worst := worst } := by
    rw [← ht]
    split <;> simp [u, p]
  rw [startStep_pw (by rw [hu]; exact hm), hu]
  exact ⟨rfl, rfl, by simp only [h6]; rfl, rfl, rfl⟩

theorem pufRegen_some {s : State} {g : Nat} (h : pufReady s = true) (hg : genMay s g = true) (other repeated : Bool) (worst : Nat) :
    pufRegen s (some g) other repeated worst = rootFound s g other repeated worst := by
  unfold pufRegen
  rw [if_neg (by simp [h])]
  exact if_pos hg

theorem pufRegen_none {s : State} (h : pufReady s = true) (h1 : s.lc.state ≠ 1) (h4 : s.lc.state ≠ 4) (other repeated : Bool) (worst : Nat) :
    pufRegen s none other repeated worst = raise (setPw s { s.pw with pufFail := true, repeated := true }) 149 [] := by
  unfold pufRegen
  rw [if_neg (by simp [h])]
  exact if_neg (by simp [h1, h4])

/-! ### A slot accepted (R514 steps 10 to 12) -/

theorem makeMetKey_keeps (s : State) : (makeMetKey s).pw = s.pw ∧ (makeMetKey s).upd = s.upd := by
  have hv := storeView_jStore (drewOctets s 32) (1024 + 933) 7 (Config.keyWrap Config.rootKek (Config.meteringKey s.lc.ownAlg))
  unfold makeMetKey
  split
  · exact ⟨rfl, rfl⟩
  · exact ⟨by rw [setLc_pw, pw_of_storeView hv]; simp [drewOctets, drawn], by rw [setLc_upd, upd_of_storeView hv]; simp [drewOctets, drawn]⟩

@[simp] theorem riseView_tagCount (s : State) (c : Nat) : riseView (tagCount s c) = riseView s := riseView_of_callView (by simp)

/-- The steward's settling leaves the slot and completes step 12, a DORMANT request that waits aside. -/
theorem stewardSettles_steps {s : State} (hm : s.pw.mode = .starting) (entry : Nat) : (stewardSettles s entry).pw.step = Nat.max s.pw.step 12 ∧
    (stewardSettles s entry).upd.slot = s.upd.slot ∧ (stewardSettles s entry).pw.mode = .starting := by
  unfold stewardSettles
  extract_lets j mt counted retired harts weighed sealed seeded opened keyed upd told stepped pw
  have hj : counted.pw = s.pw ∧ counted.upd = s.upd := by
    unfold counted
    rw [setMt_pw, setMt_upd]
    exact ⟨pw_of_storeView (storeView_jSettle s), upd_of_storeView (storeView_jSettle s)⟩
  have hlaid : riseView (tagCount opened 0) = riseView counted := by simp [opened, seeded, sealed, weighed, harts, retired, liWeight]
  have hcount : (tagCount opened 0).pw = s.pw := (pw_starting hlaid (by rw [hj.1]; exact hm)).trans hj.1
  obtain ⟨hkey, hkeyUpd⟩ := makeMetKey_keeps (tagCount opened 0)
  have hread : riseView keyed = riseView (makeMetKey (tagCount opened 0)) := riseView_readerWrites _
  have hkeyed : keyed.pw = s.pw := (pw_starting hread (by rw [hkey, hcount]; exact hm)).trans (hkey.trans hcount)
  have hupd : keyed.upd = s.upd := (upd_of_riseView hread).trans (hkeyUpd.trans ((upd_of_riseView hlaid).trans hj.2))
  clear_value keyed
  have htold : told.pw = s.pw ∧ told.upd.slot = s.upd.slot := by
    unfold told
    split
    · rw [raise_pw, raise_upd, setUpd_pw, hkeyed]
      exact ⟨rfl, by rw [setUpd_upd, ← hupd]⟩
    · exact ⟨hkeyed, congrArg UpdSt.slot hupd⟩
  clear_value told
  have hmode : told.pw.mode = .starting := by rw [htold.1]; exact hm
  have hstep : stepped.pw.step = Nat.max s.pw.step 12 := by rw [← htold.1]; exact startStep_step hmode 12
  have hslot : stepped.upd.slot = s.upd.slot := by rw [← htold.2]; exact congrArg UpdSt.slot (startStep_upd told 12)
  split
  · exact ⟨hstep, hslot, startStep_mode hmode 12⟩
  · exact ⟨hstep, hslot, startStep_mode hmode 12⟩

theorem acceptReady_starts {s : State} (h : acceptReady s = true) : s.pw.mode = .starting ∧ s.pw.step < 10 := by
  simp only [acceptReady, Bool.and_eq_true, beq_iff_eq, decide_eq_true_eq] at h
  obtain ⟨⟨⟨⟨⟨⟨⟨⟨hm, -⟩, h10⟩, -⟩, -⟩, -⟩, -⟩, -⟩, -⟩ := h
  exact ⟨hm, h10⟩

theorem enterSteward_keeps (s : State) (e : Nat) : (enterSteward s e).pw = s.pw ∧ (enterSteward s e).upd = s.upd := by simp [enterSteward]

/-- The steward's entry, settled at step 12. -/
theorem entered_settles {s : State} (hm : s.pw.mode = .starting) (h10 : s.pw.step < 10) (e : Nat) :
    let t := stewardSettles (enterSteward (startStep (startStep s 10) 11) e) e
    t.pw.step = 12 ∧ t.upd.slot = s.upd.slot ∧ t.pw.mode = .starting := by
  have h1 := startStep_mode hm 10
  obtain ⟨hstep, hslot, hmode⟩ := stewardSettles_steps (s := enterSteward (startStep (startStep s 10) 11) e) (startStep_mode h1 11) e
  obtain ⟨hp, hu⟩ := enterSteward_keeps (startStep (startStep s 10) 11) e
  rw [hp, startStep_step h1, startStep_step hm] at hstep
  rw [hu, startStep_upd, startStep_upd] at hslot
  refine ⟨hstep.trans (Nat.max_eq_right (Nat.max_le.mpr ⟨Nat.max_le.mpr ⟨?_, ?_⟩, ?_⟩)), hslot, hmode⟩ <;> omega

theorem acceptSlot_steps {s : State} (hm : s.pw.mode = .starting) (h10 : s.pw.step < 10) (b : Nat) :
    (acceptSlot s b).pw.step = 12 ∧ (acceptSlot s b).upd.slot = b ∧ (acceptSlot s b).pw.mode = .starting := by
  unfold acceptSlot
  extract_lets told upd chosen e entered
  have htold : told.pw = s.pw := by
    unfold told
    split <;> simp
  have hchosen : chosen.pw = s.pw ∧ chosen.upd.slot = b := by
    unfold chosen
    rw [setUpd_pw, setUpd_upd, enableRegion, rset_pw, htold]
    exact ⟨rfl, rfl⟩
  have hentered : entered.pw = s.pw ∧ entered.upd.slot = b := by
    unfold entered
    split
    · rwa [freed_pw, freed_upd]
    · exact hchosen
  clear_value entered e
  rw [← hentered.1] at hm h10
  have h := entered_settles hm h10 e
  rwa [hentered.2] at h

@[simp] theorem ddTake_fl (s : State) : (ddTake s).fl = s.fl := by
  unfold ddTake ddRefill rngRequest rngRefused
  split_ifs <;> simp

theorem slotGood_of_flash {s t : State} (hf : t.fl = s.fl) (hl : t.lc = s.lc) (b : Nat) : slotGood t b = slotGood s b := by
  have hnat (o n : Nat) : slotNat t b o n = slotNat s b o n := by simp only [slotNat, slotByte, hf]
  have hoct (o n : Nat) : slotOctets t b o n = slotOctets s b o n := by simp only [slotOctets, hf]
  unfold slotGood imageGood hasMarker imageSeq
  dsimp only
  rw [hnat, hnat, hoct, hoct, hoct, hf, hl]

theorem slotChosen_of_flash {s t : State} (hf : t.fl = s.fl) (hl : t.lc = s.lc) (said : Option Nat) : slotChosen t said = slotChosen s said := by
  have hseq (b : Nat) : imageSeq t b = imageSeq s b := by simp only [imageSeq, slotNat, slotByte, hf]
  have hblank (b : Nat) : slotBlank t b = slotBlank s b := by simp only [slotBlank, hf]
  simp only [slotChosen, slotGood_of_flash hf hl, hseq, hblank]

theorem stewardAccept_chosen {s : State} {said : Option Nat} {b : Nat} (h : acceptReady s = true) (hb : slotChosen s said = some b) :
    stewardAccept s said 0 = acceptSlot (ddTake s) b := by
  unfold stewardAccept
  rw [if_neg (by simp [h])]
  dsimp only
  rw [slotChosen_of_flash (ddTake_fl s) (ddTake_lc s), hb]
  rfl

theorem stewardAccept_steps {s : State} {said : Option Nat} {b : Nat} (h : acceptReady s = true) (hb : slotChosen s said = some b) :
    (stewardAccept s said 0).pw.step = 12 ∧ (stewardAccept s said 0).upd.slot = b ∧ (stewardAccept s said 0).pw.mode = .starting := by
  obtain ⟨hm, h10⟩ := acceptReady_starts h
  have hp : (ddTake s).pw = s.pw := pw_starting (riseView_ddTake s) hm
  rw [stewardAccept_chosen h hb]
  exact acceptSlot_steps (by rw [hp]; exact hm) (by rw [hp]; exact h10) b

/-! ### The lanes calibrated (R514 steps 13 and 14) -/

/-- What a write of an owner's register does, the power state is not in it. -/
theorem riseView_ownerWrite {a : Nat} (ho : ownerReg a = true) (s : State) (h : Nat) (v : W32) : riseView ((regWrite s h a v).getD s) = riseView s := by
  simp only [ownerReg, Bool.or_eq_true, decide_eq_true_eq, beq_iff_eq] at ho
  have hline (hw : inWindow a = true) (d : RegDesc) (w : W32) (hk : riseView (lineWrite s a d w) = riseView s) :
      riseView ((if inWindow a then
        (if s.culm.session ∨ (grA + 0x100 ≤ a ∧ a < grA + 0x160 ∧ 3 ≤ s.level) then
           some (let t := lineWrite s a d w; if w = v then t else regRefuse t a) else none)
        else some (let t := ctlDieWrite s h a d w; if w = v then t else regRefuse t a)).getD s) = riseView s := by
    rw [if_pos hw]
    split
    · simp [hk]
    · rfl
  unfold regWrite
  split
  · rfl
  next d _ =>
    dsimp only
    rcases ho with ((ho | ho) | ho) | ho
    · refine hline (by simp only [inWindow, decide_eq_true_eq]; omega) d _ ?_
      rw [lineWrite, if_neg (by omega), if_pos ho.2]
      simp
    · refine hline (by simp only [inWindow, decide_eq_true_eq]; omega) d _ ?_
      rw [lineWrite, if_neg (by omega), if_neg (by omega), if_neg (by omega), if_neg (by omega), if_pos ho.2]
      simp
    · subst ho
      simp [inWindow, ctlDieWrite, tmWrite]
    · subst ho
      simp [inWindow, ctlDieWrite, tmWrite]

theorem riseView_stewardWrite (s : State) (h : Nat) (e : Nat × W32) (ho : ownerReg e.1 = true) : riseView (stewardWrite s h e) = riseView s := by
  unfold stewardWrite
  rw [riseView_ownerWrite ho]
  split <;> simp

/-- The owner's line configuration written, in OWNED. -/
def lineConfigured (s : State) (cfg : List (Nat × W32)) : State :=
  if s.lc.state = 3 then (cfg.filter (fun e => ownerReg e.1)).foldl (fun t e => stewardWrite t (stewardHart t) e) s else s

theorem riseView_lineConfigured (s : State) (cfg : List (Nat × W32)) : riseView (lineConfigured s cfg) = riseView s := by
  unfold lineConfigured
  split
  · rw [List.foldl_filter]
    refine riseView_foldl (fun t e => ?_) cfg s
    split
    next ho => exact riseView_stewardWrite t _ e ho
    · rfl
  · rfl

theorem serdesComplete_runs {s : State} (hm : s.pw.mode = .starting) (h12 : s.pw.step = 12) (hd : s.pw.dormantStep = 0)
    (hc : s.culm.session = true ∨ s.pw.pufFail = true) (cfg : List (Nat × W32)) :
    serdesComplete s cfg = startStep (lineConfigured (startStep s 13) cfg) 14 := by
  unfold serdesComplete
  rw [if_neg (by rcases hc with hc | hc <;> simp [hm, h12, hd, hc])]
  rfl

@[simp] theorem startStep_regs (s : State) (n : Nat) : (startStep s n).regs = s.regs := by
  unfold startStep
  dsimp only
  split_ifs <;> simp

theorem startStep_sram (s : State) (n : Nat) : (startStep s n).sram = s.sram := congrArg (·.1) (invView_startStep s n)

theorem serdesComplete_steps {s : State} (hm : s.pw.mode = .starting) (h12 : s.pw.step = 12) (hd : s.pw.dormantStep = 0)
    (hc : s.culm.session = true ∨ s.pw.pufFail = true) (cfg : List (Nat × W32)) :
    (serdesComplete s cfg).pw.step = 14 ∧ (s.lc.state ≠ 3 → (serdesComplete s cfg).sram = s.sram ∧ (serdesComplete s cfg).regs = s.regs) := by
  have hp : (lineConfigured (startStep s 13) cfg).pw = (startStep s 13).pw := pw_starting (riseView_lineConfigured ..) (startStep_mode hm 13)
  rw [serdesComplete_runs hm h12 hd hc]
  refine ⟨?_, fun h3 => ?_⟩
  · rw [startStep_step (by rw [hp]; exact startStep_mode hm 13), hp, startStep_step hm, h12]
    rfl
  · have hn : lineConfigured (startStep s 13) cfg = startStep s 13 := if_neg (by rwa [startStep_lc])
    rw [hn, startStep_sram, startStep_sram, startStep_regs, startStep_regs]
    exact ⟨rfl, rfl⟩

/-! ### SERVICE entered, or LOCKDOWN (R514 step 15, R526) -/

theorem rsets_keeps (s : State) (a : Nat) (l : List W32) : (rsets s a l).pw = s.pw ∧ (rsets s a l).mt = s.mt :=
  ⟨pw_of_callView (callView_rsets ..), mt_of_callView (callView_rsets ..)⟩

theorem csGo_keeps {s : State} (hp : s.cs.plan ≠ []) : (csGo s).pw = s.pw ∧ (csGo s).mt = s.mt := by
  obtain ⟨c, r, hp⟩ := List.exists_cons_of_ne_nil hp
  by_cases hw : (s.cs.cmd.isSome || s.cs.dat0) = true
  · have h : csGo s = s := if_pos hw
    rw [h]
    exact ⟨rfl, rfl⟩
  · simp only [Bool.not_eq_true, Bool.or_eq_false_iff, Option.isSome_eq_false_iff, Option.isNone_iff_eq_none] at hw
    rw [csGo_issues hw.1 hw.2 hp]
    unfold sdIssue
    cases c <;> simp [rsets_keeps]

/-- The card initialised as SERVICE is entered leaves the power state and the minutes. -/
theorem cardInit_keeps (s : State) (slow boot : Bool) : (csGo (cardInit s slow boot)).pw = s.pw ∧ (csGo (cardInit s slow boot)).mt = s.mt :=
  csGo_keeps (s := cardInit s slow boot) (by simp [cardInit, goInit_cs])

theorem serviceReady_starts {s : State} (h : serviceReady s = true) : s.pw.mode = .starting ∧ s.pw.step = 14 := by
  simp only [serviceReady, Bool.and_eq_true, beq_iff_eq] at h
  obtain ⟨⟨⟨hm, h14⟩, -⟩, -⟩ := h
  exact ⟨hm, h14⟩

@[simp] theorem startStep_tm (s : State) (n : Nat) : (startStep s n).tm = s.tm := by
  unfold startStep
  dsimp only
  split_ifs <;> simp

@[simp] theorem startStep_mt (s : State) (n : Nat) : (startStep s n).mt = s.mt := by
  unfold startStep
  dsimp only
  split_ifs <;> simp

/-- The mode that the end of a start enters. -/
def modeEntered (s : State) : Mode := if s.tm.latch || s.pw.pufFail then .lockdown else .service

/-- SERVICE or LOCKDOWN entered, with its event, before the tag's records and the card. -/
def entryTold (s : State) : State :=
  if s.tm.latch || s.pw.pufFail then raise (setPw s { s.pw with mode := .lockdown }) 145 [if s.tm.latch then 0 else 1]
  else raise (setPw s { s.pw with mode := .service }) 144 [(s.now - s.pw.startAt) / 1000]

theorem entryTold_keeps (s : State) : (entryTold s).pw = { s.pw with mode := modeEntered s } ∧ (entryTold s).mt = s.mt := by
  unfold entryTold modeEntered
  split <;> simp

/-- The tag's records written again and its summary made as the start ends. -/
def tagRefreshed (s : State) : State := tagSummary (tagRefresh s (s.mt.minute.getD 0) (s.lc.state == 3)) 1 false

theorem tagRefreshed_keeps (s : State) : (tagRefreshed s).pw = s.pw ∧ (tagRefreshed s).mt = s.mt :=
  have h : callView (tagRefreshed s) = callView s := by simp [tagRefreshed]
  ⟨pw_of_callView h, mt_of_callView h⟩

theorem serviceEntry_eq {s : State} (h : serviceReady s = true) : serviceEntry s =
    (let t := startStep (openFirst s) 15
     let u := tagRefreshed (entryTold t)
     if !(t.tm.latch || t.pw.pufFail) && u.cs.cd then csGo (cardInit u false false) else u) := if_neg (by simp [h])

theorem serviceEntry_steps {s : State} (h : serviceReady s = true) :
    (serviceEntry s).pw.mode = modeEntered s ∧ (serviceEntry s).pw.step = 15 ∧ (serviceEntry s).mt = (openFirst s).mt := by
  obtain ⟨hm, h14⟩ := serviceReady_starts h
  have ho : (openFirst s).pw = s.pw := rfl
  have hs := startStep_pw (s := openFirst s) hm 15
  obtain ⟨he, hemt⟩ := entryTold_keeps (startStep (openFirst s) 15)
  obtain ⟨ht, htmt⟩ := tagRefreshed_keeps (entryTold (startStep (openFirst s) 15))
  have hmode : modeEntered (startStep (openFirst s) 15) = modeEntered s := by
    unfold modeEntered
    rw [startStep_tm, hs]
    rfl
  have hu : (tagRefreshed (entryTold (startStep (openFirst s) 15))).pw.mode = modeEntered s ∧
      (tagRefreshed (entryTold (startStep (openFirst s) 15))).pw.step = 15 ∧
      (tagRefreshed (entryTold (startStep (openFirst s) 15))).mt = (openFirst s).mt := by
    rw [ht, he, htmt, hemt, startStep_mt, hmode]
    refine ⟨rfl, ?_, rfl⟩
    dsimp only
    rw [startStep_step (s := openFirst s) hm, ho, h14]
    rfl
  rw [serviceEntry_eq h]
  dsimp only
  split
  · obtain ⟨hc, hcmt⟩ := cardInit_keeps (tagRefreshed (entryTold (startStep (openFirst s) 15))) false false
    rw [hc, hcmt]
    exact hu
  · exact hu

/-! ### The obligation -/

/-- Settles O44, a lemma for each step of the start. -/
theorem startSequence : Obligations.StartSequence := by
  intro s fails st g other repeated worst said b cfg
  refine ⟨fun hm h2 hw => ⟨_, exec_ok rfl rfl, wipeComplete_steps hm h2 hw fails⟩, fun hr hs h5 => ⟨_, exec_ok rfl rfl, lcDecode_steps hr hs h5⟩,
    fun hr hg => ⟨_, exec_ok rfl (pufRegen_some hr hg other repeated worst), ?root⟩, fun hr h1 h4 => ⟨_, exec_ok rfl (pufRegen_none hr h1 h4 other repeated worst), by simp⟩,
    fun hr hb => ⟨_, exec_ok rfl rfl, stewardAccept_steps hr hb⟩, fun hm h12 hd hc => ⟨_, exec_ok rfl rfl, ?lanes⟩,
    fun hr hl hp => ⟨_, exec_ok rfl rfl, ?service⟩, fun hr hl => ⟨_, exec_ok rfl rfl, ?lockdown⟩⟩
  case root =>
    obtain ⟨hm, h6⟩ := pufReady_starts hr
    exact rootFound_steps hm h6 g other repeated worst
  case lanes =>
    obtain ⟨h14, hkept⟩ := serdesComplete_steps hm h12 hd hc cfg
    exact ⟨h14, fun h3 => ⟨(hkept h3).1, fun _ => (hkept h3).2⟩⟩
  case service =>
    obtain ⟨hmode, h15, hmt⟩ := serviceEntry_steps hr
    exact ⟨hmode.trans (if_neg (by simp [hl, hp])), h15, by rw [hmt]; rfl⟩
  case lockdown =>
    obtain ⟨hmode, h15, -⟩ := serviceEntry_steps hr
    exact ⟨hmode.trans (if_pos (by simpa using hl)), h15⟩

end Sys2Proof.Proofs

end

section
/-! Power, resets, wakes and DORMANT (R502 to R508, R521, R522, R533). -/

namespace Sys2Proof.Proofs

open Sys2Proof Sys2Proof.Machine Sys2Proof.Safety

/-! ### What the restore's own event leaves of the start (R533, R535) -/

/-- The power state and the tamper log, which no monitor's event touches. -/
def startView (s : State) : PwSt × List LogRec × List LogRec × Bool := (pwRise s.pw, s.tm.first, s.tm.ring, s.tm.backupLost)

theorem startView_of_riseView {s t : State} (h : riseView t = riseView s) : startView t = startView s :=
  congrArg (fun v : PwSt × UpdSt × Bool × Tbl MonSt × Nat × List Firing × List LogRec × List LogRec × Bool × Bool =>
    (v.1, v.2.2.2.2.2.2.1, v.2.2.2.2.2.2.2.1, v.2.2.2.2.2.2.2.2.2)) h

@[simp] theorem startView_ladderTo (s : State) (target : Nat) : startView (ladderTo s target) = startView s := startView_of_riseView (by simp)

@[simp] theorem startView_lineFire (s : State) (m level : Nat) : startView (lineFire s m level) = startView s := by
  unfold lineFire
  split
  · exact startView_of_riseView (by simp)
  · rfl

@[simp] theorem startView_monNoted (s : State) (m : Nat) (data : List Nat) (dd : Nat) : startView (monNoted s m data dd) = startView s := by
  unfold monNoted
  dsimp only
  split
  · exact (startView_of_riseView (riseView_raise _ (monSrc m) data)).trans rfl
  · rfl

@[simp] theorem startView_fireRecord (s : State) (f : Firing) : startView (fireRecord s f) = startView s := by
  unfold fireRecord
  dsimp only
  split <;> split <;> simp [startView, logAt]

@[simp] theorem startView_monitorNote (s : State) (m : Nat) (data : List Nat) (dd : Nat) (c : Bool) : startView (monitorNote s m data dd c) = startView s := by
  rw [monitorNote_eq]
  split
  · simp
  · split
    · exact startView_monNoted s m data dd
    · simp

theorem monitorEvents_stopped {s : State} {m : Nat} (hr : monitorRuns s m = false) (data : List Nat) (dd : Nat) : monitorEvents s [m] data dd = s := by
  simp [monitorEvents, hr, ladderTo_zero]

theorem ladderTo_sram (s : State) (target : Nat) : (ladderTo s target).sram = s.sram := by
  by_cases h : Nat.min 5 target ≤ s.level
  · rw [ladderTo_stays h]
  · exact congrArg (·.1) (invView_ladderTo (not_le.mp h))

/-- One monitor's event leaves the start's view and the memory. -/
theorem monitorEvent_keeps (s : State) (m : Nat) (data : List Nat) : startView (monitorEvent s m data) = startView s ∧ (monitorEvent s m data).sram = s.sram := by
  have hn : (monitorNote s m data 0 false).sram = s.sram := congrArg (·.1) (invView_monitorNote s m data 0 false)
  unfold monitorEvent
  cases hr : monitorRuns s m
  · rw [monitorEvents_stopped hr]
    exact ⟨rfl, rfl⟩
  · cases hw : willFire s m
    · rw [monitorEvents_quiet hr hw]
      exact ⟨startView_monitorNote .., hn⟩
    · cases he : exercising s
      · rw [monitorEvents_fires hr hw he, ladderTo_sram]
        exact ⟨by simp, (congrArg (·.1) (invView_lineFire ..)).trans hn⟩
      · rw [monitorEvents_exercise hr he]
        exact ⟨startView_monitorNote .., hn⟩

/-! ### The start with its cause (R505, R507, R508, R533) -/

/-- What a start with a cause leaves: `Claims.PowerAndResets` says it of each way to begin one. -/
def Started (s : State) (cause : Nat) (t : State) : Prop :=
  t.pw.mode = .starting ∧ t.pw.step = 1 ∧ t.pw.cause = cause ∧ t.pw.mainGood = true ∧ t.sram = [] ∧
    (s.tm.sigOk = true → t.level = s.level ∧ t.tm.first = s.tm.first ∧ t.tm.ring = s.tm.ring) ∧ (s.tm.sigOk = false → t.tm.backupLost = true)

theorem started_of_views {s t u : State} {cause : Nat} (h : Started s cause t) (hr : riseView u = riseView t) (hi : invView u = invView t) :
    Started s cause u := by
  have hv := startView_of_riseView hr
  obtain ⟨hm, hstep, hcause, hmain, hsram, hkept, hlost⟩ := h
  have hp := pw_starting hr hm
  simp only [startView, Prod.mk.injEq] at hv
  obtain ⟨-, hfirst, hring, hloss⟩ := hv
  refine ⟨by rw [hp, hm], by rw [hp, hstep], by rw [hp, hcause], by rw [hp, hmain], (congrArg (·.1) hi).trans hsram, fun hs => ?_, fun hs => ?_⟩
  · rw [level_of_invView hi, hfirst, hring]
    exact hkept hs
  · rw [hloss]
    exact hlost hs

/-- Both dies cold in a start with its cause, before the backup domain and the flash are looked at. -/
def coldStart (s : State) (cause : Nat) : State :=
  let s := coldState (dbgClose s) .starting
  let s := if cause = 2 ∨ cause = 3 then s else epsPowered s
  setPw s { s.pw with cause := cause, startAt := s.now, step := 1, lockLatch := s.tm.latch, mainGood := true, dormantWait := s.pw.holdLow, pllLost := false, commitFail := false }

theorem newStart_eq (s : State) (cause : Nat) : newStart s cause =
    flashSettle (if (coldStart s cause).tm.sigOk then coldStart s cause else backupRestore (coldStart s cause)) (cause != 2 && cause != 3) := rfl

/-- The dies of a cold start, whatever its cause. -/
theorem coldStart_cold (s : State) (cause : Nat) : (coldStart s cause).tm = keptTm (dbgClose s) ∧ (coldStart s cause).level = (dbgClose s).level ∧
    (coldStart s cause).sram = [] := by
  unfold coldStart
  dsimp only
  split <;> exact ⟨rfl, rfl, rfl⟩

theorem coldStart_pw (s : State) (cause : Nat) : (coldStart s cause).pw.mode = .starting ∧ (coldStart s cause).pw.step = 1 ∧
    (coldStart s cause).pw.cause = cause ∧ (coldStart s cause).pw.mainGood = true := by
  unfold coldStart
  dsimp only
  split <;> exact ⟨rfl, rfl, rfl, rfl⟩

theorem logPut_keeps (s : State) (kind monitor level count : Nat) (concurrent : Bool) (data : List Nat) :
    (logPut s kind monitor level count concurrent data).pw = s.pw ∧
      (logPut s kind monitor level count concurrent data).tm.backupLost = s.tm.backupLost ∧
      (logPut s kind monitor level count concurrent data).sram = s.sram := ⟨rfl, rfl, rfl⟩

/-- The restore keeps the start and reports the loss. -/
theorem backupRestore_keeps {s : State} (hm : s.pw.mode = .starting) : (backupRestore s).pw = { s.pw with lostFound := true } ∧
    (backupRestore s).tm.backupLost = true ∧ (backupRestore s).sram = s.sram := by
  unfold backupRestore
  extract_lets recs low high lvl top want t rng kept pw lost told
  have ht : t.pw = s.pw ∧ t.sram = s.sram := by
    unfold t
    split <;> exact ⟨rfl, rfl⟩
  clear_value t lvl want
  have hl : lost.pw = { t.pw with lostFound := true } ∧ lost.tm.backupLost = true ∧ lost.sram = t.sram := by
    unfold lost
    rw [(logPut_keeps ..).1, (logPut_keeps ..).2.1, (logPut_keeps ..).2.2]
    exact ⟨rfl, rfl, rfl⟩
  clear_value lost
  obtain ⟨hpw, hloss, hsram⟩ := hl
  obtain ⟨hv, hmem⟩ := monitorEvent_keeps (raise (raise lost 3780 []) 3781 []) 19 []
  have hlost : startView (monitorEvent (raise (raise lost 3780 []) 3781 []) 19 []) = startView lost := hv.trans (startView_of_riseView (by simp))
  simp only [startView, Prod.mk.injEq] at hlost
  obtain ⟨hrise, -, -, hb⟩ := hlost
  have hmode : lost.pw.mode = .starting := by rw [hpw, ht.1]; exact hm
  refine ⟨?_, hb.trans hloss, ?_⟩
  · rw [pwRise_inj hrise (by simp [hmode]) (by simp [hmode]), hpw, ht.1]
  · rw [hmem, raise_sram, raise_sram, hsram, ht.2]

theorem tamper_of_riseView {s t : State} (h : riseView t = riseView s) : t.tm.sigOk = s.tm.sigOk ∧ t.tm.first = s.tm.first ∧ t.tm.ring = s.tm.ring := by
  simp only [riseView, Prod.mk.injEq] at h
  obtain ⟨-, -, -, -, -, -, hfirst, hring, hsig, -⟩ := h
  exact ⟨hsig, hfirst, hring⟩

/-- Every start keeps the level and the log with the backup domain, and tells its loss. -/
theorem newStart_started (s : State) (cause : Nat) : Started s cause (newStart s cause) := by
  obtain ⟨htm, hlevel, hsram⟩ := coldStart_cold s cause
  obtain ⟨hm, hstep, hcause, hmain⟩ := coldStart_pw s cause
  obtain ⟨hsig, hfirst, hring⟩ := tamper_of_riseView (riseView_dbgClose s)
  have hdbg : (dbgClose s).level = s.level := level_of_invView (invView_dbgClose s)
  have hok : (coldStart s cause).tm.sigOk = s.tm.sigOk := by rw [htm]; exact hsig
  rw [newStart_eq, hok]
  refine started_of_views ?_ (riseView_flashSettle ..) (invView_flashSettle ..)
  cases hs : s.tm.sigOk
  · obtain ⟨hpw, hloss, hmem⟩ := backupRestore_keeps hm
    rw [if_neg (by decide)]
    exact ⟨by rw [hpw]; exact hm, by rw [hpw]; exact hstep, by rw [hpw]; exact hcause, by rw [hpw]; exact hmain, hmem.trans hsram,
      fun h => absurd (hs.symm.trans h) (by decide), fun _ => hloss⟩
  · rw [if_pos rfl]
    exact ⟨hm, hstep, hcause, hmain, hsram, fun _ => ⟨hlevel.trans hdbg, by rw [htm]; exact hfirst, by rw [htm]; exact hring⟩,
      fun h => absurd (hs.symm.trans h) (by decide)⟩

/-- A start of the device as HOLD_N rises differs in that input alone. -/
theorem started_holdHigh {s t : State} {cause : Nat} (h : Started (setPw s { s.pw with holdLow := false }) cause t) : Started s cause t := h

/-! ### Power good and the cell (R502, R505, R533, R649) -/

/-- A handle drawn for the tag, or none. -/
theorem powerGoodRise_eq {s : State} (hg : s.pw.mainGood = false) (own : Bool) : powerGoodRise s own =
    (let t := if s.pw.holdLow then setPw s { s.pw with mainGood := true, mode := .dormant }
       else newStart s (if s.tm.sigOk && decide (s.now < s.pw.lastMain + 1000000) then 1 else 0)
     if !s.tag.field then drawHandle t own else t) := if_neg (by simp [hg])

theorem powerGoodRise_starts {s : State} (hg : s.pw.mainGood = false) (hh : s.pw.holdLow = false) (own : Bool) :
    Started s (if s.tm.sigOk = true ∧ s.now < s.pw.lastMain + 1000000 then 1 else 0) (powerGoodRise s own) := by
  have hcause : (if s.tm.sigOk && decide (s.now < s.pw.lastMain + 1000000) then 1 else 0) =
      if s.tm.sigOk = true ∧ s.now < s.pw.lastMain + 1000000 then 1 else 0 := by simp
  rw [powerGoodRise_eq hg, hh, hcause, if_neg Bool.false_ne_true]
  generalize (if s.tm.sigOk = true ∧ s.now < s.pw.lastMain + 1000000 then 1 else 0) = cause
  dsimp only
  split
  · exact started_of_views (newStart_started s _) (riseView_drawHandle ..) (invView_drawHandle ..)
  · exact newStart_started s _

theorem powerGoodRise_held {s : State} (hg : s.pw.mainGood = false) (hh : s.pw.holdLow = true) (own : Bool) :
    (powerGoodRise s own).pw = { s.pw with mainGood := true, mode := .dormant } ∧ (powerGoodRise s own).level = s.level := by
  rw [powerGoodRise_eq hg, hh, if_pos rfl]
  dsimp only
  split
  · exact ⟨pw_of_riseView (riseView_drawHandle (setPw s { s.pw with mainGood := true, mode := .dormant }) own) (by simp) (by simp),
      level_of_invView (invView_drawHandle (setPw s { s.pw with mainGood := true, mode := .dormant }) own)⟩
  · exact ⟨rfl, rfl⟩

/-- The tag's supply lost with main power where no field holds it. -/
def tagUnpowered (s : State) (done : Bool) : State := if s.tag.field then s else tagOff s done

theorem tagUnpowered_keeps (s : State) (done : Bool) : riseView (tagUnpowered s done) = riseView s ∧ invView (tagUnpowered s done) = invView s := by
  unfold tagUnpowered
  split
  · exact ⟨rfl, rfl⟩
  · simp

/-- Main power gone: the dies cold, in BACKUP or without power. -/
def mainLost (s : State) (done : Bool) : State := coldState (tagUnpowered s done) (if s.pw.vbatOk then .backup else .off)

theorem powerGoodFall_eq {s : State} (hg : s.pw.mainGood = true) (done : Bool) : powerGoodFall s done =
    { mainLost s done with
      pw := { (mainLost s done).pw with mainGood := false, lastMain := s.now, pllLost := false, commitFail := false },
      tm := { (mainLost s done).tm with sigOk := (mainLost s done).tm.sigOk && s.pw.vbatOk } } := if_neg (by simp [hg])

theorem powerGoodFall_cuts {s : State} (hg : s.pw.mainGood = true) (done : Bool) :
    (powerGoodFall s done).pw.mode = (if s.pw.vbatOk then .backup else .off) ∧ (powerGoodFall s done).pw.mainGood = false ∧
      (powerGoodFall s done).tm.sigOk = (s.tm.sigOk && s.pw.vbatOk) ∧ (powerGoodFall s done).sram = [] ∧ (powerGoodFall s done).level = s.level := by
  obtain ⟨hr, hi⟩ := tagUnpowered_keeps s done
  obtain ⟨hsig, -, -⟩ := tamper_of_riseView hr
  have hl := level_of_invView hi
  have hs : (mainLost s done).tm.sigOk = (tagUnpowered s done).tm.sigOk := rfl
  rw [powerGoodFall_eq hg]
  dsimp only
  rw [hs, hsig]
  exact ⟨rfl, rfl, rfl, rfl, hl⟩

/-- Each clause by the start that its command begins, or by the pins that it leaves (R502, R505 to R508, R533, R649). -/
theorem powerAndResets : Claims.PowerAndResets := by
  intro s own done v data
  refine ⟨fun hg hh => ⟨_, exec_ok rfl rfl, ?held⟩, fun hg hh => ⟨_, exec_ok rfl rfl, powerGoodRise_starts hg hh own⟩,
    fun hg => ⟨_, exec_ok rfl rfl, powerGoodFall_cuts hg done⟩, fun hm => ⟨_, exec_ok rfl (if_pos hm), newStart_started s 2⟩,
    fun hr => ⟨_, exec_ok rfl (if_pos hr), newStart_started s 3⟩, fun hm => ⟨_, exec_ok rfl (if_pos hm), started_holdHigh (newStart_started _ 4)⟩,
    fun hm => ⟨_, exec_ok rfl (if_neg hm), rfl, rfl⟩, fun hd hm => ⟨_, exec_ok rfl (if_pos ⟨Fin.ext hd, hm⟩), newStart_started s 4⟩,
    fun hg => ⟨_, exec_ok rfl (if_pos hg), rfl, rfl⟩, fun hg => ⟨_, exec_ok rfl ((if_neg (ne_true_of_eq_false hg)).trans (if_pos rfl)), rfl, rfl⟩,
    fun hg => ⟨_, exec_ok rfl ((if_neg (ne_true_of_eq_false hg)).trans (if_neg (by decide))), rfl, rfl⟩⟩
  case held =>
    obtain ⟨hp, hl⟩ := powerGoodRise_held hg hh own
    exact ⟨by rw [hp], by rw [hp], hl⟩

/-! ### DORMANT (R504, R521, R522) -/

@[simp] theorem callView_withdrawQueued (s : State) : callView (withdrawQueued s) = callView s := by
  unfold withdrawQueued
  refine (callView_foldl (fun u j => callView_endJob u j 11 0 []) _ _).trans ?_
  exact callView_foldl (fun t f => (callView_foldl (fun u r => callView_completeRaw u f r 11) _ _).trans (callView_modFn ..)) _ _

theorem dormancy_of_riseView {s t : State} (h : riseView t = riseView s) :
    t.ord.paused = s.ord.paused ∧ t.pw.dormantStep = s.pw.dormantStep ∧ t.pw.holdLow = s.pw.holdLow := by
  simp only [riseView, Prod.mk.injEq] at h
  obtain ⟨hp, -, hpaused, -⟩ := h
  have hstep := congrArg PwSt.dormantStep hp
  have hhold := congrArg PwSt.holdLow hp
  exact ⟨hpaused, hstep, hhold⟩

/-- Steps 3 and 4 go on or wait: the orders stay paused and the sequence stays at 1 or 4. -/
theorem dormantGo_begins {s : State} (hp : s.ord.paused = true) (h1 : s.pw.dormantStep = 1) :
    (dormantGo s).ord.paused = true ∧ ((dormantGo s).pw.dormantStep = 1 ∨ (dormantGo s).pw.dormantStep = 4) ∧ (dormantGo s).pw.holdLow = s.pw.holdLow := by
  have go {t : State} (h : riseView t = riseView (setPw s { s.pw with dormantStep := 4 })) :
      t.ord.paused = true ∧ (t.pw.dormantStep = 1 ∨ t.pw.dormantStep = 4) ∧ t.pw.holdLow = s.pw.holdLow := by
    obtain ⟨hpaused, hstep, hhold⟩ := dormancy_of_riseView h
    exact ⟨hpaused.trans hp, .inr hstep, hhold⟩
  unfold dormantGo
  split
  · exact ⟨hp, .inl h1, rfl⟩
  · dsimp only
    split
    · exact go (by simp)
    · split <;> exact go (by simp)

/-- The sequence begun: step 1, the orders paused, source 154 and the waiting orders withdrawn. -/
def dormantBegun (s : State) (who : Nat) : State :=
  withdrawQueued (raise { csAbandon s with pw := { s.pw with dormantStep := 1 }, ord := { s.ord with paused := true } } 154 [who])

theorem dormantBegun_pauses (s : State) (who : Nat) :
    (dormantBegun s who).ord.paused = true ∧ (dormantBegun s who).pw.dormantStep = 1 ∧ (dormantBegun s who).pw.holdLow = s.pw.holdLow := by
  have h : callView (dormantBegun s who) = callView { csAbandon s with pw := { s.pw with dormantStep := 1 }, ord := { s.ord with paused := true } } := by
    simp [dormantBegun]
  have hstep := congrArg PwSt.dormantStep (pw_of_callView h)
  have hhold := congrArg PwSt.holdLow (pw_of_callView h)
  exact ⟨paused_of_callView h, hstep, hhold⟩

theorem dormantRequest_begins {s : State} (hr : runs s = true) (hm : s.pw.mode ≠ .starting) (h0 : s.pw.dormantStep = 0) (who : Nat) :
    (dormantRequest s who).ord.paused = true ∧ ((dormantRequest s who).pw.dormantStep = 1 ∨ (dormantRequest s who).pw.dormantStep = 4) ∧
      (dormantRequest s who).pw.holdLow = s.pw.holdLow := by
  have he : dormantRequest s who = dormantGo (dormantBegun s who) := (if_neg hm).trans (if_neg (by simp [hr, h0]))
  obtain ⟨hp, h1, hh⟩ := dormantBegun_pauses s who
  rw [he, ← hh]
  exact dormantGo_begins hp h1

/-- During a start the request waits for step 12. -/
theorem dormantRequest_waits {s : State} (hm : s.pw.mode = .starting) (h12 : s.pw.step < 12) (who : Nat) :
    dormantRequest s who = setPw s { s.pw with dormantWait := true } := (if_pos hm).trans (if_neg (by omega))

theorem dormantEntry_enters {s : State} (hr : runs s = true) (h5 : s.pw.dormantStep = 5) : dormantEntry s = dormantFrom5 (tagSummary s 3 true) true := by
  have hg : dormantGo s = s := if_pos (.inl (by rw [h5]; decide))
  unfold dormantEntry
  rw [hg]
  exact (if_neg (by simp [hr])).trans (if_pos (.inl h5))

theorem dormantRequests : Claims.DormantRequests := by
  intro s data
  have hold (hr : runs s = true) (hm : s.pw.mode ≠ .starting) (h0 : s.pw.dormantStep = 0) :=
    dormantRequest_begins (s := setPw s { s.pw with holdLow := true }) hr hm h0 0
  refine ⟨fun hm h12 => ⟨⟨_, exec_ok rfl (dormantRequest_waits hm h12 2), rfl, hm⟩,
      ⟨_, exec_ok rfl (dormantRequest_waits (s := setPw s { s.pw with holdLow := true }) hm h12 0), ⟨rfl, hm⟩, rfl⟩,
      fun hd hb => ⟨_, exec_ok rfl ((if_pos ⟨Fin.ext hd, hb⟩).trans (dormantRequest_waits hm h12 1)), rfl, hm⟩⟩,
    fun hr hm h0 => ⟨⟨_, exec_ok rfl rfl, ?steward⟩, ⟨_, exec_ok rfl rfl, ?pin⟩, fun hd hb => ⟨_, exec_ok rfl (if_pos ⟨Fin.ext hd, hb⟩), ?smbus⟩⟩,
    fun h => ⟨_, exec_ok rfl (if_pos h), rfl, rfl⟩, fun hr h5 => ⟨_, exec_ok rfl (dormantEntry_enters hr h5), rfl, rfl, rfl⟩⟩
  case pin =>
    obtain ⟨hp, hs, hh⟩ := hold hr hm h0
    exact ⟨⟨hp, hs⟩, hh⟩
  case steward =>
    obtain ⟨hp, hs, -⟩ := dormantRequest_begins hr hm h0 2
    exact ⟨hp, hs⟩
  case smbus =>
    obtain ⟨hp, hs, -⟩ := dormantRequest_begins hr hm h0 1
    exact ⟨hp, hs⟩

/-- Settles O43, by `powerAndResets` and `dormantRequests`. -/
theorem powerAndDormant : Obligations.PowerAndDormant := ⟨powerAndResets, dormantRequests⟩

end Sys2Proof.Proofs

end
